-- ==== Sys2Proof/Word.lean ====
section
/-!
DEFINITION. The word types of the module: a byte, the 16-, 32- and 64-bit words, a byte string.
-/

namespace Sys2Proof

/-- One byte. -/
abbrev Byte := BitVec 8
/-- A 16-bit word (a DSP half word). -/
abbrev W16 := BitVec 16
/-- A control-space register (R7) and a DSP data word. -/
abbrev W32 := BitVec 32
/-- A 64-bit counter (R120) or the media timebase (R26). -/
abbrev W64 := BitVec 64
/-- A string of bytes, first byte first. -/
abbrev Bytes := List Byte

end Sys2Proof
end

