-- ==== Sys2Proof/Machine/Map.lean ====
section
/-!
DEFINITION. Sparse tables: a list of (key, value) pairs in one canonical form, keys strictly rising. A table with a
value for unlisted keys keeps no entry equal to that value, so that equal tables are equal data.
-/

namespace Sys2Proof.Machine

/-- A sparse table by number, keys strictly rising. -/
abbrev NMap (α : Type) := List (Nat × α)

/-- The entry of a key, none where the table lists none. -/
def nget {α : Type} : NMap α → Nat → Option α
  | [], _ => none
  | (a, v) :: r, k => if a = k then some v else nget r k

/-- Write an entry, keeping the keys in rising order. -/
def nput {α : Type} : NMap α → Nat → α → NMap α
  | [], k, v => [(k, v)]
  | (a, w) :: r, k, v =>
    if k < a then (k, v) :: (a, w) :: r
    else if k = a then (k, v) :: r
    else (a, w) :: nput r k v

/-- Remove an entry. -/
def ndel {α : Type} : NMap α → Nat → NMap α
  | [], _ => []
  | (a, w) :: r, k => if a = k then ndel r k else (a, w) :: ndel r k

/-- Read a key of a table whose unlisted keys read `d`. -/
def ngetD {α : Type} (d : α) (m : NMap α) (k : Nat) : α := (nget m k).getD d

/-- Write a key of a table whose unlisted keys read `d`: writing `d` removes the entry. -/
def nputD {α : Type} [DecidableEq α] (d : α) (m : NMap α) (k : Nat) (v : α) : NMap α :=
  if v = d then ndel m k else nput m k v

/-- Write an entry, or remove it. -/
def nset {α : Type} (m : NMap α) (k : Nat) : Option α → NMap α
  | some v => nput m k v
  | none => ndel m k

/-- Change the entry of a key where there is one. -/
def nmodify {α : Type} (m : NMap α) (k : Nat) (f : α → α) : NMap α :=
  match nget m k with
  | some v => nput m k (f v)
  | none => m

/-- Change every entry of a table. -/
def nmapV {α β : Type} (f : Nat → α → β) (m : NMap α) : NMap β := m.map fun (k, v) => (k, f k v)

/-- The keys of a table. -/
def nkeys {α : Type} (m : NMap α) : List Nat := m.map (·.1)

/-- Is the key listed. -/
def nhas {α : Type} (m : NMap α) (k : Nat) : Bool := (nget m k).isSome

/-- The canonical form: keys strictly rising from a bound on. -/
def nsortedFrom {α : Type} : Nat → NMap α → Bool
  | _, [] => true
  | b, (a, _) :: r => decide (b ≤ a) && nsortedFrom (a + 1) r

/-- The canonical form: keys strictly rising. -/
def nsorted {α : Type} (m : NMap α) : Bool := nsortedFrom 0 m

/-- The canonical form of a table whose unlisted keys read `d`: keys strictly rising, no entry equal to `d`. -/
def nwf {α : Type} [DecidableEq α] (d : α) (m : NMap α) : Bool :=
  nsorted m && m.all fun e => decide (e.2 ≠ d)

/-- Replace item `i` of a list. -/
def lset {α : Type} : List α → Nat → α → List α
  | [], _, _ => []
  | _ :: r, 0, v => v :: r
  | a :: r, i + 1, v => a :: lset r i v

/-- Remove the first item that meets a test and answer it with the rest. -/
def takeFirst {α : Type} (p : α → Bool) : List α → Option (α × List α)
  | [] => none
  | a :: r =>
    if p a then some (a, r)
    else match takeFirst p r with
      | some (b, r') => some (b, a :: r')
      | none => none

/-- Count the items that meet a test. -/
def countIf {α : Type} (p : α → Bool) (l : List α) : Nat := (l.filter p).length

end Sys2Proof.Machine
end

