-- ==== Sys2Proof/Types.lean ====
section
/-!
DEFINITION. The values that commands carry and State holds: modes, parts, triggers, datagrams, flash copies.
-/

namespace Sys2Proof

/-- The operating modes of R35, in the order of their codes. -/
inductive Mode where
  | off | powerUp | wipe | load | selfTest | linkUp | service | degraded | maintain | diagnostic | recovery | safeStop
  deriving DecidableEq, Repr

/-- An IP datagram's UDP payload as the Registrar hands it to the Curator (R71, R127), with the port it came in on.
An IPv4 address stands in the low 32 bits. -/
structure Datagram where
  port : Nat
  srcMac : Bytes
  v6 : Bool
  src : Nat
  dst : Nat
  srcPort : Nat
  dstPort : Nat
  payload : Bytes
  deriving DecidableEq, Repr

/-- What drops the processor to OFF (transition 1 of R38, R463, R476): the input voltage in mV, or a PORB low of a
length in ns. -/
inductive OffCause where
  | vin (mv : Nat)
  | porbLow (ns : Nat)
  deriving DecidableEq, Repr

/-- What POWER_UP found by its end (R402 to R406, R476): the channels that failed training at rate 1 and at rate 2,
the training time, the eye margins it left (read, write, mV), and the MGMT_ADDR strap. -/
structure PowerUpReport where
  fail1 : List Nat
  fail2 : List Nat
  trainMs : Nat
  margins : List (Nat × Nat)
  strap : BitVec 2
  deriving DecidableEq, Repr

/-- One copy of the image as the flash returns it (R47, R477): a read error, or its bytes. -/
inductive FlashCopy where
  | error
  | bytes (b : Bytes)
  deriving DecidableEq, Repr

/-- The parts of R455 and of PART_OUT's DETAIL (R482). -/
inductive Part where
  | cluster (n : Nat)
  | decode (n : Nat)
  | encode (n : Nat)
  | pipeline (n : Nat)
  | aes (n : Nat)
  | sha (n : Nat)
  | quad (n : Nat)
  | sramRow (wing blk cell : Nat) (spare : Bool)
  | checker (code : Nat)
  | block (wing blk : Nat)
  | gddrChannel (n : Nat)
  deriving DecidableEq, Repr

/-- What the supervisor decides on (R456). `cause` is a code of R458. -/
inductive Trigger where
  | part (p : Part) (cause : Nat)
  | wing (w cause : Nat)
  | south (cause : Nat)
  | chip (cause : Nat)
  | checkerFailed (code : Nat)
  | critical (cause : Nat)
  | memoryRate
  | watchdog
  | lockstep
  deriving DecidableEq, Repr

/-- The clock inputs of R474. -/
inductive ClockInput where
  | lref (k : Nat)
  | sysref
  deriving DecidableEq, Repr

/-- Why a link status went false (R115). -/
inductive LinkLoss where
  | blockLock
  | alignment
  | hiBer
  deriving DecidableEq, Repr

/-- What a lane's receiver settled on at block lock (R108, R109): gain code, the DFE's first tap and its eleven further ones,
eye margin in mV. -/
structure LaneRx where
  gain : BitVec 8
  tap1 : BitVec 8
  taps : List (BitVec 8)
  eye : BitVec 8
  deriving DecidableEq, Repr

/-- The FEC codewords that carried a frame (R113, R120): corrected, uncorrectable, symbols corrected. -/
structure FecReport where
  corrected : Nat
  uncorrectable : Nat
  symbols : Nat
  deriving DecidableEq, Repr

/-- The profiles of R327; `main` stands for Main of H.264 and of H.265. -/
inductive VideoProfile where
  | constrainedBaseline
  | main
  | high
  | main10
  | av1Main
  | other
  deriving DecidableEq, Repr

/-- What a decode engine reads in the headers of an access unit at stage 1. The bitstream standards are outside the
specification, so the values of their syntax elements come with the command; what follows from them is the model's.
Picture: luma size, bit depth, chroma format (0 is 4:0:0, 1 is 4:2:0), profile, level (ten times that of H.264 and H.265;
seq_level_idx of AV1), frame_mbs_only_flag 0, large-scale tile, layers (R327, R328). The operating_point_idc values of an
AV1 sequence (R333). References are named as their standard numbers them (frame_num or long-term index, picture order
count, slot): those used; the H.264 frame_num with MaxFrameNum and whether gaps are allowed; the names that this picture
takes (R342). Output: whether the pictures waiting for it leave first (1) or are discarded (2); the slot of a
show_existing_frame; whether the access unit holds another frame after this one (R336). Every length field with the
position in the access unit from which it counts (R345). -/
structure PicHead where
  width : Nat
  height : Nat
  depth : Nat
  chroma : Nat
  profile : VideoProfile
  level : Nat
  fieldCoded : Bool
  largeScale : Bool
  s : Fin 4
  t : Fin 4
  ops : List Nat
  uses : List Nat
  frameNum : Option (Nat × Nat × Bool)
  sets : List Nat
  prior : Fin 3
  showExisting : Option Nat
  more : Bool
  extents : List (Nat × Nat)
  deriving DecidableEq, Repr

/-- What decoding a picture gave: whether a syntax value was out of range (R341), whether reference data was poisoned, the
names of the references that stay (H.264, H.265), its picture order count, whether it is output, how many pictures may
wait for output and how many stores the decoded picture buffer has (R336), the luma rectangles (x, y, width, height) that
are concealed (R341), the samples row by row, the motion data page by page (R337). -/
structure PicDone where
  syntaxBad : Bool
  poisoned : Bool
  keeps : List Nat
  poc : Int
  output : Bool
  reorder : Nat
  dpb : Nat
  lost : List (Nat × Nat × Nat × Nat)
  luma : List Nat
  cb : List Nat
  cr : List Nat
  motion : List (List (BitVec 8))
  deriving DecidableEq, Repr

/-- What coding one row of one spatial layer gives (R378, R386 to R389): parameter sets or sequence header (row 0 of a key
picture), the frame header (row 0), the slice or tile header, each coding block as coded at its q and as coded in floor
mode, and the reconstruction of the row's samples. -/
structure EncRow where
  params : List Bytes
  frameHead : Bytes
  head : Bytes
  blocks : List (Bytes × Bytes)
  luma : List Nat
  cb : List Nat
  cr : List Nat
  deriving DecidableEq, Repr

/-- What a failed item belongs to (R11): a stream's packet, a subscription's copy, a flow's work item; or the error cannot
be tied to one item or flow. -/
inductive ItemFlow where
  | stream (n : Nat)
  | sub (n : Nat)
  | flow (n : Nat)
  | untied
  deriving DecidableEq, Repr

/-- A burst in which a read finds an error (R416, R417): its number, and whether the code cannot correct it. -/
structure BurstFault where
  burst : Nat
  bad : Bool
  deriving DecidableEq, Repr

/-- A cell transaction that did not complete (R12): where it went, when it was granted (ns), the item it belongs to. -/
structure CellTx where
  place : Nat
  granted : Nat
  item : ItemFlow
  deriving DecidableEq, Repr

/-- A dual-clock queue whose pointer parity fails (R24): its cell number and how many packets, rows or work items it holds. -/
structure CdcQueue where
  cell : Nat
  items : Nat
  deriving DecidableEq, Repr

/-- What training leaves in a port's receivers (R107, R108), by lane: whether the partner asked for precoding, and the CTLE
peaking chosen. -/
structure TrainedRx where
  precode : List Bool
  ctle : List Nat
  deriving DecidableEq, Repr

/-- A fixed-mode port whose receivers lock (R107), with the CTLE peaking chosen by lane (R108). -/
structure PortLock where
  port : Fin 96
  ctle : List Nat
  deriving DecidableEq, Repr

/-- A core's store to its job port (R281): the address stored, and what stands there where the core is the Curator's, whose
memory is not the model's otherwise (R168). -/
structure JobStore where
  addr : W32
  desc : Bytes
  deriving DecidableEq, Repr

/-- The errors that a load meets (R258), 0 none, 1 a single bit, 2 two bits: in its code word and in its data. -/
structure LoadEcc where
  code : Fin 3
  data : Fin 3
  deriving DecidableEq, Repr

/-- The errors that a Q form meets (R258), as above: in its code word, in X memory and in Y memory. -/
structure MacEcc where
  code : Fin 3
  x : Fin 3
  y : Fin 3
  deriving DecidableEq, Repr

/-- The end of a core's oldest move (R283), with the error, as above, in the local words that it reads (R258). -/
structure MoveEnd where
  core : Fin 272
  err : Fin 3
  deriving DecidableEq, Repr

/-- A step of the patrol scrub (R418): what the array has in the burst, 0 no error, 1 a correctable one, 2 one that is not;
and the grants that its channels make next (R412). -/
structure ScrubRead where
  fault : Fin 3
  grants : List (Fin 48)
  deriving DecidableEq, Repr

/-- A block's watchdog (R447): the block, and since when it has had accepted work without completing any, ns. -/
structure BlockWatch where
  blk : Nat
  since : Nat
  deriving DecidableEq, Repr

end Sys2Proof
end

