-- ==== Sys2Proof/Machine/StateNet.lean ====
section
/-!
DEFINITION. The state of the North and South wings' data path: Atrium, Registrar, Vault, Cloakroom, Stacks, Forwarder,
traffic manager. Every structure's defaults are its values at reset.
-/

namespace Sys2Proof.Machine

/-- A received frame in a port's FIFO: from the destination address to the end of the FCS, with its stamp (R114). -/
structure RxFrame where
  bytes : Bytes
  stamp : Nat
  deriving DecidableEq, Repr

/-- What a port keeps beside its registers: its receivers are ready (training done, or lock in a fixed mode), since when
its link status has been true (ns), its receive FIFO oldest first. -/
structure PortSt where
  ready : Bool := false
  holdFrom : Option Nat := none
  /-- The lanes whose transmitters precode at the partner's request (R107). -/
  precode : List Bool := []
  /-- The abilities last offered in Clause 73 by their bits in ATR_PORT_ADV, and the FEC bits F3 to F0 (R103). -/
  offered : Option (BitVec 11 × BitVec 4) := none
  fifo : List RxFrame := []
  deriving DecidableEq, Repr

/-- A lane's receiver (R108): its CTLE peaking once chosen, the 12 taps of its DFE, and whether the DFE's step has fallen to
1/16. -/
structure LaneEq where
  ctle : Option Nat := none
  taps : List (BitVec 8) := List.replicate 12 0
  fine : Bool := false
  deriving DecidableEq, Repr

/-- The Atrium: ports that differ from a port at reset, the lanes' receivers, and the reconfiguration that runs (R58, R117):
its port and, once step 3 has begun in a fixed mode, when. -/
structure Atrium where
  ports : NMap PortSt := []
  lanes : NMap LaneEq := []
  reconfig : Option (Nat × Option Nat) := none
  deriving DecidableEq, Repr


/-! ### The Registrar (R126 to R147) -/

/-- A token bucket in millionths of a packet (R127, R140): its content and when it was last credited, ns. -/
structure Bucket where
  level : Nat := 0
  at_ : Nat := 0
  deriving DecidableEq, Repr

/-- The settings of a leg's policer (R132): mode, CIR, CBS, EIR or PIR, EBS or PBS. -/
structure PolSet where
  mode : Nat := 0
  cir : Nat := 0
  cbs : Nat := 0
  eir : Nat := 0
  ebs : Nat := 0
  deriving DecidableEq, Repr

/-- A leg's policer (R142): the settings in force, the two buckets in 1/1,024 byte with their carried remainders
(1/15,625 of that), the last stamp used. -/
structure Policer where
  set : PolSet := {}
  c : Nat := 0
  cRem : Nat := 0
  e : Nat := 0
  eRem : Nat := 0
  stamp : Nat := 0
  deriving DecidableEq, Repr

/-- What the Registrar hands on with a packet of a stream: the frame from its destination address on without FCS, where
its UDP payload (or, behind a Terold header, the inner packet) lies, its arrival stamp in ns, its colour, its level
record (V·128 + level, none when absent), the dependency descriptor's first bytes, and the Terold header of a
datagram on a peer leg, and REPLAY and MEDIA as its probe found them (R136). -/
structure Staged where
  stream : Nat
  leg : Nat
  frame : Bytes
  off : Nat
  len : Nat
  rtcp : Bool
  stamp : Nat
  yellow : Bool
  level : Option Nat
  record : Option Bytes
  tbh : Option Bytes
  replay : Bool := true
  media : Nat := 0
  deriving DecidableEq, Repr

/-- The Registrar: the Catalogue's seeds (R133), where each entry lies (table 1 at bucket · 4 + slot, table 2 from
65,536 on), the overflow CAM, entries with a double-bit error not yet rewritten (R137), fenced streams and times of the
last match in ms (R130), the buckets, the policers, and the packets in the staging memory, oldest first. -/
structure Registrar where
  seed1 : W32 := 0
  seed2 : W32 := 0
  place : NMap Nat := []
  cam : List Nat := []
  ue : List Nat := []
  fenced : List Nat := []
  seen : NMap Nat := []
  jcp : Bucket := {}
  punt : NMap Bucket := []
  pol : NMap Policer := []
  staged : List Staged := []
  deriving DecidableEq, Repr

/-! ### The Vault (R148 to R176) -/

/-- A stream's security context (R161). -/
structure StreamCtx where
  rocHigh : W32 := 0
  rocLow : W32 := 0
  rtpHigh : Option Nat := none
  notified : Bool := false
  rtpWin : BitVec 128 := 0
  rtcpHigh : Option Nat := none
  rtcpWin : BitVec 128 := 0
  deriving DecidableEq, Repr

/-- A queue descriptor (R195), and what travels with it: the copy's own output cells (R166), the arrival stamp of its
packet in ns, the Registrar's dependency-descriptor bytes (R128), the Terold type, KEY flag and ORIGIN of a copy for a
peer leg (R425), the number of the packet's subscription. -/
structure Desc where
  handle : W32 := 0
  offset : Nat := 0
  len : Nat := 0
  complete : Bool := true
  yellow : Bool := false
  poison : Bool := false
  ctag : Nat := 0
  conf : Nat := 0
  kind : Nat := 0
  info : Nat := 0
  cells : Bytes := []
  stamp : Nat := 0
  record : Option Bytes := none
  tbh : Option (Nat × Bool × Nat) := none
  deriving DecidableEq, Repr

/-- A copy on its way from the Forwarder to the Vault (R166): the receiving leg, its class, the rewritten packet in the
descriptor's cells, whether it is RTCP, its ROC or SRTCP index. -/
structure CopyJob where
  leg : Nat
  cls : Nat
  desc : Desc
  rtcp : Bool
  index : Nat
  deriving DecidableEq, Repr

/-- A general job (R168 to R173): the core (cluster · 16 + core), the descriptor's address in cluster memory, where it
stands (0 queued at the port, 1 in flight, 2 ended) and its STATUS. -/
structure VaultJob where
  core : Nat
  addr : Nat
  stage : Nat := 0
  status : Nat := 0
  deriving DecidableEq, Repr

/-- The Vault: key slots by 2 · leg + SLOT, 192 bytes each, an unlisted slot all zero (R154), and the timebase second each of
them retires at, of which EXPIRY holds the low 32 bits (R158); slots with a double-bit error not yet rewritten (R156);
stream contexts (R161); copies and jobs on their way. -/
structure Vault where
  slots : NMap Bytes := []
  expires : NMap Nat := []
  ue : List Nat := []
  ctx : NMap StreamCtx := []
  copies : List CopyJob := []
  jobs : List VaultJob := []
  deriving DecidableEq, Repr

/-! ### The Cloakroom (R177 to R193) -/

/-- A buffer's record (R190). -/
structure BufRec where
  count : W16 := 0
  gen : BitVec 5 := 0
  owner : BitVec 5 := 0
  ext : Bool := false
  alloc : Bool := false
  share : W32 := 0
  deriving DecidableEq, Repr

/-- A requester of the Cloakroom: a client by owner domain (R180), or a DSP core's request under a tag (R282). -/
inductive Client where
  | hw (domain : Fin 32)
  | core (core tag : Nat)
  deriving DecidableEq, Repr

/-- An allocation that waits for a buffer (R188): its client, size, start pool and ceiling, and of a block's own allocation
the number of the work that waits for it. -/
structure HeldAlloc where
  client : Client
  size : Nat
  start : Nat
  top : Nat
  work : Option Nat := none
  deriving DecidableEq, Repr

/-- A request that waits behind an INC stalled for an extension entry, or that INC, or one that waits for its client's
credit (R182, R192): 0 INC, 1 DEC, 2 SHARE, 3 ALLOC (`arg` then 4 · size + 2 · yellow + wait); whether it has been counted as
a stall for want of an entry; what it belongs to (R185). -/
structure HeldReq where
  client : Client
  kind : Nat
  handle : W32
  arg : Nat
  counted : Bool := false
  flow : ItemFlow := .untied
  deriving DecidableEq, Repr

/-- A pool: the freed buffers, last freed first, the records of the buffers used since LOAD, the arbitration
pointer (R187). -/
structure Pool where
  freed : List Nat := []
  recs : NMap BufRec := []
  ptr : Nat := 0
  deriving DecidableEq, Repr

/-- The Cloakroom. `reply` is the last answer it gave a client: code of R184 and handle. `granted`: buffers granted to a
block's held work, which it has not taken up yet (domain, work, handle), and the number of such works so far; `beyond`:
requests beyond their client's credit, oldest first. -/
structure Cloakroom where
  pools : NMap Pool := []
  ext : NMap W32 := []
  held : List HeldAlloc := []
  granted : List (Nat × Nat × W32) := []
  works : Nat := 0
  stalled : List HeldReq := []
  beyond : List HeldReq := []
  rejNext : Nat := 0
  reply : Option (Client × Nat × W32) := none
  deriving DecidableEq, Repr

/-! ### The Stacks (R194 to R209) -/

/-- A queue (R198, R205): head, the burst read ahead for it (R201), middle and tail, the descriptors already read of the
middle's first chunk, descriptors
accepted since the last doorbell, whether its consumer's doorbell is rung, the timer's start in ns, whether a timeout
item is outstanding. -/
structure Queue where
  head : List Desc := []
  ahead : List Desc := []
  mid : List Desc := []
  tail : List Desc := []
  midRead : Nat := 0
  since : Nat := 0
  bell : Bool := false
  timer : Nat := 0
  itemOut : Bool := false
  deriving DecidableEq, Repr

/-- The Stacks: queues that differ from an empty one, the queues that hold a resident slot, least recently used first
(R199), and enqueues that wait for an incomplete descriptor to complete (R206), oldest first. -/
structure Stacks where
  queues : NMap Queue := []
  slots : List Nat := []
  waiting : List (Client × Nat × Desc) := []
  deriving DecidableEq, Repr

/-! ### The traffic manager (R237 to R255) -/

/-- A shaper (R243): tokens in 1/1,024 byte, the remainder in 1/125 of that, the last refill in ns, the settings in
force, whether a modify waits for the next refill (R244). -/
structure Shaper where
  tokens : Int := 134217728
  rem : Nat := 0
  last : Nat := 0
  rate : Nat := 0
  burst : Nat := 131072
  refill : Nat := 1
  weight : Nat := 16
  port : Nat := 255
  pending : Bool := false
  deriving DecidableEq, Repr

/-- The tags of a leg or a group in its parent's fair queuing (R239): S and F in 1/256 byte, whether it was eligible
when last looked at, and for a leg whether it is scheduled by credit (R241). -/
structure Tags where
  s : W64 := 0
  f : W64 := 0
  awake : Bool := false
  credit : Bool := false
  deriving DecidableEq, Repr

/-- The traffic manager: shapers and tags by level · 65,536 + index (0 port, 1 group, 2 leg), virtual times of ports and
groups likewise, the leg a group served last, the membership words by leg (R248), the management buckets in
1/1,000 bit with their last credit in ns, the transmit sequence of each peer leg's Terold header (R425), and by port when
its transmit buffer will have drained onto the lanes, ns (R238). -/
structure Tmg where
  shapers : NMap Shaper := []
  tags : NMap Tags := []
  vtime : NMap W64 := []
  lastLeg : NMap Nat := []
  member : NMap W16 := []
  mgmtBucket : NMap (Int × Nat) := []
  tbhSeq : NMap Nat := []
  txFree : NMap Nat := []
  deriving DecidableEq, Repr

/-! ### The Forwarder (R210 to R236) -/

/-- The fields of a subscription that the Forwarder maintains, and the targets in force (R210). -/
structure Sub where
  tgtS : Nat := 2
  tgtT : Nat := 2
  curS : Nat := 3
  curT : Nat := 0
  pend : Nat := 0
  started : Bool := false
  fenced : Bool := false
  source : Nat := 0
  newSource : Nat := 0
  lastOut : W16 := 0
  seqOffset : W16 := 0
  highestIn : W16 := 0
  dropMark : W16 := 0
  switchIn : W16 := 0
  tsOffset : W32 := 0
  rocOut : W32 := 0
  lastTsOut : W32 := 0
  lastArr : W32 := 0
  pendSince : W32 := 0
  deriving DecidableEq, Repr

/-- An adopted AV1 template structure (R217): the template ID offset, the decode targets' number, each template's
spatial ID, temporal ID and DTIs. -/
structure Av1Struct where
  offset : Nat
  targets : Nat
  templates : List (Nat × Nat × List Nat)
  deriving DecidableEq, Repr

/-- How a source packet reads (R216): spatial and temporal layer, frame start, key picture, unreadable, the frame's
DTIs by decode target (AV1), end of frame, the temporal switching kind (0 none, 1 any frame start with T 0, 2 TSA,
3 STSA, 4 the META's TSW). -/
structure LayerInfo where
  s : Nat := 0
  t : Nat := 0
  start : Bool := true
  key : Bool := true
  unreadable : Bool := false
  dtis : Option (List Nat) := none
  endOfFrame : Bool := true
  sw : Nat := 0
  deriving DecidableEq, Repr

/-- A retransmission ring entry (R233): handle, offset and length of the packet, its sequence number, how it read, when
it was cached, ns, its class. -/
structure RingEntry where
  handle : W32
  offset : Nat
  len : Nat
  seq : W16
  info : LayerInfo
  at_ : Nat
  stamp : Nat
  cls : Nat
  deriving DecidableEq, Repr

/-- What the Forwarder keeps of a stream: ring, structure, key requests (time of the last one sent in ns, one held),
FIR number, last SSRC and timestamp, the highest sequence number, a recorded gap with its time (R235), numbers already
requested, the last switch. -/
structure FwdStream where
  ring : NMap RingEntry := []
  av1 : Option Av1Struct := none
  keyAt : Option Nat := none
  keyHeld : Bool := false
  fir : Nat := 0
  ssrc : W32 := 0
  lastTs : Option W32 := none
  highest : Option W16 := none
  gap : Option (List W16 × Nat) := none
  /-- Custom DTIs by frame number, each with its frame's timestamp (R217). -/
  frameDti : NMap (W32 × List Nat) := []
  deriving DecidableEq, Repr

/-- A source's fan-out list (R226): its three segments. -/
structure FanOut where
  s0 : List Nat := []
  s1 : List Nat := []
  s2 : List Nat := []
  deriving DecidableEq, Repr

/-- An RTCP compound that waits for the Forwarder (R232): its stream and leg, its buffer and place. -/
structure RtcpIn where
  stream : Nat
  leg : Nat
  handle : W32
  offset : Nat
  len : Nat
  deriving DecidableEq, Repr

/-- The Forwarder: subscriptions, per-stream state, fan-out lists by source (stream index, or 131,072 + output index),
the subscription entries in the cache, least recently used first (R212), entries with a double-bit error in GDDR7 not
yet met, RTCP compounds, and the slot tables of the audio outputs' packets by output and sequence number (R318). Copies that
wait for the Vault's egress to have room (R32, R173), oldest first. Packets that the packetisers have handed over, by output
(R393); references handed on to decode contexts, by stream (R204);
outputs whose encoders have been asked for a key picture (R385); feedback messages that wait for a buffer (R188): the number
of the work, the leg and the message. -/
structure Forwarder where
  subs : NMap Sub := []
  streams : NMap FwdStream := []
  lists : NMap FanOut := []
  cache : List Nat := []
  rtcp : List RtcpIn := []
  waitCopies : List CopyJob := []
  slotTabs : NMap (List (Nat × List (List Nat))) := []
  outPkts : NMap (List Desc) := []
  toDec : NMap (List Desc) := []
  encKey : List Nat := []
  outbox : List (Nat × Nat × Bytes) := []
  deriving DecidableEq, Repr

/-! ### The cascade (R421 to R438) -/

/-- A peer device (R429, R431): whether a valid HELLO is held and one with SEEN set came, the last refresh in ns,
incompatible or lost. -/
structure PeerDev where
  seen : Bool := false
  held : Bool := false
  refreshed : Nat := 0
  deriving DecidableEq, Repr

/-- A peer leg's receive window (R427): the highest SEQ and the marked values (bit k: highest − k). Values before the
first, SEQ 0, count as marked. -/
structure TbhWin where
  high : W16 := 0xFFFF
  marks : BitVec 1024 := BitVec.allOnes 1024
  deriving DecidableEq, Repr

/-- The cascade: peer devices, receive windows by leg, when the last HELLO was sent (ns). -/
structure Cascade where
  peers : NMap PeerDev := []
  wins : NMap TbhWin := []
  helloAt : Option Nat := none
  /-- Authenticated HELLOs not yet taken up (R429): leg, payload, SEEN. -/
  hellos : List (Nat × Bytes × Bool) := []
  deriving DecidableEq, Repr

end Sys2Proof.Machine
end

