-- ==== Sys2Proof/Syntax.lean ====
section
/-!
DEFINITION. The commands of the module: one constructor per row of the specification's table of operations and events.
-/

namespace Sys2Proof

open Machine

/-- The operations and events of the part, each with its row's operands. -/
inductive Instr where
  /-- OFF_TRANSITION (R38): VIN falls below the undervoltage threshold or rises past the overvoltage lockout, or PORB is held low, and the processor drops to OFF with transmitters idle and all state lost except OTP. -/
  | offTransition (cause : OffCause)
  /-- POWER_ON (R38): VIN in range and PORB high, whichever comes later, start POWER_UP and rail sequencing. -/
  | powerOn (vinMv : Nat) (porb : Bool)
  /-- RAIL_RETRY (R468): 100 ms after a rail step failed, the converter retries from step 1, at most three times, then stays off. -/
  | railRetry
  /-- POWER_UP_DONE (R38): Rails good, PLLs locked, OTP read and all channels trained together complete POWER_UP, and the wipe starts. -/
  | powerUpDone (report : PowerUpReport)
  /-- WIPE_DONE (R49): The SRAM and GDDR7 wipes complete, and the sampled read-back starts. -/
  | wipeDone (ms : Nat)
  /-- READBACK_DONE (R52): The wipe read-back ends and leads to LOAD, to one repeat of the wipe, or, on a second failure, to SAFE_STOP. -/
  | readbackDone (sram : List (Nat × Nat)) (gddr : List Nat)
  /-- LOAD_DONE (R69): LOAD finishes checking and applying copy A or copy B, and leads to SELF_TEST, or to SAFE_STOP when both copies fail. -/
  | loadDone (copyA : FlashCopy) (copyB : FlashCopy)
  /-- SELFTEST_DONE (R48): SELF_TEST ends, recording replaceable parts out of service, and leads to LINK_UP, or to SAFE_STOP when an irreplaceable part fails. -/
  | selftestDone (failed : List Part)
  /-- BOOT_PHASE_TIMEOUT (R38): A boot phase overruns its bound on the sequencer's timer, and the processor takes a warm reset. -/
  | bootPhaseTimeout
  /-- ENTER_SERVICE (R48): Once required ports have link, a session has completed HELLO and service has been requested or auto-service is set, the processor takes transition 7 or 8. -/
  | enterService
  /-- LINK_UP_LIMIT_EXPIRY (R48): The link-up limit expires: with a session open, the required-port condition is dropped, LINK_TIMEOUT is set and an event is sent. -/
  | linkUpLimitExpiry
  /-- WING_RESTART_DONE (R457): The last block of a restarted wing returns to service, and the recovery window starts. -/
  | wingRestartDone
  /-- RECOVERY_WINDOW_EXPIRY (R38): The recovery window elapses with no further wing failure, and the processor returns to SERVICE or DEGRADED. -/
  | recoveryWindowExpiry
  /-- HELLO (R77): A controller HELLO opens a pending epoch under the image key and is answered with version, features, nonce and MAX_MSG. -/
  | hello (d : Datagram)
  /-- READ (R84): JCP READ returns COUNT consecutive register words of one block in one pass. -/
  | read (d : Datagram)
  /-- WRITE (R84): JCP WRITE writes consecutive register words of one block in one pass, optionally under MASK. -/
  | write (d : Datagram)
  /-- REGISTER_WRITE (R8): A write to a register that has no behaviour of its own sets its fields by type, or is refused under the address and mode rules. -/
  | registerWrite (addr : W32) (v : W32)
  /-- OBJ_CREATE (R86): The controller creates an object with its chosen ID and attributes. -/
  | objCreate (d : Datagram)
  /-- OBJ_MODIFY (R88): The controller changes attributes of an existing object, and the data path takes the change at its next boundary. -/
  | objModify (d : Datagram)
  /-- OBJ_DELETE (R87): The controller deletes an object and its dependants, and the reply gives the number of dependants deleted. -/
  | objDelete (d : Datagram)
  /-- KEY_INSTALL (R89): One key slot of a leg is written atomically, with session keys derived and the check code computed. -/
  | keyInstall (d : Datagram)
  /-- IMAGE_STAGE (R92): Image bytes are written at an offset in the GDDR7 stage area. -/
  | imageStage (d : Datagram)
  /-- VERIFY (R93): IMAGE_APPLY VERIFY starts the checks of R69 on the staged image. -/
  | verify (d : Datagram)
  /-- IMAGE_VERIFY_DONE (R93): Verification of the stage completes with VERIFIED or IMAGE_INVALID and a reason. -/
  | imageVerifyDone
  /-- APPLY_BLOCK (R94): The staged sections for one target are applied by block reload in MAINTAIN. -/
  | applyBlock (d : Datagram)
  /-- APPLY_ALL (R94): APPLY_BLOCK is run for every staged target in ascending order, with the Curator last. -/
  | applyAll (d : Datagram)
  /-- ABORT (R93): The stage is emptied, and blocks already applied keep their new sections. -/
  | abort (d : Datagram)
  /-- PROGRAM_A (R94): After re-verifying copy B, the staged image is written to flash copy A. -/
  | programA (d : Datagram) (other : FlashCopy)
  /-- PROGRAM_B (R94): After re-verifying copy A, the staged image is written to flash copy B. -/
  | programB (d : Datagram) (other : FlashCopy)
  /-- IMAGE_PROGRAM_DONE (R93): Flash programming completes and an IMAGE event reports the result. -/
  | imageProgramDone (ok : Bool)
  /-- PROGRAM_TIMEOUT (R94): Programming has not completed within 60 s, and an IMAGE event reports failure. -/
  | programTimeout
  /-- COMMIT_VERSION (R94): The OTP security version is raised to the running image's SEC_VERSION when both flash copies allow it. -/
  | commitVersion (d : Datagram) (copyA : FlashCopy) (copyB : FlashCopy)
  /-- MODE_REQ (R39): The controller requests a mode, and the permitted transition runs. -/
  | modeReq (d : Datagram)
  /-- LC_TARGET (R57): A MODE_REQ naming a life-cycle target stops egress, zeroises keys, blows fuses and takes a warm reset. -/
  | lcTarget (d : Datagram)
  /-- STATS (R84): The counters of one object, or of a range of objects, are returned and optionally cleared atomically. -/
  | stats (d : Datagram)
  /-- EVENT_ACK (R90): The controller acknowledges an event by its SEQ, freeing its in-flight place. -/
  | eventAck (d : Datagram)
  /-- EVENT_RESEND (R90): An unacknowledged event is resent every 100 ms, at most ten times, and then counted as lost. -/
  | eventResend (session : Nat) (seq : Nat)
  /-- JTAG_PROVISION (R56): A JTAG provisioning command carrying the owner key hash moves BLANK to PROVISIONED. -/
  | jtagProvision (hash : Bytes)
  /-- JTAG_RETURN (R56): A JTAG return command signed with the owner key moves the processor to RETURNED. -/
  | jtagReturn (msg : Bytes) (qx : Nat) (qy : Nat) (r : Nat) (sg : Nat)
  /-- CELL_TIMEOUT (R12): A cell transaction not completed 10 µs after its grant is aborted and returns an error. -/
  | cellTimeout (wing : Nat) (blk : Nat) (cell : Nat) (tx : CellTx)
  /-- BLOCK_RESET (R22): A write of CHP_WING_BLK_RESET resets the named block under R15, or is refused. -/
  | blockReset (wing : Fin 4) (v : W32)
  /-- BLOCK_RESET_DONE (R15): A reset block finishes its wipe and restore and returns to service. -/
  | blockResetDone (wing : Nat) (blk : Nat)
  /-- CDC_PARITY_ERROR (R24): A pointer parity error in a dual-clock queue poisons its contents and resets or escalates its owning block. -/
  | cdcParityError (wing : Nat) (blk : Nat) (queue : CdcQueue)
  /-- PLL_LOSS_OF_LOCK (R25): A wing PLL loses lock, its blocks are held in reset and CHP_CLK_LOL is set. -/
  | pllLossOfLock (pll : Fin 7)
  /-- CLOCK_INPUT_LOST (R474): SYSREF_25M or a lane reference pair has had no edge for 10 µs and is declared lost. -/
  | clockInputLost (input : ClockInput)
  /-- CHP_TB_SNAP (R27): A write of 1 to SNAP captures the timebase into CHP_TB_LO and CHP_TB_HI together. -/
  | chpTbSnap (v : W32)
  /-- PTP_LOSS (R27): PTP is lost and the timebase enters holdover, keeping its last increment. -/
  | ptpLoss
  /-- PPS_IN_EDGE (R475): A rising PTP_PPS_IN edge is stamped and handed to the timebase servo, or ignored within 500 ms of the last. -/
  | ppsInEdge (highNs : Nat)
  /-- PPS_OUT_RISE (R475): PTP_PPS_OUT rises as the timebase crosses each whole second. -/
  | ppsOutRise
  /-- PPS_OUT_FALL (R475): PTP_PPS_OUT falls 100 ms after it rose. -/
  | ppsOutFall
  /-- COUNTER_LOW_READ (R120): A read of a 64-bit counter's low word latches its high word for the next high-word read. -/
  | counterLowRead (addr : W32)
  /-- PORT_RECONFIG (R117): A MAINTAIN write to a port's ATR_PORT_CFG or ATR_PORT_ADV takes the port down and restarts it in its new configuration. -/
  | portReconfig (port : Fin 96) (cfg : Option W32) (adv : Option W32)
  /-- ATR_QUAD_RATE (R100): A write sets a quad's lane rate and relocks its PLL, or is refused while an enabled port uses the quad. -/
  | atrQuadRate (quad : Fin 24) (v : W32)
  /-- ATR_LANE_TXFIR (R112): A write sets a lane's transmit FIR coefficients, or is refused under the mode and port rules. -/
  | atrLaneTxfir (lane : Fin 96) (v : W32)
  /-- LANE_TEST (R119): In DIAGNOSTIC, a non-zero TEST takes the lane's port to STATE 7, and clearing TEST on all its lanes restarts the port. -/
  | laneTest (lane : Fin 96) (v : W32)
  /-- AGC_RELEASE (R109): A write of 1 to AGC_RELEASE in DIAGNOSTIC releases the lane's frozen AGC. -/
  | agcRelease (lane : Fin 96) (v : W32)
  /-- ATR_CNT_CLR (R120): A write clears the 16 counters of the named port together. -/
  | atrCntClr (v : W32)
  /-- BREAK_LINK_TIMER_EXPIRY (R103): break_link_timer ends and Clause 73 auto-negotiation starts on the port's lane 0. -/
  | breakLinkTimerExpiry (port : Fin 96)
  /-- AN_COMPLETE (R104): Auto-negotiation ends with a resolved mode and starts training, or with no common ability. -/
  | anComplete (port : Fin 96) (partner : Option (BitVec 11))
  /-- TRAINING_DONE (R107): Link training completes on all lanes of the port. -/
  | trainingDone (port : Fin 96) (fir : List W32) (rx : TrainedRx)
  /-- MAX_WAIT_TIMER_EXPIRY (R107): Training has not completed at max_wait_timer, so TRAIN_FAIL is set and auto-negotiation restarts. -/
  | maxWaitTimerExpiry (port : Fin 96)
  /-- RECEIVER_LOCK (R107): A fixed-mode port's receivers reach lock after adapting from signal detect. -/
  | receiverLock (lock : PortLock)
  /-- RECONFIG_LOCK_TIMEOUT (R117): 200 ms after adaptation began, a fixed-mode port without lock completes its reconfiguration and counts the miss. -/
  | reconfigLockTimeout (port : Fin 96)
  /-- BLOCK_LOCK (R109): A lane gains block lock and its AGC freezes. -/
  | blockLock (lane : Fin 96) (rx : LaneRx)
  /-- BLOCK_LOCK_LOST (R109): A lane loses block lock and its AGC is released. -/
  | blockLockLost (lane : Fin 96)
  /-- LINK_DOWN (R115): A port's link goes down, its queued copies are drained with PORT_DOWN, its legs are flagged and an event is sent. -/
  | linkDown (port : Fin 96) (cause : LinkLoss)
  /-- LINK_FAIL_INHIBIT_EXPIRY (R115): In hold-off, link status has not returned within link_fail_inhibit_timer, so auto-negotiation restarts. -/
  | linkFailInhibitExpiry (port : Fin 96)
  /-- LINK_UP_HOLD_EXPIRY (R116): PCS link status has stayed true for HOLD_MS, so the link comes up, legs resume and an event is sent. -/
  | linkUpHoldExpiry (port : Fin 96)
  /-- MAC_RECEIVE (R113): A received frame is checked by the MAC, stamped and passed to the Registrar, or dropped with a MAC reason. -/
  | macReceive (port : Fin 96) (frame : Bytes) (fec : FecReport)
  /-- REGISTRAR_PARSE (R125): The Registrar parses a frame, length-checks it and sorts its innermost UDP datagram. -/
  | registrarParse (port : Fin 96) (ue : List Nat)
  /-- CATALOGUE_REWRITE (R137): A Catalogue entry with a double-bit error is rewritten from the Curator's copy. -/
  | catalogueRewrite (stream : Fin 131072)
  /-- RGS_JCP_RATE (R127): A write sets the JCP bucket's rate and burst, cutting its content to a smaller burst. -/
  | rgsJcpRate (v : W32)
  /-- RGS_PUNT_RATE (R140): A write sets a port's punt bucket's rate and burst, cutting its content to a smaller burst. -/
  | rgsPuntRate (port : Fin 96) (v : W32)
  /-- RGS_CNT_CLR_DROPS (R147): A write of 1 to DROPS clears every RGS_DROP_CNT together. -/
  | rgsCntClrDrops
  /-- RGS_CNT_CLR_PORT_GO (R147): A write of 1 to PORT_GO clears the named port's 8 counters together. -/
  | rgsCntClrPortGo (port : BitVec 7)
  /-- SRTP_INGRESS (R164): The Vault checks the receive slot, replay window and tag of an SRTP or SRTCP packet, and decrypts it. -/
  | srtpIngress (ue : Bool)
  /-- SRTP_EGRESS (R166): A copy is encrypted and tagged with the receiving leg's transmit slot into its own cells. -/
  | srtpEgress (ue : Bool)
  /-- KEY_SLOT_REWRITE (R156): A key slot with a double-bit error is rewritten from the Curator's copy. -/
  | keySlotRewrite (slot : Fin 65536)
  /-- KEY_SWEEP (R158): Every 2 s the sweeper retires active slots whose EXPIRY has passed and raises KEY_EXPIRED. -/
  | keySweep
  /-- KAT_ROUND (R174): Every 1 ms each pipeline runs a known-answer job, and a mismatch fences the pipeline. -/
  | katRound (aes : List (Fin 32)) (ghash : List (Fin 32)) (sha : List (Fin 8))
  /-- JOB_SUBMIT (R281): A core's store of a descriptor address queues a Vault job at its cluster's job port. -/
  | jobSubmit (core : Fin 273) (job : JobStore)
  /-- CBC_ENCRYPT (R170): A general job runs chained CBC encryption. -/
  | cbcEncrypt
  /-- CBC_DECRYPT (R170): A general job runs CBC decryption. -/
  | cbcDecrypt
  /-- CTR (R170): A general job runs CTR mode with a big-endian counter. -/
  | ctr
  /-- CFB_ENCRYPT (R170): A general job runs chained CFB-128 encryption. -/
  | cfbEncrypt
  /-- CFB_DECRYPT (R170): A general job runs CFB-128 decryption. -/
  | cfbDecrypt
  /-- GCM_ENCRYPT (R170): A general job runs GCM encryption or GMAC with a 96-bit IV. -/
  | gcmEncrypt
  /-- GCM_DECRYPT (R170): A general job runs GCM decryption and tag check. -/
  | gcmDecrypt
  /-- CTX_WRITE (R170): A job writes ROC_HIGH and ROC_LOW of a stream in one write and clears NOTIFIED. -/
  | ctxWrite
  /-- JOB_DONE (R281): A Vault job completes: STATUS is written, JOB_DONE increments and any completion item is posted. -/
  | jobDone
  /-- VLT_CNT_CLR_DROPS (R176): A write of 1 to DROPS clears every VLT_DROP_CNT together. -/
  | vltCntClrDrops
  /-- VLT_CNT_CLR_JOBS (R176): A write of 1 to JOBS clears every VLT_JOB_CNT together. -/
  | vltCntClrJobs
  /-- ALLOC (R186): A client allocates a buffer from its start pool, falling back up to the ceiling, or meets EMPTY. -/
  | alloc (client : Client) (size : Nat) (yellow : Bool) (wait : Bool)
  /-- INC (R192): A buffer's reference count is increased by n, moving to an extension entry above 65,535. -/
  | inc (client : Client) (handle : W32) (n : Nat)
  /-- DEC (R191): A buffer's count is decreased by one, and the buffer is freed at zero with its generation advanced. -/
  | dec (client : Client) (handle : W32)
  /-- SHARE (R181): The owner widens a buffer's share mask. -/
  | share (client : Client) (handle : W32) (mask : W32)
  /-- CLO_POOL_CFG (R178): A write after LOAD that keeps COUNT sets the pool's CEIL; one that changes COUNT is refused. -/
  | cloPoolCfg (pool : Fin 8) (v : W32)
  /-- CLO_CNT_CLR_COUNTERS (R209): A write of 1 to COUNTERS clears every CLO_CNT together. -/
  | cloCntClrCounters
  /-- CLO_CNT_CLR_LOW (R208): A write of 1 to LOW sets every CLO_POOL_LOW to its current free count. -/
  | cloCntClrLow
  /-- ENQUEUE (R196): A producer enqueues a descriptor on a queue, which checks its handle and rings the consumer's doorbell. -/
  | enqueue (client : Client) (queue : Fin 262240) (desc : Desc)
  /-- DESCRIPTOR_EXTEND (R206): A cut-through producer extends an incomplete descriptor's LEN, or completes it. -/
  | descriptorExtend (queue : Fin 262144) (len : Nat) (complete : Bool) (poison : Bool)
  /-- DEQUEUE (R197): A consumer dequeues the head descriptor of a queue, with the head refilling from the middle or tail. -/
  | dequeue (queue : Fin 262144)
  /-- SLOT_FILL (R199): A queue without a resident slot is given one from its home record, evicting the least recently used slot. -/
  | slotFill (queue : Fin 262144)
  /-- QUEUE_TIMEOUT (R205): A queue's timer fires, rings the consumer's doorbell, posts a timeout item and re-arms. -/
  | queueTimeout (queue : Fin 262144)
  /-- STK_CNT_CLR (R209): A write of 1 to COUNTERS clears every STK_CNT together. -/
  | stkCntClr
  /-- FANOUT_WALK (R219): A walk decides each subscription of a source packet and issues rewritten copies to the Vault. -/
  | fanoutWalk (source : Fin 147456)
  /-- SUB_CACHE_FILL (R212): A subscription entry is filled from GDDR7 into the cache, and a double-bit error fences it. -/
  | subCacheFill (sub : Fin 1048576) (ue : Bool)
  /-- RTCP_FEEDBACK (R232): An authenticated RTCP compound is read for NACK, PLI and FIR and then released. -/
  | rtcpFeedback
  /-- RTX_AGE (R233): A cached packet leaves the retransmission ring after 1,000 to 1,008 ms. -/
  | rtxAge (stream : Fin 131072)
  /-- FWD_CNT_CLR (R236): A write of 1 to COUNTERS clears every FWD_CNT together. -/
  | fwdCntClr
  /-- DEQUEUE_DECISION (R238): The traffic manager picks the next frame for a port through the scheduling hierarchy. -/
  | dequeueDecision (port : Fin 96)
  /-- SHAPER_REFILL (R243): A shaper adds tokens for the elapsed interval, installs any pending modify and switches legs between credit and fair queuing. -/
  | shaperRefill (level : Fin 3) (index : Fin 32768)
  /-- TMG_CNT_CLR (R255): A write of 1 to COUNTERS clears every TMG_CNT together. -/
  | tmgCntClr
  /-- NOP (R273): The core does nothing for one cycle. -/
  | nop (core : Fin 272) (w : BitVec 26) (ecc : Fin 3)
  /-- ADD (R273): Dd is set to Da plus Db, with flags. -/
  | add (core : Fin 272) (w : BitVec 26) (ecc : Fin 3)
  /-- SUB (R273): Dd is set to Da minus Db, with flags. -/
  | sub (core : Fin 272) (w : BitVec 26) (ecc : Fin 3)
  /-- ADDS (R273): Dd is set to the 32-bit saturating sum of Da and Db. -/
  | adds (core : Fin 272) (w : BitVec 26) (ecc : Fin 3)
  /-- SUBS (R273): Dd is set to the 32-bit saturating difference of Da and Db. -/
  | subs (core : Fin 272) (w : BitVec 26) (ecc : Fin 3)
  /-- AND (R273): Dd is set to Da AND Db. -/
  | and (core : Fin 272) (w : BitVec 26) (ecc : Fin 3)
  /-- OR (R273): Dd is set to Da OR Db. -/
  | or (core : Fin 272) (w : BitVec 26) (ecc : Fin 3)
  /-- XOR (R273): Dd is set to Da XOR Db. -/
  | xor (core : Fin 272) (w : BitVec 26) (ecc : Fin 3)
  /-- SHL (R273): Dd is set to Da shifted left by Db[4:0]. -/
  | shl (core : Fin 272) (w : BitVec 26) (ecc : Fin 3)
  /-- SHR (R273): Dd is set to Da shifted right logically by Db[4:0]. -/
  | shr (core : Fin 272) (w : BitVec 26) (ecc : Fin 3)
  /-- ASR (R273): Dd is set to Da shifted right arithmetically by Db[4:0]. -/
  | asr (core : Fin 272) (w : BitVec 26) (ecc : Fin 3)
  /-- MIN (R273): Dd is set to the signed minimum of Da and Db. -/
  | min (core : Fin 272) (w : BitVec 26) (ecc : Fin 3)
  /-- MAX (R273): Dd is set to the signed maximum of Da and Db. -/
  | max (core : Fin 272) (w : BitVec 26) (ecc : Fin 3)
  /-- ABS (R273): Dd is set to the absolute value of Da. -/
  | abs (core : Fin 272) (w : BitVec 26) (ecc : Fin 3)
  /-- CMP (R273): The flags are set from Da minus Db. -/
  | cmp (core : Fin 272) (w : BitVec 26) (ecc : Fin 3)
  /-- MOV (R273): Dd is set to Da, with flags unchanged. -/
  | mov (core : Fin 272) (w : BitVec 26) (ecc : Fin 3)
  /-- PACK (R273): Dd is set to the low halves of Db and Da packed together. -/
  | pack (core : Fin 272) (w : BitVec 26) (ecc : Fin 3)
  /-- ADDI (R273): Dd is set to Da plus a signed immediate. -/
  | addi (core : Fin 272) (w : BitVec 26) (ecc : Fin 3)
  /-- CMPI (R273): The flags are set from Da minus an immediate. -/
  | cmpi (core : Fin 272) (w : BitVec 26) (ecc : Fin 3)
  /-- MOVS (R260): A special register is moved to or from a data register. -/
  | movs (core : Fin 272) (w : BitVec 26) (ecc : Fin 3)
  /-- LD (R268): A 32-bit load through a pointer, visible from the second following instruction. -/
  | ld (core : Fin 272) (w : BitVec 26) (ecc : LoadEcc)
  /-- LDH (R268): A 16-bit sign-extended load through a pointer. -/
  | ldh (core : Fin 272) (w : BitVec 26) (ecc : LoadEcc)
  /-- LDD (R268): A 64-bit load into a register pair through a pointer. -/
  | ldd (core : Fin 272) (w : BitVec 26) (ecc : LoadEcc)
  /-- ST (R273): A 32-bit store through a pointer. -/
  | st (core : Fin 272) (w : BitVec 26) (ecc : Fin 3)
  /-- STH (R273): A 16-bit store through a pointer. -/
  | sth (core : Fin 272) (w : BitVec 26) (ecc : Fin 3)
  /-- STD (R273): A 64-bit store of a register pair through a pointer. -/
  | std (core : Fin 272) (w : BitVec 26) (ecc : Fin 3)
  /-- LDA (R273): An accumulator is loaded from 16 bytes. -/
  | lda (core : Fin 272) (w : BitVec 26) (ecc : LoadEcc)
  /-- STA (R273): An accumulator is stored as 16 bytes. -/
  | sta (core : Fin 272) (w : BitVec 26) (ecc : Fin 3)
  /-- MAC (R265): A 16 × 16 product of register halves is accumulated into an accumulator. -/
  | mac (core : Fin 272) (w : BitVec 26) (ecc : Fin 3)
  /-- QMACR (R265): A broadcast register half is multiplied by four halves of a register pair into four accumulators. -/
  | qmacr (core : Fin 272) (w : BitVec 26) (ecc : Fin 3)
  /-- QMAC (R265): A broadcast X sample is multiplied by four halves of a Y word into four accumulators. -/
  | qmac (core : Fin 272) (w : BitVec 26) (ecc : MacEcc)
  /-- DMAC (R265): A broadcast X sample is multiplied by two Y words into two accumulators. -/
  | dmac (core : Fin 272) (w : BitVec 26) (ecc : MacEcc)
  /-- TAPMAC (R272): One FIR tap is accumulated and its sample is moved one place in the delay line. -/
  | tapmac (core : Fin 272) (w : BitVec 26) (ecc : MacEcc)
  /-- MOVA (R266): An accumulator is shifted, rounded, saturated and moved to a data register. -/
  | mova (core : Fin 272) (w : BitVec 26) (ecc : Fin 3)
  /-- CLRA (R273): An accumulator is cleared. -/
  | clra (core : Fin 272) (w : BitVec 26) (ecc : Fin 3)
  /-- LDAD (R273): An accumulator is loaded from Da sign-extended. -/
  | ldad (core : Fin 272) (w : BitVec 26) (ecc : Fin 3)
  /-- SHA (R273): An accumulator is shifted by a signed amount. -/
  | sha (core : Fin 272) (w : BitVec 26) (ecc : Fin 3)
  /-- ADDA (R273): One accumulator is added to another. -/
  | adda (core : Fin 272) (w : BitVec 26) (ecc : Fin 3)
  /-- BR (R269): A conditional PC-relative branch with two delay slots. -/
  | br (core : Fin 272) (w : BitVec 26) (ecc : Fin 3)
  /-- CALL (R269): A conditional PC-relative call that sets LR, with two delay slots. -/
  | call (core : Fin 272) (w : BitVec 26) (ecc : Fin 3)
  /-- RET (R273): A return to LR with two delay slots. -/
  | ret (core : Fin 272) (w : BitVec 26) (ecc : Fin 3)
  /-- RETI (R277): The return stack is popped, SR is restored and execution resumes. -/
  | reti (core : Fin 272) (w : BitVec 26) (ecc : Fin 3)
  /-- JMPR (R273): A jump to the address in Da with two delay slots. -/
  | jmpr (core : Fin 272) (w : BitVec 26) (ecc : Fin 3)
  /-- LOOP (R270): A hardware loop level opens with an immediate count. -/
  | loop (core : Fin 272) (w : BitVec 26) (ecc : Fin 3)
  /-- LOOPR (R270): A hardware loop level opens with its count taken from Da. -/
  | loopr (core : Fin 272) (w : BitVec 26) (ecc : Fin 3)
  /-- ENDL (R270): The innermost loop level is closed at once. -/
  | endl (core : Fin 272) (w : BitVec 26) (ecc : Fin 3)
  /-- WAIT (R276): The core stops until a doorbell arrives. -/
  | wait (core : Fin 272) (w : BitVec 26) (ecc : Fin 3)
  /-- TRAP (R280): A SOFT trap is taken with its code. -/
  | trap (core : Fin 272) (w : BitVec 26) (ecc : Fin 3)
  /-- DI (R273): IMASK is set from the next instruction. -/
  | di (core : Fin 272) (w : BitVec 26) (ecc : Fin 3)
  /-- EI (R273): IMASK is cleared from the next instruction. -/
  | ei (core : Fin 272) (w : BitVec 26) (ecc : Fin 3)
  /-- PMCTL_UNLOCK_ALL (R259): Every locked program-memory line is unlocked. -/
  | pmctlUnlockAll (core : Fin 272) (w : BitVec 26) (ecc : Fin 3)
  /-- PMCTL_LOCK (R259): The program-memory line that holds the address in Pn is locked. -/
  | pmctlLock (core : Fin 272) (w : BitVec 26) (ecc : Fin 3)
  /-- PMCTL_INVALIDATE (R259): Every unlocked program-memory line is invalidated. -/
  | pmctlInvalidate (core : Fin 272) (w : BitVec 26) (ecc : Fin 3)
  /-- MOVI (R273): Dd is loaded with a 32-bit immediate. -/
  | movi (core : Fin 272) (w : BitVec 26) (imm : W32) (ecc : Fin 3)
  /-- JMPL (R273): A jump to an absolute target with two delay slots. -/
  | jmpl (core : Fin 272) (w : BitVec 26) (imm : W32) (ecc : Fin 3)
  /-- CALLL (R273): A call to an absolute target with two delay slots. -/
  | calll (core : Fin 272) (w : BitVec 26) (imm : W32) (ecc : Fin 3)
  /-- LDX (R273): A 32-bit load from an absolute address. -/
  | ldx (core : Fin 272) (w : BitVec 26) (imm : W32) (ecc : LoadEcc)
  /-- STX (R273): A 32-bit store to an absolute address. -/
  | stx (core : Fin 272) (w : BitVec 26) (imm : W32) (ecc : Fin 3)
  /-- LDDX (R273): A 64-bit load from an absolute address. -/
  | lddx (core : Fin 272) (w : BitVec 26) (imm : W32) (ecc : LoadEcc)
  /-- STDX (R273): A 64-bit store to an absolute address. -/
  | stdx (core : Fin 272) (w : BitVec 26) (imm : W32) (ecc : Fin 3)
  /-- DOORBELL (R276): A doorbell starts a waiting core, or pre-empts a running one by pushing the return stack and vectoring. -/
  | doorbell (core : Fin 273)
  /-- RES_READ (R282): A core's load of RES[t] returns a request's result and clears DONE. -/
  | resRead (core : Fin 272) (tag : Fin 8)
  /-- MOVE_GO (R283): A core issues a move between a Cloakroom buffer and local memory, or it is discarded. -/
  | moveGo (core : Fin 272) (desc : Bytes)
  /-- MOVE_COMPLETE (R283): A move ends, copied or failed, and MOVE_DONE advances. -/
  | moveComplete (move : MoveEnd)
  /-- CORE_ITEM_WATCHDOG (R448): A core's item has run for the watchdog time without DONE, so the core is halted and its flows fenced. -/
  | coreItemWatchdog (core : Fin 272)
  /-- DSP_CNT_CLR (R286): A write of 1 to COUNTERS clears every DSP_CNT and CORRECTED together. -/
  | dspCntClr (cluster : Fin 17)
  /-- ITEM_POST (R289): A hardware producer posts a work item, which joins its flow or becomes active. -/
  | itemPost (type : Nat) (source : Fin 32) (flow : Nat) (prio : Nat) (payload : Bytes)
  /-- POST_GO (R295): A core posts a firmware item, which is accepted or refused with BUSY, BAD_ITEM or FENCED. -/
  | postGo (core : Fin 273) (item : Bytes)
  /-- ITEM_DONE_OK (R289): A core completes its running item OK, and the flow's next item becomes active. -/
  | itemDoneOk (core : Fin 273)
  /-- ITEM_DONE_FAILED (R296): A core completes its running item FAILED, and the flow is fenced. -/
  | itemDoneFailed (core : Fin 273)
  /-- DOC_SWAP (R298): A write of DOC_SWAP starts a swap of a logical slot to the standby cluster by reloading the standby. -/
  | docSwap (v : W32)
  /-- SWAP_REMAP (R298): Once all standby cores are in WAIT, the slot is remapped and the source's ready items are reassigned. -/
  | swapRemap
  /-- SWAP_DRAIN_DONE (R298): The source's last item completes and the source's reload starts. -/
  | swapDrainDone
  /-- SWAP_DRAIN_TIMEOUT (R298): 20 ms after the remap, items still on the source are ended as FAILED and their flows fenced. -/
  | swapDrainTimeout
  /-- SWAP_SOURCE_RELOADED (R298): The source cluster finishes reloading and becomes the standby. -/
  | swapSourceReloaded
  /-- DOC_FENCE_CLR (R296): A write clears the fence of the named flow. -/
  | docFenceClr (v : W32)
  /-- DOC_CNT_CLR (R299): A write of 1 to COUNTERS clears every DOC_CNT together. -/
  | docCntClr
  /-- JITTER_ACCEPT (R302): An audio packet is mapped onto ticks and accepted into the jitter buffer or released. -/
  | jitterAccept (stream : Fin 131072)
  /-- AUDIO_TICK (R313): At each tick start, talker selection runs and decode and tick items are posted. -/
  | audioTick
  /-- MIX_POINT (R313): At t0 + MIX_POINT the fabric mixes the decoded frames, forms the variants and posts encode items. -/
  | mixPoint (conf : Fin 4096)
  /-- AFB_CNT_CLR (R326): A write of 1 to COUNTERS clears every AFB_CNT together. -/
  | afbCntClr
  /-- PEER_HELLO_SEND (R429): Every 500 ms a peer HELLO is sent on the lowest-indexed peer leg to each device. -/
  | peerHelloSend
  /-- PEER_HELLO (R429): A received peer HELLO is negotiated and may bring the peer UP or INCOMPATIBLE. -/
  | peerHello
  /-- PEER_LOST (R431): A peer without refresh for 2.0 to 2.1 s is declared LOST and an event is sent. -/
  | peerLost (device : Fin 1024)
  /-- CUR_CAS_CNT_CLR (R438): A write of 1 to COUNTERS clears every CUR_CAS_CNT together. -/
  | curCasCntClr
  /-- ASSEMBLE_PACKET (R331): The assembler depacketises one packet into its access unit and releases it. -/
  | assemblePacket (stream : Fin 131072)
  /-- AU_WAIT_EXPIRY (R332): AU_WAIT after its first packet, an open access unit closes. -/
  | auWaitExpiry (stream : Fin 131072)
  /-- PICTURE_START (R335): An engine takes the next context's access unit into stage 1 and pages the context in. -/
  | pictureStart (engine : Fin 4) (pic : PicHead)
  /-- PICTURE_DONE (R343): A picture completes with its outcome, moving anchors, state and the presented picture. -/
  | pictureDone (engine : Fin 4) (result : PicDone)
  /-- CONTEXT_MIGRATE (R346): At its next frame boundary a context moves to the engine named by OBJ_MODIFY. -/
  | contextMigrate (stream : Fin 131072)
  /-- VDE_CNT_CLR (R350): A write of 1 to COUNTERS clears every VDE_CNT of the engine together. -/
  | vdeCntClr (engine : Fin 4)
  /-- VDE_PG_CNT_CLR_COUNTERS (R351): A write of 1 to COUNTERS clears every VDE_PG_CNT together. -/
  | vdePgCntClrCounters
  /-- VDE_PG_CNT_CLR_LOW (R351): A write of 1 to LOW sets VDE_PG_LOW to VDE_PG_FREE. -/
  | vdePgCntClrLow
  /-- FRAME_DUE (R361): A surface's frame falls due, and is queued on its pipeline or skipped. -/
  | frameDue (output : Fin 16384)
  /-- FRAME_BEGIN (R362): A pipeline begins a frame: it latches the layout, resolves and checks layers, takes holds and takes pages. -/
  | frameBegin (pipe : Fin 4)
  /-- BLOCK_ROW_DONE (R370): A finished block row goes to the encoder's row buffer and to the surface store, and the last row ends the frame. -/
  | blockRowDone (pipe : Fin 4)
  /-- CMP_COEF_WRITE (R375): A MAINTAIN write of scaler coefficients is accepted only when every touched phase sums to 64. -/
  | cmpCoefWrite (luma : List (Fin 128 × W32)) (chroma : List (Fin 64 × W32))
  /-- CMP_CNT_CLR (R376): A write of 1 to COUNTERS clears every CMP_CNT together. -/
  | cmpCntClr
  /-- ENCODE_ROW (R388): An engine codes a block row at its q, entering floor mode when the cap would be passed. -/
  | encodeRow (engine : Fin 4) (rows : List EncRow)
  /-- PACKETISE (R393): The packetiser cuts coded frame data into RTP packets for the Forwarder. -/
  | packetise (output : Fin 16384)
  /-- VEN_CNT_CLR (R401): A write of 1 to COUNTERS clears every VEN_CNT of the engine together. -/
  | venCntClr (engine : Fin 4)
  /-- MEMORY_READ (R416): A burst read is served, corrected and written back, or returned poisoned. -/
  | memoryRead (source : BitVec 16) (addr : Nat) (len : Nat) (faults : List BurstFault) (grants : List (Fin 48))
  /-- MEMORY_WRITE (R403): A burst write, or a partial write as a read-modify-write, is carried out and acknowledged. -/
  | memoryWrite (source : BitVec 16) (addr : Nat) (data : Bytes) (faults : List BurstFault) (grants : List (Fin 48))
  /-- REFRESH (R413): A bank is refreshed at the interval its temperature requires. -/
  | refresh (channel : Fin 48) (bank : Fin 16)
  /-- RETRAIN_VISIT (R414): Every 2,083.3 µs the next channel pauses for up to 400 ns and is retrained by one step. -/
  | retrainVisit (read : BitVec 8) (write : BitVec 8)
  /-- SCRUB_STEP (R418): The patrol scrub reads a burst, correcting or marking it. -/
  | scrubStep (channel : Fin 48) (step : ScrubRead)
  /-- DEVICE_POWER_DOWN (R419): A device idle for PD_US enters power-down. -/
  | devicePowerDown (device : Fin 12)
  /-- MCT_CNT_CLR (R420): A write of 1 to COUNTERS clears every MCT_CNT together. -/
  | mctCntClr
  /-- SUPERVISOR_DECISION (R456): The supervisor decides on a reported trigger between part out of service, RECOVERY, warm reset and SAFE_STOP. -/
  | supervisorDecision (faults : List Trigger)
  /-- CHP_LEG_ISO_CLR (R443): A write ends the named leg's isolation and clears its hit history. -/
  | chpLegIsoClr (v : W32)
  /-- SELFTEST_ROUND (R445): Every 5 ms each checker judges an injected failing input, and a pass leads to SAFE_STOP. -/
  | selftestRound (passed : List (Fin 8))
  /-- BLOCK_WATCHDOG_EXPIRY (R447): A block's watchdog expires, WDT is set and the wing resets the block. -/
  | blockWatchdogExpiry (wing : Nat) (watch : BlockWatch)
  /-- HEARTBEAT (R449): Every 100 ms the supervisor sends a heartbeat to each wing controller. -/
  | heartbeat (silent : List (Fin 5))
  /-- HEARTBEAT_MISS (R449): A heartbeat unanswered after 100 ms sets HB_MISS and is a wing failure. -/
  | heartbeatMiss (wing : Fin 5)
  /-- WDT_SERVICE_POST (R450): Every 500 ms the supervisor posts a WDT_SERVICE item with a fresh token. -/
  | wdtServicePost
  /-- CHP_WDT_KICK (R450): A write of the matching token restarts the chip watchdog; any other value is counted. -/
  | chpWdtKick (v : W32)
  /-- CHIP_WATCHDOG_EXPIRY (R450): The chip watchdog expires, and the processor takes a warm reset. -/
  | chipWatchdogExpiry
  /-- TEMP_SAMPLE (R451): Every 1 ms the temperature sensors are sampled and checked, and THERM_N is driven. -/
  | tempSample (readings : List Int)
  /-- THROTTLE_RISE (R452): After each 100 ms at or above THROTTLE the throttle level rises by one and limits are lowered. -/
  | throttleRise
  /-- THROTTLE_FALL (R452): After each 1 s below THROTTLE − 5 °C the throttle level falls by one. -/
  | throttleFall
  /-- VOLTAGE_SAMPLE (R453): Every 10 µs the rails are sampled, setting WARN or leading to SAFE_STOP. -/
  | voltageSample (readings : List Nat)
  /-- PROCESS_SAMPLE (R454): Every 1 s the ring oscillators are counted, and drift is flagged. -/
  | processSample (readings : List Nat)
  /-- I2C_READ (R478): The I²C target answers a read from its register pointer, latching each word whole. -/
  | i2cRead (addr : Nat) (ptr : Option (BitVec 13)) (count : Nat)
  /-- I2C_WRITE (R478): An I²C write sets the register pointer, and any further data byte is not acknowledged. -/
  | i2cWrite (addr : Nat) (ptr : BitVec 13) (data : Bytes)
  /-- BYPASS (R480): The TAP BYPASS instruction. -/
  | bypass
  /-- IDCODE (R480): The TAP IDCODE instruction, selected at TAP reset. -/
  | idcode
  /-- SAMPLE_PRELOAD (R480): The TAP SAMPLE/PRELOAD instruction. -/
  | samplePreload (cells : List Bool)
  /-- EXTEST (R480): The TAP EXTEST instruction, acting in SAFE_STOP only. -/
  | extest
  /-- CLAMP (R480): The TAP CLAMP instruction, acting in SAFE_STOP only. -/
  | clamp
  /-- HIGHZ (R480): The TAP HIGHZ instruction, acting in SAFE_STOP only. -/
  | highz
  /-- EXTEST_PULSE (R480): The TAP EXTEST_PULSE instruction, acting in SAFE_STOP only. -/
  | extestPulse
  /-- EXTEST_TRAIN (R480): The TAP EXTEST_TRAIN instruction, acting in SAFE_STOP only. -/
  | extestTrain
  /-- DEBUG_INSTRUCTION (R480): A TAP debug instruction, acting only in BLANK, PROVISIONED and RETURNED. -/
  | debugInstruction (opcode : BitVec 8)
  /-- TAP_RESET (R480): TRST_N low, or five TCK cycles with TMS high, resets the TAP without affecting the mode. -/
  | tapReset
  /-- LANE_REFERENCE_PRESENT (R25): A lost lane reference clock pair starts toggling again, so its LANEREF bit in CHP_CLK_LOCK reads present and the 24 lanes it serves can relock and renegotiate. -/
  | laneReferencePresent (k : Fin 4)
  /-- CURATOR_FIRMWARE_RESTARTED (R95): Within 50 ms of applying CURATOR_CODE, the Curator firmware finishes its restart and JCP datagrams are again accepted instead of being dropped under R75. -/
  | curatorFirmwareRestarted
  /-- RAIL_STEP_TIMEOUT (R468): A rail that has not reached ±3 % of nominal within 5 ms of its step's start stops the rail sequence, which leads to the 100 ms retry. -/
  | railStepTimeout (rail : Nat)
  deriving DecidableEq, Repr

end Sys2Proof
end

