-- ==== Sys2Proof/Config.lean ====
section
/-!
DEFINITION. What an implementation fixes and the specification leaves open: the free values. None has a body that a
proof could see: a statement about one of them holds whatever it is.
-/

namespace Sys2Proof.Config

/-- A value that the specification leaves open, drawn fresh: the number is the draw (`State.draws`), the width the
value's. DESIGN CHOICE (log 1). -/
opaque freeBits (draw width : Nat) : Nat

/-- The public key of Svaori's test key in boot ROM (R67): QX and QY, 96 bytes. Its value is not published (log 2). -/
opaque testKey : Bytes

/-- Where the wipe sampler's shift register looks (R51): of the unit `unit` (1 MiB of GDDR7, memory 0; 4 KiB of an SRAM,
memory 1 + its number) the burst or word sampled, from the seed of this wipe. The register's polynomial is not given
(log 82). -/
opaque wipeSample (seed mem unit : Nat) : Nat

/-- How much of a block reset the wipe takes, in ns, from the block (wing · 256 + number) and the moment of the reset: R21
gives no split between wiping and restoring (log 13). -/
opaque wipeShare (block at_ : Nat) : Nat

/-- What the timebase servo makes of a PPS edge: the new 32.32 increment from the PTP section's settings, the stamp and
the present increment (R27, R475; the servo's law is not given: log 3). -/
opaque servoIncrement (settings : Bytes) (stamp : Nat) (increment : Nat) : Nat

/-- The class of a requester port that R412 places by what it does and not by its block: the Vault's job ports, an engine's
data and packetiser ports, ports that the table does not list. Their numbers are not given (log 74). -/
opaque latencyPort (source : Nat) : Bool

end Sys2Proof.Config
end

