-- ==== Sys2Proof/Machine/Bytes.lean ====
section
/-!
DEFINITION. Byte strings: fields in network byte order (R72) and in little-endian order (R62), slices, padding.
-/

namespace Sys2Proof.Machine

/-- The byte of a number. -/
def byteOf (n : Nat) : Byte := BitVec.ofNat 8 n

/-- Byte `i` of a string, 0 past its end. -/
def byteAt (b : Bytes) (i : Nat) : Byte := b.getD i 0

/-- Byte `i` as a number. -/
def byteN (b : Bytes) (i : Nat) : Nat := (byteAt b i).toNat

/-- A slice of `n` bytes from offset `i` (shorter where the string ends). -/
def slice (b : Bytes) (i n : Nat) : Bytes := (b.drop i).take n

/-- The value of a string read most significant byte first. -/
def beNat (b : Bytes) : Nat := b.foldl (fun a x => a * 256 + x.toNat) 0

/-- The value of a string read least significant byte first. -/
def leNat : Bytes → Nat
  | [] => 0
  | x :: r => x.toNat + 256 * leNat r

/-- A number in `n` bytes, least significant first. -/
def leBytes : Nat → Nat → Bytes
  | 0, _ => []
  | n + 1, v => byteOf v :: leBytes n (v / 256)

/-- A number in `n` bytes, most significant first. -/
def beBytes (n v : Nat) : Bytes := (leBytes n v).reverse

/-- A big-endian field of `n` bytes at offset `i`, bytes past the end read as 0. -/
def beField (b : Bytes) (i n : Nat) : Nat :=
  (List.range n).foldl (fun a k => a * 256 + byteN b (i + k)) 0

/-- A little-endian field of `n` bytes at offset `i`, bytes past the end read as 0. -/
def leField (b : Bytes) : Nat → Nat → Nat
  | _, 0 => 0
  | i, n + 1 => byteN b i + 256 * leField b (i + 1) n

/-- `n` zero bytes. -/
def zeros (n : Nat) : Bytes := List.replicate n 0

/-- The string padded with zero bytes to a multiple of `m`. -/
def padTo (m : Nat) (b : Bytes) : Bytes := b ++ zeros ((m - b.length % m) % m)

/-- The string cut or zero-padded at its end to `n` bytes. -/
def fitTo (n : Nat) (b : Bytes) : Bytes := b.take n ++ zeros (n - b.length)

/-- Are all bytes 0. -/
def allZero (b : Bytes) : Bool := b.all (· == 0)

/-- Bitwise exclusive or of two strings, as long as the shorter. -/
def xorBytes (a b : Bytes) : Bytes := List.zipWith (· ^^^ ·) a b

/-- Replace bytes of a string from offset `i` on. -/
def patch (b : Bytes) (i : Nat) (v : Bytes) : Bytes :=
  b.take i ++ v ++ b.drop (i + v.length)

/-- A bit of a word as a flag. -/
def bitN (n i : Nat) : Bool := n / 2 ^ i % 2 == 1

/-- A field of a word: `len` bits from bit `lo`. -/
def fld (v : W32) (lo len : Nat) : Nat := v.toNat / 2 ^ lo % 2 ^ len

/-- Replace a field of a word. -/
def setFld (v : W32) (lo len n : Nat) : W32 :=
  let msk : W32 := BitVec.ofNat 32 ((2 ^ len - 1) * 2 ^ lo)
  (v &&& ~~~ msk) ||| (BitVec.ofNat 32 (n % 2 ^ len * 2 ^ lo))

/-- A flag as a number. -/
def b2n (b : Bool) : Nat := if b then 1 else 0

/-- The number a two's-complement field of `w` bits stands for. -/
def sgn (w n : Nat) : Int := if n % 2 ^ w < 2 ^ (w - 1) then (n % 2 ^ w : Nat) else (n % 2 ^ w : Nat) - (2 ^ w : Nat)

/-- A signed number as a field of `w` bits. -/
def unsgn (w : Nat) (z : Int) : Nat := (z % (2 ^ w : Nat)).toNat

/-- Rounding up of a quotient. -/
def cdiv (a b : Nat) : Nat := (a + b - 1) / b

end Sys2Proof.Machine
end

