-- ==== Sys2Proof/Machine/Sha.lean ====
section
/-!
DEFINITION. The hash functions the specification names: SHA-1 and HMAC-SHA1 (R150), SHA-256 and HMAC-SHA-256 (R74, R77),
SHA-384 (R67), and the checks CRC-32C (R62, R64) and CRC-32 (R138).
-/

namespace Sys2Proof.Machine

/-- The big-endian 32-bit words of a string. -/
def words32 : Bytes → List W32
  | a :: b :: c :: d :: r => (a ++ b ++ c ++ d) :: words32 r
  | _ => []

/-- The big-endian 64-bit words of a string. -/
def words64 : Bytes → List W64
  | a :: b :: c :: d :: e :: f :: g :: h :: r => (a ++ b ++ c ++ d ++ e ++ f ++ g ++ h) :: words64 r
  | _ => []

/-- A 32-bit word in four bytes, most significant first. -/
def word32Bytes (w : W32) : Bytes := beBytes 4 w.toNat

/-- A 64-bit word in eight bytes, most significant first. -/
def word64Bytes (w : W64) : Bytes := beBytes 8 w.toNat

/-- Cut a list into blocks of `n` items; `fuel` bounds the number of blocks. -/
def chunks {α : Type} (n : Nat) : Nat → List α → List (List α)
  | 0, _ => []
  | fuel + 1, l => match l with
    | [] => []
    | a :: r => (a :: r).take n :: chunks n fuel ((a :: r).drop n)

/-- The padding of SHA-1 and SHA-256: a 1 bit, zeros, the length in bits in 8 bytes, to blocks of 64 bytes. -/
def pad64 (total : Nat) (b : Bytes) : Bytes :=
  b ++ [0x80] ++ zeros ((64 - (total + 9) % 64) % 64) ++ beBytes 8 (8 * total)

/-- The padding of SHA-384: a 1 bit, zeros, the length in bits in 16 bytes, to blocks of 128 bytes. -/
def pad128 (b : Bytes) : Bytes :=
  b ++ [0x80] ++ zeros ((128 - (b.length + 17) % 128) % 128) ++ beBytes 16 (8 * b.length)

/-- The state of SHA-1. -/
structure Sha1St where
  a : W32
  b : W32
  c : W32
  d : W32
  e : W32
  deriving DecidableEq, Repr

/-- The initial state of SHA-1. -/
def sha1Init : Sha1St := ⟨0x67452301, 0xEFCDAB89, 0x98BADCFE, 0x10325476, 0xC3D2E1F0⟩

/-- The next schedule word of SHA-1, from the words so far, newest first. -/
def sha1Next (w : List W32) : W32 :=
  (w.getD 2 0 ^^^ w.getD 7 0 ^^^ w.getD 13 0 ^^^ w.getD 15 0).rotateLeft 1

/-- Extend a schedule, newest word first. -/
def extendSched {α : Type} (f : List α → α) : Nat → List α → List α
  | 0, w => w
  | n + 1, w => extendSched f n (f w :: w)

/-- The round function and constant of SHA-1's round `t`. -/
def sha1F (t : Nat) (b c d : W32) : W32 :=
  if t < 20 then ((b &&& c) ||| (~~~ b &&& d)) + 0x5A827999
  else if t < 40 then (b ^^^ c ^^^ d) + 0x6ED9EBA1
  else if t < 60 then ((b &&& c) ||| (b &&& d) ||| (c &&& d)) + 0x8F1BBCDC
  else (b ^^^ c ^^^ d) + 0xCA62C1D6

/-- The rounds of SHA-1 over a schedule, from round `t`. -/
def sha1Rounds : Nat → List W32 → Sha1St → Sha1St
  | _, [], s => s
  | t, w :: r, s =>
    sha1Rounds (t + 1) r ⟨s.a.rotateLeft 5 + sha1F t s.b s.c s.d + s.e + w, s.a, s.b.rotateLeft 30, s.c, s.d⟩

/-- One block of SHA-1. -/
def sha1Block (s : Sha1St) (blk : Bytes) : Sha1St :=
  let r := sha1Rounds 0 (extendSched sha1Next 64 (words32 blk).reverse).reverse s
  ⟨s.a + r.a, s.b + r.b, s.c + r.c, s.d + r.d, s.e + r.e⟩

/-- SHA-1 over whole blocks from a state. -/
def sha1Blocks (s : Sha1St) (b : Bytes) : Sha1St := (chunks 64 (b.length / 64) b).foldl sha1Block s

/-- A SHA-1 state as 20 bytes. -/
def sha1Out (s : Sha1St) : Bytes :=
  word32Bytes s.a ++ word32Bytes s.b ++ word32Bytes s.c ++ word32Bytes s.d ++ word32Bytes s.e

/-- The state of SHA-1 that 20 bytes hold. -/
def sha1In (b : Bytes) : Sha1St :=
  match words32 b with
  | [p, q, r, s, t] => ⟨p, q, r, s, t⟩
  | _ => sha1Init

/-- SHA-1. -/
def sha1 (b : Bytes) : Bytes := sha1Out (sha1Blocks sha1Init (pad64 b.length b))

/-- The state of SHA-1 after the HMAC key block xored with `x`: the inner (0x36) or outer (0x5C) state of R154. -/
def hmacSha1State (x : Byte) (key : Bytes) : Sha1St :=
  let k := fitTo 64 (if key.length > 64 then sha1 key else key)
  sha1Block sha1Init (k.map (· ^^^ x))

/-- HMAC-SHA1 from the inner and outer states (R154), 20 bytes. -/
def hmacSha1From (inner outer : Sha1St) (b : Bytes) : Bytes :=
  let i := sha1Out (sha1Blocks inner (pad64 (64 + b.length) b))
  sha1Out (sha1Blocks outer (pad64 84 i))

/-- HMAC-SHA1, 20 bytes. -/
def hmacSha1 (key b : Bytes) : Bytes := hmacSha1From (hmacSha1State 0x36 key) (hmacSha1State 0x5C key) b

/-- The eight words of a SHA-2 state. -/
structure ShaSt (w : Nat) where
  a : BitVec w
  b : BitVec w
  c : BitVec w
  d : BitVec w
  e : BitVec w
  f : BitVec w
  g : BitVec w
  h : BitVec w
  deriving DecidableEq, Repr

/-- One round of SHA-2 with the two sum functions, the round constant and the schedule word. -/
def sha2Round {w : Nat} (s0 s1 : BitVec w → BitVec w) (s : ShaSt w) (kw : BitVec w × BitVec w) : ShaSt w :=
  let t1 := s.h + s1 s.e + ((s.e &&& s.f) ^^^ (~~~ s.e &&& s.g)) + kw.1 + kw.2
  let t2 := s0 s.a + ((s.a &&& s.b) ^^^ (s.a &&& s.c) ^^^ (s.b &&& s.c))
  ⟨t1 + t2, s.a, s.b, s.c, s.d + t1, s.e, s.f, s.g⟩

/-- The sum of two SHA-2 states. -/
def shaAdd {w : Nat} (s r : ShaSt w) : ShaSt w :=
  ⟨s.a + r.a, s.b + r.b, s.c + r.c, s.d + r.d, s.e + r.e, s.f + r.f, s.g + r.g, s.h + r.h⟩

/-- The round constants of SHA-256. -/
def k256 : List W32 :=
  [0x428A2F98, 0x71374491, 0xB5C0FBCF, 0xE9B5DBA5, 0x3956C25B, 0x59F111F1, 0x923F82A4, 0xAB1C5ED5] ++
  [0xD807AA98, 0x12835B01, 0x243185BE, 0x550C7DC3, 0x72BE5D74, 0x80DEB1FE, 0x9BDC06A7, 0xC19BF174] ++
  [0xE49B69C1, 0xEFBE4786, 0x0FC19DC6, 0x240CA1CC, 0x2DE92C6F, 0x4A7484AA, 0x5CB0A9DC, 0x76F988DA] ++
  [0x983E5152, 0xA831C66D, 0xB00327C8, 0xBF597FC7, 0xC6E00BF3, 0xD5A79147, 0x06CA6351, 0x14292967] ++
  [0x27B70A85, 0x2E1B2138, 0x4D2C6DFC, 0x53380D13, 0x650A7354, 0x766A0ABB, 0x81C2C92E, 0x92722C85] ++
  [0xA2BFE8A1, 0xA81A664B, 0xC24B8B70, 0xC76C51A3, 0xD192E819, 0xD6990624, 0xF40E3585, 0x106AA070] ++
  [0x19A4C116, 0x1E376C08, 0x2748774C, 0x34B0BCB5, 0x391C0CB3, 0x4ED8AA4A, 0x5B9CCA4F, 0x682E6FF3] ++
  [0x748F82EE, 0x78A5636F, 0x84C87814, 0x8CC70208, 0x90BEFFFA, 0xA4506CEB, 0xBEF9A3F7, 0xC67178F2]

/-- The initial state of SHA-256. -/
def sha256Init : ShaSt 32 :=
  ⟨0x6A09E667, 0xBB67AE85, 0x3C6EF372, 0xA54FF53A, 0x510E527F, 0x9B05688C, 0x1F83D9AB, 0x5BE0CD19⟩

/-- The next schedule word of SHA-256, from the words so far, newest first. -/
def sha256Next (w : List W32) : W32 :=
  let x := w.getD 14 0
  let y := w.getD 1 0
  w.getD 15 0 + (x.rotateRight 7 ^^^ x.rotateRight 18 ^^^ (x >>> 3)) + w.getD 6 0
    + (y.rotateRight 17 ^^^ y.rotateRight 19 ^^^ (y >>> 10))

/-- One block of SHA-256. -/
def sha256Block (s : ShaSt 32) (blk : Bytes) : ShaSt 32 :=
  let sched := (extendSched sha256Next 48 (words32 blk).reverse).reverse
  shaAdd s ((List.zip k256 sched).foldl
    (sha2Round (fun x => x.rotateRight 2 ^^^ x.rotateRight 13 ^^^ x.rotateRight 22)
      (fun x => x.rotateRight 6 ^^^ x.rotateRight 11 ^^^ x.rotateRight 25)) s)

/-- SHA-256. -/
def sha256 (b : Bytes) : Bytes :=
  let p := pad64 b.length b
  let s := (chunks 64 (p.length / 64) p).foldl sha256Block sha256Init
  [s.a, s.b, s.c, s.d, s.e, s.f, s.g, s.h].flatMap word32Bytes

/-- HMAC-SHA-256 (R74). -/
def hmacSha256 (key b : Bytes) : Bytes :=
  let k := fitTo 64 (if key.length > 64 then sha256 key else key)
  sha256 (k.map (· ^^^ 0x5C) ++ sha256 (k.map (· ^^^ 0x36) ++ b))

/-- The round constants of SHA-384. -/
def k512 : List W64 :=
  [0x428A2F98D728AE22, 0x7137449123EF65CD, 0xB5C0FBCFEC4D3B2F, 0xE9B5DBA58189DBBC] ++
  [0x3956C25BF348B538, 0x59F111F1B605D019, 0x923F82A4AF194F9B, 0xAB1C5ED5DA6D8118] ++
  [0xD807AA98A3030242, 0x12835B0145706FBE, 0x243185BE4EE4B28C, 0x550C7DC3D5FFB4E2] ++
  [0x72BE5D74F27B896F, 0x80DEB1FE3B1696B1, 0x9BDC06A725C71235, 0xC19BF174CF692694] ++
  [0xE49B69C19EF14AD2, 0xEFBE4786384F25E3, 0x0FC19DC68B8CD5B5, 0x240CA1CC77AC9C65] ++
  [0x2DE92C6F592B0275, 0x4A7484AA6EA6E483, 0x5CB0A9DCBD41FBD4, 0x76F988DA831153B5] ++
  [0x983E5152EE66DFAB, 0xA831C66D2DB43210, 0xB00327C898FB213F, 0xBF597FC7BEEF0EE4] ++
  [0xC6E00BF33DA88FC2, 0xD5A79147930AA725, 0x06CA6351E003826F, 0x142929670A0E6E70] ++
  [0x27B70A8546D22FFC, 0x2E1B21385C26C926, 0x4D2C6DFC5AC42AED, 0x53380D139D95B3DF] ++
  [0x650A73548BAF63DE, 0x766A0ABB3C77B2A8, 0x81C2C92E47EDAEE6, 0x92722C851482353B] ++
  [0xA2BFE8A14CF10364, 0xA81A664BBC423001, 0xC24B8B70D0F89791, 0xC76C51A30654BE30] ++
  [0xD192E819D6EF5218, 0xD69906245565A910, 0xF40E35855771202A, 0x106AA07032BBD1B8] ++
  [0x19A4C116B8D2D0C8, 0x1E376C085141AB53, 0x2748774CDF8EEB99, 0x34B0BCB5E19B48A8] ++
  [0x391C0CB3C5C95A63, 0x4ED8AA4AE3418ACB, 0x5B9CCA4F7763E373, 0x682E6FF3D6B2B8A3] ++
  [0x748F82EE5DEFB2FC, 0x78A5636F43172F60, 0x84C87814A1F0AB72, 0x8CC702081A6439EC] ++
  [0x90BEFFFA23631E28, 0xA4506CEBDE82BDE9, 0xBEF9A3F7B2C67915, 0xC67178F2E372532B] ++
  [0xCA273ECEEA26619C, 0xD186B8C721C0C207, 0xEADA7DD6CDE0EB1E, 0xF57D4F7FEE6ED178] ++
  [0x06F067AA72176FBA, 0x0A637DC5A2C898A6, 0x113F9804BEF90DAE, 0x1B710B35131C471B] ++
  [0x28DB77F523047D84, 0x32CAAB7B40C72493, 0x3C9EBE0A15C9BEBC, 0x431D67C49C100D4C] ++
  [0x4CC5D4BECB3E42B6, 0x597F299CFC657E2A, 0x5FCB6FAB3AD6FAEC, 0x6C44198C4A475817]

/-- The initial state of SHA-384. -/
def sha384Init : ShaSt 64 :=
  ⟨0xCBBB9D5DC1059ED8, 0x629A292A367CD507, 0x9159015A3070DD17, 0x152FECD8F70E5939, 0x67332667FFC00B31, 0x8EB44A8768581511, 0xDB0C2E0D64F98FA7, 0x47B5481DBEFA4FA4⟩

/-- The next schedule word of SHA-384, from the words so far, newest first. -/
def sha384Next (w : List W64) : W64 :=
  let x := w.getD 14 0
  let y := w.getD 1 0
  w.getD 15 0 + (x.rotateRight 1 ^^^ x.rotateRight 8 ^^^ (x >>> 7)) + w.getD 6 0
    + (y.rotateRight 19 ^^^ y.rotateRight 61 ^^^ (y >>> 6))

/-- One block of SHA-384. -/
def sha384Block (s : ShaSt 64) (blk : Bytes) : ShaSt 64 :=
  let sched := (extendSched sha384Next 64 (words64 blk).reverse).reverse
  shaAdd s ((List.zip k512 sched).foldl
    (sha2Round (fun x => x.rotateRight 28 ^^^ x.rotateRight 34 ^^^ x.rotateRight 39)
      (fun x => x.rotateRight 14 ^^^ x.rotateRight 18 ^^^ x.rotateRight 41)) s)

/-- SHA-384 (R67). -/
def sha384 (b : Bytes) : Bytes :=
  let p := pad128 b
  let s := (chunks 128 (p.length / 128) p).foldl sha384Block sha384Init
  [s.a, s.b, s.c, s.d, s.e, s.f].flatMap word64Bytes

/-- One bit of a reflected CRC with polynomial `poly`. -/
def crcBit (poly : W32) (c : W32) : W32 := if c.getLsbD 0 then (c >>> 1) ^^^ poly else c >>> 1

/-- One byte of a reflected CRC. -/
def crcByte (poly : W32) (c : W32) (b : Byte) : W32 :=
  (List.range 8).foldl (fun x _ => crcBit poly x) (c ^^^ b.setWidth 32)

/-- A reflected 32-bit CRC, preset and inverted. -/
def crc32Of (poly : W32) (b : Bytes) : W32 := ~~~ (b.foldl (crcByte poly) 0xFFFFFFFF)

/-- CRC-32C (R62, R64). -/
def crc32c (b : Bytes) : W32 := crc32Of 0x82F63B78 b

/-- CRC-32, the Ethernet polynomial (R138, and a frame's FCS). -/
def crc32 (b : Bytes) : W32 := crc32Of 0xEDB88320 b

/-- CRC-16 with polynomial 0x1021, preset `init`, most significant bit first (R155). -/
def crc16 (init : W16) (b : Bytes) : W16 :=
  b.foldl (fun (c : W16) (x : Byte) =>
    (List.range 8).foldl (fun (y : W16) _ => if y.getLsbD 15 then (y <<< 1) ^^^ 0x1021 else y <<< 1)
      (c ^^^ ((x.setWidth 16) <<< (8 : Nat)))) init

end Sys2Proof.Machine
end

