-- ==== Sys2Proof/Machine/RegMap.lean ====
section
/-!
DEFINITION. The control-space register map: every register the chapters' register tables name, with its block, its
place, and the bits of each type of R8. Addresses follow R18; the unmapped rule R19 is `mappedAddr`.
-/

namespace Sys2Proof.Machine

/-- The register blocks of the address map of R18, the wing controllers of R21 among them. -/
inductive Blk where
  | wing
  | cur
  | mon
  | sup
  | clk
  | atr
  | rgs
  | vlt
  | fwd
  | tmg
  | doc
  | afb
  | dsp
  | vde
  | ven
  | cmp
  | pgr
  | mct
  | clo
  | stk
  deriving DecidableEq, Repr

/-- Where a kind of block sits (R18): wing and first block number, the address step from one unit of the kind to the
next, the number of units, and the highest register's offset as the owning chapter gives it. -/
structure BlkInfo where
  wing : Nat
  num : Nat
  step : Nat
  units : Nat
  top : Nat
  deriving DecidableEq, Repr

/-- The address map of R18 with each block's highest register (R19). -/
def blkInfo : Blk → BlkInfo
  | .wing => ⟨1, 0, 0x10000000, 4, 0x2ffc⟩
  | .cur => ⟨0, 0, 0, 1, 0x1ffc⟩
  | .mon => ⟨0, 0x1, 0, 1, 0x22c⟩
  | .sup => ⟨0, 0x2, 0, 1, 0x13fc⟩
  | .clk => ⟨0, 0x3, 0, 1, 0x1c⟩
  | .atr => ⟨1, 0x1, 0, 1, 0x6ffc⟩
  | .rgs => ⟨1, 0x2, 0, 1, 0x4fffc⟩
  | .vlt => ⟨1, 0x3, 0, 1, 0x21c⟩
  | .fwd => ⟨1, 0x4, 0, 1, 0x154⟩
  | .tmg => ⟨1, 0x5, 0, 1, 0x1044⟩
  | .doc => ⟨2, 0x1, 0, 1, 0x45c⟩
  | .afb => ⟨2, 0x2, 0, 1, 0x14c⟩
  | .dsp => ⟨2, 0x10, 0x100000, 17, 0x43c⟩
  | .vde => ⟨3, 0x1, 0x100000, 4, 0x15c⟩
  | .ven => ⟨3, 0x8, 0x100000, 4, 0x14c⟩
  | .cmp => ⟨3, 0xc, 0, 1, 0x12fc⟩
  | .pgr => ⟨3, 0xd, 0, 1, 0x12c⟩
  | .mct => ⟨4, 0x1, 0, 1, 0x44c⟩
  | .clo => ⟨4, 0x2, 0, 1, 0x104c⟩
  | .stk => ⟨4, 0x3, 0, 1, 0x1054⟩

/-- Every kind of block, in the order of R18's table. -/
def blkAll : List Blk :=
  [.cur, .mon, .sup, .clk, .wing, .atr, .rgs, .vlt, .fwd, .tmg, .doc, .afb, .dsp, .vde, .ven, .cmp, .pgr, .mct, .clo, .stk]

/-- The registers of the device, by the chapters' names (a wide register is a 64-bit counter of R120; the second word
of a two-word record has a name of its own). -/
inductive Reg where
  | chpWingId
  | chpWingBlkReset
  | chpWingHb
  | chpWingErrSummary
  | chpWingBlkState
  | chpErrStatus
  | chpWdtBlk
  | chpCellLog
  | chpCellWhere
  | curMode
  | curLc
  | curResetCause
  | curBootStatus
  | curWipeStatus
  | curJcpSess
  | curJcpDrop
  | curImageId
  | curStage
  | curStageId
  | curEventLost
  | curImageSkip
  | curCasCfg
  | curCasCntClr
  | curCasCnt
  | curGpioDir
  | curGpioOut
  | curGpioIn
  | curCasPeer
  | chpTemp
  | chpTempTh
  | chpThrottle
  | chpMonErr
  | chpVmon
  | chpPmon
  | chpErrSummary
  | chpChipErrStatus
  | chpSupStatus
  | chpLegIsoClr
  | chpWdtKick
  | chpWdtStatus
  | chpSelftest
  | chpChipCellLog
  | chpChipCellWhere
  | chpLegIso
  | chpClkLock
  | chpClkLol
  | chpCdcErr
  | chpTbSnap
  | chpTbLo
  | chpTbHi
  | chpTbState
  | atrPortCfg
  | atrPortAdv
  | atrPortStatus
  | atrPortErr
  | atrQuadRate
  | atrLinkCfg
  | atrCntClr
  | atrLaneCtl
  | atrLaneTxfir
  | atrLaneRxstat
  | atrCnt
  | rgsPortParse
  | rgsPortDefault
  | rgsPortHash
  | rgsToeplitzKey
  | rgsPuntRate
  | rgsJcpRate
  | rgsTunnelPort
  | rgsCatStatus
  | rgsCntClr
  | rgsDscpColour
  | rgsInd
  | rgsPortCnt
  | rgsDropCnt
  | vltAesStatus
  | vltShaStatus
  | vltKatStatus
  | vltCredit
  | vltKeyStatus
  | vltCntClr
  | vltDropCnt
  | vltJobCnt
  | fwdRtxCfg
  | fwdRtxStatus
  | fwdStatus
  | fwdSrcStatus
  | fwdCntClr
  | fwdCnt
  | tmgPortMacLo
  | tmgPortMacHi
  | tmgPortState
  | tmgMgmtRate
  | tmgStatus
  | tmgChkStatus
  | tmgChkLast
  | tmgCntClr
  | tmgCnt
  | docCfg
  | docAdmit
  | docSet
  | docFrange
  | docHwitem
  | docMap
  | docStandby
  | docSwap
  | docSwapStatus
  | docStatus
  | docFenceClr
  | docFenceLast
  | docCntClr
  | docCnt
  | afbStatus
  | afbTick
  | afbDecRes
  | afbEncRes
  | afbItemBound
  | afbErr
  | afbCntClr
  | afbCnt
  | dspClState
  | dspCoreStatus
  | dspEcc
  | dspCntClr
  | dspCnt
  | vdeStatus
  | vdeRes
  | vdeCurrent
  | vdeErr
  | vdeCntClr
  | vdeCnt
  | vdePgPool
  | vdePgCfg
  | vdePgFree
  | vdePgLow
  | vdePgGuar
  | vdePgErr
  | vdePgCntClr
  | vdePgCnt
  | cmpStatus
  | cmpPipeRes
  | cmpErr
  | cmpChkLast
  | cmpCntClr
  | cmpLcoef
  | cmpCcoef
  | cmpCnt
  | venStatus
  | venRes
  | venCurrent
  | venErr
  | venCntClr
  | venCnt
  | mctCfg
  | mctTrain
  | mctRetrain
  | mctErr
  | mctCntClr
  | mctRegionBase
  | mctRegionSize
  | mctChStatus
  | mctErrLog
  | mctErrSrc
  | mctCnt
  | cloPoolCfg
  | cloPoolYel
  | cloPoolFree
  | cloPoolLow
  | cloShareDef
  | cloExtStatus
  | cloRejStatus
  | cloRejLog
  | cloRejDetail
  | cloCntClr
  | cloCnt
  | stkQprof0
  | stkQprof1
  | stkQprof2
  | stkQprof3
  | stkClassProf
  | stkMediaProf
  | stkSpillCfg
  | stkSpillStatus
  | stkSlotStatus
  | stkSpillOps
  | stkCntClr
  | stkCnt
  deriving DecidableEq, Repr

/-- One row of a register table: block, offset of item 0, distance between items, number of items, and the masks of
the RW, RW1C, WO and RO bits (R8). RSVD bits are in none of them. `wide` marks the 64-bit counters of R120. -/
structure RegInfo where
  blk : Blk
  off : Nat
  stride : Nat
  count : Nat
  rw : W32
  rw1c : W32
  wo : W32
  ro : W32
  wide : Bool
  deriving DecidableEq, Repr

/-- The register tables of the chapters, row by row. -/
def regInfo : Reg → RegInfo
  | .chpWingId => ⟨.wing, 0, 0x4, 1, 0, 0, 0, 0xff0f, false⟩  -- R21
  | .chpWingBlkReset => ⟨.wing, 0x8, 0x4, 1, 0, 0, 0xff, 0, false⟩  -- R21
  | .chpWingHb => ⟨.wing, 0xc, 0x4, 1, 0, 0x10000, 0, 0xffff, false⟩  -- R21
  | .chpWingErrSummary => ⟨.wing, 0x10, 0x4, 1, 0, 0, 0, 0xfffff, false⟩  -- R459
  | .chpWingBlkState => ⟨.wing, 0x100, 0x4, 256, 0, 0, 0, 0xff07, false⟩  -- R21
  | .chpErrStatus => ⟨.wing, 0x500, 0x4, 256, 0, 0x2ff, 0, 0x100, false⟩  -- R459
  | .chpWdtBlk => ⟨.wing, 0x900, 0x4, 256, 0x7f, 0, 0, 0, false⟩  -- R447
  | .chpCellLog => ⟨.wing, 0x1000, 0x8, 1024, 0, 0x80000000, 0, 0xffffff, false⟩  -- R459
  | .chpCellWhere => ⟨.wing, 0x1004, 0x8, 1024, 0, 0, 0, 0xffffffff, false⟩  -- R459
  | .curMode => ⟨.cur, 0x100, 0x4, 1, 0, 0, 0, 0x1ff1ff, false⟩  -- R35
  | .curLc => ⟨.cur, 0x104, 0x4, 1, 0, 0, 0, 0x7, false⟩  -- R56
  | .curResetCause => ⟨.cur, 0x108, 0x4, 1, 0, 0x7f, 0, 0xff00, false⟩  -- R43
  | .curBootStatus => ⟨.cur, 0x10c, 0x4, 1, 0, 0x300c, 0, 0xff3, false⟩  -- R61
  | .curWipeStatus => ⟨.cur, 0x110, 0x4, 1, 0, 0xe, 0, 0xff01, false⟩  -- R52
  | .curJcpSess => ⟨.cur, 0x200, 0x4, 16, 0, 0, 0, 0xffff07f3, false⟩  -- R77
  | .curJcpDrop => ⟨.cur, 0x240, 0x4, 8, 0, 0, 0, 0xffffffff, false⟩  -- R75
  | .curImageId => ⟨.cur, 0x300, 0x4, 1, 0, 0, 0, 0xffffffff, false⟩  -- R62
  | .curStage => ⟨.cur, 0x304, 0x4, 1, 0, 0, 0, 0x3ff7, false⟩  -- R92
  | .curStageId => ⟨.cur, 0x308, 0x4, 1, 0, 0, 0, 0xffffffff, false⟩  -- R92
  | .curEventLost => ⟨.cur, 0x30c, 0x4, 1, 0, 0, 0, 0xffffffff, false⟩  -- R90
  | .curImageSkip => ⟨.cur, 0x310, 0x4, 1, 0, 0, 0, 0xff, false⟩  -- R65
  | .curCasCfg => ⟨.cur, 0x400, 0x4, 1, 0x3fff07ff, 0, 0, 0, false⟩  -- R421
  | .curCasCntClr => ⟨.cur, 0x404, 0x4, 1, 0, 0, 0x1, 0, false⟩  -- R438
  | .curCasCnt => ⟨.cur, 0x500, 0x8, 9, 0, 0, 0, 0xffffffff, true⟩  -- R438
  | .curGpioDir => ⟨.cur, 0x600, 0x4, 1, 0xffff, 0, 0, 0, false⟩  -- R479
  | .curGpioOut => ⟨.cur, 0x604, 0x4, 1, 0xffff, 0, 0, 0, false⟩  -- R479
  | .curGpioIn => ⟨.cur, 0x608, 0x4, 1, 0, 0, 0, 0xffff, false⟩  -- R479
  | .curCasPeer => ⟨.cur, 0x1000, 0x4, 1024, 0, 0, 0, 0x3fff07ff, false⟩  -- R429
  | .chpTemp => ⟨.mon, 0, 0x4, 32, 0, 0, 0, 0x1fff, false⟩  -- R451
  | .chpTempTh => ⟨.mon, 0x80, 0x4, 1, 0xffffff, 0, 0, 0, false⟩  -- R470
  | .chpThrottle => ⟨.mon, 0x84, 0x4, 1, 0, 0, 0, 0x1fff07, false⟩  -- R452
  | .chpMonErr => ⟨.mon, 0x88, 0x4, 1, 0, 0x1f, 0, 0, false⟩  -- R451
  | .chpVmon => ⟨.mon, 0x100, 0x4, 20, 0, 0x10000, 0, 0xffff, false⟩  -- R453
  | .chpPmon => ⟨.mon, 0x200, 0x4, 12, 0, 0x100000, 0, 0xfffff, false⟩  -- R454
  | .chpErrSummary => ⟨.sup, 0, 0x4, 1, 0, 0, 0, 0x3ff, false⟩  -- R459
  | .chpChipErrStatus => ⟨.sup, 0x10, 0x4, 4, 0, 0x2ff, 0, 0x100, false⟩  -- R459
  | .chpSupStatus => ⟨.sup, 0x20, 0x4, 1, 0, 0, 0, 0xffff, false⟩  -- R456
  | .chpLegIsoClr => ⟨.sup, 0x24, 0x4, 1, 0, 0, 0x7fff, 0, false⟩  -- R443
  | .chpWdtKick => ⟨.sup, 0x28, 0x4, 1, 0, 0, 0xffffffff, 0, false⟩  -- R450
  | .chpWdtStatus => ⟨.sup, 0x2c, 0x4, 1, 0, 0, 0, 0x7ffff01, false⟩  -- R450
  | .chpSelftest => ⟨.sup, 0x30, 0x4, 1, 0, 0xff, 0, 0xffff0000, false⟩  -- R445
  | .chpChipCellLog => ⟨.sup, 0x100, 0x8, 16, 0, 0x80000000, 0, 0xffffff, false⟩  -- R459
  | .chpChipCellWhere => ⟨.sup, 0x104, 0x8, 16, 0, 0, 0, 0xffffffff, false⟩  -- R459
  | .chpLegIso => ⟨.sup, 0x400, 0x4, 1024, 0, 0, 0, 0xffffffff, false⟩  -- R441
  | .chpClkLock => ⟨.clk, 0, 0x4, 1, 0, 0, 0, 0x1f7f, false⟩  -- R25
  | .chpClkLol => ⟨.clk, 0x4, 0x4, 1, 0, 0x1f7f, 0, 0, false⟩  -- R25
  | .chpCdcErr => ⟨.clk, 0x8, 0x4, 1, 0, 0x1f, 0, 0, false⟩  -- R24
  | .chpTbSnap => ⟨.clk, 0x10, 0x4, 1, 0, 0, 0x1, 0, false⟩  -- R27
  | .chpTbLo => ⟨.clk, 0x14, 0x4, 1, 0, 0, 0, 0xffffffff, false⟩  -- R27
  | .chpTbHi => ⟨.clk, 0x18, 0x4, 1, 0, 0, 0, 0xffffffff, false⟩  -- R27
  | .chpTbState => ⟨.clk, 0x1c, 0x4, 1, 0, 0, 0, 0x3, false⟩  -- R27
  | .atrPortCfg => ⟨.atr, 0, 0x8, 96, 0x3ffff, 0, 0, 0, false⟩  -- R102
  | .atrPortAdv => ⟨.atr, 0x4, 0x8, 96, 0x7ff, 0, 0, 0, false⟩  -- R102
  | .atrPortStatus => ⟨.atr, 0x400, 0x4, 96, 0, 0, 0, 0xff03f7, false⟩  -- R115
  | .atrPortErr => ⟨.atr, 0x600, 0x4, 96, 0, 0x7f, 0, 0, false⟩  -- R115
  | .atrQuadRate => ⟨.atr, 0x800, 0x4, 24, 0x3, 0, 0, 0, false⟩  -- R100
  | .atrLinkCfg => ⟨.atr, 0x900, 0x4, 1, 0x3fff03ff, 0, 0, 0, false⟩  -- R116
  | .atrCntClr => ⟨.atr, 0x904, 0x4, 1, 0, 0, 0x7f, 0, false⟩  -- R120
  | .atrLaneCtl => ⟨.atr, 0x1000, 0x4, 96, 0x707, 0, 0x8, 0, false⟩  -- R119
  | .atrLaneTxfir => ⟨.atr, 0x1200, 0x4, 96, 0x7fffffff, 0, 0, 0, false⟩  -- R112
  | .atrLaneRxstat => ⟨.atr, 0x1400, 0x4, 96, 0, 0, 0, 0xfffffff, false⟩  -- R109
  | .atrCnt => ⟨.atr, 0x4000, 0x8, 1536, 0, 0, 0, 0xffffffff, true⟩  -- R120
  | .rgsPortParse => ⟨.rgs, 0, 0x4, 96, 0xff, 0, 0, 0, false⟩  -- R122
  | .rgsPortDefault => ⟨.rgs, 0x200, 0x4, 96, 0x7ffff, 0, 0, 0, false⟩  -- R139
  | .rgsPortHash => ⟨.rgs, 0x400, 0x4, 96, 0xff, 0, 0, 0, false⟩  -- R138
  | .rgsToeplitzKey => ⟨.rgs, 0x600, 0x4, 10, 0xffffffff, 0, 0, 0, false⟩  -- R138
  | .rgsPuntRate => ⟨.rgs, 0x700, 0x4, 96, 0xfffffff, 0, 0, 0, false⟩  -- R140
  | .rgsJcpRate => ⟨.rgs, 0x880, 0x4, 1, 0xfffffff, 0, 0, 0, false⟩  -- R127
  | .rgsTunnelPort => ⟨.rgs, 0x884, 0x4, 1, 0xffffffff, 0, 0, 0, false⟩  -- R123
  | .rgsCatStatus => ⟨.rgs, 0x890, 0x4, 1, 0, 0x40000000, 0, 0x3fffffff, false⟩  -- R135
  | .rgsCntClr => ⟨.rgs, 0x894, 0x4, 1, 0, 0, 0x1ff, 0, false⟩  -- R147
  | .rgsDscpColour => ⟨.rgs, 0x1000, 0x4, 384, 0xffffffff, 0, 0, 0, false⟩  -- R143
  | .rgsInd => ⟨.rgs, 0x20000, 0x4, 49152, 0xf, 0, 0, 0, false⟩  -- R138
  | .rgsPortCnt => ⟨.rgs, 0x8000, 0x8, 768, 0, 0, 0, 0xffffffff, true⟩  -- R147
  | .rgsDropCnt => ⟨.rgs, 0xa000, 0x8, 64, 0, 0, 0, 0xffffffff, true⟩  -- R147
  | .vltAesStatus => ⟨.vlt, 0, 0x4, 1, 0, 0, 0, 0xffffffff, false⟩  -- R174
  | .vltShaStatus => ⟨.vlt, 0x4, 0x4, 1, 0, 0, 0, 0xff, false⟩  -- R174
  | .vltKatStatus => ⟨.vlt, 0x8, 0x4, 1, 0, 0x7, 0, 0xffff0000, false⟩  -- R174
  | .vltCredit => ⟨.vlt, 0xc, 0x4, 1, 0, 0, 0, 0x3fffffff, false⟩  -- R173
  | .vltKeyStatus => ⟨.vlt, 0x10, 0x4, 1, 0, 0, 0, 0x1ffff, false⟩  -- R154
  | .vltCntClr => ⟨.vlt, 0x14, 0x4, 1, 0, 0, 0x3, 0, false⟩  -- R176
  | .vltDropCnt => ⟨.vlt, 0x100, 0x8, 6, 0, 0, 0, 0xffffffff, true⟩  -- R176
  | .vltJobCnt => ⟨.vlt, 0x200, 0x8, 4, 0, 0, 0, 0xffffffff, true⟩  -- R176
  | .fwdRtxCfg => ⟨.fwd, 0, 0x4, 1, 0xffffff, 0, 0, 0, false⟩  -- R233
  | .fwdRtxStatus => ⟨.fwd, 0x4, 0x4, 1, 0, 0x1000000, 0, 0xffffff, false⟩  -- R233
  | .fwdStatus => ⟨.fwd, 0x8, 0x4, 1, 0, 0, 0, 0xffffbff, false⟩  -- R236
  | .fwdSrcStatus => ⟨.fwd, 0xc, 0x4, 1, 0, 0, 0, 0x7fff7fff, false⟩  -- R236
  | .fwdCntClr => ⟨.fwd, 0x10, 0x4, 1, 0, 0, 0x1, 0, false⟩  -- R236
  | .fwdCnt => ⟨.fwd, 0x100, 0x8, 11, 0, 0, 0, 0xffffffff, true⟩  -- R236
  | .tmgPortMacLo => ⟨.tmg, 0, 0x8, 96, 0xffffffff, 0, 0, 0, false⟩  -- R250
  | .tmgPortMacHi => ⟨.tmg, 0x4, 0x8, 96, 0xffff, 0, 0, 0, false⟩  -- R250
  | .tmgPortState => ⟨.tmg, 0x400, 0x4, 96, 0, 0, 0, 0xffff0001, false⟩  -- R252
  | .tmgMgmtRate => ⟨.tmg, 0x800, 0x4, 1, 0x3fff, 0, 0, 0, false⟩  -- R251
  | .tmgStatus => ⟨.tmg, 0x804, 0x4, 1, 0, 0, 0, 0xffff0001, false⟩  -- R241
  | .tmgChkStatus => ⟨.tmg, 0x808, 0x4, 1, 0, 0x7, 0, 0, false⟩  -- R249
  | .tmgChkLast => ⟨.tmg, 0x80c, 0x4, 1, 0, 0, 0, 0xfffffff, false⟩  -- R249
  | .tmgCntClr => ⟨.tmg, 0x810, 0x4, 1, 0, 0, 0x1, 0, false⟩  -- R255
  | .tmgCnt => ⟨.tmg, 0x1000, 0x8, 9, 0, 0, 0, 0xffffffff, true⟩  -- R255
  | .docCfg => ⟨.doc, 0, 0x4, 1, 0xff, 0, 0, 0, false⟩  -- R291
  | .docAdmit => ⟨.doc, 0x4, 0x4, 1, 0xfffffff, 0, 0, 0, false⟩  -- R295
  | .docSet => ⟨.doc, 0x100, 0x4, 16, 0x1ffff, 0, 0, 0, false⟩  -- R290
  | .docFrange => ⟨.doc, 0x140, 0x4, 16, 0x1fffff, 0, 0, 0, false⟩  -- R290
  | .docHwitem => ⟨.doc, 0x184, 0x4, 8, 0x7fffff, 0, 0, 0, false⟩  -- R288
  | .docMap => ⟨.doc, 0x200, 0x4, 16, 0, 0, 0, 0x1f, false⟩  -- R297
  | .docStandby => ⟨.doc, 0x240, 0x4, 1, 0, 0, 0, 0x1f, false⟩  -- R297
  | .docSwap => ⟨.doc, 0x280, 0x4, 1, 0, 0, 0xf, 0, false⟩  -- R297
  | .docSwapStatus => ⟨.doc, 0x284, 0x4, 1, 0, 0x40, 0, 0x3f, false⟩  -- R297
  | .docStatus => ⟨.doc, 0x300, 0x4, 1, 0, 0x60000, 0, 0x1ffff, false⟩  -- R295
  | .docFenceClr => ⟨.doc, 0x304, 0x4, 1, 0, 0, 0x1ffff, 0, false⟩  -- R296
  | .docFenceLast => ⟨.doc, 0x308, 0x4, 1, 0, 0, 0, 0x7ffff, false⟩  -- R296
  | .docCntClr => ⟨.doc, 0x310, 0x4, 1, 0, 0, 0x1, 0, false⟩  -- R299
  | .docCnt => ⟨.doc, 0x400, 0x8, 12, 0, 0, 0, 0xffffffff, true⟩  -- R299
  | .afbStatus => ⟨.afb, 0, 0x4, 1, 0, 0, 0, 0x1fff, false⟩  -- R326
  | .afbTick => ⟨.afb, 0x4, 0x4, 1, 0, 0, 0, 0xffffffff, false⟩  -- R313
  | .afbDecRes => ⟨.afb, 0x8, 0x4, 1, 0, 0, 0, 0x3fff3fff, false⟩  -- R320
  | .afbEncRes => ⟨.afb, 0xc, 0x4, 1, 0, 0, 0, 0x3fff3fff, false⟩  -- R320
  | .afbItemBound => ⟨.afb, 0x10, 0x4, 1, 0, 0, 0, 0x1ffff, false⟩  -- R320
  | .afbErr => ⟨.afb, 0x14, 0x4, 1, 0, 0xf, 0, 0, false⟩  -- R317
  | .afbCntClr => ⟨.afb, 0x18, 0x4, 1, 0, 0, 0x1, 0, false⟩  -- R326
  | .afbCnt => ⟨.afb, 0x100, 0x8, 10, 0, 0, 0, 0xffffffff, true⟩  -- R326
  | .dspClState => ⟨.dsp, 0, 0x4, 1, 0, 0, 0, 0xffff0007, false⟩  -- R285
  | .dspCoreStatus => ⟨.dsp, 0x100, 0x4, 16, 0, 0x7000, 0, 0xf1f, false⟩  -- R280
  | .dspEcc => ⟨.dsp, 0x200, 0x4, 1, 0, 0x10000, 0, 0xffff, false⟩  -- R258
  | .dspCntClr => ⟨.dsp, 0x204, 0x4, 1, 0, 0, 0x1, 0, false⟩  -- R286
  | .dspCnt => ⟨.dsp, 0x400, 0x8, 8, 0, 0, 0, 0xffffffff, true⟩  -- R286
  | .vdeStatus => ⟨.vde, 0, 0x4, 1, 0, 0, 0, 0x13fff, false⟩  -- R334
  | .vdeRes => ⟨.vde, 0x4, 0x4, 1, 0, 0, 0, 0xfff0fff, false⟩  -- R330
  | .vdeCurrent => ⟨.vde, 0x8, 0x4, 1, 0, 0, 0, 0x8001ffff, false⟩  -- R335
  | .vdeErr => ⟨.vde, 0xc, 0x4, 1, 0, 0x3f, 0, 0, false⟩  -- R341
  | .vdeCntClr => ⟨.vde, 0x10, 0x4, 1, 0, 0, 0x1, 0, false⟩  -- R350
  | .vdeCnt => ⟨.vde, 0x100, 0x8, 12, 0, 0, 0, 0xffffffff, true⟩  -- R350
  | .vdePgPool => ⟨.pgr, 0, 0x4, 1, 0xfffff, 0, 0, 0, false⟩  -- R336
  | .vdePgCfg => ⟨.pgr, 0x4, 0x4, 1, 0x1f, 0, 0, 0, false⟩  -- R338
  | .vdePgFree => ⟨.pgr, 0x8, 0x4, 1, 0, 0, 0, 0xfffff, false⟩  -- R340
  | .vdePgLow => ⟨.pgr, 0xc, 0x4, 1, 0, 0, 0, 0xfffff, false⟩  -- R351
  | .vdePgGuar => ⟨.pgr, 0x10, 0x4, 1, 0, 0, 0, 0xfffff, false⟩  -- R340
  | .vdePgErr => ⟨.pgr, 0x14, 0x4, 1, 0, 0x3, 0, 0, false⟩  -- R340
  | .vdePgCntClr => ⟨.pgr, 0x18, 0x4, 1, 0, 0, 0x3, 0, false⟩  -- R351
  | .vdePgCnt => ⟨.pgr, 0x100, 0x8, 6, 0, 0, 0, 0xffffffff, true⟩  -- R351
  | .cmpStatus => ⟨.cmp, 0, 0x4, 1, 0, 0, 0, 0x7ff, false⟩  -- R354
  | .cmpPipeRes => ⟨.cmp, 0x4, 0x4, 4, 0, 0, 0, 0x3ff03ff, false⟩  -- R354
  | .cmpErr => ⟨.cmp, 0x20, 0x4, 1, 0, 0x3f, 0, 0, false⟩  -- R376
  | .cmpChkLast => ⟨.cmp, 0x24, 0x4, 1, 0, 0, 0, 0xffffffff, false⟩  -- R364
  | .cmpCntClr => ⟨.cmp, 0x28, 0x4, 1, 0, 0, 0x1, 0, false⟩  -- R376
  | .cmpLcoef => ⟨.cmp, 0x1000, 0x4, 128, 0xffffffff, 0, 0, 0, false⟩  -- R375
  | .cmpCcoef => ⟨.cmp, 0x1200, 0x4, 64, 0xffffffff, 0, 0, 0, false⟩  -- R375
  | .cmpCnt => ⟨.cmp, 0x100, 0x8, 10, 0, 0, 0, 0xffffffff, true⟩  -- R376
  | .venStatus => ⟨.ven, 0, 0x4, 1, 0, 0, 0, 0x11fff, false⟩  -- R378
  | .venRes => ⟨.ven, 0x4, 0x4, 1, 0, 0, 0, 0x3ff03ff, false⟩  -- R379
  | .venCurrent => ⟨.ven, 0x8, 0x4, 1, 0, 0, 0, 0x80003fff, false⟩  -- R382
  | .venErr => ⟨.ven, 0xc, 0x4, 1, 0, 0x1f, 0, 0, false⟩  -- R389
  | .venCntClr => ⟨.ven, 0x10, 0x4, 1, 0, 0, 0x1, 0, false⟩  -- R401
  | .venCnt => ⟨.ven, 0x100, 0x8, 10, 0, 0, 0, 0xffffffff, true⟩  -- R401
  | .mctCfg => ⟨.mct, 0, 0x4, 1, 0x1fffffff, 0, 0, 0, false⟩  -- R419
  | .mctTrain => ⟨.mct, 0x4, 0x4, 1, 0, 0, 0, 0xffff0007, false⟩  -- R405
  | .mctRetrain => ⟨.mct, 0x8, 0x4, 1, 0, 0, 0, 0xffff003f, false⟩  -- R414
  | .mctErr => ⟨.mct, 0xc, 0x4, 1, 0, 0x3f, 0, 0, false⟩  -- R416
  | .mctCntClr => ⟨.mct, 0x10, 0x4, 1, 0, 0, 0x1, 0, false⟩  -- R420
  | .mctRegionBase => ⟨.mct, 0x100, 0x8, 18, 0, 0, 0, 0xffff, false⟩  -- R408
  | .mctRegionSize => ⟨.mct, 0x104, 0x8, 18, 0, 0, 0, 0xffff, false⟩  -- R408
  | .mctChStatus => ⟨.mct, 0x200, 0x4, 48, 0, 0, 0, 0xffff3, false⟩  -- R414
  | .mctErrLog => ⟨.mct, 0x300, 0x8, 8, 0, 0, 0, 0xffffffff, false⟩  -- R417
  | .mctErrSrc => ⟨.mct, 0x304, 0x8, 8, 0, 0, 0, 0xffffffff, false⟩  -- R417
  | .mctCnt => ⟨.mct, 0x400, 0x8, 10, 0, 0, 0, 0xffffffff, true⟩  -- R420
  | .cloPoolCfg => ⟨.clo, 0, 0x10, 8, 0x7ffffff, 0, 0, 0, false⟩  -- R178
  | .cloPoolYel => ⟨.clo, 0x4, 0x10, 8, 0xffffff, 0, 0, 0, false⟩  -- R189
  | .cloPoolFree => ⟨.clo, 0x8, 0x10, 8, 0, 0, 0, 0xffffff, false⟩  -- R208
  | .cloPoolLow => ⟨.clo, 0xc, 0x10, 8, 0, 0, 0, 0xffffff, false⟩  -- R208
  | .cloShareDef => ⟨.clo, 0x100, 0x4, 32, 0xffffffff, 0, 0, 0, false⟩  -- R181
  | .cloExtStatus => ⟨.clo, 0x200, 0x4, 1, 0, 0x2000, 0, 0x1fff, false⟩  -- R192
  | .cloRejStatus => ⟨.clo, 0x204, 0x4, 1, 0, 0x3f, 0, 0, false⟩  -- R184
  | .cloRejLog => ⟨.clo, 0x300, 0x8, 16, 0, 0, 0, 0xffffffff, false⟩  -- R184
  | .cloRejDetail => ⟨.clo, 0x304, 0x8, 16, 0, 0, 0, 0xffffffff, false⟩  -- R184
  | .cloCntClr => ⟨.clo, 0x400, 0x4, 1, 0, 0, 0x3, 0, false⟩  -- R209
  | .cloCnt => ⟨.clo, 0x1000, 0x8, 10, 0, 0, 0, 0xffffffff, true⟩  -- R209
  | .stkQprof0 => ⟨.stk, 0, 0x10, 16, 0xfffff, 0, 0, 0, false⟩  -- R202
  | .stkQprof1 => ⟨.stk, 0x4, 0x10, 16, 0xffffff, 0, 0, 0, false⟩  -- R202
  | .stkQprof2 => ⟨.stk, 0x8, 0x10, 16, 0xfffff, 0, 0, 0, false⟩  -- R205
  | .stkQprof3 => ⟨.stk, 0xc, 0x10, 16, 0x7fffff, 0, 0, 0, false⟩  -- R206
  | .stkClassProf => ⟨.stk, 0x100, 0x4, 1, 0xffff, 0, 0, 0, false⟩  -- R203
  | .stkMediaProf => ⟨.stk, 0x104, 0x4, 1, 0xfffff, 0, 0, 0, false⟩  -- R203
  | .stkSpillCfg => ⟨.stk, 0x200, 0x4, 1, 0xffffff, 0, 0, 0, false⟩  -- R200
  | .stkSpillStatus => ⟨.stk, 0x204, 0x4, 1, 0, 0x20000000, 0, 0xffffff, false⟩  -- R200
  | .stkSlotStatus => ⟨.stk, 0x208, 0x4, 1, 0, 0, 0, 0x7ffffff, false⟩  -- R199
  | .stkSpillOps => ⟨.stk, 0x20c, 0x4, 1, 0, 0, 0, 0x1fff, false⟩  -- R201
  | .stkCntClr => ⟨.stk, 0x400, 0x4, 1, 0, 0, 0x1, 0, false⟩  -- R209
  | .stkCnt => ⟨.stk, 0x1000, 0x8, 11, 0, 0, 0, 0xffffffff, true⟩  -- R209

/-- Registers, part 1 of the list. -/
def regAll1 : List Reg :=
  [.chpWingId, .chpWingBlkReset, .chpWingHb, .chpWingErrSummary, .chpWingBlkState, .chpErrStatus, .chpWdtBlk, .chpCellLog, .chpCellWhere, .curMode, .curLc, .curResetCause, .curBootStatus, .curWipeStatus, .curJcpSess, .curJcpDrop, .curImageId, .curStage, .curStageId, .curEventLost, .curImageSkip, .curCasCfg, .curCasCntClr, .curCasCnt, .curGpioDir, .curGpioOut, .curGpioIn, .curCasPeer, .chpTemp, .chpTempTh, .chpThrottle, .chpMonErr, .chpVmon, .chpPmon, .chpErrSummary, .chpChipErrStatus, .chpSupStatus, .chpLegIsoClr, .chpWdtKick, .chpWdtStatus]

/-- Registers, part 2 of the list. -/
def regAll2 : List Reg :=
  [.chpSelftest, .chpChipCellLog, .chpChipCellWhere, .chpLegIso, .chpClkLock, .chpClkLol, .chpCdcErr, .chpTbSnap, .chpTbLo, .chpTbHi, .chpTbState, .atrPortCfg, .atrPortAdv, .atrPortStatus, .atrPortErr, .atrQuadRate, .atrLinkCfg, .atrCntClr, .atrLaneCtl, .atrLaneTxfir, .atrLaneRxstat, .atrCnt, .rgsPortParse, .rgsPortDefault, .rgsPortHash, .rgsToeplitzKey, .rgsPuntRate, .rgsJcpRate, .rgsTunnelPort, .rgsCatStatus, .rgsCntClr, .rgsDscpColour, .rgsInd, .rgsPortCnt, .rgsDropCnt, .vltAesStatus, .vltShaStatus, .vltKatStatus, .vltCredit, .vltKeyStatus]

/-- Registers, part 3 of the list. -/
def regAll3 : List Reg :=
  [.vltCntClr, .vltDropCnt, .vltJobCnt, .fwdRtxCfg, .fwdRtxStatus, .fwdStatus, .fwdSrcStatus, .fwdCntClr, .fwdCnt, .tmgPortMacLo, .tmgPortMacHi, .tmgPortState, .tmgMgmtRate, .tmgStatus, .tmgChkStatus, .tmgChkLast, .tmgCntClr, .tmgCnt, .docCfg, .docAdmit, .docSet, .docFrange, .docHwitem, .docMap, .docStandby, .docSwap, .docSwapStatus, .docStatus, .docFenceClr, .docFenceLast, .docCntClr, .docCnt, .afbStatus, .afbTick, .afbDecRes, .afbEncRes, .afbItemBound, .afbErr, .afbCntClr, .afbCnt]

/-- Registers, part 4 of the list. -/
def regAll4 : List Reg :=
  [.dspClState, .dspCoreStatus, .dspEcc, .dspCntClr, .dspCnt, .vdeStatus, .vdeRes, .vdeCurrent, .vdeErr, .vdeCntClr, .vdeCnt, .vdePgPool, .vdePgCfg, .vdePgFree, .vdePgLow, .vdePgGuar, .vdePgErr, .vdePgCntClr, .vdePgCnt, .cmpStatus, .cmpPipeRes, .cmpErr, .cmpChkLast, .cmpCntClr, .cmpLcoef, .cmpCcoef, .cmpCnt, .venStatus, .venRes, .venCurrent, .venErr, .venCntClr, .venCnt, .mctCfg, .mctTrain, .mctRetrain, .mctErr, .mctCntClr, .mctRegionBase, .mctRegionSize]

/-- Registers, part 5 of the list. -/
def regAll5 : List Reg :=
  [.mctChStatus, .mctErrLog, .mctErrSrc, .mctCnt, .cloPoolCfg, .cloPoolYel, .cloPoolFree, .cloPoolLow, .cloShareDef, .cloExtStatus, .cloRejStatus, .cloRejLog, .cloRejDetail, .cloCntClr, .cloCnt, .stkQprof0, .stkQprof1, .stkQprof2, .stkQprof3, .stkClassProf, .stkMediaProf, .stkSpillCfg, .stkSpillStatus, .stkSlotStatus, .stkSpillOps, .stkCntClr, .stkCnt]

/-- Every register. -/
def regAll : List Reg :=
  regAll1 ++ regAll2 ++ regAll3 ++ regAll4 ++ regAll5

/-- The address of a block's first register (R18): wing in bits 31:28, block number in bits 27:20. -/
def blkBase (b : Blk) (unit : Nat) : Nat :=
  (blkInfo b).wing * 0x10000000 + (blkInfo b).num * 0x100000 + unit * (blkInfo b).step

/-- The control-space address of item `i` of a register in unit `u` of its block (R18). For a 64-bit counter this is
the low word's address. -/
def regAddr (r : Reg) (u i : Nat) : Nat :=
  blkBase (regInfo r).blk u + (regInfo r).off + (regInfo r).stride * i

/-- The wing and block number an address names (R18). -/
def addrWing (a : Nat) : Nat := a / 0x10000000 % 16
def addrBlk (a : Nat) : Nat := a / 0x100000 % 256
def addrOff (a : Nat) : Nat := a % 0x100000

/-- The kind and unit of the block with a wing and block number, none where R18 lists no such block. -/
def findBlk (wing num : Nat) : Option (Blk × Nat) :=
  blkAll.findSome? fun b =>
    let k := blkInfo b
    if b = .wing then
      if num = 0 ∧ 1 ≤ wing ∧ wing ≤ 4 then some (b, wing - 1) else none
    else if k.wing = wing ∧ k.num ≤ num ∧ num < k.num + k.units then some (b, num - k.num)
    else none

/-- R19: an address is mapped when its wing and block are listed, its offset is not above the block's highest register
and bits 1:0 are 0. -/
def mappedAddr (a : Nat) : Bool :=
  match findBlk (addrWing a) (addrBlk a) with
  | some (b, _) => decide (a < 0x100000000) && decide (addrOff a ≤ (blkInfo b).top) && decide (a % 4 = 0)
  | none => false

/-- What an address names inside its block: a register, its unit and item, and whether it is the high word of a
64-bit counter. -/
structure RegRef where
  reg : Reg
  unit : Nat
  item : Nat
  high : Bool
  deriving DecidableEq, Repr

/-- Does a block offset fall on a register, and on which item and word of it. -/
def regAtOff (b : Blk) (off : Nat) (r : Reg) : Option (Nat × Bool) :=
  let k := regInfo r
  if k.blk ≠ b ∨ off < k.off then none
  else
    let d := off - k.off
    let i := d / k.stride
    let o := d % k.stride
    if i < k.count then
      if o = 0 then some (i, false) else if k.wide && o == 4 then some (i, true) else none
    else none

/-- The register at an address, none where the range holds no register there (R19: such an offset reads 0 and ignores
writes). -/
def findReg (a : Nat) : Option RegRef :=
  match findBlk (addrWing a) (addrBlk a) with
  | none => none
  | some (b, u) =>
    regAll.findSome? fun r =>
      match regAtOff b (addrOff a) r with
      | some (i, h) => some ⟨r, u, i, h⟩
      | none => none

/-- The value of a register at reset, as its register table gives it (0 where the table says 0). Fields that
the module computes from other state are not stored here. -/
def regReset (r : Reg) (u i : Nat) : W32 :=
  match r with
  | .chpWingId => BitVec.ofNat 32 (u + 1) ||| (match u with | 0 => 0x500 | 1 => 0x1300 | 2 => 0xA00 | _ => 0x300)
  | .chpWingBlkState =>
    if i = 0 then 4
    else match findBlk (u + 1) i with
      | some _ => 1
      | none => 0
  | .chpWdtBlk =>
    match findBlk (u + 1) i with
    | some _ => 10
    | none => 0
  | .curResetCause => 1
  | .curWipeStatus => 1
  | .curCasCfg => 1500 <<< 16
  | .chpTempTh => 95 ||| (100 <<< 8) ||| (115 <<< 16)
  | .atrLinkCfg => 100 ||| (1518 <<< 16)
  | .atrLaneTxfir => 64 <<< 12
  | .rgsPortParse => 8
  | .rgsPortHash => 0x7E
  | .rgsPuntRate => 10 ||| (64 <<< 16)
  | .rgsJcpRate => 200 ||| (512 <<< 16)
  | .rgsTunnelPort => 4789 ||| (6081 <<< 16)
  | .rgsInd => BitVec.ofNat 32 (i % 512 % 16)
  | .fwdRtxCfg => 4194304
  | .tmgPortState => 1
  | .tmgMgmtRate => 100
  | .docCfg => 4
  | .docAdmit => 4096 ||| (256 <<< 16)
  | .docSet => 0xFFFF
  | .docFrange => if i = 0 then 0 else 0x1FFFF
  | .docHwitem =>
    BitVec.ofNat 32 ((match i with | 0 => 48 | 1 => 48 | 2 => 48 | 3 => 40 | 4 => 40 | 5 => 32 | 6 => 0 | _ => 60)
      + 64 * (131064 + i))
  | .docMap => BitVec.ofNat 32 i
  | .docStandby => 16
  | .afbDecRes => 12288 <<< 16
  | .afbEncRes => 8192 <<< 16
  | .dspClState => 2
  | .vdeRes => 2000 <<< 16
  | .vdePgCfg => 12
  | .cmpPipeRes => 1000 <<< 16
  | .cmpLcoef => if i % 2 = 0 then 0x40000000 else 0
  | .cmpCcoef => 0x4000
  | .venRes => 1000 <<< 16
  | .mctCfg => 10 ||| (24 <<< 20) ||| (1 <<< 28)
  | .cloPoolCfg => BitVec.ofNat 32 (i * 0x1000000)
  | .cloShareDef => if i = 1 ∨ i = 3 ∨ i = 6 ∨ i = 7 ∨ (10 ≤ i ∧ i ≤ 26) then 0xFFFFFFFF else 0
  | .stkQprof0 => 4096 ||| (1 <<< 16)
  | .stkQprof1 => 16384
  | .stkClassProf => 0x3210
  | .stkMediaProf => 0x87654
  | _ => 0

/-- The value an address of the control space reads from reset where nothing has been stored. -/
def addrReset (a : Nat) : W32 :=
  match findReg a with
  | some ⟨r, u, i, false⟩ => regReset r u i
  | _ => 0

end Sys2Proof.Machine
end

