-- ==== Sys2Proof/Machine/StateCore.lean ====
section
/-!
DEFINITION. The state of the chip level: modes, fuses, pins, timebase, the Curator's sessions and image, the safety
supervisor, the I²C target and the TAP. Every structure's defaults are its values at reset.
-/

namespace Sys2Proof.Machine

/-- The mode machine (R35 to R44, R48). CUR_MODE reads from it. `target` is the mode a running transition leads to;
`num` the number of the running or last transition. At reset POWER_UP toward WIPE is running. -/
structure ModeSt where
  mode : Mode := .powerUp
  prev : Mode := .off
  target : Option Mode := some .wipe
  num : Nat := 3
  /-- The start-up window is open (R35): a session has completed its HELLO exchange. -/
  windowOpen : Bool := false
  /-- Entry to LINK_UP, ns (R48). -/
  linkUpAt : Nat := 0
  /-- The required-port condition has been dropped (R48). -/
  limitDone : Bool := false
  /-- The third condition of R48: a MODE_REQ naming SERVICE in LINK_UP. -/
  serviceAsked : Bool := false
  /-- The wing under restart in RECOVERY and when its restart began, ns (R457). -/
  restarting : Option (Nat × Nat) := none
  /-- The wing whose RECOVERY is running (R42). -/
  recoveryWing : Nat := 0
  /-- How long the last wing restart took, µs (R460). -/
  restartUs : Nat := 0
  /-- Start of the recovery window, ns (R457). -/
  windowFrom : Option Nat := none
  /-- Wings whose RECOVERY ended, with the time, ns (R42). -/
  recovered : NMap Nat := []
  /-- The wipe is complete and its read-back runs (R51). -/
  readback : Bool := false
  /-- The wipe has run twice (R52). -/
  repeated : Bool := false
  deriving DecidableEq, Repr

/-- One-time-programmable fuses: the three life-cycle groups of three fuses (R56), the owner key hash, the security
version counter (R94), the device serial number (R48's step 3) and the process monitors' baselines (R454). -/
structure Otp where
  provisioned : BitVec 3 := 0
  deployed : BitVec 3 := 0
  returned : BitVec 3 := 0
  ownerHash : Option Bytes := none
  ownerRevoked : Bool := false
  secVersion : Nat := 0
  serial : Nat := 0
  baseline : List Nat := []
  deriving DecidableEq, Repr

/-- The board's side of the pins and the outputs that are held, not computed (R473). -/
structure Pins where
  vinMv : Nat := 12000
  porb : Bool := true
  /-- The converter was stopped by the overvoltage lockout (R463). -/
  overVolt : Bool := false
  gpioBoard : BitVec 16 := 0
  strap : BitVec 2 := 0
  ppsOut : Bool := false
  deriving DecidableEq, Repr

/-- The rail sequencer (R468): the step running (6 when rails are good), retries used, stopped until VIN or PORB is
cycled, a step failed and the retry waits. `gddrOff`: the step 5 rails are off (R45). -/
structure Rails where
  step : Nat := 1
  retries : Nat := 0
  failed : Bool := false
  stopped : Bool := false
  gddrOff : Bool := false
  deriving DecidableEq, Repr

/-- The media timebase (R26, R27): t in ns with 32 fraction bits, and the 32.32 increment. -/
structure Timebase where
  t : W64 := 0
  frac : W32 := 0
  inc : W64 := 0x100000000
  /-- The last accepted PPS edge (R475). -/
  ppsIn : Option Nat := none
  /-- When PTP_PPS_OUT last rose, ns. -/
  ppsRise : Option Nat := none
  deriving DecidableEq, Repr

/-- The I²C management target (R478): register pointer and the latched word with its aligned pointer. -/
structure I2c where
  ptr : BitVec 13 := 0
  latchAt : Option Nat := none
  latch : W32 := 0
  /-- Bytes the last read returned, and whether the last write's data was acknowledged. -/
  readData : Bytes := []
  acked : Bool := true
  deriving DecidableEq, Repr

/-- The test access port (R480): the instruction in force, what its data register captures, boundary cells as preloaded
and as last captured. -/
structure Tap where
  ir : BitVec 8 := 1
  dr : W32 := 0x19615757
  cells : List Bool := []
  captured : List Bool := []
  deriving DecidableEq, Repr

/-- An epoch of a session (R77, R78). -/
structure Epoch where
  nonce : Bytes
  key : Bytes
  version : Nat
  features : W64
  maxMsg : Nat
  deriving DecidableEq, Repr

/-- Where a session's peer is reached (R71): the Ethernet port, MAC and addresses of a command. -/
structure Peer where
  port : Nat
  mac : Bytes
  v6 : Bool
  remote : Nat
  own : Nat
  remotePort : Nat
  ownPort : Nat
  deriving DecidableEq, Repr

/-- A HELLO that awaits confirmation (R77): its epoch, the reply it was given, its SEQ and its sender. -/
structure PendingHello where
  epoch : Epoch
  reply : Bytes
  seq : W32
  peer : Peer
  deriving DecidableEq, Repr

/-- An event before it has a sequence number (R90, R91). -/
structure Event where
  code : Nat
  time : Nat
  subjectType : Nat
  subjectId : Nat
  detail : Bytes
  deriving DecidableEq, Repr

/-- An event in flight (R90): its SEQ, message, times sent and time last sent, ns. -/
structure InFlight where
  seq : Nat
  event : Event
  sends : Nat
  sentAt : Nat
  deriving DecidableEq, Repr

/-- A command accepted and not yet answered (R79, R81): an IMAGE_APPLY until its action ends, a MODE_REQ until its
transition does. -/
structure RunningCmd where
  seq : W32
  opcode : Nat
  key : Bytes
  version : Nat
  peer : Peer
  deriving DecidableEq, Repr

/-- A control session: its entry in the JCP section (R76) and its state (R77 to R81, R90). -/
structure Session where
  id : W32
  perm : W32
  srcAddr : Nat
  family : Nat
  plen : Nat
  imageKey : Bytes
  confirmed : Option Epoch := none
  hello : Option PendingHello := none
  /-- H of R79. -/
  highest : W32 := 0
  /-- The reply cache of R80 by SEQ mod 256: the SEQ and the reply. -/
  cache : NMap (W32 × Bytes) := []
  running : List RunningCmd := []
  peer : Option Peer := none
  eventSeq : Nat := 1
  inFlight : List InFlight := []
  queue : List Event := []
  /-- Events discarded since the last EVENT_LOST event (R90). -/
  lost : Nat := 0
  /-- Copies of a running command discarded (R79). -/
  dups : Nat := 0
  deriving DecidableEq, Repr

/-- A section of an image: the build it comes from, type, target, order, flags, payload length and CRC, payload (R63,
R64). -/
structure Section where
  build : Nat
  type : Nat
  target : Nat
  order : Nat
  live : Bool
  length : Nat
  crc : Nat
  payload : Bytes
  deriving DecidableEq, Repr

/-- What stays known of an image copy (R62): header facts and sections. -/
structure ImageInfo where
  secVersion : Nat
  buildId : Nat
  flags : Nat
  skipped : Nat
  sections : List Section
  deriving DecidableEq, Repr

/-- The CHIP section's content (R66). -/
structure ChipInfo where
  linkLimit : Nat := 10
  recovery : Nat := 20
  reqPorts : List Nat := []
  mgmt4 : List Nat := []
  mgmt6 : List Nat := []
  media4 : List Nat := []
  media6 : List Nat := []
  deriving DecidableEq, Repr

/-- The Curator: sessions, received JCP datagrams, the image and its stage (R62 to R96). The stage area is region 1 of GDDR7
(R92, R408). -/
structure Curator where
  jcpPort : Nat := 47800
  maxMsg : Nat := 1400
  sessions : List Session := []
  rx : List Datagram := []
  restarting : Bool := false
  chip : ChipInfo := {}
  ptp : Bytes := []
  running : Option ImageInfo := none
  staged : Option ImageInfo := none
  /-- The session whose IMAGE_APPLY VERIFY, APPLY_BLOCK or APPLY_ALL is under way and not yet answered. -/
  imageOp : Option Nat := none
  /-- Flash programming under way: the action and its start, ns. -/
  programming : Option (Nat × Nat) := none
  /-- What APPLY_BLOCK or APPLY_ALL has still to do, in order (R93): a section target, 0x10000 + slot for a cluster swap,
  0x20000 + cluster for a reload of the standby; and what of it is under way. -/
  applying : List Nat := []
  applyNow : Option Nat := none
  /-- APPLY_ALL is under way, not APPLY_BLOCK. -/
  applyAll : Bool := false
  /-- Punted packets waiting on the 16 receive rings (R138, R140): ring and frame, oldest first. -/
  rings : List (Nat × Bytes) := []
  deriving DecidableEq, Repr

/-- A record of a sensor (R451): last sample in 0.125 °C, failed, consecutive samples at or above CRIT. -/
structure Sensor where
  last : Option Int := none
  failed : Bool := false
  crit : Nat := 0
  deriving DecidableEq, Repr

/-- The safety supervisor and monitors (R439 to R458). Times are in µs for hits, ns elsewhere. -/
structure Supervisor where
  hits : NMap (List Nat) := []
  window : NMap Nat := []
  /-- When each periodic round last ran, ns: 0 the Vault's known answers (R174), 1 the checkers (R445), 2 the heartbeat
  (R449), 3 the key sweep (R158), 4 the WDT_SERVICE item (R450). -/
  rounds : NMap Nat := []
  /-- Recent isolations: time and the wing charged (R444). -/
  isoTimes : List (Nat × Nat) := []
  /-- Hits not yet released (R443), for the attribution of R444: leg and wing. -/
  hitWings : List (Nat × Nat) := []
  /-- Last reset of each block (wing · 256 + number), ns (R11). -/
  resetAt : NMap Nat := []
  outParts : List Part := []
  /-- The token of the current WDT_SERVICE item (R450). -/
  token : Option W32 := none
  /-- Expiry of the chip watchdog, ns; none while not armed (R450). -/
  deadline : Option Nat := none
  sensors : List Sensor := List.replicate 32 {}
  /-- Consecutive samples of each rail outside ±6 % (R453). -/
  railRun : NMap Nat := []
  /-- Since when the hottest reading has been at or above THROTTLE, or below THROTTLE − 5 °C, ns (R452). -/
  hotSince : Option Nat := none
  coolSince : Option Nat := none
  /-- Heartbeats awaiting an answer, by wing, with the time sent, ns (R449). -/
  heartbeat : NMap Nat := []
  /-- Times of uncorrectable GDDR7 reads in the last second, ns (R417, R456). -/
  ueTimes : List Nat := []
  /-- Triggers reported and not yet decided on (R456). -/
  reported : List Trigger := []
  /-- Blocks whose watchdog has expired and is not handled (R449): wing · 256 + number. -/
  wdtOpen : List Nat := []
  deriving DecidableEq, Repr

/-- A frame on a port's management queue (R251): a JCP message with its UDP payload and where it goes, or a frame that the
Curator has built whole in one of its buffers (a STUN or DTLS answer, a PTP message): handle, offset, length, and
whether the PTP function marks it (R114). -/
inductive MgmtFrame where
  | message (peer : Peer) (payload : Bytes)
  | built (handle : W32) (offset len : Nat) (ptp : Bool)
  deriving DecidableEq, Repr

/-- The answer of the last register access (the model's own field): a status of R83 and the words read. -/
structure Answer where
  status : Nat := 0
  data : List W32 := []
  deriving DecidableEq, Repr

/-- A frame handed to a port's lanes (the model's own record of its output): the port, the bytes from the destination
address on without FCS, whether egress stopped in it (R38), when it begins and ends on the lanes (ns), and its stamp where
the PTP function marked it (R114). -/
structure TxFrame where
  port : Nat
  bytes : Bytes
  truncated : Bool := false
  from_ : Nat := 0
  until_ : Nat := 0
  stamp : Option Nat := none
  deriving DecidableEq, Repr

end Sys2Proof.Machine
end

