-- ==== Sys2Proof/Machine/StateEast.lean ====
section
/-!
DEFINITION. The state of the East wing: Docent, DSP clusters and audio fabric. Every structure's defaults are its values at
reset.
-/

namespace Sys2Proof.Machine

/-! ### The Docent (R287 to R299) -/

/-- A work item (R287). TICK follows from the type; `age` is its number in the order of acceptance. -/
structure Item where
  flow : Nat := 0
  prio : Nat := 0
  type : Nat := 0
  source : Nat := 0
  stamp : W32 := 0
  payload : Bytes := []
  age : Nat := 0
  deriving DecidableEq, Repr

/-- The Docent. Cores are numbered cluster · 16 + core; 272 stands for the Curator's cores (log 20). Per flow: waiting items
in acceptance order, the active item's core (none while unassigned), the core that last ran the flow, the fence. Per
core: the ready list in order of priority and age, the running item, the pre-empted items (next to resume first), the
flow of its last completed item, whether it trapped in its item. Per set: the core chosen last. The running swap: slot
(16 when no slot is remapped), source and target cluster, whether the supervisor asked for it, when the slot was
remapped (ns). -/
structure Docent where
  waiting : NMap (List Item) := []
  active : NMap Item := []
  unassigned : List Nat := []
  lastCore : NMap Nat := []
  fenced : List Nat := []
  ready : NMap (List Item) := []
  running : NMap Item := []
  pre : NMap (List Item) := []
  /-- Per core, when its running item began to run less the time that it has been pre-empted, and how long each pre-empted
  item has run, ns (R448). -/
  started : NMap Nat := []
  ran : NMap (List Nat) := []
  lastFlow : NMap Nat := []
  trapped : List Nat := []
  lastOfSet : NMap Nat := []
  swap : Option (Nat × Nat × Nat × Bool) := none
  remapAt : Nat := 0
  /-- Items of stalled hardware producers, oldest first (R295). -/
  blocked : List Item := []

  /-- Items accepted so far. -/
  accepted : Nat := 0
  /-- Slots whose failed cluster's replacement waits until the running swap ends (R456): slot and cluster. -/
  waitSwap : List (Nat × Nat) := []
  /-- The cluster whose sections a cluster's code comes from, where it is not its own (R298). -/
  code : NMap Nat := []
  deriving DecidableEq, Repr

/-! ### The DSP cores (R256 to R286) -/

/-- What a load writes at the end of the next instruction (R268): data registers with their values. -/
abbrev Landing := List (Nat × W32)

/-- A branch on its way (R269): its target, the delay slots left, the branch's own address, whether it is a RETI, whether
it is taken. -/
structure Branch where
  target : W32
  left : Nat
  from_ : W32
  reti : Bool
  taken : Bool
  deriving DecidableEq, Repr

/-- A line of program memory (R259): its line number (address / 64), its bytes as filled, whether it is locked. -/
structure PmLine where
  line : Nat
  code : Bytes
  locked : Bool
  deriving DecidableEq, Repr

/-- A move at a core's port (R283): its descriptor of 20 bytes. -/
structure MoveJob where
  toBuffer : Bool
  handle : W32
  offset : Nat
  local_ : Nat
  len : Nat
  dirOk : Bool
  deriving DecidableEq, Repr

/-- A DSP core (R260, R281 to R283): registers, return stack (top first), program counter, the pending branch and
load, run state (0 WAIT, 1 running, 2 halted), whether it has entered service, program memory least recently used line
first, private memories (unlisted bytes 0), the port windows. -/
structure DspCore where
  d : NMap W32 := []
  a : NMap (BitVec 72) := []
  sr : W32 := 0x20
  lr : W32 := 0
  stack : List (W32 × W32) := []
  lc : NMap W32 := []
  ls : NMap W32 := []
  le : NMap W32 := []
  p : NMap W32 := []
  m : NMap W32 := []
  b : NMap W32 := []
  l : NMap W32 := []
  tcause : W32 := 0
  taddr : W32 := 0
  cycle : W64 := 0
  cycleHi : W32 := 0
  pc : W32 := 0
  branch : Option Branch := none
  load : Landing := []
  run : Nat := 0
  entered : Bool := false
  lastTrap : Nat := 0
  pm : List PmLine := []
  x : NMap Byte := []
  y : NMap Byte := []
  post : NMap Byte := []
  postRes : W32 := 0
  req : NMap Byte := []
  res : NMap W64 := []
  busy : List Nat := []
  move : NMap Byte := []
  jobDone : W32 := 0
  moveDone : W32 := 0
  moveFail : W32 := 0
  moves : List MoveJob := []
  deriving DecidableEq, Repr

/-- A cluster: its cores and its cluster memory (unlisted bytes 0). -/
structure Cluster where
  cores : NMap DspCore := []
  mem : NMap Byte := []
  deriving DecidableEq, Repr

/-! ### The audio fabric (R300 to R326, R433 to R437) -/

/-- A buffered packet of an input (R302): its buffer, payload offset and length, first covered tick, ticks covered, those
still claimed, its level record (V · 128 + level), the ORIGIN of a candidate from another device. -/
structure AudPkt where
  handle : W32
  off : Nat
  len : Nat
  first : Nat
  dur : Nat
  claims : List Nat
  level : Option Nat
  origin : Nat
  deriving DecidableEq, Repr

/-- An input (R301 to R303, R310, R323, R434): anchor timestamp and tick, buffered packets, consecutive packets late or
early, a resync asked for by a modify, state (0 IDLE, 1 PENDING, 2 ACTIVE, 3 HANGOVER, 4 LEAVING) with its hang, the
last tick it was a candidate in, the gain in force (none before the first) and that of the tick, its meters in 0.1 dB,
the last ORIGIN. `taken`: the descriptors at the head of its internal queue that the fabric has looked at, each with
whether it has been released (R30). -/
structure AudIn where
  taken : List (W32 × Bool) := []
  anchor : Option (W32 × Nat) := none
  pkts : List AudPkt := []
  streak : Nat := 0
  resync : Bool := false
  phase : Nat := 0
  hang : Nat := 0
  cand : Option Nat := none
  gain : Option Int := none
  gainNew : Int := 16384
  rms : Int := -1270
  peak : Int := -1270
  peakAge : Nat := 0
  origin : Option Nat := none
  deriving DecidableEq, Repr

/-- A frame of a tick (R314, R316): its input, the input's leg and its buffer, or the samples of a candidate from another device (24-bit,
as received); whether its decode completed by the mix point; whether it is mixed, in which slot, with which weight
(0 steady, 1 entering, 2 leaving); its level (V · 128 + level). -/
structure AudFrame where
  stream : Nat
  leg : Nat
  handle : Option W32
  data : Bytes
  done : Option Nat
  mixed : Bool
  slot : Nat
  weight : Nat
  level : Nat
  deriving DecidableEq, Repr

/-- A conference (R311, R318, R321, R433, R434): slots, the pending input with count and bc, the inputs leaving in the
tick (slot, stream, slot-table entry), the tick selected with its mix point (ns) and its frames, the effective home, the
one before it and the tick of the change, the MIX payloads of the tick by variant, the lanes in use by lane number, the
crosspoint gains as written, as of the tick and of the tick before, by 128 · input + output; the outputs of the tick; the
XP_IN of each input and the XP_OUT of each output, as of the tick and of the tick before (R309); who held each slot in the
last two ticks, the last one first (R363). -/
structure AudConf where
  slots : List (Option Nat) := []
  pending : Option (Nat × Nat × Nat) := none
  leaving : List (Nat × Nat × Nat) := []
  tick : Option Nat := none
  mixAt : Nat := 0
  frames : List AudFrame := []
  home : Option Nat := none
  oldHome : Option Nat := none
  changedAt : Nat := 0
  returned : NMap Bytes := []
  lanes : NMap Nat := []
  xp : NMap W16 := []
  xpNew : NMap W16 := []
  xpOld : NMap W16 := []
  outs : List Nat := []
  xin : NMap Nat := []
  xinOld : NMap Nat := []
  xout : NMap Nat := []
  xoutOld : NMap Nat := []
  past : List (Nat × List (Option Nat)) := []
  deriving DecidableEq, Repr

/-- A limiter's state (R308): its last 48 input samples, its gain in units of 2^−48. -/
structure Limiter where
  line : List Int := List.replicate 48 0
  gain : Nat := 281474976710656
  deriving DecidableEq, Repr

/-- An audio output (R308, R315, R323): packets counted, the first tick of the packet being gathered, the gain in
force, gain, limit and payload type of the tick, a limiter per variant, its meters. -/
structure AudOut where
  seq : Nat := 0
  first : Option Nat := none
  gain : Option Int := none
  gainNew : Int := 16384
  limit : Int := -1
  pt : Nat := 111
  lims : NMap Limiter := []
  rms : Int := -1270
  peak : Int := -1270
  peakAge : Nat := 0
  deriving DecidableEq, Repr

/-- What the fabric does once it has its buffer (R188): post a decode item of a stream in a tick, its payload's FRAME still
0, with a reference on a packet; post an encode item of an output on its carrier's flow, its payload's PCM still 0, with
the samples by variant; send a datagram on a peer leg, with its Terold type, its ORIGIN and its bytes. -/
inductive AudTask where
  | decode (conf tick stream : Nat) (pkt : Option W32) (payload : Bytes)
  | encode (conf tick out carrier : Nat) (payload : Bytes) (pcm : List (List Int))
  | datagram (leg conf tick type origin : Nat) (cells : Bytes)
  deriving DecidableEq, Repr

/-- The audio fabric: the last tick selected, inputs by stream, conferences, outputs, frames whose decode missed its mix
point (stream, tick, buffer), tasks that wait for their buffer, oldest first, with their numbers. -/
structure Audio where
  last : Option Nat := none
  ins : NMap AudIn := []
  confs : NMap AudConf := []
  outs : NMap AudOut := []
  late : List (Nat × Nat × W32) := []
  works : List (Nat × AudTask) := []
  deriving DecidableEq, Repr

end Sys2Proof.Machine
end

