-- ==== Sys2Proof/Machine/StateSouth.lean ====
section
/-!
DEFINITION. The state of the memory controller beside its registers and the memory's content.
-/

namespace Sys2Proof.Machine

/-- An answer to a memory request, as its port receives it: the source, whether the request was carried out (R410), whether
the data carries a poison mark (R13, R417), the data of a read. -/
structure MemAnswer where
  source : Nat := 0
  accepted : Bool := true
  poison : Bool := false
  data : Bytes := []
  deriving DecidableEq, Repr

/-- What a request of one burst does: a client's read or write, or a step of the patrol scrub. -/
inductive MemKind where
  | read
  | write
  | scrub
  deriving DecidableEq, Repr

/-- One burst of a request, in its channel's queue or stalled before it (R412): the request, its source, what it does, its
class, the burst, the bytes read or written, what a read of the array finds (0 no error, 1 corrected, 2 uncorrectable), how
many younger ones have passed it. -/
structure MemEntry where
  req : Nat
  source : Nat
  kind : MemKind
  latency : Bool
  burst : Nat
  lo : Nat
  len : Nat
  data : Bytes
  fault : Nat
  passed : Nat := 0
  deriving DecidableEq, Repr

/-- A request that is not answered yet (R411): number, source, bytes, whether it was refused (R410), the bursts still to be
served, what has been read of each, a poison mark. -/
structure MemReq where
  id : Nat
  source : Nat
  addr : Nat
  len : Nat
  refused : Bool
  left : List Nat
  got : NMap Bytes := []
  poison : Bool := false
  deriving DecidableEq, Repr

/-- The memory controller. -/
structure MemCtl where
  /-- Open rows (R413): bank, as channel · 16 + bank, and its row. -/
  openRows : NMap Nat := []
  /-- When each device got its last command from a request, ns (R419). -/
  lastCmd : NMap Nat := []
  /-- Each channel's read and write eye margins at start-up training, mV (R415). -/
  startMargin : NMap (Nat × Nat) := []
  /-- When the last retraining visit was made, ns (R414). -/
  visitAt : Option Nat := none
  /-- Where the patrol scrub stands in each channel: the next burst, counted within the channel (R418). -/
  scrubAt : NMap Nat := []
  /-- The next error-log entry to be written. -/
  logNext : Nat := 0
  /-- The channels' queues, oldest first, at most 32 requests each (R412). -/
  queues : NMap (List MemEntry) := []
  /-- Requests that wait for a place in their channel's queue, their sources stalled by credit (R412), in order of arrival. -/
  stalled : List MemEntry := []
  /-- Requests not answered yet, in order of arrival, and the number of the next one (R411). -/
  reqs : List MemReq := []
  nextReq : Nat := 0
  /-- The channels whose queued writes are being drained (R412). -/
  draining : List Nat := []
  /-- The grants in a row that a channel has given to the latency class while bulk requests waited (R412). -/
  sinceBulk : NMap Nat := []
  /-- The answers that the last memory request brought about, its own and those of requests that it let complete (the
  model's own record of what the ports received). -/
  answers : List MemAnswer := []
  deriving DecidableEq, Repr

end Sys2Proof.Machine
end

