-- ==== Sys2Proof/Machine/StateWest.lean ====
section
/-!
DEFINITION. The state of the West wing: pager, decode contexts and engines, Compositor, encode contexts and engines.
Every structure's defaults are its values at reset.
-/

namespace Sys2Proof.Machine

/-! ### Frame stores (R337 to R340) -/

/-- A frame store with the fields of its descriptor (R338), its pages in order, and the context it belongs to: a stream,
131,072 + an output for a surface, 262,144 + an output for an encode context, 1,000,000 once the context has ended.
Its slot in the context's page table. `busy`: a picture is being written into it; `queued`: it waits for output (R336). -/
structure Store where
  owner : Nat
  width : Nat
  height : Nat
  depth10 : Bool
  mono : Bool := false
  s : Nat := 0
  t : Nat := 0
  key : Bool := false
  taint : Bool := false
  ref : Bool := false
  presented : Bool := false
  anchor : Bool := false
  holds : Nat := 0
  outcome : Nat := 0
  conf : Nat := 0
  rtpTs : W32 := 0
  doneUs : W32 := 0
  pages : List Nat := []
  slot : Nat := 0
  busy : Bool := false
  queued : Bool := false
  deriving DecidableEq, Repr

/-- The pager: the stores in use by number (a number is never used again), the next number, and the 4 KiB units of
region 16 given to contexts (R409): owner, first unit, units. -/
structure Pager where
  stores : NMap Store := []
  nextId : Nat := 0
  blocks : List (Nat × Nat × Nat) := []
  deriving DecidableEq, Repr

/-! ### Decoding (R331 to R347) -/

/-- An access unit (R331 to R333): timestamp, arrival of its first packet (ns), the numbers received, the marker packet,
the chain of buffers, its bytes, where its NAL units or OBUs begin, whether damaged, whether a length field ran past its
packet (R345), the layers it keeps, whether its fragment in progress is kept, whether a slice has begun, whether it is a key
picture, when it closed (ns). -/
structure AccessUnit where
  ts : W32
  openedAt : Nat
  got : List W16 := []
  marker : Option W16 := none
  chain : List W32 := []
  len : Nat := 0
  starts : List Nat := []
  damaged : Bool := false
  lenErr : Bool := false
  s : Nat := 2
  t : Nat := 2
  keep : Bool := false
  begun : Bool := false
  key : Bool := false
  closedAt : Nat := 0
  deriving DecidableEq, Repr

/-- A decode context: engine, its reservation and the pages of one of its stores (fixed while it exists), state of R343
(0 WAIT_KEY, 1 CLEAN, 2 TAINTED, 3 STOPPED), current S and T, open units oldest first, buffers taken for the chain that
grows, waiting units oldest first, the number after the last closed unit's last packet, the timestamps of closed units,
the last one first, the last outcome other than OK, the engine it is to move to; its references by name, the frame_num of
the last one (R342), the pictures that wait for output with their order (R336), the AV1 operating point (R333). -/
structure DecCtx where
  engine : Nat := 0
  res : Nat := 0
  pages : Nat := 0
  phase : Nat := 0
  s : Nat := 2
  t : Nat := 2
  opened : List AccessUnit := []
  spare : List W32 := []
  waiting : List AccessUnit := []
  next : Option W16 := none
  closed : List W32 := []
  lastBad : Nat := 0
  moveTo : Option Nat := none
  refs : NMap Nat := []
  prevFrame : Option Nat := none
  out : List (Int × Nat) := []
  op : Option Nat := none
  deriving DecidableEq, Repr

/-- A picture in an engine: its context, its store, its access unit, its headers, the references substituted, whether it is
a key picture, the number of the context that ends with it (R348). -/
structure EnginePic where
  stream : Nat
  store : Nat
  unit_ : AccessUnit
  head : PicHead
  subst : Nat
  key : Bool
  ends : Option Nat := none
  deriving DecidableEq, Repr

/-- The decode subsystem: contexts by stream, the pictures in each engine oldest first, the contexts that end with their
picture in an engine (R348), by number: engine, reservation, pages of a store. -/
structure VideoDec where
  ctx : NMap DecCtx := []
  pipe : NMap (List EnginePic) := []
  ending : NMap (Nat × Nat × Nat) := []
  deriving DecidableEq, Repr

/-! ### The Compositor (R352 to R373) -/

/-- A layer as a frame has latched and resolved it: its index, Z, ALPHA, rectangle (X0, Y0, size), crop, store,
coefficient set. -/
structure CLayer where
  index : Nat
  z : Nat
  alpha : Nat
  x0 : Nat
  y0 : Nat
  dw : Nat
  dh : Nat
  cx0 : Nat
  cy0 : Nat
  cw : Nat
  ch : Nat
  store : Nat
  set_ : Nat
  deriving DecidableEq, Repr

/-- A frame in composition: output, its size, depth, block-row height, whether it goes to memory only, its conference, due
index, due time (ns), layers in ascending Z, background, coefficients, next block row, the stores held, the surface
store, whether a tainted store is drawn. -/
structure CFrame where
  output : Nat
  w : Nat
  h : Nat
  depth10 : Bool
  rowH : Nat
  sink : Bool
  conf : Nat
  n : Nat
  due : Nat
  layers : List CLayer
  bg : List Nat
  lcoef : List W32
  ccoef : List W32
  row : Nat
  held : List Nat
  store : Option Nat
  taint : Bool
  deriving DecidableEq, Repr

/-- A due frame: output, due index, due time, the slot occupants of its tick (R363). -/
structure DueFrame where
  output : Nat
  n : Nat
  due : Nat
  slots : List (Option Nat)
  deriving DecidableEq, Repr

/-- A block row in a row buffer (R370): its frame, its number, whether it is the last, a poison mark, its samples row by
row, and the rectangles of the layers drawn (R391). -/
structure BlockRow where
  output : Nat
  n : Nat
  due : Nat
  row : Nat
  last : Bool
  poison : Bool
  luma : List Nat
  cb : List Nat
  cr : List Nat
  rects : List (Nat × Nat × Nat × Nat × Nat)
  deriving DecidableEq, Repr

/-- A surface: its pipeline, the next due index, its last picture's store. -/
structure Surface where
  pipe : Nat := 0
  next : Nat := 0
  last : Option Nat := none
  deriving DecidableEq, Repr

/-- The Compositor: surfaces and membership words by output, due frames by pipeline, frames in composition, row
buffers; the outputs that end with the frame in composition (R373). -/
structure Compositor where
  surf : NMap Surface := []
  member : NMap W16 := []
  due : NMap (List DueFrame) := []
  frame : NMap CFrame := []
  rows : NMap (List BlockRow) := []
  ending : List Nat := []
  deriving DecidableEq, Repr

/-! ### Encoding (R377 to R399) -/

/-- A coded frame as rate control remembers it (R386 to R388): bytes, sum of the blocks' q and their number, bytes by
row. -/
structure CodedFrame where
  bytes : Nat := 0
  qSum : Nat := 0
  qNum : Nat := 0
  rows : List Nat := []
  deriving DecidableEq, Repr

/-- Rate control of a spatial layer (R386): buffer fullness, carry, target; the last frames of each temporal layer that
are no key pictures (up to 32 since the last key picture, newest first), the last frame of each temporal layer, the last
key picture. -/
structure RateCtl where
  full : Nat := 0
  carry : Nat := 0
  target : Nat := 0
  since : NMap (List CodedFrame) := []
  last : NMap CodedFrame := []
  key : Option CodedFrame := none
  deriving DecidableEq, Repr

/-- A unit of coded data: a parameter set, a slice, an OBU; its bytes, whether it is a parameter set. -/
structure CodedUnit where
  bytes : Bytes
  params : Bool
  deriving DecidableEq, Repr

/-- A spatial layer's frame in the engine: target, cap, its rate in bits per second, budgets by row, bytes spent, the row's
q, the q sum and count so far, bytes by row, floor mode, blocks to come, rows coded, its store for a T0 picture, its
bitstream buffer, whether its descriptor is on the queue; of a lower layer the rows in the line store that are not coded
yet, luma, Cb and Cr (R382). -/
structure LayerFrame where
  target : Nat
  cap : Nat
  rate : Nat
  budget : List Nat
  spent : Nat := 0
  q : Nat := 30
  qSum : Nat := 0
  qNum : Nat := 0
  rowBytes : List Nat := []
  floor : Bool := false
  left : Nat
  rows : Nat := 0
  store : Option Nat := none
  handle : W32
  enqueued : Bool := false
  luma : List Nat := []
  cb : List Nat := []
  cr : List Nat := []
  deriving DecidableEq, Repr

/-- A frame in an encode engine: output, due index, due time, key picture, temporal layer, whether it is dropped, its
spatial layers, the next row of the top layer, QMIN and QMAX and the regions of interest as the frame began (R379). -/
structure EngineFrame where
  output : Nat
  n : Nat
  due : Nat
  key : Bool
  t : Nat
  dropped : Bool
  layers : List LayerFrame
  row : Nat := 0
  qMin : Nat := 10
  qMax : Nat := 51
  rois : List (List (BitVec 8)) := []
  deriving DecidableEq, Repr

/-- A spatial layer's frame on its way through the packetiser, by buffer: its S, T, key, due time, coded units, how far
they are packetised (unit, byte), whether a packet has left; MAX_PAYLOAD, DD_ID and PT as the frame began (R379). -/
structure FrameBits where
  handle : W32
  s : Nat
  t : Nat
  key : Bool
  due : Nat
  units : List CodedUnit
  unit_ : Nat := 0
  pos : Nat := 0
  started : Bool := false
  limit : Nat := 1200
  ddId : Nat := 0
  pt : Nat := 96
  deriving DecidableEq, Repr

/-- An encode context: engine, rate control by spatial layer, due index and time of the last key picture, whether a key
picture is owed, whether stopped, the reference store by spatial layer, the packet count, frames for the packetiser, the
buffers taken for the layers of its next frame, the engine it is to move to. -/
structure EncCtx where
  engine : Nat := 0
  rc : NMap RateCtl := []
  keyN : Option Nat := none
  keyAt : Nat := 0
  owed : Bool := false
  stopped : Bool := false
  refs : NMap Nat := []
  seq : Nat := 0
  dd : Nat := 0
  bits : List FrameBits := []
  spare : NMap W32 := []
  moveTo : Option Nat := none
  deriving DecidableEq, Repr

/-- The encode subsystem: contexts by output, the frame in each engine, the block rows in each engine, at most two: the one
that is being coded and the one in stage 1 (R381 to R383). -/
structure VideoEnc where
  ctx : NMap EncCtx := []
  frame : NMap EngineFrame := []
  rows : NMap (List BlockRow) := []
  deriving DecidableEq, Repr

end Sys2Proof.Machine
end

