-- ==== Sys2Proof/Machine/State.lean ====
section
/-!
DEFINITION. The machine's state as plain data, and the state right after reset.
-/

namespace Sys2Proof.Machine

/-- The faults of a step. The module's own errors are answered, counted, dropped or lead to SAFE_STOP (R11, R83): no
command of the table stops the machine, and no meaning of this model raises a fault. -/
inductive Fault where
  /-- Raised by nobody: kept so that the type is inhabited (safe: a fault never hides an effect). -/
  | none
  deriving DecidableEq, Repr

/-- The refusals of a step. -/
inductive Refusal where
  /-- Raised by the dispatch alone, for a command that has no meaning yet (safe: it stops where the module goes on). -/
  | notModelled (mnemonic : String)
  deriving DecidableEq, Repr

/-- The whole module. `pending` is the queue of commands not yet taken; `draws` counts the free values drawn and is the
model's own field; `wire` and `answer` record what has left the module and what the last register access was answered.
Registers are kept by control-space address (R18): an address not listed reads its reset value. 64-bit counters are
kept by the address of their low word, an address not listed reads 0; `latches` holds latched high words (R120). -/
structure State where
  pending : List Instr := []
  draws : Nat := 0
  regs : NMap W32 := []
  ctrs : NMap W64 := []
  latches : NMap W32 := []
  answer : Answer := {}
  m : ModeSt := {}
  otp : Otp := {}
  pins : Pins := {}
  rails : Rails := {}
  time : Timebase := {}
  i2c : I2c := {}
  tap : Tap := {}
  /-- The 4 KiB fault-record area (R54, R55), unlisted bytes 0. -/
  frec : NMap Byte := [(0, 1), (2, 1)]
  cur : Curator := {}
  sup : Supervisor := {}
  /-- The management queues of the ports (R251), oldest frame first. -/
  mgmt : NMap (List MgmtFrame) := []
  atr : Atrium := {}
  rgs : Registrar := {}
  vlt : Vault := {}
  clo : Cloakroom := {}
  stk : Stacks := {}
  fwd : Forwarder := {}
  tmg : Tmg := {}
  cas : Cascade := {}
  doc : Docent := {}
  dsp : NMap Cluster := []
  afb : Audio := {}
  pgr : Pager := {}
  vde : VideoDec := {}
  cmp : Compositor := {}
  ven : VideoEnc := {}
  mct : MemCtl := {}
  /-- The objects (R86): by type · 2^20 + ID, the attributes given, each in network byte order. -/
  objs : NMap (NMap Bytes) := []
  /-- The objects' counters (R84): by (type · 2^20 + ID) · 65,536 + number. -/
  stats : NMap W64 := []
  /-- The usable content of GDDR7 by system address (R407), unlisted bytes 0, and the poisoned bursts (R416). -/
  gddr : NMap Byte := []
  poisoned : List Nat := []
  wire : List TxFrame := []
  /-- What the processor has written into the board's flash: copy (0 A, 1 B) and bytes (R94). -/
  programmed : List (Nat × Bytes) := []
  deriving DecidableEq, Repr

/-- The machine right after power-on reset: every field at the value the specification states, or at the value the
assumption log names. -/
def State.reset : State := {}

end Sys2Proof.Machine
end

