-- ==== Sys2Proof/Machine/Ops.lean ====
section
/-!
DEFINITION. The named operations shared by the meanings: time, free values, registers and counters, modes, errors,
the fault record, JCP messages and events, management frames.
-/

namespace Sys2Proof.Machine

/-- The outcome of a meaning. -/
abbrev Out := Host.Outcome State Fault Refusal

/-! ### Time (R26) -/

/-- The media timebase t in ns. -/
def State.t (s : State) : Nat := s.time.t.toNat
/-- t in µs. -/
def State.us (s : State) : Nat := s.t / 1000
/-- t in ms. -/
def State.ms (s : State) : Nat := s.t / 1000000

/-- One North packet clock cycle: the timebase adds its 32.32 increment. -/
def State.tick (s : State) : State :=
  let f := s.time.frac.toNat + s.time.inc.toNat % 4294967296
  { s with time := { s.time with
      t := s.time.t + BitVec.ofNat 64 (s.time.inc.toNat / 4294967296 + f / 4294967296)
      frac := BitVec.ofNat 32 f } }

/-- A timer's expiry is the passing of its time: t is at least the deadline afterwards (DESIGN CHOICE, log 4). -/
def State.reach (s : State) (deadline : Nat) : State :=
  if s.t < deadline then { s with time := { s.time with t := BitVec.ofNat 64 deadline } } else s

/-- A periodic round (R33): it runs its period after the round before it, and its time is kept. -/
def State.round (s : State) (k period : Nat) : State :=
  let s1 := match nget s.sup.rounds k with
    | some x => s.reach (x + period)
    | none => s
  { s1 with sup := { s1.sup with rounds := nput s1.sup.rounds k s1.t } }

/-! ### Free values (log 1) -/

/-- A fresh free value of `w` bits. -/
def State.draw (s : State) (w : Nat) : Nat × State :=
  (Config.freeBits s.draws w % 2 ^ w, { s with draws := s.draws + 1 })

/-- `n` fresh free bytes. -/
def State.drawBytes (s : State) (n : Nat) : Bytes × State :=
  (beBytes n (s.draw (8 * n)).1, (s.draw (8 * n)).2)

/-! ### Registers (R7, R8) and counters (R120) -/

/-- The stored word of item `i` of a register in unit `u`. -/
def State.rget (s : State) (r : Reg) (u i : Nat) : W32 :=
  ngetD (regReset r u i) s.regs (regAddr r u i)

/-- Store a register's word. -/
def State.rset (s : State) (r : Reg) (u i : Nat) (v : W32) : State :=
  { s with regs := nputD (regReset r u i) s.regs (regAddr r u i) v }

/-- A field of a stored register. -/
def State.rfld (s : State) (r : Reg) (u i lo len : Nat) : Nat := fld (s.rget r u i) lo len

/-- Store a field of a register. -/
def State.rsetFld (s : State) (r : Reg) (u i lo len n : Nat) : State :=
  s.rset r u i (setFld (s.rget r u i) lo len n)

/-- Set bit `b` of a register. -/
def State.rbit (s : State) (r : Reg) (u i b : Nat) : State := s.rsetFld r u i b 1 1

/-- A saturating count in a register field goes up by `n`. -/
def State.rcount (s : State) (r : Reg) (u i lo len n : Nat) : State :=
  s.rsetFld r u i lo len (min (2 ^ len - 1) (s.rfld r u i lo len + n))

/-- A 64-bit counter. -/
def State.cget (s : State) (r : Reg) (u i : Nat) : W64 := ngetD 0 s.ctrs (regAddr r u i)

/-- A 64-bit counter goes up by `n`, wrapping (R120). -/
def State.cadd (s : State) (r : Reg) (u i n : Nat) : State :=
  { s with ctrs := nputD 0 s.ctrs (regAddr r u i) (s.cget r u i + BitVec.ofNat 64 n) }

/-- A 64-bit counter goes up by 1. -/
def State.cinc (s : State) (r : Reg) (u i : Nat) : State := s.cadd r u i 1

/-- Clear `n` counters of a register from item `i` on, together, with their latched high words. -/
def State.cclear (s : State) (r : Reg) (u i n : Nat) : State :=
  (List.range n).foldl (fun s k =>
    { s with ctrs := ndel s.ctrs (regAddr r u (i + k)), latches := ndel s.latches (regAddr r u (i + k)) }) s

/-! ### Status codes (R83) and register accesses -/

def stOk : Nat := 0
def stBusy : Nat := 1
def stModeRefused : Nat := 2
def stUnmapped : Nat := 3
def stUnavailable : Nat := 4
def stResource : Nat := 5
def stNoObject : Nat := 6
def stExists : Nat := 7
def stBadTlv : Nat := 8
def stBadValue : Nat := 9
def stStaleSeq : Nat := 10
def stNoVersion : Nat := 11
def stNotPermitted : Nat := 12
def stInUse : Nat := 13
def stImageInvalid : Nat := 14
def stUnknownOpcode : Nat := 15
def stTooLarge : Nat := 16

/-- The outcome of an operation that may be refused with a status of R83. -/
abbrev Res (α : Type) := Except Nat α

/-- Finish a register access: a refused one changes nothing and leaves its status as the answer. -/
def State.answerWith (s : State) : Res State → State
  | .ok s' => { s' with answer := ⟨0, []⟩ }
  | .error e => { s with answer := ⟨e, []⟩ }

/-- A refusal when a condition holds. -/
def refuseIf (c : Bool) (st : Nat) : Res Unit := if c then .error st else .ok ()

/-- Count a drop of one of the reason codes 0x00 to 0x3F (R146). -/
def State.drop (s : State) (code : Nat) : State := s.cinc .rgsDropCnt 0 code

/-- Store the RW fields of a register that has no behaviour of its own (R8). -/
def State.storeRw (s : State) (r : Reg) (u i : Nat) (v : W32) : State :=
  let k := regInfo r
  s.rset r u i ((s.rget r u i &&& ~~~ (k.rw ||| (k.rw1c &&& v))) ||| (v &&& k.rw))

/-! ### Modes (R35, R36) -/

/-- The code of a mode (R35). -/
def modeCode : Mode → Nat
  | .off => 0
  | .powerUp => 1
  | .wipe => 2
  | .load => 3
  | .selfTest => 4
  | .linkUp => 5
  | .service => 6
  | .degraded => 7
  | .maintain => 8
  | .diagnostic => 9
  | .recovery => 10
  | .safeStop => 11

/-- The mode of a code; codes 0xC to 0xF are reserved. -/
def modeOf (n : Nat) : Option Mode :=
  [Mode.off, .powerUp, .wipe, .load, .selfTest, .linkUp, .service, .degraded, .maintain, .diagnostic, .recovery,
    .safeStop][n]?

/-- The modes with media egress (R36). -/
def State.egressOn (s : State) : Bool :=
  match s.m.mode with
  | .linkUp => s.m.windowOpen
  | .service | .degraded | .maintain | .diagnostic | .recovery => true
  | _ => false

/-- Is the North wing under restart (R36). -/
def State.northRestarting (s : State) : Bool :=
  match s.m.restarting with
  | some (1, _) => true
  | _ => false

/-- The modes in which R36 gives JCP a "yes". -/
def State.jcpOn (s : State) : Bool := s.egressOn && !s.northRestarting

/-- After LOAD (R102, R178): the modes in which an image-set register is no longer taken from the image. -/
def State.afterLoad (s : State) : Bool :=
  match s.m.mode with
  | .off | .powerUp | .wipe | .load => false
  | _ => true

/-- The modes with credit scheduling (R36, R241). -/
def State.creditMode (s : State) : Bool :=
  match s.m.mode with
  | .linkUp => s.m.windowOpen
  | .diagnostic | .recovery => true
  | _ => false

/-- FAULT_N as driven (R36, R476): none while undriven. -/
def State.faultN (s : State) : Option Bool :=
  match s.m.mode with
  | .off => none
  | .powerUp => if s.rget .chpClkLock 0 0 &&& 0x7F = 0x7F then some true else none
  | .safeStop => some false
  | _ => some true

/-- SAFE_N: high only where media egress is permitted (R36). -/
def State.safeN (s : State) : Bool := s.egressOn

/-- THERM_N: low while the hottest reading is at or above WARN (R451, R470). -/
def State.thermN (s : State) : Bool :=
  decide (s.m.mode = .off) || decide (s.rfld .chpThrottle 0 0 8 8 < s.rfld .chpTempTh 0 0 0 8)

/-- The level at each GPIO land (R479): the driven level of an output, the board's level of an input; all inputs
through LOAD and in SAFE_STOP. -/
def State.gpioIn (s : State) : W32 :=
  let dir := if s.afterLoad && decide (s.m.mode ≠ .safeStop) then s.rget .curGpioDir 0 0 else 0
  ((s.rget .curGpioOut 0 0 &&& dir) ||| (s.pins.gpioBoard.setWidth 32 &&& ~~~ dir)) &&& 0xFFFF

/-! ### The fault record (R54, R55, R460) -/

/-- Write bytes into the fault-record area. -/
def State.frWrite (s : State) (off : Nat) (b : Bytes) : State :=
  { s with frec := (List.zip (List.range b.length) b).foldl (fun m e => nputD 0 m (off + e.1) e.2) s.frec }

/-- A little-endian field of the fault-record area. -/
def State.frField (s : State) (off n : Nat) : Nat :=
  leField ((List.range n).map fun i => ngetD 0 s.frec (off + i)) 0 n

/-- Append a fault-log entry (R460): NEXT wraps from 191 to 1, TOTAL saturates. -/
def State.logFault (s : State) (code wing blk detail subject : Nat) : State :=
  let next := if s.frField 0x400 2 = 0 then 1 else s.frField 0x400 2
  let total := min 0xFFFFFFFF (s.frField 0x404 4 + 1)
  let e := leBytes 4 s.ms ++ [byteOf code, byteOf (modeCode s.m.mode), byteOf wing, byteOf blk] ++ leBytes 4 detail ++
    leBytes 2 subject ++ leBytes 2 total
  ((s.frWrite (0x400 + 16 * next) e).frWrite 0x400 (leBytes 2 (if next = 191 then 1 else next + 1))).frWrite 0x404
    (leBytes 4 total)

/-! ### Management frames and JCP messages (R71 to R74, R251) -/

/-- Put a frame on a port's management queue. -/
def State.sendMgmt (s : State) (p : Peer) (payload : Bytes) : State :=
  { s with mgmt := nput s.mgmt p.port ((nget s.mgmt p.port).getD [] ++ [.message p payload]) }

/-- One TLV (R73): type, length of the value, value padded to a multiple of 4. -/
def tlv (t : Nat) (v : Bytes) : Bytes := beBytes 2 t ++ beBytes 2 v.length ++ padTo 4 v

/-- The VER byte of a version: major and minor in 4-bit halves (R72). -/
def verByte (version : Nat) : Byte := byteOf (version / 256 % 16 * 16 + version % 16)

/-- A whole JCP message from the processor (R72, R74): header, TLV area, MAC under a key. -/
def jcpMessage (key : Bytes) (version flags opcode : Nat) (session seq : W32) (status : Nat) (tlvs : Bytes) : Bytes :=
  let h := [verByte version, byteOf flags] ++ beBytes 2 opcode ++ beBytes 4 session.toNat ++ beBytes 4 seq.toNat ++
    beBytes 2 tlvs.length ++ beBytes 2 status
  h ++ tlvs ++ (hmacSha256 key (h ++ tlvs)).take 16

/-! ### Events (R90, R91, R482) -/

/-- The TLV area of an event. -/
def eventTlvs (e : Event) : Bytes :=
  tlv 0x70 (beBytes 2 e.code) ++ tlv 0x71 (beBytes 8 e.time) ++
    tlv 0x72 (byteOf e.subjectType :: beBytes 4 e.subjectId) ++ tlv 0x73 e.detail

/-- The message of an event under a session's confirmed epoch. -/
def eventMessage (id : W32) (ep : Epoch) (seq : Nat) (e : Event) : Bytes :=
  jcpMessage ep.key ep.version 1 0x60 id (BitVec.ofNat 32 seq) 0 (eventTlvs e)

/-- Does a session take events: EVENTS in both PERM and FEATURES of a confirmed epoch. -/
def Session.takesEvents (x : Session) : Bool :=
  match x.confirmed with
  | some ep => x.perm.getLsbD 8 && ep.features.getLsbD 0
  | none => false

/-- Send queued events while fewer than 16 are in flight; `fuel` bounds the number sent. Answers the session and the
messages to send. -/
def pumpEvents (now : Nat) : Nat → Session → List (Peer × Bytes) → Session × List (Peer × Bytes)
  | 0, x, out => (x, out)
  | n + 1, x, out =>
    match x.queue, x.confirmed, x.peer with
    | e :: r, some ep, some p =>
      if x.inFlight.length < 16 then
        pumpEvents now n
          { x with
            queue := r
            inFlight := x.inFlight ++ [⟨x.eventSeq, e, 1, now⟩]
            eventSeq := x.eventSeq + 1 }
          (out ++ [(p, eventMessage x.id ep x.eventSeq e)])
      else (x, out)
    | _, _, _ => (x, out)

/-- An EVENT_LOST event is queued once the queue has room again (R90). -/
def queueLost (now : Nat) (x : Session) : Session :=
  if x.lost = 0 ∨ x.queue.length ≥ 1024 then x
  else { x with queue := x.queue ++ [⟨0x0E, now, 0, 0, beBytes 4 (min 0xFFFFFFFF x.lost)⟩], lost := 0 }

/-- Queue an event on one session: a full queue discards and counts it. -/
def queueEvent (e : Event) (x : Session) : Session × Nat :=
  if x.queue.length ≥ 1024 then ({ x with lost := x.lost + 1 }, 1)
  else ({ x with queue := x.queue ++ [e] }, 0)

/-- Replace session `k`. -/
def State.setSession (s : State) (k : Nat) (x : Session) : State :=
  { s with cur := { s.cur with sessions := lset s.cur.sessions k x } }

/-- Let session `k` send what its in-flight window allows. -/
def State.pump (s : State) (k : Nat) : State :=
  match s.cur.sessions[k]? with
  | none => s
  | some x =>
    let r := pumpEvents s.t 17 x []
    let x1 := queueLost s.t r.1
    let r2 := pumpEvents s.t 17 x1 r.2
    r2.2.foldl (fun s o => s.sendMgmt o.1 o.2) (s.setSession k r2.1)

/-- Raise an event (R90): it is queued on every open session that takes events, and sent as the windows allow. -/
def State.raise (s : State) (code subjectType subjectId : Nat) (detail : Bytes) : State :=
  (List.range s.cur.sessions.length).foldl (fun s k =>
    match s.cur.sessions[k]? with
    | none => s
    | some x =>
      if x.takesEvents then
        let q := queueEvent ⟨code, s.t, subjectType, subjectId, detail⟩ x
        ((s.setSession k q.1).rcount .curEventLost 0 0 0 32 q.2).pump k
      else s) s

/-! ### Blocks and the error tree (R21, R459) -/

/-- The listed blocks of a wing in ascending block-number order, the wing controller left out. -/
def wingBlocks : Nat → List Nat
  | 0 => [0, 1, 2, 3]
  | 1 => [1, 2, 3, 4, 5]
  | 2 => [1, 2] ++ (List.range 17).map (· + 16)
  | 3 => [1, 2, 3, 4, 8, 9, 10, 11, 12, 13]
  | 4 => [1, 2, 3]
  | _ => []

/-- The 41 blocks in the order of R55. -/
def allBlocks : List (Nat × Nat) := (List.range 5).flatMap fun w => (wingBlocks w).map fun b => (w, b)

/-- STATE of a block of wings 1 to 4 (R21); chip-level blocks run. -/
def State.blkState (s : State) (wing num : Nat) : Nat :=
  if wing = 0 then 4 else s.rfld .chpWingBlkState (wing - 1) num 0 3

/-- Set a block's STATE. -/
def State.setBlkState (s : State) (wing num st : Nat) : State :=
  if wing = 0 then s else s.rsetFld .chpWingBlkState (wing - 1) num 0 3 st

/-- The PLLs of a wing, by their bits in CHP_CLK_LOCK (R23, R25): North's include the Vault's, South's the PHY's. -/
def wingPlls : Nat → List Nat
  | 1 => [0, 1]
  | 2 => [2]
  | 3 => [3]
  | 4 => [4, 5]
  | _ => []

/-- The PLLs of a wing are locked. -/
def State.wingLocked (s : State) (wing : Nat) : Bool :=
  (wingPlls wing).all fun b => decide (s.rfld .chpClkLock 0 0 b 1 = 1)

/-- A block's reset (R15) is under way: it shows 1, and its wing's clocks run. -/
def State.underReset (s : State) (wing num : Nat) : Bool :=
  decide (s.blkState wing num = 1) && nhas s.sup.resetAt (256 * wing + num) && s.wingLocked wing && s.afterLoad &&
    decide (s.m.mode ≠ .safeStop)

/-- STATE as read (R21): a block reset shows 1 while the reset is applied, less than 1 µs, then 2, then 3, within the 2 ms
(5 ms for a DSP cluster) of R15; the split of wipe and restore is free (log 13). -/
def State.blkShown (s : State) (wing num : Nat) : Nat :=
  if s.underReset wing num then
    let from_ := ngetD 0 s.sup.resetAt (256 * wing + num)
    let rest := (if wing = 2 ∧ 16 ≤ num then 5000000 else 2000000) - 1000
    if s.t < from_ + 1000 then 1
    else if s.t < from_ + 1000 + Config.wipeShare (256 * wing + num) from_ % rest then 2
    else 3
  else s.blkState wing num

/-- The cores of a cluster have their clock and code: in service, while the cluster is loaded by a swap, and while its reset
runs, whose last part is their start-up (R285). -/
def State.clusterRuns (s : State) (cl : Nat) : Bool :=
  decide (3 ≤ s.blkState 2 (16 + cl) ∧ s.blkState 2 (16 + cl) ≤ 6) || s.underReset 2 (16 + cl)

/-- In service: neither in reset nor being wiped or restored (R20). -/
def State.blkUp (s : State) (wing num : Nat) : Bool :=
  let st := s.blkState wing num
  decide (st = 4 ∨ st = 5 ∨ st = 6)

/-- The stored ERR_STATUS of a block, without the computed OWN bit. -/
def State.errRaw (s : State) (wing num : Nat) : W32 :=
  if wing = 0 then s.rget .chpChipErrStatus 0 num else s.rget .chpErrStatus (wing - 1) num

/-- Is an RW1C bit of a register set in any of its items. -/
def State.sticky (s : State) (r : Reg) (u : Nat) : Bool :=
  decide ((regInfo r).rw1c ≠ 0) &&
    s.regs.any fun e => decide (regAddr r u 0 ≤ e.1 ∧ e.1 < regAddr r u 0 + (regInfo r).stride * (regInfo r).count ∧
      (e.1 - regAddr r u 0) % (regInfo r).stride = 0 ∧ e.2 &&& (regInfo r).rw1c ≠ 0)

/-- ERR_STATUS.OWN: an RW1C bit of the block's own registers is set (R459). The error-tree registers themselves are
not own registers of a block. -/
def State.ownBit (s : State) (wing num : Nat) : Bool :=
  match findBlk wing num with
  | some (b, u) =>
    (regAll.any fun r =>
      decide ((regInfo r).blk = b) && decide (r ≠ .chpChipErrStatus ∧ r ≠ .chpChipCellLog ∧ r ≠ .chpErrStatus ∧ r ≠ .chpCellLog ∧ r ≠ .curResetCause) &&
        s.sticky r u) ||
      (decide (b = .cur) && decide (s.rfld .curResetCause 0 0 0 7 ≠ 0))
  | none => false

/-- ERR_STATUS of a block as read. -/
def State.errStatus (s : State) (wing num : Nat) : W32 :=
  setFld (s.errRaw wing num) 8 1 (b2n (s.ownBit wing num))

/-- CHP_WING_ERR_SUMMARY of a wing: bit 0 a sticky bit of the wing controller, HB_MISS or one of its ERR_STATUS, bit n the
wing's n-th block. -/
def State.wingSummary (s : State) (wing : Nat) : W32 :=
  let bs := wingBlocks wing
  BitVec.ofNat 32 (
    b2n (decide (s.rfld .chpWingHb (wing - 1) 0 16 1 = 1 ∨ s.rget .chpErrStatus (wing - 1) 0 ≠ 0)) +
    (List.zip (List.range bs.length) bs).foldl
      (fun a e => a + (if s.errStatus wing e.2 = 0 then 0 else 2 ^ (e.1 + 1))) 0)

/-- CHP_ERR_SUMMARY. -/
def State.errSummary (s : State) : W32 :=
  let f (b : Bool) (i : Nat) : Nat := if b then 2 ^ i else 0
  BitVec.ofNat 32 (
    f ((List.range 4).any fun b => decide (s.errStatus 0 b ≠ 0)) 0 +
    (List.range 4).foldl (fun a w => a + f (decide (s.wingSummary (w + 1) ≠ 0)) (w + 1)) 0 +
    f (decide (s.rget .chpClkLol 0 0 ≠ 0)) 5 + f (decide (s.rget .chpCdcErr 0 0 ≠ 0)) 6 +
    f ((List.range 4).any fun w => decide (s.rfld .chpWingHb w 0 16 1 = 1)) 7 +
    f (decide (s.rget .chpMonErr 0 0 ≠ 0)) 8 +
    f (s.regs.any fun e => decide (regAddr .chpLegIso 0 0 ≤ e.1 ∧ e.1 ≤ regAddr .chpLegIso 0 1023 ∧ e.2 ≠ 0)) 9)

/-- Set a bit of a block's ERR_STATUS (0 CE, 1 UE, 2 TIMEOUT, 3 PARITY, 4 FENCE, 5 WDT, 6 RESET, 7 CHECK, 9 SELFTEST).
A bit other than CE that goes from 0 to 1 sends an ERROR event (R459). -/
def State.setErr (s : State) (wing num bit : Nat) : State :=
  let old := s.errRaw wing num
  if fld old bit 1 = 1 then s
  else
    let s1 := if wing = 0 then s.rset .chpChipErrStatus 0 num (setFld old bit 1 1)
      else s.rset .chpErrStatus (wing - 1) num (setFld old bit 1 1)
    if bit = 0 then s1
    else s1.raise 0x0B 0 0 ([byteOf wing, byteOf num, 0, 0] ++ beBytes 4 (s1.errStatus wing num).toNat)

/-- A cell record of an error met once: VALID, COUNT 1, KIND, CELL (R459). -/
def cellWord (cell kind : Nat) : W32 := BitVec.ofNat 32 (cell % 4096 + kind * 0x1000 + 0x10000 + 0x80000000)

/-- Record an error in the block's four cell records (R459): a recorded pair counts up, a new pair takes the first
free record, later distinct errors are not recorded. Kinds: 1 CE, 2 UE, 3 TIMEOUT, 4 PARITY. -/
def State.cellLog (s : State) (wing num cell kind place : Nat) : State :=
  let r : Reg := if wing = 0 then .chpChipCellLog else .chpCellLog
  let rw : Reg := if wing = 0 then .chpChipCellWhere else .chpCellWhere
  let u := if wing = 0 then 0 else wing - 1
  let at' (i : Nat) : W32 := s.rget r u (4 * num + i)
  match (List.range 4).find? fun i => fld (at' i) 31 1 = 1 && fld (at' i) 0 12 = cell % 4096 && fld (at' i) 12 4 = kind with
  | some i => s.rcount r u (4 * num + i) 16 8 1
  | none =>
    match (List.range 4).find? fun i => fld (at' i) 31 1 = 0 with
    | some i =>
      (s.rset r u (4 * num + i) (cellWord cell kind)).rset rw u (4 * num + i) (BitVec.ofNat 32 place)
    | none => s

/-- A cell error is recorded and sets its ERR_STATUS bit. -/
def State.cellError (s : State) (wing num cell kind place : Nat) : State :=
  (s.cellLog wing num cell kind place).setErr wing num (kind - 1)

/-- A consumer in a block has met data with a poison mark (R13): what it was to use is dropped and counted under 0x28, and
the event is reported to its block, whose ERR_STATUS.UE says so (DEDUCED, log 81). -/
def State.metPoison (s : State) (wing num : Nat) : State := (s.drop 0x28).setErr wing num 1

/-- A stream is fenced (R11, R130): the Registrar refuses its further packets (R144). -/
def State.fenceStream (s : State) (st : Nat) : State :=
  if s.rgs.fenced.contains st then s else { s with rgs := { s.rgs with fenced := s.rgs.fenced ++ [st] } }

/-- A subscription is fenced (R212). -/
def State.fenceSub (s : State) (id : Nat) : State :=
  { s with fwd := { s.fwd with subs := nmodify s.fwd.subs id fun e => { e with fenced := true } } }

/-- Report a trigger to the safety supervisor (R456). -/
def State.report (s : State) (t : Trigger) : State :=
  { s with sup := { s.sup with reported := s.sup.reported ++ [t] } }

/-- Set a sticky bit of a block's own register. OWN follows it, and an OWN that turns from 0 to 1 sends an ERROR event
(R459). -/
def State.flag (s : State) (r : Reg) (u i bit : Nat) : State :=
  let k := blkInfo (regInfo r).blk
  let num := k.num + u
  let s1 := s.rbit r u i bit
  if s.ownBit k.wing num then s1
  else s1.raise 0x0B 0 0 ([byteOf k.wing, byteOf num, 0, 0] ++ beBytes 4 (s1.errStatus k.wing num).toNat)

/-- Set a sticky bit of a block's own register whose setting raises an ERROR event of its own, whatever the block's
ERR_STATUS showed. -/
def State.flagEvent (s : State) (r : Reg) (u i bit : Nat) : State :=
  let k := blkInfo (regInfo r).blk
  let num := k.num + u
  let s1 := s.rbit r u i bit
  s1.raise 0x0B 0 0 ([byteOf k.wing, byteOf num, 0, 0] ++ beBytes 4 (s1.errStatus k.wing num).toNat)

/-- The memory controller loses what its channel queues and open rows hold, and the requests that wait for their answers. -/
def State.loseRequests (s : State) : State :=
  { s with mct := { s.mct with
    openRows := [], queues := [], stalled := [], reqs := [], draining := [], sinceBulk := [], answers := [] } }

end Sys2Proof.Machine
end

