-- ==== Sys2Proof/Machine/Supervise.lean ====
section
/-!
DEFINITION. Mode changes (R37, R38), parts out of service and limits (R59, R455, R483), SAFE_STOP (R45) and the warm
reset (R43, R55), as operations the meanings share.
-/

namespace Sys2Proof.Machine

/-- Wing, block number and part byte of a part, as PART_OUT gives them (R482). -/
def partPlace : Part → Nat × Nat × Nat
  | .cluster n => (2, 0x10 + n, 0xFF)
  | .decode n => (3, 1 + n, 0xFF)
  | .encode n => (3, 8 + n, 0xFF)
  | .pipeline n => (3, 8 + n, 0xFF)
  | .aes n => (1, 3, n)
  | .sha n => (1, 3, 32 + n)
  | .quad n => (1, 1, n)
  | .sramRow w b _ _ => (w, b, 0xFF)
  | .checker _ => (0, 2, 0xFF)
  | .block w b => (w, b, 0xFF)
  | .gddrChannel _ => (4, 1, 0xFF)

/-- The replaceable parts of R455 (an SRAM row is repaired, not taken out). -/
def partReplaceable : Part → Bool
  | .cluster _ | .decode _ | .encode _ | .pipeline _ | .aes _ | .sha _ | .quad _ => true
  | _ => false

/-- A failing pipeline takes its engine with it (R455): the part recorded is the engine. -/
def partRecorded : Part → Part
  | .pipeline n => .encode n
  | p => p

/-- The mode a transition to SERVICE or DEGRADED lands in (R38). -/
def State.landing (s : State) : Mode := if s.sup.outParts = [] then .service else .degraded

/-- A completed mode change by transition `num` (R37): CUR_MODE follows, and a MODE_CHANGE event is sent unless the old
or the new mode has no JCP. `cause` is the code of R458 where the supervisor decided, else 0. -/
def State.enterMode (s : State) (new : Mode) (num cause : Nat) : State :=
  let s1 : State := { s with m := { s.m with mode := new, prev := s.m.mode, target := none, num := num } }
  if s.egressOn && s1.egressOn then
    s1.raise 1 0 0 [byteOf (modeCode s.m.mode), byteOf (modeCode new), byteOf num, byteOf cause]
  else s1

/-- LIMITS events for a list of changed limits, at most 10 in one event (R483); `fuel` bounds the events. -/
def State.raiseLimits : Nat → State → List (Nat × Nat) → State
  | 0, s, _ => s
  | n + 1, s, l =>
    match l with
    | [] => s
    | a :: r =>
      let s1 := s.raise 2 0 0 (((a :: r).take 10).flatMap fun e => beBytes 2 e.1 ++ beBytes 4 e.2)
      State.raiseLimits n s1 ((a :: r).drop 10)

/-- The duty in percent of encode engines and Compositor pipelines at a throttle level (R452). -/
def dutyEncode : Nat → Nat
  | 0 => 100
  | 1 => 75
  | 2 => 50
  | _ => 25

/-- The duty in percent of decode engines at a throttle level (R452). -/
def dutyDecode : Nat → Nat
  | 0 | 1 | 2 => 100
  | 3 => 50
  | _ => 25

/-- Is a part out of service. -/
def State.partIsOut (s : State) (p : Part) : Bool := s.sup.outParts.contains p

/-- The logical slots that hold a cluster (R297): the DSP clusters in service. -/
def State.clustersMapped (s : State) : Nat := countIf (fun i => s.rfld .docMap 0 i 0 5 ≠ 31) (List.range 16)

/-- The limits the remaining parts sustain at the present throttle level (R59, R320, R330, R379, R452): identifier of R483,
register, unit, item, field, value. Sixteen clusters carry 12,288 Opus decodes and 8,192 encode units, and each cluster
its sixteenth of both (DEDUCED, log 83). -/
def State.videoLimits (s : State) : List (Nat × Reg × Nat × Nat × Nat × Nat) :=
  let lv := s.rfld .chpThrottle 0 0 0 3
  [(1, Reg.afbDecRes, 0, 0, 14, 768 * s.clustersMapped), (2, Reg.afbEncRes, 0, 0, 14, 512 * s.clustersMapped)] ++
    (List.range 4).map (fun n =>
      (0x10 + n, Reg.vdeRes, n, 0, 12, if s.partIsOut (.decode n) then 0 else 2000 * dutyDecode lv / 100)) ++
    (List.range 4).map (fun n =>
      (0x20 + n, Reg.venRes, n, 0, 10, if s.partIsOut (.encode n) then 0 else 1000 * dutyEncode lv / 100)) ++
    (List.range 4).map (fun n =>
      (0x30 + n, Reg.cmpPipeRes, 0, n, 10, if s.partIsOut (.encode n) then 0 else 1000 * dutyEncode lv / 100))

/-- The limits of parts that are counted: AES and SHA-1 pipelines, DSP clusters, SerDes quads in service (R483). -/
def State.countLimits (s : State) : List (Nat × Nat) :=
  [(0x40, 32 - countIf (fun i => fld (s.rget .vltAesStatus 0 0) i 1 = 1) (List.range 32)),
   (0x41, 8 - countIf (fun i => fld (s.rget .vltShaStatus 0 0) i 1 = 1) (List.range 8)),
   (0x50, s.clustersMapped),
   (0x60, 24 - countIf (fun q => s.partIsOut (.quad q)) (List.range 24))]

/-- Set the LIMIT fields to what the parts sustain and answer the identifiers whose limit changed, with the new
values. -/
def State.setVideoLimits (s : State) : State × List (Nat × Nat) :=
  s.videoLimits.foldl (fun (a : State × List (Nat × Nat)) l =>
    let (id, r, u, i, len, v) := l
    if a.1.rfld r u i 16 len = v then a
    else (a.1.rsetFld r u i 16 len v, a.2 ++ [(id, v)])) (s, [])

/-- Run a change of the parts in service and report by LIMITS every limit that it changed (R59, R483). -/
def State.withLimits (s : State) (f : State → State) (more : List (Nat × Nat)) : State :=
  let before := s.countLimits
  let r := (f s).setVideoLimits
  let counts := (List.zip before r.1.countLimits).filterMap fun e => if e.1.2 = e.2.2 then none else some e.2
  State.raiseLimits 8 r.1 (more ++ r.2 ++ counts)

/-- OUT_PARTS follows the list of parts out of service. -/
def State.setOut (s : State) (l : List Part) : State :=
  ({ s with sup := { s.sup with outParts := l } }).rsetFld .chpSupStatus 0 0 0 8 (min 255 l.length)

/-- The DETAIL of PART_OUT and PART_BACK (R482). -/
def partDetail (p : Part) (cause : Nat) : Bytes :=
  let (w, b, x) := partPlace p
  [byteOf w, byteOf b, byteOf x, byteOf cause]

/-- Record a part as out of service: OUT_PARTS, a fault-log entry, a PART_OUT event (R41, R456). -/
def State.recordOut (s : State) (p : Part) (cause : Nat) : State :=
  if s.partIsOut p then s
  else
    let (w, b, x) := partPlace p
    let s1 := (s.setOut (s.sup.outParts ++ [p])).logFault 0x05 w b cause x
    s1.raise 3 0 0 (partDetail p cause)

/-- A part returns to service by `f`: PART_BACK, a fault-log entry, the limits that `f` and its return restore, and
transition 10 when it was the last (R38, R59). -/
def State.partBackBy (s : State) (p : Part) (f : State → State) : State :=
  if s.partIsOut p then
    let (w, b, x) := partPlace p
    let s1 := s.withLimits (fun s => ((f s).setOut (s.sup.outParts.erase p)).logFault 0x06 w b 0 x) []
    let s2 := s1.raise 4 0 0 (partDetail p 0)
    if s2.m.mode = .degraded ∧ s2.sup.outParts = [] then s2.enterMode .service 10 0 else s2
  else s

/-- A part returns to service. -/
def State.partBack (s : State) (p : Part) : State := s.partBackBy p id

/-- CUR_MODE as read (R35). -/
def State.curMode (s : State) : W32 :=
  BitVec.ofNat 32 (modeCode s.m.mode + 16 * modeCode s.m.prev +
    (match s.m.target with
     | some x => 256 + 4096 * modeCode x
     | none => 0) + 65536 * s.m.num)

/-- The valid cell records of the blocks with a non-zero ERR_STATUS, each with its block's position (R460). -/
def State.cellDetail (s : State) : Bytes :=
  let recs := (List.zip (List.range 41) allBlocks).flatMap fun e =>
    let (pos, w, b) := e
    if s.errStatus w b = 0 then []
    else (List.range 4).filterMap fun i =>
      let r : Reg := if w = 0 then .chpChipCellLog else .chpCellLog
      let rw : Reg := if w = 0 then .chpChipCellWhere else .chpCellWhere
      let u := if w = 0 then 0 else w - 1
      let v := s.rget r u (4 * b + i)
      if fld v 31 1 = 1 then
        some (leBytes 4 (setFld v 24 6 pos).toNat ++ leBytes 4 (s.rget rw u (4 * b + i)).toNat)
      else none
  fitTo 776 ((recs.take 97).flatten)

/-- The snapshot of R55 from offset 0x014 on, with the word given for CUR_RESET_CAUSE. -/
def State.snapshot (s : State) (causeWord : W32) : State :=
  s.frWrite 0x014 (leBytes 4 causeWord.toNat ++ leBytes 4 s.curMode.toNat ++
    leBytes 4 (s.rget .curBootStatus 0 0).toNat ++ zeros 32 ++ leBytes 4 s.errSummary.toNat ++
    ((List.range 4).flatMap fun w => leBytes 4 (s.wingSummary (w + 1)).toNat) ++
    (allBlocks.flatMap fun e => leBytes 4 (s.errStatus e.1 e.2).toNat) ++ s.cellDetail)

/-- What is left when every memory of the die and all of GDDR7 have been wiped (R49): the fault record, the registers,
the fuses, the pins, the timebase, the management targets; every table, buffer, queue and key is at its reset value. -/
def State.wiped (s : State) : State :=
  { State.reset with
    pending := s.pending, draws := s.draws, regs := s.regs, ctrs := s.ctrs, answer := s.answer, m := s.m, otp := s.otp,
    pins := s.pins, rails := s.rails, time := s.time, i2c := s.i2c, tap := s.tap, frec := s.frec, sup := s.sup,
    wire := s.wire, programmed := s.programmed,
    mct := s.loseRequests.mct }

/-- SAFE_STOP by transition 17 with a cause of R458 (R36, R45, R458, R479): the decision is logged, the snapshot written
with 0 at offset 0x014, egress stops, the key table is zeroised, SRAM and GDDR7 are wiped, the GDDR7 rails are switched
off, the chip watchdog stops, every GPIO returns to an input. -/
def State.safeStop (s : State) (cause : Nat) : State :=
  let s1 := (s.rsetFld .chpSupStatus 0 0 8 8 cause).logFault 0x09 0 2 cause 0
  let s2 := (s1.snapshot 0).wiped
  let s3 : State := { s2 with
    m := { mode := .safeStop, prev := s.m.mode, target := none, num := 17 }
    rails := { s2.rails with gddrOff := true }
    pins := { s2.pins with ppsOut := false }
    time := { s2.time with ppsRise := none }
    sup := { s2.sup with deadline := none, reported := [], wdtOpen := [], heartbeat := [] } }
  ((s3.rset .curGpioDir 0 0 0).rset .curGpioOut 0 0 0).rset .curWipeStatus 0 0
    (setFld (s3.rget .curWipeStatus 0 0) 0 1 0)

/-- OFF by transition 1 (R36, R38): all state is lost except OTP. The timebase and the fault record go with it. -/
def State.powerOff (s : State) : State :=
  { State.reset with
    pending := s.pending, draws := s.draws, otp := s.otp, pins := s.pins, wire := s.wire,
    programmed := s.programmed,
    rails := { step := 0 }
    m := { mode := .off, prev := s.m.mode, target := none, num := 1 } }

/-- The bit of CUR_RESET_CAUSE that a warm reset sets: 1 CHIP_WDT, 2 JCP, 3 BOOT_TIMEOUT, 4 LC_CHANGE, 6 WING. The
times of the last three warm resets are kept in the fault record (R55). A third warm reset within 60 s becomes SAFE_STOP
(R43); one exactly 60,000 ms after the first is not within 60 s (DESIGN CHOICE, log 84). -/
def State.warmReset (s : State) (causeBit : Nat) : State :=
  let count := s.frField 0x004 4
  let second := s.frField 0x00C 4
  let now := s.ms % 4294967296
  if count ≥ 2 ∧ (now + 4294967296 - second) % 4294967296 < 60000 then
    (s.rbit .curResetCause 0 0 5).safeStop 0x13
  else
    let count' := min 0xFFFFFFFF (count + 1)
    let word : W32 := BitVec.ofNat 32 (2 ^ causeBit + 256 * min 255 count')
    let times := leBytes 4 now ++ leBytes 4 (s.frField 0x008 4) ++ leBytes 4 second
    let s1 := (s.logFault 0x0A 0 0 word.toNat 0).frWrite 0x004 (leBytes 4 count' ++ times)
    let s2 := (s1.snapshot word).wiped
    let resets := (List.range 4).flatMap fun u => (List.range 256).filterMap fun b =>
      let n := s.rfld .chpWingBlkState u b 8 8
      if n = 0 then none else some (u, b, n)
    let lock := s.rget .chpClkLock 0 0
    let s3 : State := { s2 with
      regs := [], ctrs := []
      m := { mode := .powerUp, prev := s.m.mode, target := some .wipe, num := 3 }
      pins := { s2.pins with ppsOut := false }
      time := { s2.time with inc := 0x100000000, ppsIn := none, ppsRise := none }
      sup := {} }
    resets.foldl (fun s e => s.rsetFld .chpWingBlkState e.1 e.2.1 8 8 e.2.2)
      ((s3.rset .curResetCause 0 0 word).rset .chpClkLock 0 0 lock)

/-! ### Checker hits and isolated legs (R441 to R443) -/

/-- Is a leg isolated (CHP_LEG_ISO). -/
def State.isolated (s : State) (leg : Nat) : Bool := s.rfld .chpLegIso 0 (leg / 32) (leg % 32) 1 = 1

/-- The wing a checker sits in (R440): KEY, EGRESS_MEMBER and EGRESS_PLAIN in North, AUDIO_TAG in East, LAYER_MEMBER in
West; with its block number. -/
def checkerBlock : Nat → Nat × Nat
  | 1 => (1, 3)
  | 2 | 3 => (1, 5)
  | 4 => (2, 2)
  | 5 => (3, 12)
  | 6 => (1, 3)
  | _ => (0, 0)

end Sys2Proof.Machine
end

