-- ==== Sys2Proof/Machine/Phy.lean ====
section
/-!
DEFINITION. The PHY types of the ports (R97), their rates, and the transmit side of a port: its buffer and its lanes.
-/

namespace Sys2Proof.Machine

/-- A PHY type: lanes, quad rate code, Gb/s, the FEC codes it may use. -/
structure Phy where
  lanes : Nat
  rate : Nat
  gbps : Nat
  fec : List Nat
  deriving DecidableEq, Repr

/-- The PHY types of R97 by MODE; 0xD to 0xF are reserved. -/
def phy (mode : Nat) : Option Phy :=
  [⟨1, 1, 10, [0]⟩, ⟨1, 1, 10, [0]⟩, ⟨1, 2, 25, [1]⟩, ⟨1, 2, 25, [0, 1]⟩, ⟨1, 3, 50, [2]⟩, ⟨1, 3, 50, [2]⟩,
   ⟨4, 2, 100, [1]⟩, ⟨4, 2, 100, [0, 1]⟩, ⟨2, 3, 100, [2]⟩, ⟨2, 3, 100, [2]⟩, ⟨4, 3, 200, [2]⟩, ⟨4, 3, 200, [2]⟩,
   ⟨8, 3, 400, [2]⟩][mode]?

/-! ### The transmitter (R38, R114, R120, R238) -/

/-- A port's bits per ns: the rate of its resolved or fixed mode. -/
def State.portRate (s : State) (p : Nat) : Nat := (phy (s.rfld .atrPortStatus 0 p 4 4)).elim 10 (·.gbps)

/-- The bytes in a port's transmit buffer, those not yet on the lanes (R238). -/
def State.txHeld (s : State) (p : Nat) : Nat := (ngetD 0 s.tmg.txFree p - s.t) * s.portRate p / 8

/-- A frame goes into a port's transmit buffer, behind what it holds, and from there onto the lanes at the port's rate; a
frame that the PTP function marks is stamped with t as it begins (R114). Lengths as in R3. -/
def State.putFrame (s : State) (p : Nat) (frame : Bytes) (ptp : Bool) : State :=
  let from_ := max s.t (ngetD 0 s.tmg.txFree p)
  let until_ := from_ + cdiv ((frame.length + 4) * 8) (s.portRate p)
  { s with
    wire := s.wire ++ [⟨p, frame, false, from_, until_, if ptp then some from_ else none⟩]
    tmg := { s.tmg with txFree := nput s.tmg.txFree p until_ } }

/-- Egress stops (R38): the frame on a port's lanes ends with an invalid FCS and counts in counter 15, and what its buffer
holds behind it never leaves. -/
def State.cutFrames (s : State) : State :=
  let onLanes := s.wire.filter fun f => decide (f.from_ ≤ s.t ∧ s.t < f.until_)
  let s1 := onLanes.foldl (fun s f => s.cinc .atrCnt 0 (16 * f.port + 15)) s
  { s1 with
    wire := (s1.wire.filter fun f => decide (f.from_ ≤ s1.t ∨ f.until_ ≤ s1.t)).map fun f =>
      if s1.t < f.until_ then { f with truncated := true } else f
    tmg := { s1.tmg with txFree := [] } }

end Sys2Proof.Machine
end

