-- ==== Sys2Proof/Machine/Objects.lean ====
section
/-!
DEFINITION. Objects and their attributes (R86), object counters (R84), GDDR7's usable content (R407, R408), access to
the state of ports, cores and queues that several blocks share.
-/

namespace Sys2Proof.Machine

/-! ### Objects: types of R86 -/

def tyLeg : Nat := 1
def tyStream : Nat := 2
def tyConf : Nat := 3
def tySub : Nat := 4
def tyOutput : Nat := 5
def tyLayout : Nat := 6
def tyPool : Nat := 7
def tyShaper : Nat := 8

/-- The key of an object in `objs`. -/
def objKey (ty id : Nat) : Nat := ty * 1048576 + id

/-- An object's attributes, none where it does not exist. -/
def State.obj? (s : State) (ty id : Nat) : Option (NMap Bytes) := nget s.objs (objKey ty id)

/-- Does an object exist. -/
def State.objExists (s : State) (ty id : Nat) : Bool := (s.obj? ty id).isSome

/-- The IDs of the objects of a type, ascending. -/
def State.idsOf (s : State) (ty : Nat) : List Nat :=
  ((nkeys s.objs).filter fun k => k / 1048576 = ty).map (· % 1048576)

/-- An attribute as given, none where it was never given. -/
def State.attr? (s : State) (ty id a : Nat) : Option Bytes := (s.obj? ty id).bind (nget · a)

/-- An attribute as a number, or its default. -/
def State.attr (s : State) (ty id a d : Nat) : Nat := ((s.attr? ty id a).map beNat).getD d

/-- A signed attribute of `w` bits, or its default. -/
def State.attrI (s : State) (ty id a w : Nat) (d : Int) : Int := ((s.attr? ty id a).map (sgn w ∘ beNat)).getD d

/-- An object's counter goes up by `n`, wrapping. -/
def State.sadd (s : State) (ty id num n : Nat) : State :=
  let k := objKey ty id * 65536 + num
  { s with stats := nputD 0 s.stats k (ngetD 0 s.stats k + BitVec.ofNat 64 n) }

/-- An object's counter goes up by 1. -/
def State.sinc (s : State) (ty id num : Nat) : State := s.sadd ty id num 1

/-! Attributes that several chapters read. -/

/-- The leg of a stream (0x0100). -/
def State.streamLeg (s : State) (st : Nat) : Nat := s.attr tyStream st 0x100 0
/-- MEDIA of a stream (R130). -/
def State.media (s : State) (st : Nat) : Nat := s.attr tyStream st 0x103 0
/-- LAYER_SYNTAX of a stream. -/
def State.syntaxOf (s : State) (st : Nat) : Nat := s.attr tyStream st 0x104 0
/-- SRTP of a stream. -/
def State.srtp (s : State) (st : Nat) : Bool := s.attr tyStream st 0x108 1 = 1
/-- REPLAY of a stream: by default as SRTP. -/
def State.replay (s : State) (st : Nat) : Bool := s.attr tyStream st 0x109 (s.attr tyStream st 0x108 1) = 1
/-- The port, group and conference of a leg (R245). -/
def State.legPort (s : State) (l : Nat) : Nat := s.attr tyLeg l 0x500 0
def State.legGroup (s : State) (l : Nat) : Nat := s.attr tyLeg l 0x501 0
def State.legConf (s : State) (l : Nat) : Nat := s.attr tyLeg l 0x502 0
/-- ENCRYPT and MIRROR of a leg. -/
def State.legEncrypt (s : State) (l : Nat) : Bool := s.attr tyLeg l 0x503 1 = 1
def State.legMirror (s : State) (l : Nat) : Bool := s.attr tyLeg l 0x504 0 = 1
/-- The conference of a stream: its leg's. -/
def State.streamConf (s : State) (st : Nat) : Nat := s.legConf (s.streamLeg st)
/-- The peer device of a leg (R422), none for an ordinary leg. -/
def State.peer? (s : State) (l : Nat) : Option Nat :=
  let d := s.attr tyLeg l 0xA00 0xFFFF
  if d = 0xFFFF then none else some d
/-- The output that claims a stream index as its CARRIER (R325). -/
def State.carrierOf (s : State) (st : Nat) : Option Nat :=
  (s.idsOf tyOutput).find? fun o => s.attr? tyOutput o 0x601 = some (beBytes 4 st)

/-! ### GDDR7 (R407, R408) -/

/-- The address of a region's first byte, and its size. -/
def State.regionBase (s : State) (r : Nat) : Nat := s.rfld .mctRegionBase 0 r 0 16 * 1048576
def State.regionSize (s : State) (r : Nat) : Nat := s.rfld .mctRegionSize 0 r 0 16 * 1048576

/-- `n` bytes of a sparse memory from an address on, unlisted bytes 0. -/
def memRead (m : NMap Byte) (a n : Nat) : Bytes :=
  let here := (m.dropWhile fun e => e.1 < a).takeWhile fun e => e.1 < a + n
  (List.range n).map fun i => ngetD 0 here (a + i)

/-- The cells of a string at an address: the bytes that are not 0. -/
def memCells (a : Nat) (b : Bytes) : NMap Byte :=
  ((List.range b.length).zip b).filterMap fun e => if e.2 = 0 then none else some (a + e.1, e.2)

/-- Write a string into a sparse memory whose unlisted bytes are 0. -/
def memWrite (m : NMap Byte) (a : Nat) (b : Bytes) : NMap Byte :=
  (m.takeWhile fun e => e.1 < a) ++ memCells a b ++ (m.dropWhile fun e => e.1 < a + b.length)

/-- The bursts (R407) that a range of bytes touches. -/
def burstsOf (a n : Nat) : List Nat := if n = 0 then [] else (List.range ((a + n - 1) / 64 - a / 64 + 1)).map (· + a / 64)

/-- Read GDDR7. -/
def State.gread (s : State) (a n : Nat) : Bytes := memRead s.gddr a n

/-- Is a burst of a range poisoned (R13, R416). -/
def State.gpoison (s : State) (a n : Nat) : Bool := (burstsOf a n).any s.poisoned.contains

/-- Write GDDR7: a burst written whole is no longer poisoned. -/
def State.gwrite (s : State) (a : Nat) (b : Bytes) : State :=
  { s with
    gddr := memWrite s.gddr a b
    poisoned := s.poisoned.filter fun u => !(decide (a ≤ 64 * u) && decide (64 * u + 64 ≤ a + b.length)) }

/-! ### Cores (R256) -/

/-- A core by its number cluster · 16 + core. -/
def State.core (s : State) (c : Nat) : DspCore := ngetD {} (ngetD {} s.dsp (c / 16)).cores (c % 16)

/-- Replace a core. -/
def State.setCore (s : State) (c : Nat) (x : DspCore) : State :=
  let k := ngetD {} s.dsp (c / 16)
  { s with dsp := nputD {} s.dsp (c / 16) { k with cores := nputD {} k.cores (c % 16) x } }

/-- A cluster's memory. -/
def State.cmem (s : State) (cl : Nat) : NMap Byte := (ngetD {} s.dsp cl).mem

/-- Replace a cluster's memory. -/
def State.setCmem (s : State) (cl : Nat) (m : NMap Byte) : State :=
  { s with dsp := nputD {} s.dsp cl { ngetD {} s.dsp cl with mem := m } }

/-- RUN and DEPTH of a core's status register follow the core (R286's registers). -/
def State.syncCore (s : State) (c : Nat) : State :=
  let x := s.core c
  ((s.rsetFld .dspCoreStatus (c / 16) (c % 16) 0 2 x.run).rsetFld .dspCoreStatus (c / 16) (c % 16) 2 3
    x.stack.length).rsetFld .dspCoreStatus (c / 16) (c % 16) 8 4 x.lastTrap

end Sys2Proof.Machine
end

