-- ==== Sys2Proof/Machine/Cloakroom.lean ====
section
/-!
DEFINITION. The Cloakroom (chapter The Cloakroom and the Stacks, R177 to R193): pools, handles, allocation, reference
counts, rejections, and the writes of its registers.
-/

namespace Sys2Proof.Machine

/-! ### Pools and handles (R177 to R179) -/

/-- The buffer size of a pool. -/
def poolSize (p : Nat) : Nat := [256, 2048, 4096, 16384, 65536, 262144, 1048576, 4194304].getD p 0
/-- The alignment of a pool. -/
def poolAlign (p : Nat) : Nat := [256, 2048].getD p 4096

def State.poolCount (s : State) (p : Nat) : Nat := s.rfld .cloPoolCfg 0 p 0 24
def State.poolCeil (s : State) (p : Nat) : Nat := s.rfld .cloPoolCfg 0 p 24 3
def State.poolBase (s : State) (p : Nat) : Nat := s.regionBase (8 + p)
def State.pool (s : State) (p : Nat) : Pool := ngetD {} s.clo.pools p
def State.setPool (s : State) (p : Nat) (x : Pool) : State :=
  { s with clo := { s.clo with pools := nputD {} s.clo.pools p x } }

/-- The fields of a handle. -/
def hPool (h : W32) : Nat := fld h 29 3
def hGen (h : W32) : Nat := fld h 24 5
def hIndex (h : W32) : Nat := fld h 0 24
def mkHandle (p gen i : Nat) : W32 := BitVec.ofNat 32 (p * 536870912 + gen * 16777216 + i)

/-- The address of the buffer that a handle names. -/
def State.bufAddr (s : State) (h : W32) : Nat := s.poolBase (hPool h) + hIndex h * poolSize (hPool h)
/-- The size of the buffer that a handle names. -/
def bufSize (h : W32) : Nat := poolSize (hPool h)

/-- A buffer's record; a buffer not used since LOAD is free with generation 0. -/
def State.bufRec (s : State) (h : W32) : BufRec := ngetD {} (s.pool (hPool h)).recs (hIndex h)
def State.setRec (s : State) (h : W32) (r : BufRec) : State :=
  let x := s.pool (hPool h)
  s.setPool (hPool h) { x with recs := nput x.recs (hIndex h) r }

/-- Free buffers of a pool. -/
def State.poolFree (s : State) (p : Nat) : Nat :=
  (s.pool p).freed.length + (s.poolCount p - (s.pool p).recs.length)

/-- CLO_POOL_LOW follows the free count down. -/
def State.lowMark (s : State) (p : Nat) : State :=
  s.rsetFld .cloPoolLow 0 p 0 24 (min (s.rfld .cloPoolLow 0 p 0 24) (s.poolFree p))

/-- The reference count of a record: in its extension entry when EXT is set (R192). -/
def State.refCount (s : State) (r : BufRec) : Nat :=
  if r.ext then (ngetD 0 s.clo.ext r.count.toNat).toNat else r.count.toNat

/-- The `k`-th number not in a rising list. -/
def nthMissing (k : Nat) (l : List Nat) : Nat := l.foldl (fun k u => if u ≤ k then k + 1 else k) k

/-! ### Clients and checks (R180 to R185) -/

/-- A client's owner domain. -/
def Client.domain : Client → Nat
  | .hw d => d
  | .core c _ => 10 + c / 16

/-- Requests of a domain that are outstanding (R182). -/
def State.outstanding (s : State) (d : Nat) : Nat :=
  countIf (fun h => h.client.domain = d) s.clo.held + countIf (fun h => h.client.domain = d) s.clo.stalled

/-- Tell a client the outcome of its request (R183, R282). -/
def State.answerClient (s : State) (cl : Client) (code : Nat) (h : W32) : State :=
  let s1 : State := { s with clo := { s.clo with reply := some (cl, code, h) } }
  match cl with
  | .hw _ => s1
  | .core c tag =>
    let x := s1.core c
    s1.setCore c { x with
      res := nputD 0 x.res tag (BitVec.ofNat 64 (1 + 2 * code + 4294967296 * h.toNat))
      busy := x.busy.filter (· ≠ tag) }

/-- The address of a buffer lies inside its pool's region and on its alignment (check 3 of R184). -/
def State.addrOk (s : State) (h : W32) : Bool :=
  let p := hPool h
  decide (s.bufAddr h % poolAlign p = 0 ∧ s.bufAddr h + poolSize p ≤ s.regionBase (8 + p) + s.regionSize (8 + p))

/-- The checks of R184 on a handle: the code of the first that fails, none when all pass. Request 0 INC, 1 DEC,
2 SHARE. -/
def State.handleFault (s : State) (d : Nat) (req : Nat) (h : W32) : Option Nat :=
  let p := hPool h
  let r := s.bufRec h
  if s.poolCount p = 0 ∨ s.poolCount p ≤ hIndex h then some 3
  else if s.addrOk h = false then some 4
  else if r.gen.toNat ≠ hGen h then some 5
  else if r.alloc = false ∨ s.refCount r = 0 then some 6
  else if r.owner.toNat = d then none
  else if req = 2 then some 7
  else if r.share.getLsbD d = true ∧ d < 27 then none
  else some 7

/-- A rejection (R185): counter, sticky bit, log entry; a corrupted pool base also sets the cell error (R184). -/
def State.reject (s : State) (d req : Nat) (h : W32) (code : Nat) : State :=
  let i := s.clo.rejNext
  let s1 := (s.cinc .cloCnt 0 7).flag .cloRejStatus 0 0 (code - 3)
  let s2 := (s1.rset .cloRejLog 0 i h).rset .cloRejDetail 0 i
    (BitVec.ofNat 32 (d + 32 * req + 128 * code + 2048 * (s.us % 2097152)))
  let s3 : State := { s2 with clo := { s2.clo with rejNext := (i + 1) % 16 } }
  if code = 4 then s3.cellError 4 2 (hPool h) 4 (hIndex h) else s3

/-! ### Allocation (R186 to R189) -/

/-- The start pool of a size: the smallest configured pool whose buffers hold it. -/
def State.startPool (s : State) (size : Nat) : Option Nat :=
  (List.range 8).find? fun p => decide (s.poolCount p ≠ 0) && decide (size ≤ poolSize p)

/-- Take a free buffer of a pool for a domain (R181, R186): the last freed first; of buffers never used any may come
(free value). -/
def State.takeBuffer (s : State) (p d : Nat) : W32 × State :=
  let x := s.pool p
  let share := s.rget .cloShareDef 0 d &&& 0x07FFFFFF
  let put (s : State) (i : Nat) (freed : List Nat) : W32 × State :=
    let g := (ngetD {} x.recs i).gen
    let r : BufRec := ⟨1, g, BitVec.ofNat 5 d, false, true, share⟩
    (mkHandle p g.toNat i,
      (s.setPool p { freed := freed, recs := nput x.recs i r, ptr := (d + 1) % 32 }).lowMark p)
  match x.freed with
  | i :: rest => put s i rest
  | [] =>
    let k := s.draw 24
    put k.2 (nthMissing (k.1 % (s.poolCount p - x.recs.length)) (nkeys x.recs)) []

/-- The first pool from `p` up to the ceiling with a free buffer. -/
def State.firstFree (s : State) (p top : Nat) : Option Nat :=
  (List.range 8).find? fun q => decide (p ≤ q) && decide (q ≤ top) && decide (s.poolFree q ≠ 0)

/-- Grant a buffer from a pool, the request having started at `start`. -/
def State.grant (s : State) (d start p : Nat) : W32 × State :=
  let r := s.takeBuffer p d
  let s1 := (r.2.cinc .cloCnt 0 0).sinc tyPool p 0x100
  (r.1, if p = start then s1 else (s1.cinc .cloCnt 0 4).sinc tyPool p 0x101)

/-- An allocation's outcome: a handle, or a code of R184 (1 EMPTY). -/
abbrev AllocRes := Except Nat W32

/-- Grant a buffer of pool `q` to a domain, or reject the request where the buffer's address fails check 3 of R184: nothing
of the pool changes then. -/
def State.grantOr (s : State) (d start q : Nat) : AllocRes × State :=
  let g := s.grant d start q
  if s.addrOk g.1 then (.ok g.1, g.2) else (.error 4, s.reject d 3 g.1 4)

/-- ALLOC under R184, R186 and R189, without the wait of R188. -/
def State.alloc (s : State) (d size : Nat) (yellow : Bool) : AllocRes × State :=
  if size = 0 ∨ 4194304 < size then (.error 2, s)
  else
    match s.startPool size with
    | none => (.error 1, s.cinc .cloCnt 0 5)
    | some p =>
      let reserve := s.rfld .cloPoolYel 0 p 0 24
      if yellow = true ∧ 0 < reserve ∧ s.poolFree p ≤ reserve then
        (.error 9, (s.cinc .cloCnt 0 6).sinc tyPool p 0x103)
      else
        match s.firstFree p (s.poolCeil p) with
        | some q => s.grantOr d p q
        | none => (.error 1, (s.cinc .cloCnt 0 5).sinc tyPool p 0x102)

/-- An ALLOC that ended as EMPTY is held in its client's credit (R188). -/
def State.holdAlloc (s : State) (cl : Client) (size : Nat) (work : Option Nat) : State :=
  let p := (s.startPool size).getD 8
  { s with clo := { s.clo with
    held := s.clo.held ++ [⟨cl, size, p, if p = 8 then 0 else s.poolCeil p, work⟩] } }

/-- An ALLOC of a client that has credit (R188): with `wait`, EMPTY holds the request. -/
def State.allocNow (s : State) (cl : Client) (size : Nat) (yellow wait : Bool) : State :=
  match s.alloc cl.domain size yellow with
  | (.ok h, s1) => s1.answerClient cl 0 h
  | (.error code, s1) => if code = 1 ∧ wait = true then s1.holdAlloc cl size none else s1.answerClient cl code 0

/-- A request beyond its client's 256 outstanding ones stalls the client (R182): it waits for its credit. -/
def State.overCredit (s : State) (q : HeldReq) : State := { s with clo := { s.clo with beyond := s.clo.beyond ++ [q] } }

/-- An ALLOC of a client. -/
def State.allocFor (s : State) (cl : Client) (size : Nat) (yellow wait : Bool) : State :=
  if s.outstanding cl.domain ≥ 256 then
    s.overCredit { client := cl, kind := 3, handle := 0, arg := 4 * size + 2 * b2n yellow + b2n wait }
  else s.allocNow cl size yellow wait

/-- A hardware block's own ALLOC for its work number `work` (R188): a buffer granted to it meanwhile, or one now; on EMPTY the
request is held, the block keeps the work and comes back for it, and nothing is dropped. Answers 1 while it waits. -/
def State.hwAlloc (s : State) (d work size : Nat) : AllocRes × State :=
  match s.clo.granted.find? fun e => decide (e.1 = d ∧ e.2.1 = work) with
  | some e => (.ok e.2.2, { s with clo := { s.clo with granted := s.clo.granted.erase e } })
  | none =>
    if (s.clo.held.any fun h => decide (h.client.domain = d ∧ h.work = some work)) || decide (s.outstanding d ≥ 256) then
      (.error 1, s)
    else
      match s.alloc d size false with
      | (.error 1, s1) => (.error 1, s1.holdAlloc (.hw (Fin.ofNat 32 d)) size (some work))
      | r => r

/-- A block gives up a work that waited for a buffer. -/
def State.hwAllocEnd (s : State) (d work : Nat) : State :=
  { s with clo := { s.clo with held := s.clo.held.filter fun h => !decide (h.client.domain = d ∧ h.work = some work) } }

/-- Of the held allocations that a buffer of pool `p` may serve, the one the pool's pointer reaches first: domains
ascending from the pointer, the oldest of a domain. -/
def State.nextHeld (s : State) (p : Nat) : Option HeldAlloc :=
  let cand := s.clo.held.filter fun h => decide (h.start ≤ p) && decide (p ≤ h.top)
  (List.range 32).findSome? fun k => cand.find? fun h => h.client.domain = ((s.pool p).ptr + k) % 32

/-- A held allocation ends: a block's work finds its buffer in `granted`, any other client has its answer. -/
def State.endHeld (s : State) (h : HeldAlloc) (code : Nat) (b : W32) : State :=
  let s1 : State := { s with clo := { s.clo with held := s.clo.held.erase h } }
  match h.work with
  | some w =>
    if code = 0 then { s1 with clo := { s1.clo with granted := s1.clo.granted ++ [(h.client.domain, w, b)] } } else s1
  | none => s1.answerClient h.client code b

/-- Retry the held allocations when a buffer has been freed into pool `p` (R188). -/
def State.retryHeld (s : State) (p : Nat) : State :=
  match s.nextHeld p with
  | none => s
  | some h =>
    match s.firstFree h.start h.top with
    | none => s
    | some q =>
      match s.grantOr h.client.domain h.start q with
      | (.ok b, s1) => s1.endHeld h 0 b
      | (.error c, s1) => s1.endHeld h c 0

/-! ### Reference counts (R190 to R193) -/

/-- Store a count: above 65,535 in an extension entry, else in the record, the entry then released. The entry taken is
any free one (free value). None when no entry is free. -/
def State.setCount (s : State) (h : W32) (r : BufRec) (n : Nat) : Option State :=
  if n ≤ 65535 then
    let s1 : State := if r.ext then { s with clo := { s.clo with ext := ndel s.clo.ext r.count.toNat } } else s
    some (s1.setRec h { r with count := BitVec.ofNat 16 n, ext := false })
  else if r.ext then
    some { s with clo := { s.clo with ext := nput s.clo.ext r.count.toNat (BitVec.ofNat 32 n) } }
  else if s.clo.ext.length ≥ 4096 then none
  else
    let k := s.draw 12
    let i := nthMissing (k.1 % (4096 - s.clo.ext.length)) (nkeys s.clo.ext)
    let s1 := k.2.setRec h { r with count := BitVec.ofNat 16 i, ext := true }
    some (({ s1 with clo := { s1.clo with ext := nput s1.clo.ext i (BitVec.ofNat 32 n) } }).cinc .cloCnt 0 8)

/-- A buffer goes back to its pool (R191). -/
def State.freeBuffer (s : State) (h : W32) (r : BufRec) : State :=
  let s1 : State := if r.ext then { s with clo := { s.clo with ext := ndel s.clo.ext r.count.toNat } } else s
  let s2 := s1.setRec h { r with count := 0, ext := false, alloc := false, gen := r.gen + 1 }
  let x := s2.pool (hPool h)
  ((s2.setPool (hPool h) { x with freed := hIndex h :: x.freed }).cinc .cloCnt 0 1).retryHeld (hPool h)

/-- What an INC, a DEC or a SHARE that passed the checks does: none where an INC finds no extension entry. -/
def State.applyReq (s : State) (kind : Nat) (h : W32) (arg : Nat) : Option State :=
  let r := s.bufRec h
  let n := s.refCount r
  match kind with
  | 0 => s.setCount h r (n + arg)
  | 1 => if n = 1 then some (s.freeBuffer h r) else s.setCount h r (n - 1)
  | _ => some (s.setRec h { r with share := r.share ||| BitVec.ofNat 32 arg })

/-- A request that is not held back: checked, applied, its code; none where it must wait for an extension entry. -/
def State.tryReq (s : State) (d kind : Nat) (h : W32) (arg : Nat) : Option (Nat × State) :=
  match s.handleFault d kind h with
  | some c => some (c, s.reject d kind h c)
  | none =>
    if kind = 0 ∧ (arg = 0 ∨ 65535 < arg ∨ 4294967295 < s.refCount (s.bufRec h) + arg) then
      some (8, s.reject d kind h 8)
    else (s.applyReq kind h arg).map fun s' => (0, s')

/-- The block of a hardware client's domain (R180), where its failed items are recorded. -/
def domainBlock : Nat → Nat × Nat
  | 1 => (1, 2)
  | 2 => (1, 3)
  | 3 => (1, 4)
  | 4 => (1, 5)
  | 5 => (2, 2)
  | 6 => (3, 1)
  | 7 => (3, 8)
  | 8 => (3, 12)
  | 9 => (4, 3)
  | _ => (0, 0)

/-- A failed item of a hardware block (R11, R185, R196): it is dropped and counted under FENCED, its flow is fenced, and the
block's ERR_STATUS.FENCE is set. Where the block holds no flow for it, the block alone knows what it fences (log 91). -/
def State.failHw (s : State) (d : Nat) (flow : ItemFlow) : State :=
  let s1 := (s.drop 0x26).setErr (domainBlock d).1 (domainBlock d).2 4
  match flow with
  | .stream st => s1.fenceStream st
  | .sub n => s1.fenceSub n
  | .flow f => { s1 with doc := { s1.doc with
      fenced := if s1.doc.fenced.contains f then s1.doc.fenced else s1.doc.fenced ++ [f] } }
  | .untied => s1

/-- The answer to a request: the code of R184; to a hardware client a rejection is a failed item (R185). -/
def State.answerReq (s : State) (q : HeldReq) (code : Nat) : State :=
  let s1 := s.answerClient q.client code 0
  match q.client with
  | .hw d => if code = 0 ∨ d.val = 0 then s1 else s1.failHw d q.flow
  | .core _ _ => s1

/-- Does an earlier request of the same client on the same buffer hold one back (R182). -/
def HeldReq.holdsBack (e q : HeldReq) : Bool :=
  decide (e.client.domain = q.client.domain) && decide (hIndex e.handle = hIndex q.handle) &&
    decide (hPool e.handle = hPool q.handle)

/-- The first held request that no earlier one of its client on its buffer holds back and that can go on. -/
def State.nextStalled (s : State) : List HeldReq → List HeldReq → Option (HeldReq × (Nat × State))
  | _, [] => none
  | seen, q :: r =>
    match (if seen.any (·.holdsBack q) then none else s.tryReq q.client.domain q.kind q.handle q.arg) with
    | some x => some (q, x)
    | none => s.nextStalled (seen ++ [q]) r

/-- An INC that no earlier request holds back any more and that itself finds no extension entry is a stall: it counts once
and sets FULL (R192). -/
def State.countStalls (s : State) : List HeldReq → List HeldReq → State
  | seen, [] => { s with clo := { s.clo with stalled := seen } }
  | seen, q :: r =>
    if q.counted || decide (q.kind ≠ 0) || seen.any (·.holdsBack q) then s.countStalls (seen ++ [q]) r
    else ((s.cinc .cloCnt 0 9).flag .cloExtStatus 0 0 13).countStalls (seen ++ [{ q with counted := true }]) r

/-- Serve the held requests that can go on, in order (R182, R192); `fuel` bounds their number. -/
def State.serveStalled : Nat → State → State
  | 0, s => s.countStalls [] s.clo.stalled
  | n + 1, s =>
    match s.nextStalled [] s.clo.stalled with
    | none => s.countStalls [] s.clo.stalled
    | some (q, code, s1) =>
      State.serveStalled n
        (({ s1 with clo := { s1.clo with stalled := s1.clo.stalled.erase q } }).answerReq q code)

/-- Extension entries released let held requests go on. -/
def State.settle (s : State) : State :=
  if s.clo.stalled = [] then s else State.serveStalled s.clo.stalled.length s

/-- A request that has its client's credit (R182): in order per client and buffer; an INC that finds no extension entry
stalls. -/
def State.enterReq (s : State) (q : HeldReq) : State :=
  if q.kind = 3 then s.allocNow q.client (q.arg / 4) (decide (q.arg / 2 % 2 = 1)) (decide (q.arg % 2 = 1))
  else
    let s0 := if q.kind = 0 then s.cinc .cloCnt 0 2 else if q.kind = 1 then s.cinc .cloCnt 0 3 else s
    let hold (s : State) (q : HeldReq) : State := { s with clo := { s.clo with stalled := s.clo.stalled ++ [q] } }
    if s0.clo.stalled.any (·.holdsBack q) then hold s0 q
    else
      match s0.tryReq q.client.domain q.kind q.handle q.arg with
      | some (code, s1) => (s1.answerReq q code).settle
      | none => hold ((s0.cinc .cloCnt 0 9).flag .cloExtStatus 0 0 13) { q with counted := true }

/-- Requests that waited for their client's credit enter as it allows; `fuel` bounds them. -/
def State.enterOver : Nat → State → State
  | 0, s => s
  | n + 1, s =>
    match takeFirst (fun q => decide (s.outstanding q.client.domain < 256)) s.clo.beyond with
    | none => s
    | some (q, r) => State.enterOver n (State.enterReq { s with clo := { s.clo with beyond := r } } q)

/-- An INC, DEC or SHARE of a client (R182, R183): beyond 256 outstanding it waits for the client's credit. -/
def State.requestOf (s : State) (q : HeldReq) : State :=
  if s.outstanding q.client.domain ≥ 256 then s.overCredit q
  else
    let s1 := s.enterReq q
    if s1.clo.beyond = [] then s1 else State.enterOver s1.clo.beyond.length s1

/-- An INC, DEC or SHARE of a client. -/
def State.request (s : State) (cl : Client) (kind : Nat) (h : W32) (arg : Nat) : State :=
  s.requestOf { client := cl, kind := kind, handle := h, arg := arg }

/-- A DEC by a hardware client of a domain, for an item of a flow. -/
def State.decRef (s : State) (d : Nat) (h : W32) (flow : ItemFlow := .untied) : State :=
  s.requestOf { client := .hw (Fin.ofNat 32 d), kind := 1, handle := h, arg := 0, flow := flow }
/-- An INC by a hardware client of a domain, for an item of a flow. -/
def State.incRef (s : State) (d : Nat) (h : W32) (n : Nat) (flow : ItemFlow := .untied) : State :=
  if n = 0 then s
  else s.requestOf { client := .hw (Fin.ofNat 32 d), kind := 0, handle := h, arg := n, flow := flow }

/-- A block releases what was granted to a work it has given up. -/
def State.hwAllocDrop (s : State) (d work : Nat) : State :=
  match s.clo.granted.find? fun e => decide (e.1 = d ∧ e.2.1 = work) with
  | some e => State.decRef { s with clo := { s.clo with granted := s.clo.granted.erase e } } d e.2.2
  | none => s.hwAllocEnd d work

/-! ### Register writes -/

/-- A write of CLO_POOL_CFG (R178): after LOAD a changed COUNT is refused. -/
def State.writePoolCfg (s : State) (p : Nat) (v : W32) : Res State := do
  refuseIf (s.afterLoad && decide (fld v 0 24 ≠ s.poolCount p)) stModeRefused
  refuseIf (decide (fld v 24 3 < p)) stBadValue
  .ok (s.rset .cloPoolCfg 0 p (v &&& 0x07FFFFFF))

/-- A write of CLO_POOL_YEL. -/
def State.writePoolYel (s : State) (p : Nat) (v : W32) : Res State := do
  refuseIf (decide (s.poolCount p < fld v 0 24)) stBadValue
  .ok (s.rset .cloPoolYel 0 p (v &&& 0x00FFFFFF))

/-- A write of CLO_CNT_CLR (R208, R209). -/
def State.writeCloCntClr (s : State) (v : W32) : State :=
  let s1 := if fld v 0 1 = 1 then s.cclear .cloCnt 0 0 10 else s
  if fld v 1 1 = 1 then (List.range 8).foldl (fun s p => s.rsetFld .cloPoolLow 0 p 0 24 (s.poolFree p)) s1 else s1

/-! ### The meanings -/



def execAlloc (client : Client) (size : Nat) (yellow wait : Bool) (s : State) : Out :=
  .next (match client with
    | .hw 1 => s.allocFor client size yellow false
    | .hw 0 | .hw 2 | .core _ _ => s.allocFor client size false wait
    | .hw _ => s.allocFor client size false true)

def execInc (client : Client) (handle : W32) (n : Nat) (s : State) : Out := .next (s.request client 0 handle n)

def execDec (client : Client) (handle : W32) (s : State) : Out := .next (s.request client 1 handle 0)

def execShare (client : Client) (handle mask : W32) (s : State) : Out := .next (s.request client 2 handle mask.toNat)

def execCloPoolCfg (pool : Fin 8) (v : W32) (s : State) : Out :=
  .next (s.answerWith (if s.blkUp 4 2 then s.writePoolCfg pool v else .error stUnavailable))

def execCloCntClrCounters (s : State) : Out :=
  .next (s.answerWith (if s.blkUp 4 2 then .ok (s.writeCloCntClr 1) else .error stUnavailable))

def execCloCntClrLow (s : State) : Out :=
  .next (s.answerWith (if s.blkUp 4 2 then .ok (s.writeCloCntClr 2) else .error stUnavailable))

end Sys2Proof.Machine
end

