-- ==== Sys2Proof/Machine/AudioItems.lean ====
section
/-!
DEFINITION. What the end of an AUDIO_DECODE or AUDIO_ENCODE item means to the audio fabric (R314, R317), which the Docent
tells it at once.
-/

namespace Sys2Proof.Machine

/-- The fields of a decode item's payload that name its stream and its frame (R314), and of an encode item's: its output,
tick and PCM buffer (R315). -/
def Item.decStream (it : Item) : Nat := leField it.payload 0 4
def Item.decFrame (it : Item) : W32 := BitVec.ofNat 32 (leField it.payload 8 4)
def Item.decPkt (it : Item) : W32 := BitVec.ofNat 32 (leField it.payload 12 4)
def Item.encOut (it : Item) : Nat := leField it.payload 0 2
def Item.encTick (it : Item) : Nat := leField it.payload 4 4
def Item.encPcm (it : Item) : W32 := BitVec.ofNat 32 (leField it.payload 10 4)

/-- Change the frame of a tick that holds a buffer. -/
def State.onFrame (s : State) (h : W32) (f : AudFrame → AudFrame) : State :=
  let upd (x : AudConf) : AudConf := { x with frames := x.frames.map fun e => if e.handle = some h then f e else e }
  { s with afb := { s.afb with confs := nmapV (fun _ x => upd x) s.afb.confs } }

/-- The frame of a decode that missed its mix point, if the buffer is one: it is the fabric's no longer. -/
def State.takeLate (s : State) (h : W32) : Option State :=
  (s.afb.late.find? fun l => decide (l.2.2 = h)).map fun l =>
    { s with afb := { s.afb with late := s.afb.late.erase l } }

/-- An item of the fabric has completed, OK or FAILED: a decode marks its frame, or a late one's frame is discarded; an
encode after the end of its tick is counted and flagged (R317). -/
def State.audioEnded (s : State) (it : Item) : State :=
  if it.type = 2 then
    match s.takeLate it.decFrame with
    | some s1 => s1.decRef 5 it.decFrame (.flow it.flow)
    | none => s.onFrame it.decFrame fun e => if e.stream = it.decStream then { e with done := some s.t } else e
  else if it.type = 3 then
    let ago := (s.t / 10000000 + 4294967296 - it.encTick) % 4294967296
    if (s.t / 10000000 - ago + 1) * 10000000 < s.t then
      ((s.sinc tyOutput it.encOut 0x603).cinc .afbCnt 0 4).flag .afbErr 0 0 1
    else s
  else s

/-- An item of the fabric has been discarded on a fenced flow (R296): it never completes, and what it would have released
goes back, a decode's frame and packet reference, an encode's samples (log 40). -/
def State.audioDiscarded (s : State) (it : Item) : State :=
  if it.type = 2 then
    let s1 := if it.decPkt = 0xFFFFFFFF then s else s.decRef 5 it.decPkt (.flow it.flow)
    let s2 := (s1.takeLate it.decFrame).getD (s1.onFrame it.decFrame fun e => { e with handle := none })
    s2.decRef 5 it.decFrame (.flow it.flow)
  else if it.type = 3 then s.decRef 5 it.encPcm (.flow it.flow)
  else s

/-- An item is discarded and counted on a fenced flow (R296). -/
def State.discardItem (s : State) (it : Item) : State := (s.cinc .docCnt 0 8).audioDiscarded it

end Sys2Proof.Machine
end

