-- ==== Sys2Proof/Machine/Docent.lean ====
section
/-!
DEFINITION. The Docent (chapter The Docent: Work Items, Flows and Dispatch): posting, flows, assignment, doorbells,
completion, fences, swaps of a cluster, and the writes of its registers.
-/

namespace Sys2Proof.Machine

/-! ### Cores and sets (R290, R291) -/

/-- The number that stands for the Curator's cores (DESIGN CHOICE, log 20). -/
def curatorCore : Nat := 272

/-- STATE of a cluster (R285, R298): 0 in service, 1 draining, 2 loading, 3 standby, 4 out of service. -/
def State.clState (s : State) (cl : Nat) : Nat := s.rfld .dspClState cl 0 0 3
def State.setClState (s : State) (cl st : Nat) : State := s.rsetFld .dspClState cl 0 0 3 st

/-- In service (R291): the cluster in service and not draining, the core not halted and once in WAIT (R285). -/
def State.coreInService (s : State) (c : Nat) : Bool :=
  if c = curatorCore then !s.cur.restarting
  else decide (s.clState (c / 16) = 0) && s.blkUp 2 (16 + c / 16) && (s.core c).entered && decide ((s.core c).run ≠ 2)

/-- The physical cluster of a logical slot, 31 when none. -/
def State.docMapOf (s : State) (slot : Nat) : Nat := s.rfld .docMap 0 slot 0 5

/-- The range a flow belongs to (R290): the largest FIRST at or below the flow, the lowest-numbered of equals
(DEDUCED, log 21). -/
def State.flowRange (s : State) (f : Nat) : Nat :=
  (List.range 16).foldl (fun b k =>
    let first := s.rfld .docFrange 0 k 0 17
    if first ≤ f ∧ s.rfld .docFrange 0 b 0 17 < first then k else b) 0

/-- The cluster set of a flow. -/
def State.flowSet (s : State) (f : Nat) : Nat := s.rfld .docFrange 0 (s.flowRange f) 17 4

/-- The cores of a set that are in service, in the order (cluster, core). -/
def State.setCores (s : State) (k : Nat) : List Nat :=
  if s.rfld .docSet 0 k 16 1 = 1 then if s.coreInService curatorCore then [curatorCore] else []
  else
    let cls := (List.range 16).filterMap fun n =>
      if s.rfld .docSet 0 k n 1 = 1 then some (s.docMapOf n) else none
    ((List.range 17).filter cls.contains).flatMap fun cl =>
      ((List.range 16).map (· + 16 * cl)).filter s.coreInService

def State.readyOf (s : State) (c : Nat) : List Item := (nget s.doc.ready c).getD []
def State.preOf (s : State) (c : Nat) : List Item := (nget s.doc.pre c).getD []
def State.waitingOf (s : State) (f : Nat) : List Item := (nget s.doc.waiting f).getD []
def State.setReady (s : State) (c : Nat) (l : List Item) : State :=
  { s with doc := { s.doc with ready := nputD [] s.doc.ready c l } }

/-- A core's load: ready list, running and pre-empted items. -/
def State.coreLoad (s : State) (c : Nat) : Nat :=
  (s.readyOf c).length + (s.preOf c).length + b2n (nhas s.doc.running c)

/-- Insert an item into a ready list: by priority, oldest first within one (R292). -/
def insertReady (it : Item) : List Item → List Item
  | [] => [it]
  | a :: r => if a.prio < it.prio ∨ (a.prio = it.prio ∧ it.age < a.age) then it :: a :: r else a :: insertReady it r

/-- The core with the smallest load, the first of a list among equals. -/
def State.leastLoaded (s : State) : List Nat → Option Nat
  | [] => none
  | c :: r =>
    match s.leastLoaded r with
    | some b => some (if s.coreLoad b < s.coreLoad c then b else c)
    | none => some c

/-- The audio fabric shares the buffer that an AUDIO_DECODE or AUDIO_ENCODE item names with the domain of the cluster the
item is assigned to (R314). -/
def State.shareItem (s : State) (it : Item) (c : Nat) : State :=
  let off := if it.type = 2 then 8 else 10
  if (it.type = 2 ∨ it.type = 3) ∧ c ≠ curatorCore then
    s.request (.hw 5) 2 (BitVec.ofNat 32 (leField it.payload off 4)) (2 ^ (10 + c / 16))
  else s

/-- Rule 2 of R291: the core with the smallest load of the set; rule 3 where there is none. -/
def State.assignByLoad (s : State) (it : Item) : State :=
  let k := s.flowSet it.flow
  let cs := s.setCores k
  let from' := (nget s.doc.lastOfSet k).elim 0 (· + 1)
  let order := cs.filter (fun c => decide (from' ≤ c)) ++ cs.filter fun c => decide (c < from')
  match s.leastLoaded order with
  | some c =>
    let s1 := (s.setReady c (insertReady it (s.readyOf c))).cinc .docCnt 0 4
    ({ s1 with doc := { s1.doc with lastOfSet := nput s1.doc.lastOfSet k c } }).shareItem it c
  | none =>
    ({ s with doc := { s.doc with unassigned := s.doc.unassigned ++ [it.flow] } }).flag .docStatus 0 0 17

/-- Assign an active item to a core (R291): the core that last ran its flow, else by load. -/
def State.assign (s : State) (it : Item) : State :=
  let byAffinity := (nget s.doc.lastCore it.flow).bind fun c =>
    if (s.setCores (s.flowSet it.flow)).contains c && decide ((s.readyOf c).length ≤ s.rfld .docCfg 0 0 0 8) then some c
    else none
  match byAffinity with
  | some c => ((s.setReady c (insertReady it (s.readyOf c))).cinc .docCnt 0 3).shareItem it c
  | none => s.assignByLoad it

/-- An item becomes its flow's active item. -/
def State.activate (s : State) (it : Item) : State :=
  ({ s with doc := { s.doc with active := nput s.doc.active it.flow it } }).assign it

/-- Items that are active and unassigned are assigned by load once a core of their set has returned (R291). -/
def State.assignWaiting (s : State) : State :=
  s.doc.unassigned.foldl (fun s f =>
    match nget s.doc.active f with
    | some it =>
      if s.setCores (s.flowSet f) = [] then s
      else ({ s with doc := { s.doc with unassigned := s.doc.unassigned.erase f } }).assignByLoad it
    | none => { s with doc := { s.doc with unassigned := s.doc.unassigned.erase f } }) s

/-! ### Posting (R287 to R289, R295) -/

/-- Items accepted and not completed. -/
def State.itemCount (s : State) : Nat :=
  s.doc.active.length + (s.doc.waiting.map fun e => e.2.length).sum

/-- Accept an item. -/
def State.accept (s : State) (it : Item) : State :=
  let s1 := s.cinc .docCnt 0 0
  let it' := { it with stamp := BitVec.ofNat 32 s.us, age := s.doc.accepted }
  let s2 : State := { s1 with doc := { s1.doc with accepted := s1.doc.accepted + 1 } }
  if nhas s2.doc.active it.flow then
    { s2 with doc := { s2.doc with waiting := nput s2.doc.waiting it.flow (s2.waitingOf it.flow ++ [it']) } }
  else s2.activate it'

/-- A hardware producer posts an item: the flow and priority that R288 marks come from DOC_HWITEM. -/
def State.hwPost (s : State) (type source : Nat) (flow prio : Option Nat) (payload : Bytes) : State :=
  let r := s.rget .docHwitem 0 (type - 1)
  let it : Item :=
    { flow := flow.getD (fld r 6 17), prio := prio.getD (fld r 0 6), type := type, source := source
      payload := fitTo 52 payload }
  if s.doc.fenced.contains it.flow then s.discardItem it
  else if s.itemCount ≥ 65536 then
    ({ s.cinc .docCnt 0 9 with doc := { s.doc with blocked := s.doc.blocked ++ [it] } }).flag .docStatus 0 0 18
  else s.accept it

/-- Stalled producers' items are accepted while there is room; `fuel` bounds them. -/
def State.unblockN : Nat → State → State
  | 0, s => s
  | n + 1, s =>
    match s.doc.blocked with
    | [] => s
    | it :: r =>
      if s.itemCount ≥ 65536 then s
      else
        let s1 : State := { s with doc := { s.doc with blocked := r } }
        State.unblockN n (if s1.doc.fenced.contains it.flow then s1.discardItem it else s1.accept it)

/-- Stalled producers' items are accepted once there is room (R295). -/
def State.unblock (s : State) : State := State.unblockN s.doc.blocked.length s

/-- The 64 bytes of an item (R287). -/
def Item.bytes (it : Item) : Bytes :=
  let tick := if 1 ≤ it.type ∧ it.type ≤ 3 then 1 else 0
  leBytes 4 (it.flow + it.prio * 131072 + tick * 8388608 + it.type * 16777216) ++ leBytes 4 (it.source % 32) ++
    leBytes 4 it.stamp.toNat ++ fitTo 52 it.payload

/-- A firmware post (R288, R295): the code of POST_RES and the state. -/
def State.fwPost (s : State) (source : Nat) (b : Bytes) : Nat × State :=
  let w := leField b 0 4
  let it : Item :=
    { flow := w % 131072, prio := w / 131072 % 64, type := w / 16777216 % 256, source := source
      payload := fitTo 52 (b.drop 12) }
  let reserve := s.rfld .docAdmit 0 0 0 16
  let step := s.rfld .docAdmit 0 0 16 12
  if it.type < 0x40 then (2, s.cinc .docCnt 0 7)
  else if s.doc.fenced.contains it.flow then (3, s)
  else if 65536 ≤ s.itemCount + reserve + (63 - it.prio) * step then (1, s.cinc .docCnt 0 6)
  else (0, s.accept it)

/-- The owner domain of a core's firmware (R180). -/
def coreDomain (c : Nat) : Nat := if c = curatorCore then 0 else 10 + c / 16

/-- A core issues its POST window (R294); the Curator's cores have a window of the same form, kept at their number. -/
def State.corePost (s : State) (c : Nat) : State :=
  let r := s.fwPost (coreDomain c) (memRead (s.core c).post 0 64)
  r.2.setCore c { r.2.core c with postRes := BitVec.ofNat 32 (r.1 + 0x80000000) }

/-! ### Dispatch (R292) and completion (R294, R296) -/

/-- A core's current priority plus 1; 0 stands for −1, a core in WAIT's (R292). -/
def State.curPrio (s : State) (c : Nat) : Nat :=
  if c ≠ curatorCore ∧ (s.core c).run = 0 then 0 else (nget s.doc.running c).elim 0 (·.prio + 1)

/-- Is a core's doorbell raised. -/
def State.doorbell (s : State) (c : Nat) : Bool :=
  match s.readyOf c with
  | [] => false
  | it :: _ => decide (s.curPrio c < it.prio + 1) && decide ((s.preOf c).length < 3)

/-- The head item is bound to the core that took the doorbell; a running item becomes pre-empted. The core is then the one
that last ran the flow (R291). -/
def State.bindHead (s : State) (c : Nat) : State :=
  match s.readyOf c with
  | [] => s
  | it :: r =>
    let s0 := s.setReady c r
    let s1 : State := { s0 with doc := { s0.doc with lastCore := nput s0.doc.lastCore it.flow c } }
    match nget s1.doc.running c with
    | none => { s1 with doc := { s1.doc with
        running := nput s1.doc.running c it, started := nput s1.doc.started c s1.t } }
    | some old =>
      ({ s1 with doc := { s1.doc with
        running := nput s1.doc.running c it, started := nput s1.doc.started c s1.t
        pre := nput s1.doc.pre c (old :: s1.preOf c)
        ran := nput s1.doc.ran c ((s1.t - ngetD 0 s1.doc.started c) :: ngetD [] s1.doc.ran c) } }).cinc .docCnt 0 5

/-- Fence a flow (R296): waiting items are discarded and counted, which may leave room for stalled producers. Cause 0 DONE
FAILED, 1 trap, 2 halted, 3 drain bound. -/
def State.fenceFlow (s : State) (f cause : Nat) : State :=
  let s1 : State := { s with doc := { s.doc with
    waiting := ndel s.doc.waiting f
    fenced := if s.doc.fenced.contains f then s.doc.fenced else s.doc.fenced ++ [f] } }
  let s2 := (s.waitingOf f).foldl State.discardItem s1
  ((s2.rset .docFenceLast 0 0 (BitVec.ofNat 32 (f + cause * 131072))).setErr 2 1 4).unblock

/-- A flow's active item has ended: the oldest waiting item becomes active. -/
def State.endActive (s : State) (f : Nat) : State :=
  let s1 : State := { s with doc := { s.doc with active := ndel s.doc.active f } }
  match s1.waitingOf f with
  | [] => s1.unblock
  | it :: r =>
    (({ s1 with doc := { s1.doc with waiting := nputD [] s1.doc.waiting f r } }).activate it).unblock

/-- A core completes its running item (R294). A DONE with nothing running fences the flow of its last item; so does an
item that ends in a trap's handler. -/
def State.done (s : State) (c : Nat) (failed : Bool) : State :=
  match nget s.doc.running c with
  | none =>
    match nget s.doc.lastFlow c with
    | some f => s.fenceFlow f 0
    | none => s
  | some it =>
    let s1 : State := State.audioEnded { s with doc := { s.doc with
      running := nset s.doc.running c (s.preOf c).head?
      pre := nputD [] s.doc.pre c ((s.preOf c).drop 1)
      started := nset s.doc.started c ((ngetD [] s.doc.ran c).head?.map fun x => s.t - x)
      ran := nputD [] s.doc.ran c ((ngetD [] s.doc.ran c).drop 1)
      lastFlow := nput s.doc.lastFlow c it.flow
      trapped := s.doc.trapped.filter (· ≠ c) } } it
    let trap := s.doc.trapped.contains c
    if failed || trap then
      ((s1.cinc .docCnt 0 2).fenceFlow it.flow (if trap then 1 else 0)).endActive it.flow
    else (s1.cinc .docCnt 0 1).endActive it.flow

/-- End the running and pre-empted items of a core as FAILED and fence their flows; the core holds none afterwards. -/
def State.dropItems (s : State) (c cause : Nat) : State :=
  let its := (nget s.doc.running c).toList ++ s.preOf c
  let s1 : State := { s with doc := { s.doc with
    running := ndel s.doc.running c, pre := ndel s.doc.pre c, started := ndel s.doc.started c, ran := ndel s.doc.ran c
    trapped := s.doc.trapped.filter (· ≠ c) } }
  its.foldl (fun s it =>
    (((s.audioEnded it).cinc .docCnt 0 2).fenceFlow it.flow cause).endActive it.flow) s1

/-- Reassign the ready items of a list of cores, in order of priority, oldest first (R296, R298). -/
def State.reassign (s : State) (cs : List Nat) : State :=
  let its := cs.foldl (fun l c => (s.readyOf c).foldl (fun l it => insertReady it l) l) []
  let s1 := cs.foldl (fun s c => s.setReady c []) s
  its.foldl (fun s it => (s.cinc .docCnt 0 10).assign it) s1

/-- A core halts (R280, R296). -/
def State.coreHalted (s : State) (c : Nat) : State :=
  (s.dropItems c 2).reassign [c]

/-! ### Reload and swap of a cluster (R284, R285, R297, R298) -/

/-- The bytes that the records of a DSP_CODE payload write (R284); none when a record passes 1 MiB or the payload ends
in a record; `fuel` bounds the records. -/
def codeRecords : Nat → Bytes → NMap Byte → Option (NMap Byte)
  | 0, _, m => some m
  | n + 1, b, m =>
    if b = [] then some m
    else if b.length < 8 then none
    else
      let off := leField b 0 4
      let len := leField b 4 4
      if len % 4 ≠ 0 ∨ 1048576 < off + len ∨ b.length < 8 + (len + 7) / 8 * 8 then none
      else codeRecords n (b.drop (8 + (len + 7) / 8 * 8)) (memWrite m off ((b.drop 8).take len))

/-- Insert a section by ORDER, keeping the directory's order among equals. -/
def insertOrder (x : Section) : List Section → List Section
  | [] => [x]
  | a :: r => if x.order < a.order then x :: a :: r else a :: insertOrder x r

/-- The sections of a type and target of an image, in ORDER. -/
def ImageInfo.find (i : ImageInfo) (type target : Nat) : List Section :=
  (i.sections.filter fun x => decide (x.type = type) && decide (x.target = target)).foldl (fun l x => insertOrder x l) []

/-- Cluster memory as the sections for every cluster, then those of cluster `id`, write it (R284). -/
def codeImage (i : ImageInfo) (id : Nat) : NMap Byte :=
  (i.find 0x20 0x2000 ++ i.find 0x20 (0x2100 + 16 * id)).foldl
    (fun m x => (codeRecords (x.payload.length + 1) x.payload m).getD m) []

/-- The cluster whose sections a cluster holds. -/
def State.codeOf (s : State) (cl : Nat) : Nat := (nget s.doc.code cl).getD cl

/-- Reload a cluster with the code of cluster `id` (R285). -/
def State.reload (s : State) (cl id : Nat) : State :=
  let mem := match s.cur.running with
    | some i => codeImage i id
    | none => []
  let vec : W32 := BitVec.ofNat 32 (leNat (memRead mem 0 4))
  let s1 : State := { s with
    doc := { s.doc with
      code := nput s.doc.code cl id, trapped := s.doc.trapped.filter fun c => decide (c / 16 ≠ cl) }
    dsp := nputD {} s.dsp cl { ngetD {} s.dsp cl with mem := mem } }
  let s2 := (List.range 16).foldl (fun s c =>
    let x := s.core (16 * cl + c)
    ((s.setCore (16 * cl + c) { x with
        x := [], y := [], pm := [], pc := vec, sr := 0x20, stack := [], branch := none, load := []
        run := 1, entered := false }).syncCore (16 * cl + c))) s1
  (s2.setClState cl 2).rsetFld .dspClState cl 0 16 16 0

/-- Reload a cluster whose block is in use: it shows 3, restoring, until it enters service (R21, R285). -/
def State.reloadBlock (s : State) (cl id : Nat) : State := (s.setBlkState 2 (16 + cl) 3).reload cl id

/-- Every core of a cluster has executed WAIT since its reload (R285). -/
def State.clusterEntered (s : State) (cl : Nat) : Bool :=
  (List.range 16).all fun c => (s.core (16 * cl + c)).entered

/-- Is a cluster the target or the source of the running swap. -/
def State.inSwap (s : State) (cl : Nat) : Bool :=
  match s.doc.swap with
  | some (_, src, tgt, _) => decide (cl = src ∨ cl = tgt)
  | none => false

/-- A core has executed WAIT for the first time since its reload: its cluster enters service, or stands by, once all have,
unless a swap decides that; a block that showed 3 for the reload shows 4 or 6 then (R21). -/
def State.coreEntered (s : State) (cl : Nat) : State :=
  if s.clState cl = 2 ∧ s.clusterEntered cl = true ∧ s.inSwap cl = false then
    let serves := (List.range 16).any fun n => decide (s.docMapOf n = cl)
    let s1 := if s.blkState 2 (16 + cl) = 3 then s.setBlkState 2 (16 + cl) (if serves then 4 else 6) else s
    (s1.setClState cl (if serves then 0 else 3)).assignWaiting
  else s

/-- The standby cluster, none when there is none. -/
def State.standby (s : State) : Option Nat :=
  let c := s.rfld .docStandby 0 0 0 5
  if c = 31 then none else some c

def State.phase (s : State) : Nat := s.rfld .docSwapStatus 0 0 0 2
def State.setPhase (s : State) (p : Nat) : State := s.rsetFld .docSwapStatus 0 0 0 2 p

/-- Step 1 of R298: a swap of a slot from a cluster begins, and the standby is reloaded with the code of cluster `id`. -/
def State.beginSwap (s : State) (slot src tgt id : Nat) (sup : Bool) : State :=
  let s1 : State := { s with doc := { s.doc with swap := some (slot, src, tgt, sup) } }
  ((s1.setPhase 1).rsetFld .docSwapStatus 0 0 2 4 slot).reloadBlock tgt id

/-- No swap runs any more: the replacement that has waited longest begins (R456), where its slot is still unmapped and a
cluster stands by; without one the slots stay unmapped (R298). -/
def State.nextSwap (s : State) : State :=
  match s.doc.swap, s.doc.waitSwap with
  | none, (n, cl) :: r =>
    match s.standby with
    | some tgt =>
      let s1 : State := { s with doc := { s.doc with waitSwap := r } }
      if s1.docMapOf n = 31 then s1.beginSwap n cl tgt (s1.codeOf cl) true else s1
    | none => { s with doc := { s.doc with waitSwap := [] } }
  | _, _ => s

/-- The running swap ends. -/
def State.endSwap (s : State) : State :=
  State.nextSwap { s.setPhase 0 with doc := { s.doc with swap := none } }

/-- Start a swap of a slot at the controller's request (R297, R298 step 1). A slot without a cluster takes the code of the
cluster of its own number (DESIGN CHOICE, log 22). -/
def State.startSwap (s : State) (slot : Nat) : Res State := do
  refuseIf (decide (s.m.mode ≠ .maintain)) stModeRefused
  refuseIf s.doc.swap.isSome stInUse
  match s.standby with
  | none => .error stResource
  | some tgt =>
    let src := s.docMapOf slot
    .ok (s.beginSwap slot src tgt (if src < 17 then s.codeOf src else slot) false)

/-- Step 4 of R298: the source is reloaded with the code the standby would hold. -/
def State.reloadSource (s : State) (src tgt : Nat) : State := (s.setPhase 3).reloadBlock src tgt

/-- Is there a cluster to replace a failed one with (R297, R298, R456): the standby, the one that a running swap is loading
for the same slot, or the source that the controller's running swap leaves as the standby. -/
def State.spareFor (s : State) (cl : Nat) : Bool :=
  ((List.range 16).any fun i => decide (s.docMapOf i = cl)) &&
    match s.doc.swap with
    | none => decide (s.standby ≠ none ∧ s.standby ≠ some cl)
    | some (_, src, _, sup) =>
      decide (cl = src ∧ s.phase = 1) || (!sup && decide (src < 17 ∧ cl ≠ src) && s.doc.waitSwap.isEmpty)

/-- A running swap meets the failure of a cluster in it (R456): a source that has not been remapped yet is replaced by that
very swap; a standby that was being loaded, or a source that drains or reloads, ends it. -/
def State.swapLoses (s : State) (cl : Nat) : State :=
  match s.doc.swap with
  | some (n, src, tgt, _) =>
    if cl = src ∧ s.phase = 1 then { s with doc := { s.doc with swap := some (n, src, tgt, true) } }
    else if cl = src ∨ (cl = tgt ∧ s.phase = 1) then { s.setPhase 0 with doc := { s.doc with swap := none } }
    else s
  | none => s

/-- The supervisor takes a cluster out of service (R298): its cores stop at once, its items' flows are fenced, its slot
is unmapped until the standby, where there is one, has been loaded; while another swap runs its replacement waits. -/
def State.takeCluster (s : State) (cl : Nat) : State :=
  let cs := (List.range 16).map (· + 16 * cl)
  let slot := (List.range 16).find? fun n => decide (s.docMapOf n = cl)
  let s := s.swapLoses cl
  let s1 := cs.foldl (fun s c => (s.setCore c { s.core c with run := 2 }).syncCore c) s
  let s2 := (cs.foldl (fun s c => s.dropItems c 2) (s1.setClState cl 4))
  let s3 : State := match slot with
    | some n => s2.rsetFld .docMap 0 n 0 5 31
    | none => if s2.standby = some cl then s2.rsetFld .docStandby 0 0 0 5 31 else s2
  let s4 := s3.reassign cs
  let served := match s4.doc.swap with
    | some (m, _, _, _) => decide (slot = some m) && decide (s4.phase = 1)
    | none => false
  match slot with
  | some n =>
    if served then s4 else State.nextSwap { s4 with doc := { s4.doc with waitSwap := s4.doc.waitSwap ++ [(n, cl)] } }
  | none => s4.nextSwap

/-! ### Register writes -/

/-- A write of DOC_CFG, DOC_ADMIT, DOC_SET, DOC_FRANGE or DOC_HWITEM: after LOAD in MAINTAIN only. -/
def State.writeDocCfg (s : State) (r : Reg) (i : Nat) (v : W32) : Res State := do
  refuseIf (s.afterLoad && decide (s.m.mode ≠ .maintain)) stModeRefused
  refuseIf (decide (r = .docAdmit) && decide (61440 < fld v 0 16 + 63 * fld v 16 12)) stBadValue
  refuseIf (decide (r = .docSet) && (decide (fld v 16 1 = 1 ∧ fld v 0 16 ≠ 0) || decide (fld v 0 17 = 0))) stBadValue
  refuseIf (decide (r = .docFrange) && decide (i = 0) && decide (fld v 0 17 ≠ 0)) stBadValue
  .ok (s.storeRw r 0 i v)

/-- A write of DOC_FENCE_CLR (R296). -/
def State.writeFenceClr (s : State) (v : W32) : State :=
  { s with doc := { s.doc with fenced := s.doc.fenced.filter (· ≠ fld v 0 17) } }

/-! ### The meanings -/

def execItemPost (type : Nat) (source : Fin 32) (flow prio : Nat) (payload : Bytes) (s : State) : Out :=
  .next (match type with
    | 4 => s.hwPost 4 source (some (flow % 131072)) none payload
    | 6 => s.hwPost 6 source (if flow < 131072 then some flow else none) none payload
    | 7 => s.hwPost 7 source (some (flow % 131072)) (some (prio % 64)) payload
    | 1 | 2 | 3 => s.hwPost type source (some (flow % 131072)) none payload
    | 5 | 8 => s.hwPost type source none none payload
    | _ => s)

/-- A core posts: the item's 64 bytes go into its POST window, and POST_GO issues it. -/
def execPostGo (core : Fin 273) (item : Bytes) (s : State) : Out :=
  let x := s.core core
  .next ((s.setCore core { x with post := memWrite x.post 0 (fitTo 64 item) }).corePost core)

def execItemDoneOk (core : Fin 273) (s : State) : Out := .next (s.done core false)

def execItemDoneFailed (core : Fin 273) (s : State) : Out := .next (s.done core true)

def execDocSwap (v : W32) (s : State) : Out :=
  .next (s.answerWith (if s.blkUp 2 1 then s.startSwap (fld v 0 4) else .error stUnavailable))

/-- Step 2 of R298: the slot names the standby, which is in service (STATE 4, R21), and DOC_STANDBY none; a slot that had no
cluster raises the limit 0x0050 again (R59, R483). -/
def State.remapSlot (s : State) (slot tgt : Nat) : State :=
  s.withLimits (fun s =>
    (((s.rsetFld .docMap 0 slot 0 5 tgt).setClState tgt 0).setBlkState 2 (16 + tgt) 4).rsetFld .docStandby 0 0 0 5 31) []

/-- All standby cores are in WAIT (R298 step 2): the slot is remapped, the source's ready items are reassigned. A swap
without a source ends here (log 22). -/
def State.swapRemap (s : State) : State :=
  match s.doc.swap with
  | some (slot, src, tgt, sup) =>
    if s.phase = 1 ∧ s.clusterEntered tgt = true then
      let s1 := s.remapSlot slot tgt
      if sup = true ∨ 17 ≤ src then ((s1.cinc .docCnt 0 11).endSwap).assignWaiting
      else
        let s3 : State := { (s1.setClState src 1).setPhase 2 with doc := { s1.doc with remapAt := s.t } }
        (s3.reassign ((List.range 16).map (· + 16 * src))).assignWaiting
    else s
  | none => s

/-- Does a cluster hold running or pre-empted items. -/
def State.clusterBusy (s : State) (cl : Nat) : Bool :=
  (List.range 16).any fun c => nhas s.doc.running (16 * cl + c) || decide (s.preOf (16 * cl + c) ≠ [])

/-- The source's last item has completed (R298 step 3). -/
def execSwapDrainDone (s : State) : Out :=
  match s.doc.swap with
  | some (_, src, tgt, _) =>
    .next (if s.phase = 2 ∧ s.clusterBusy src = false then s.reloadSource src tgt else s)
  | none => .next s

/-- 20 ms after the remap (R298): items still on the source end as FAILED. -/
def execSwapDrainTimeout (s : State) : Out :=
  match s.doc.swap with
  | some (_, src, tgt, _) =>
    if s.phase = 2 ∧ s.clusterBusy src = true then
      let s1 := s.reach (s.doc.remapAt + 20000000)
      let s2 := (List.range 16).foldl (fun s c => s.dropItems (16 * src + c) 3) s1
      .next ((s2.flagEvent .docSwapStatus 0 0 6).reloadSource src tgt)
    else .next s
  | none => .next s

/-- The source has been reloaded and stands by (R298 step 4). -/
def State.swapSourceReloaded (s : State) : State :=
  match s.doc.swap with
  | some (_, src, _, _) =>
    if s.phase = 3 ∧ s.clusterEntered src = true then
      ((((s.setClState src 3).setBlkState 2 (16 + src) 6).rsetFld .docStandby 0 0 0 5 src).cinc .docCnt 0 11).endSwap
    else s
  | none => s

def execDocFenceClr (v : W32) (s : State) : Out :=
  .next (s.answerWith (if s.blkUp 2 1 then .ok (s.writeFenceClr v) else .error stUnavailable))

def execDocCntClr (s : State) : Out :=
  .next (s.answerWith (if s.blkUp 2 1 then .ok (s.cclear .docCnt 0 0 12) else .error stUnavailable))

end Sys2Proof.Machine
end

