-- ==== Sys2Proof/Machine/Stacks.lean ====
section
/-!
DEFINITION. The Stacks (chapter The Cloakroom and the Stacks, R194 to R209): queues, residency, spill, doorbells,
timers, cut-through, flush, and the writes of its registers.
-/

namespace Sys2Proof.Machine

/-- The internal queue of a stream index (R194). -/
def streamQueue (st : Nat) : Nat := 131072 + st
/-- The queue of a leg's class. -/
def classQueue (leg cls : Nat) : Nat := 4 * leg + cls

def State.queue (s : State) (q : Nat) : Queue := ngetD {} s.stk.queues q
def State.setQueue (s : State) (q : Nat) (x : Queue) : State :=
  { s with stk := { s.stk with queues := nputD {} s.stk.queues q x } }

/-- All descriptors of a queue, first to leave first. -/
def Queue.all (x : Queue) : List Desc := x.head ++ x.ahead ++ x.mid ++ x.tail
/-- Depth in descriptors and in bytes. -/
def Queue.depth (x : Queue) : Nat := x.head.length + x.ahead.length + x.mid.length + x.tail.length
def Queue.bytes (x : Queue) : Nat := (x.all.map (·.len)).sum
/-- The chunks a queue's middle holds (R198): 252 descriptors each, the first partly read. -/
def Queue.chunks (x : Queue) : Nat := if x.mid = [] then 0 else cdiv (x.midRead + x.mid.length) 252
/-- Does the queue hold an incomplete descriptor (R206). -/
def Queue.incomplete (x : Queue) : Bool := x.tail.any fun d => !d.complete

/-- The profile of a queue (R202). -/
def State.profile (s : State) (q : Nat) : Nat :=
  if q < 131072 then s.rfld .stkClassProf 0 0 (4 * (q % 4)) 4
  else
    let st := q - 131072
    match s.carrierOf st with
    | some o => s.attr tyOutput o 0x910 9
    | none =>
      let p := s.attr tyStream st 0x300 255
      if p ≤ 15 then p else s.rfld .stkMediaProf 0 0 (4 * s.media st) 4

def State.dbBatch (s : State) (q : Nat) : Nat := s.rfld .stkQprof0 0 (s.profile q) 16 4
def State.limitDesc (s : State) (q : Nat) : Nat := s.rfld .stkQprof0 0 (s.profile q) 0 16
def State.limitBytes (s : State) (q : Nat) : Nat := s.rfld .stkQprof1 0 (s.profile q) 0 24 * 256
def State.timeoutUs (s : State) (q : Nat) : Nat := s.rfld .stkQprof2 0 (s.profile q) 0 20
def State.ctBytes (s : State) (q : Nat) : Nat := s.rfld .stkQprof3 0 (s.profile q) 0 23

/-! ### Residency and spill (R198 to R201) -/

/-- Chunks in use by all queues. -/
def State.chunksUsed (s : State) : Nat := (s.stk.queues.map fun e => e.2.chunks).sum
def State.chunksFree (s : State) : Nat := s.rfld .stkSpillCfg 0 0 0 24 - s.chunksUsed
/-- The chunks reserved for internal queues (R200). -/
def State.chunkReserve (s : State) : Nat :=
  262144 + cdiv (((List.range 8).map s.poolCount).sum) 252
/-- Chunks in use by internal queues. -/
def State.chunksInternal (s : State) : Nat :=
  ((s.stk.queues.filter fun e => decide (131072 ≤ e.1)).map fun e => e.2.chunks).sum
/-- The chunks that traffic-manager queues may still take: those beyond the reserve. -/
def State.chunksForTmg (s : State) : Nat :=
  s.rfld .stkSpillCfg 0 0 0 24 - s.chunkReserve - (s.chunksUsed - s.chunksInternal)

/-- Give a queue a resident slot (R199): the least recently used queue without an incomplete descriptor is evicted when
all 32,768 slots are taken; a queue that has one becomes the most recently used. -/
def State.slotFill (s : State) (q : Nat) : State :=
  if s.stk.slots.contains q then
    { s with stk := { s.stk with slots := s.stk.slots.filter (· ≠ q) ++ [q] } }
  else
    let s1 := s.cinc .stkCnt 0 2
    if s1.stk.slots.length < 32768 then { s1 with stk := { s1.stk with slots := s1.stk.slots ++ [q] } }
    else
      match takeFirst (fun v => !(s1.queue v).incomplete) s1.stk.slots with
      | some (_, rest) => { s1.cinc .stkCnt 0 3 with stk := { s1.stk with slots := rest ++ [q] } }
      | none => s1

/-- Would moving the full tail to the middle need a chunk that the queue cannot have. -/
def State.needsChunk (s : State) (q : Nat) : Bool :=
  let x := s.queue q
  decide (x.tail.length = 4) && !(x.head.isEmpty && x.ahead.isEmpty && x.mid.isEmpty) &&
    decide (cdiv (x.midRead + x.mid.length + 4) 252 > x.chunks) &&
    (if q < 131072 then decide (s.chunksForTmg = 0) else decide (s.chunksFree = 0))

/-- Put a descriptor at a queue's tail (R198): a full tail moves first, to the head or to the end of the middle. -/
def State.pushDesc (s : State) (q : Nat) (d : Desc) : State :=
  let x := s.queue q
  let x1 : Queue :=
    if x.tail.length = 4 then
      if x.head.isEmpty && x.ahead.isEmpty && x.mid.isEmpty then { x with head := x.tail, tail := [] }
      else { x with mid := x.mid ++ x.tail, tail := [] }
    else x
  let s1 := if x1.mid.length > x.mid.length then s.cinc .stkCnt 0 4 else s
  s1.setQueue q { x1 with
    tail := x1.tail ++ [d]
    timer := if x.depth = 0 then s.t else x.timer }

/-- A doorbell of a queue is rung (R204). -/
def State.ring (s : State) (q : Nat) : State := s.setQueue q { s.queue q with since := 0, bell := true }

/-- An accepted descriptor counts toward the doorbell (R204). -/
def State.countBell (s : State) (q : Nat) (d : Desc) : State :=
  let x := s.queue q
  let s1 := s.setQueue q { x with since := x.since + 1 }
  if s.dbBatch q ≤ x.since + 1 ∨ (d.kind = 1 ∧ d.complete = true) ∨
      (d.complete = false ∧ 0 < s.ctBytes q ∧ s.ctBytes q ≤ d.len) then s1.ring q
  else s1

/-- Why an enqueue is not taken: a code of R184 (0x8 also for a reserved KIND), 0x10 for want of a spill chunk, 0x11
while it must wait (R206), 0x12 for a range beyond the buffer (the code a firmware producer receives for it is not
given: a free value, log 24). -/
def State.enqueueFault (s : State) (q d : Nat) (x : Desc) : Option Nat :=
  match s.handleFault d 0 x.handle with
  | some c => some c
  | none =>
    if bufSize x.handle < x.offset + x.len then some 0x12
    else if 1 < x.kind then some 8
    else if (s.queue q).incomplete then some 0x11
    else if x.complete = false ∧ (s.ctBytes q = 0 ∨
        1024 ≤ countIf (fun e => e.2.incomplete) s.stk.queues) then some 0x11
    else if s.needsChunk q then some 0x10
    else none

/-- Enqueue a descriptor for a producer of a domain (R196 to R200): the code, 0 when accepted. -/
def State.enqueue (s : State) (q d : Nat) (x : Desc) : Nat × State :=
  let s0 := s.slotFill q
  match s0.enqueueFault q d x with
  | none => (0, ((s0.pushDesc q x).cinc .stkCnt 0 0).countBell q x)
  | some c =>
    if c = 0x10 then (c, (s0.cinc .stkCnt 0 8).flag .stkSpillStatus 0 0 29)
    else if c = 0x11 then (c, s)
    else
      let s1 := s0.cinc .stkCnt 0 10
      (c, match s0.handleFault d 0 x.handle with
        | some r => s1.reject d 0 x.handle r
        | none => s1)

/-- One burst of the middle is read (R198, R201): up to 4 descriptors, which go ahead to the head; a chunk is returned with
its last one. -/
def State.readBurst (s : State) (q : Nat) : State :=
  let x := s.queue q
  if x.mid = [] then s
  else
    let rest := x.mid.drop 4
    (s.setQueue q { x with
      ahead := x.ahead ++ x.mid.take 4, mid := rest
      midRead := if rest = [] then 0 else (x.midRead + min 4 x.mid.length) % 252 }).cinc .stkCnt 0 5

/-- Refill an empty head (R198): by the burst read ahead, by one read now, or from the tail when the middle is empty. An
incomplete descriptor stays at the tail (R206). -/
def State.refillHead (s : State) (q : Nat) : State :=
  if (s.queue q).head ≠ [] then s
  else
    let s1 := if (s.queue q).ahead = [] then s.readBurst q else s
    let x := s1.queue q
    if x.ahead ≠ [] then s1.setQueue q { x with head := x.ahead, ahead := [] }
    else s1.setQueue q { x with head := x.tail.takeWhile (·.complete), tail := x.tail.dropWhile (·.complete) }

/-- Take the first descriptor of a queue: an incomplete one stays at the tail (R206). A head that falls to 1 descriptor has
the next burst of the middle read ahead of need (R201). -/
def State.dequeue (s : State) (q : Nat) : Option (Desc × State) :=
  if (s.queue q).depth = 0 then none
  else
    let s1 := (s.slotFill q).refillHead q
    match (s1.queue q).head with
    | [] => none
    | d :: r =>
      let x : Queue := { s1.queue q with head := r, timer := s.t, itemOut := false }
      let s2 := (s1.setQueue q (if x.depth = 0 then { x with timer := 0, bell := false, midRead := 0 } else x)).cinc .stkCnt 0 1
      some (d, if r.length = 1 ∧ x.ahead = [] then s2.readBurst q else s2)

/-- The first descriptor of a queue. -/
def Queue.first (x : Queue) : Option Desc := x.all.head?

/-- A queue's descriptors all leave at once, for a flush or a drain: a slot is filled (R199), the middle's bursts are read
(R209). -/
def State.emptyQueue (s : State) (q : Nat) : List Desc × State :=
  let x := s.queue q
  let s1 := (s.slotFill q).cadd .stkCnt 0 5 (cdiv x.mid.length 4)
  (x.all, s1.setQueue q { since := x.since })

/-- A producer's enqueues that wait on a queue (R206). -/
def State.waitingEnqs (s : State) (q : Nat) : List (Client × Nat × Desc) := s.stk.waiting.filter fun e => decide (e.2.1 = q)

/-- Flush a queue (R207): every descriptor's reference is released by the consumer's domain, no reason code; what waits to
be enqueued is flushed with it, its producer's enqueue being done. -/
def State.flushQueue (s : State) (q d : Nat) : State :=
  let late := s.waitingEnqs q
  let e := s.emptyQueue q
  let s1 : State := { e.2 with stk := { e.2.stk with waiting := e.2.stk.waiting.filter fun w => decide (w.2.1 ≠ q) } }
  let s2 := late.foldl (fun s w => s.answerClient w.1 0 0) s1
  (e.1 ++ late.map (·.2.2)).foldl (fun s x => (s.cinc .stkCnt 0 9).decRef d x.handle) s2

/-- An incomplete descriptor as its producer extends it (R206): LEN grows within its buffer, POISON is set together with
COMPLETE; none where that is no extension. -/
def Desc.extended (d : Desc) (len : Nat) (complete poison : Bool) : Option Desc :=
  if d.complete ∨ len < d.len ∨ bufSize d.handle < d.offset + len then none
  else some { d with len := len, complete := complete, poison := d.poison || (poison && complete) }

/-- A cut-through producer extends or completes the incomplete descriptor of a queue (R206), or one of its own that still waits
to be enqueued. -/
def State.extendDesc (s : State) (q len : Nat) (complete poison : Bool) : State :=
  let x := s.queue q
  match x.tail.find? fun d => !d.complete with
  | none =>
    match takeFirst (fun (e : Client × Nat × Desc) => decide (e.2.1 = q) && !e.2.2.complete) s.stk.waiting with
    | none => s
    | some (w, _) =>
      match w.2.2.extended len complete poison with
      | none => s
      | some d => { s with stk := { s.stk with waiting := s.stk.waiting.map fun e => if e = w then (w.1, q, d) else e } }
  | some d =>
    match d.extended len complete poison with
    | none => s
    | some d' =>
      let s1 := s.setQueue q { x with tail := x.tail.map fun e => if e.complete then e else d' }
      let reached := decide (0 < s.ctBytes q) && decide (d.len < s.ctBytes q) && decide (s.ctBytes q ≤ len)
      if (complete && decide (d.kind = 1)) || reached then s1.ring q else s1

/-! ### Register writes -/

/-- The classes' profiles (R204, R206). -/
def State.classProfiles (s : State) : List Nat := (List.range 4).map fun k => s.rfld .stkClassProf 0 0 (4 * k) 4

/-- A write of a word of STK_QPROF. -/
def State.writeQprof (s : State) (r : Reg) (i : Nat) (v : W32) : Res State := do
  let cls := s.classProfiles.contains i
  refuseIf (decide (r = .stkQprof0) && (decide (fld v 0 16 = 0) || decide (fld v 16 4 = 0))) stBadValue
  refuseIf (decide (r = .stkQprof0) && cls && decide (fld v 16 4 ≠ 1)) stBadValue
  refuseIf (decide (r = .stkQprof1) && decide (fld v 0 24 = 0)) stBadValue
  refuseIf (decide (r = .stkQprof2) && decide (1000000 < fld v 0 20)) stBadValue
  refuseIf (decide (r = .stkQprof3) && (decide (4194304 < fld v 0 23) || (cls && decide (fld v 0 23 ≠ 0)))) stBadValue
  .ok (s.storeRw r 0 i v)

/-- A write of STK_CLASS_PROF: a profile it names must have DB_BATCH 1 and CT_BYTES 0 (R204, R206). -/
def State.writeClassProf (s : State) (v : W32) : Res State := do
  refuseIf ((List.range 4).any fun k =>
    let n := fld v (4 * k) 4
    decide (s.rfld .stkQprof0 0 n 16 4 ≠ 1) || decide (s.rfld .stkQprof3 0 n 0 23 ≠ 0)) stBadValue
  .ok (s.storeRw .stkClassProf 0 0 v)

/-- A write of STK_SPILL_CFG (R178). -/
def State.writeSpillCfg (s : State) (v : W32) : Res State := do
  refuseIf s.afterLoad stModeRefused
  .ok (s.storeRw .stkSpillCfg 0 0 v)

/-! ### The meanings -/

/-- The descriptor that 16 bytes spell (R195). -/
def descOf (b : Bytes) : Desc :=
  let n := leNat (b.take 16)
  let f (lo len : Nat) : Nat := n / 2 ^ lo % 2 ^ len
  { handle := BitVec.ofNat 32 (f 0 32), offset := f 32 22, len := f 54 23, complete := decide (f 77 1 = 1)
    yellow := decide (f 78 1 = 1), poison := decide (f 79 1 = 1), ctag := f 80 18, conf := f 98 12, kind := f 110 2
    info := f 112 16 }

/-- A consumer takes the head descriptor of a queue (R197); firmware or a hardware consumer then holds its reference. An empty
queue gives none, and has its slot filled (R199). -/
def execDequeue (queue : Fin 262144) (s : State) : Out :=
  match s.dequeue queue with
  | some (_, s1) => .next s1
  | none => .next (s.slotFill queue)

/-- A queue without a resident slot is given one (R199). -/
def execSlotFill (queue : Fin 262144) (s : State) : Out :=
  .next (if s.stk.slots.contains queue.val then s else s.slotFill queue)

/-- A queue's timer fires (R205). -/
def execQueueTimeout (queue : Fin 262144) (s : State) : Out :=
  let q := queue.val
  let x := s.queue q
  if x.depth = 0 ∨ s.timeoutUs q = 0 then .next s
  else
    let s1 := ((s.reach (x.timer + 1000 * s.timeoutUs q)).slotFill q).ring q
    let s2 := (s1.setQueue q { s1.queue q with timer := s1.t, itemOut := true }).cinc .stkCnt 0 6
    let s3 := if q < 131072 then s2 else s2.sinc tyStream (q - 131072) 0x302
    .next (if x.itemOut then s3
      else s3.hwPost 6 9 (if q < 131072 then none else some (q - 131072)) none (leBytes 4 q ++ leBytes 4 x.depth))

def execStkCntClr (s : State) : Out :=
  .next (s.answerWith (if s.blkUp 4 3 then .ok (s.cclear .stkCnt 0 0 11) else .error stUnavailable))

end Sys2Proof.Machine
end

