-- ==== Sys2Proof/Machine/Tmg.lean ====
section
/-!
DEFINITION. The traffic manager (chapter Egress Scheduling, Shaping and Line Adaptation, R237 to R255): admission,
membership words, egress checks, frame building, the scheduling hierarchy, shapers, management frames, checker hits and
isolation (R441, R442), and the writes of its registers.
-/

namespace Sys2Proof.Machine

/-! ### Legs (R245) and the membership word (R248) -/

/-- The key of a shaper or of scheduling tags: level 0 port, 1 group, 2 leg. -/
def tmgKey (level i : Nat) : Nat := level * 65536 + i

/-- The legs of a port and of a group. -/
def State.legsOfPort (s : State) (p : Nat) : List Nat := (s.idsOf tyLeg).filter fun l => decide (s.legPort l = p)
def State.legsOfGroup (s : State) (g : Nat) : List Nat := (s.idsOf tyLeg).filter fun l => decide (s.legGroup l = g)
/-- The groups of a port that have legs. -/
def State.groupsOfPort (s : State) (p : Nat) : List Nat :=
  (List.range 4096).filter fun g => (s.legsOfPort p).any fun l => decide (s.legGroup l = g)

/-- A port is up (TMG_PORT_STATE.DOWN clear). -/
def State.portUp (s : State) (p : Nat) : Bool := decide (s.rfld .tmgPortState 0 p 0 1 = 0)

/-- The parity bit that makes bits of a word odd in number. -/
def oddParity (v : Nat) (bits : List Nat) : Nat := 1 - (bits.map fun i => v / 2 ^ i % 2).sum % 2

/-- The membership word of a leg of a conference (R248). -/
def memberWord (conf : Nat) (mirror : Bool) : W16 :=
  let v := (4095 - conf % 4096) + (if mirror then 0 else 4096)
  BitVec.ofNat 16 (v + 16384 * oddParity v [0, 2, 4, 6, 8, 10, 12] + 32768 * oddParity v [1, 3, 5, 7, 9, 11, 13])

/-- Has a membership word good parity and ABSENT 0. -/
def memberOk (w : W16) : Bool :=
  decide (w.toNat / 8192 % 2 = 0) && decide (oddParity w.toNat [0, 2, 4, 6, 8, 10, 12] = w.toNat / 16384 % 2) &&
    decide (oddParity w.toNat [1, 3, 5, 7, 9, 11, 13] = w.toNat / 32768)

/-- Write the membership word of a leg as its objects say. -/
def State.writeMember (s : State) (l : Nat) : State :=
  { s with tmg := { s.tmg with member := nputD 0 s.tmg.member l (memberWord (s.legConf l) (s.legMirror l)) } }

/-! ### Checker hits and isolated legs (R441 to R443) -/

/-- Copies still on their way that will never be sent are flushed (R207): counted, their references released. -/
def State.flushCopies (s : State) (p : CopyJob → Bool) : State :=
  let s1 : State := { s with
    vlt := { s.vlt with copies := s.vlt.copies.filter fun c => !p c }
    fwd := { s.fwd with waitCopies := s.fwd.waitCopies.filter fun c => !p c } }
  ((s.vlt.copies ++ s.fwd.waitCopies).filter p).foldl (fun s c => (s.cinc .stkCnt 0 9).decRef 4 c.desc.handle) s1

/-- Flush the four class queues of a leg, and its copies still on their way to them (R207); feedback to it that waits for a
buffer goes with them. -/
def State.flushLeg (s : State) (l : Nat) : State :=
  let s1 : State := { s with fwd := { s.fwd with outbox := s.fwd.outbox.filter fun e => decide (e.2.1 ≠ l) } }
  let s2 := (s.fwd.outbox.filter fun e => decide (e.2.1 = l)).foldl (fun s e => s.hwAllocDrop 3 e.1) s1
  (List.range 4).foldl (fun s k => s.flushQueue (classQueue l k) 4) (s2.flushCopies fun c => decide (c.leg = l))

/-- A leg is isolated (R442): CHP_LEG_ISO, the event, the log entry, the flush; 64 isolations within 1 s are a failure of
the wing that made most of the hits (R444). -/
def State.isolate (s : State) (l code : Nat) : State :=
  let s1 := (s.rsetFld .chpLegIso 0 (l / 32) (l % 32) 1 1).flushLeg l
  let s2 := (((s1.raise 0x0A tyLeg l [byteOf code]).logFault 0x02 0 2 code l).sinc tyLeg l 0xB02)
  let now := s2.us
  let times := (s2.sup.isoTimes.filter fun e => decide (now ≤ e.1 + 1000000)) ++ [(now, l)]
  let s3 : State := { s2 with sup := { s2.sup with isoTimes := times } }
  if times.length < 64 then s3
  else
    let legs := times.map (·.2)
    let made (w : Nat) : Nat := countIf (fun e => legs.contains e.1 && decide (e.2 = w)) s3.sup.hitWings
    let w := [1, 2, 3, 4].foldl (fun b w => if made b < made w then w else b) 1
    s3.report (.wing w 0x0B)

/-- A checker hit for a leg (R441): the last three hits, the fourth within 1 ms isolates; one event per 1 s window. -/
def State.checkerHit (s : State) (code l : Nat) : State :=
  let now := s.us
  let hits := (nget s.sup.hits l).getD []
  let (wing, blk) := checkerBlock code
  let fresh := match nget s.sup.window l with
    | some w => decide (w + 1000000 ≤ now)
    | none => true
  let s1 : State := { s with sup := { s.sup with
    hits := nput s.sup.hits l ((hits ++ [now]).drop (hits.length - 2))
    hitWings := s.sup.hitWings ++ [(l, wing)]
    window := if fresh then nput s.sup.window l now else s.sup.window } }
  let s2 := (s1.setErr wing blk 7).sinc tyLeg l 0xB00
  let s3 := if fresh then (s2.raise 0x09 tyLeg l [byteOf code]).logFault 0x01 wing blk code l else s2
  if hits.length = 3 ∧ now ≤ hits.headD 0 + 1000 ∧ s3.isolated l = false then s3.isolate l code else s3

/-! ### Shapers (R243, R244) -/

/-- The settings a shaper's attributes give: RATE in kb/s, BURST, REFILL in µs, WEIGHT, PORT. -/
def State.shAttr (s : State) (level i a : Nat) : Nat :=
  s.attr tyShaper (level * 65536 + i) a
    (match a with
     | 0x500 => if level = 2 then 20000 else 0
     | 0x501 => 131072
     | 0x502 => [1, 10, 100].getD level 100
     | 0x503 => 16
     | _ => 255)

/-- A shaper; one never touched runs on its attributes' values. -/
def State.shaper (s : State) (level i : Nat) : Shaper :=
  (nget s.tmg.shapers (tmgKey level i)).getD
    { rate := if level = 2 then 20000 else 0, refill := [1, 10, 100].getD level 100 }

def State.setShaper (s : State) (level i : Nat) (x : Shaper) : State :=
  { s with tmg := { s.tmg with shapers := nput s.tmg.shapers (tmgKey level i) x } }

/-- The line rate of a port's resolved mode in kb/s (R97). -/
def State.portLine (s : State) (p : Nat) : Nat :=
  [10, 10, 25, 25, 50, 50, 100, 100, 100, 100, 200, 200, 400].getD (s.rfld .atrPortStatus 0 p 4 4) 0 * 1000000

/-- The rate a shaper refills at: a port shaper with RATE 0 or above the line rate runs at the line rate. -/
def State.shRate (s : State) (level i : Nat) (x : Shaper) : Nat :=
  if level = 0 then (if x.rate = 0 ∨ s.portLine i < x.rate then s.portLine i else x.rate) else x.rate

/-- May a shaper's entity send: tokens at least 0; a group with RATE 0 is unshaped. -/
def State.shOpen (s : State) (level i : Nat) : Bool :=
  let x := s.shaper level i
  decide (0 ≤ x.tokens) || (decide (level = 1) && decide (x.rate = 0))

/-- Sending `n` bytes takes `n` tokens; a group with RATE 0 is unshaped and has none to give. -/
def State.spend (s : State) (level i n : Nat) : State :=
  let x := s.shaper level i
  if level = 1 ∧ x.rate = 0 then s else s.setShaper level i { x with tokens := x.tokens - 1024 * (n : Int) }

/-! ### Scheduling tags (R239 to R242) -/

def State.tags (s : State) (level i : Nat) : Tags := ngetD {} s.tmg.tags (tmgKey level i)
def State.setTags (s : State) (level i : Nat) (x : Tags) : State :=
  { s with tmg := { s.tmg with tags := nputD {} s.tmg.tags (tmgKey level i) x } }
/-- The virtual time of a port (level 0) or a group (level 1). -/
def State.vtime (s : State) (level i : Nat) : W64 := ngetD 0 s.tmg.vtime (tmgKey level i)
def State.setVtime (s : State) (level i : Nat) (v : W64) : State :=
  { s with tmg := { s.tmg with vtime := nputD 0 s.tmg.vtime (tmgKey level i) v } }

/-- Tags compare modulo 2^64. -/
def tagLt (a b : W64) : Bool := (a - b).msb
def tagMax (a b : W64) : W64 := if tagLt a b then b else a

/-- Has a leg a descriptor in a class queue. -/
def State.legBacklog (s : State) (l : Nat) : Bool := (List.range 4).any fun k => decide ((s.queue (classQueue l k)).depth ≠ 0)

/-- Eligible (R238): a descriptor, tokens, the port up; an isolated leg's queues are empty. -/
def State.legEligible (s : State) (l : Nat) : Bool := s.legBacklog l && s.shOpen 2 l && s.portUp (s.legPort l)
/-- A group takes part at its port once its shaper's refill has installed that PORT (R244). -/
def State.groupEligible (s : State) (g p : Nat) : Bool :=
  s.shOpen 1 g && s.portUp p && decide ((s.shaper 1 g).port = p) && (s.legsOfGroup g).any s.legEligible

/-- An entity that becomes eligible takes S = max(S, F, V) (R239, R240). -/
def State.wakeOne (s : State) (level i parent : Nat) (eligible : Bool) : State :=
  let x := s.tags level i
  if eligible = x.awake then s
  else if eligible then
    (s.setTags level i { x with s := tagMax (tagMax x.s x.f) (s.vtime (level - 1) parent), awake := true }).cinc .tmgCnt 0 7
  else s.setTags level i { x with awake := false }

/-- Bring a leg's and its group's eligibility up to date. -/
def State.wakeLeg (s : State) (l : Nat) : State :=
  let g := s.legGroup l
  let s1 := s.wakeOne 2 l g (s.legEligible l)
  s1.wakeOne 1 g (s1.legPort l) (s1.groupEligible g (s1.legPort l))

/-- Every leg of a port. -/
def State.wakePort (s : State) (p : Nat) : State := (s.legsOfPort p).foldl State.wakeLeg s

/-- A served entity's tags (R239): V becomes its S, F becomes S + L · 256 / WEIGHT, its next S is max(V, F). WEIGHT is the
one its shaper has in force. -/
def State.served (s : State) (level i parent len : Nat) : State :=
  let x := s.tags level i
  let f := x.s + BitVec.ofNat 64 (len * 256 / max 1 (s.shaper level i).weight)
  (s.setVtime (level - 1) parent x.s).setTags level i { x with f := f, s := tagMax x.s f }

/-! ### Frames (R250) and admission (R246, R247) -/

def State.legV6 (s : State) (l : Nat) : Bool := decide (s.attr tyLeg l 0x100 4 = 6)

/-- The frame length of a copy (R247), counted as in R3; a copy for a peer leg carries the Terold header (R428). -/
def State.frameLen (s : State) (l : Nat) (d : Desc) : Nat :=
  if d.info % 2 = 1 then max 64 (d.len + 4)
  else
    max 64 (d.len + (if d.tbh.isSome then 16 else 0) + 14 + (if s.attr tyLeg l 0x506 0 = 0 then 0 else 4) +
      (if s.legV6 l then 40 else 20) + 12)

/-- A copy is dropped and its reference released (R229, R247). -/
def State.dropCopy (s : State) (l cnt legCnt : Nat) (d : Desc) : State :=
  (((s.cinc .tmgCnt 0 cnt).sinc tyLeg l legCnt).decRef 4 d.handle)

/-- Admit a copy to a class queue (R247). -/
def State.admitCopy (s : State) (l cls domain : Nat) (d : Desc) : State :=
  let q := classQueue l cls
  let x := s.queue q
  if s.portUp (s.legPort l) = false then s.dropCopy l 3 0x503 d
  else if 9216 < s.frameLen l d then s.dropCopy l 8 0x506 d
  else if s.limitDesc q < x.depth + 1 ∨ s.limitBytes q < x.bytes + d.len then
    (s.cinc .stkCnt 0 7).dropCopy l 2 0x502 d
  else
    match s.enqueue q domain d with
    | (0, s1) => s1.wakeLeg l
    | (0x10, s1) => s1.dropCopy l 2 0x502 d
    | (_, s1) => s1.failHw domain .untied

/-- The 16-bit checksum that makes the sum of a string all ones. -/
def inetSum (b : Bytes) : Nat :=
  let n := (List.range ((b.length + 1) / 2)).foldl (fun a i => a + byteN b (2 * i) * 256 + byteN b (2 * i + 1)) 0
  let f := n % 65536 + n / 65536
  65535 - (f % 65536 + f / 65536) % 65536

/-- Addresses and ports of a frame to build. -/
structure FrameTo where
  dmac : Bytes
  smac : Bytes
  vlan : Nat
  v6 : Bool
  dscp : Nat
  src : Bytes
  dst : Bytes
  sport : Nat
  dport : Nat
  ttl : Nat
  deriving DecidableEq, Repr

/-- Ethernet, IP and UDP headers before a payload (R250), padded to 60 bytes; the FCS is the MAC's. -/
def buildFrame (f : FrameTo) (p : Bytes) : Bytes :=
  let udpLen := 8 + p.length
  let ports := beBytes 2 f.sport ++ beBytes 2 f.dport ++ beBytes 2 udpLen
  let pseudo := if f.v6 then f.src ++ f.dst ++ beBytes 4 udpLen ++ [0, 0, 0, 17]
    else f.src ++ f.dst ++ [0, 17] ++ beBytes 2 udpLen
  let sum := inetSum (pseudo ++ ports ++ [0, 0] ++ p)
  let udp := ports ++ beBytes 2 (if sum = 0 then 65535 else sum) ++ p
  let v4 := [0x45, byteOf (f.dscp * 4)] ++ beBytes 2 (20 + udpLen) ++ [0, 0, 0x40, 0, byteOf f.ttl, 17]
  let ip := if f.v6 then beBytes 4 (0x60000000 + f.dscp * 4194304) ++ beBytes 2 udpLen ++ [17, byteOf f.ttl] ++ f.src ++ f.dst
    else v4 ++ beBytes 2 (inetSum (v4 ++ [0, 0] ++ f.src ++ f.dst)) ++ f.src ++ f.dst
  let tag := if f.vlan = 0 then [] else [0x81, 0x00] ++ beBytes 2 f.vlan
  let all := f.dmac ++ f.smac ++ tag ++ (if f.v6 then [0x86, 0xDD] else [0x08, 0x00]) ++ ip ++ udp
  all ++ zeros (60 - all.length)

/-- A port's MAC address (TMG_PORT_MAC). -/
def State.portMac (s : State) (p : Nat) : Bytes :=
  beBytes 2 (s.rfld .tmgPortMacHi 0 p 0 16) ++ beBytes 4 (s.rget .tmgPortMacLo 0 p).toNat

/-- An address attribute of a leg. -/
def State.legAddr (s : State) (l a : Nat) : Bytes := (s.attr? tyLeg l a).getD (zeros (if s.legV6 l then 16 else 4))

/-- The Terold header of a datagram (R425). -/
def tbhBytes (type : Nat) (flags device gconf seq len origin : Nat) : Bytes :=
  [byteOf (128 + type * 4), byteOf flags] ++ beBytes 2 (device * 64) ++ beBytes 4 gconf ++ beBytes 2 seq ++ beBytes 2 len ++
    beBytes 4 origin

/-- The Terold header for the next datagram on a peer leg. -/
def State.tbhFor (s : State) (l : Nat) (d : Desc) : Bytes :=
  match d.tbh with
  | some (type, key, origin) =>
    tbhBytes type (if type = 1 then origin else if key then 2 else 0) (s.rfld .curCasCfg 0 0 0 10)
      (s.attr tyConf (s.legConf l) 0xA00 0) (ngetD 0 s.tmg.tbhSeq l) d.len (if type = 1 then 0 else origin)
  | none => []

/-- The payload of a copy: as the Vault left it, or, of a copy that firmware enqueued, as it lies in its buffer. -/
def State.copyBytes (s : State) (d : Desc) : Bytes :=
  if d.cells = [] then s.gread (s.bufAddr d.handle + d.offset) d.len else d.cells

/-- The frame of a copy of a class on a leg (R250). -/
def State.copyFrame (s : State) (l cls : Nat) (d : Desc) : Bytes :=
  buildFrame
    { dmac := (s.attr? tyLeg l 0x505).getD (zeros 6), smac := s.portMac (s.legPort l), vlan := s.attr tyLeg l 0x506 0
      v6 := s.legV6 l, dscp := byteN ((s.attr? tyLeg l 0x507).getD [46, 34, 34, 0]) cls
      src := s.legAddr l 0x101, dst := s.legAddr l 0x102, sport := s.attr tyLeg l 0x103 0
      dport := s.attr tyLeg l 0x104 0, ttl := 64 } (s.tbhFor l d ++ s.copyBytes d)

/-! ### Egress checks (R249) -/

/-- The cipher-applied tag of a leg's transmit slot (R167). -/
def appliedTag (l : Nat) : Nat :=
  let v := 1 + 2 * l + 65536
  v + 131072 * (((List.range 17).map fun i => v / 2 ^ i % 2).sum % 2)

/-- Check 3: the tag of a copy on a leg. -/
def State.plainOk (s : State) (l : Nat) (d : Desc) : Bool :=
  decide (d.ctag = appliedTag l) || (!s.legEncrypt l && decide (d.ctag = 0))

/-- Checks 1 to 3 of a descriptor leaving a queue of leg `l`: 1 a bad membership word, 2 not a member, 3 plain. -/
def State.egressFault (s : State) (l : Nat) (d : Desc) : Option Nat :=
  let w := ngetD 0 s.tmg.member l
  if memberOk w = false then some 1
  else if d.info % 2 = 0 ∧ (w.getLsbD 12 = false ∨ w.toNat % 4096 ≠ 4095 - d.conf) then some 2
  else if d.info % 2 = 1 ∧ w.getLsbD 12 = true then some 2
  else if s.plainOk l d then none
  else some 3

/-- A frame that fails a check is suppressed (R249): counted, recorded, a checker hit; a bad membership word is rewritten
by the Curator. -/
def State.suppress (s : State) (l k : Nat) (d : Desc) : State :=
  let plain := decide (k = 3)
  let s1 := (s.dropCopy l (if plain then 5 else 4) 0x504 d).flag .tmgChkStatus 0 0 (if plain then 1 else 0)
  let s2 := if k = 1 then (s1.flag .tmgChkStatus 0 0 2) else s1
  let s3 := if k = 1 ∧ s2.objExists tyLeg l = true then s2.writeMember l else s2
  (s3.rset .tmgChkLast 0 0 (BitVec.ofNat 32 (l + 32768 * b2n plain + 65536 * d.conf))).checkerHit (if plain then 3 else 2) l

/-- Drain a leg's queues with PORT_DOWN (R252), through the checks. -/
def State.drainLeg (s : State) (l : Nat) : State :=
  let s1 := (List.range 4).foldl (fun s k =>
    let q := classQueue l k
    if (s.queue q).depth = 0 then s
    else
      let e := s.emptyQueue q
      e.1.foldl (fun s d =>
        match s.egressFault l d with
        | some f => s.suppress l f d
        | none => s.dropCopy l 3 0x503 d) (e.2.cadd .stkCnt 0 1 e.1.length)) s
  s1.wakeLeg l

/-- A port has gone down (R252). -/
def State.drainPort (s : State) (p : Nat) : State := (s.legsOfPort p).foldl State.drainLeg s

/-! ### The dequeue decision (R238 to R242, R251) -/

/-- A port takes part in a decision (R238): it is up, no block on the way is in reset, and its transmit buffer holds less
than 16 KiB. -/
def State.portReady (s : State) (p : Nat) : Bool :=
  s.portUp p && !s.northRestarting && s.blkUp 1 5 && s.blkUp 1 1 && decide (s.txHeld p < 16384)

/-- A port may send: its shaper's tokens are at least 0 too (R243, R251). -/
def State.portSends (s : State) (p : Nat) : Bool := s.portReady p && s.shOpen 0 p

/-- A frame leaves on a port's lanes, marked by the PTP function or not; lengths as in R3. -/
def State.transmit (s : State) (p : Nat) (frame : Bytes) (ptp : Bool) : State :=
  let n := frame.length + 4
  let s1 := ((((s.cinc .tmgCnt 0 0).cadd .tmgCnt 0 1 n).cinc .atrCnt 0 (16 * p + 2)).cadd .atrCnt 0 (16 * p + 3) n).spend 0 p n
  s1.putFrame p frame ptp

/-- The management bucket of a port now (R251): 1/1,000 bit, 16 KiB at most, full when never used. -/
def State.mgmtTokens (s : State) (p : Nat) : Int :=
  match nget s.tmg.mgmtBucket p with
  | none => 131072000
  | some (v, at_) => min 131072000 (v + ((s.t - at_) * s.rfld .tmgMgmtRate 0 0 0 14 : Nat))

/-- The Curator's frame for a management queue's head: of a JCP message, with the DSCP and TTL it chooses (free values); of a
frame built whole, its buffer's bytes. -/
def State.mgmtBytes (s : State) (p : Nat) : MgmtFrame → Bytes × State
  | .message peer payload =>
    let a := s.draw 6
    let b := a.2.draw 8
    let addr (n : Nat) : Bytes := beBytes (if peer.v6 then 16 else 4) n
    (buildFrame ⟨peer.mac, s.portMac p, 0, peer.v6, a.1, addr peer.own, addr peer.remote, peer.ownPort,
      peer.remotePort, b.1⟩ payload, b.2)
  | .built h off len _ =>
    let b := s.gread (s.bufAddr h + off) len
    (b ++ zeros (60 - b.length), s)

/-- The Curator's transmit ring takes back the buffer of a frame built whole (log 90). -/
def State.releaseMgmt (s : State) : MgmtFrame → State
  | .message _ _ => s
  | .built h _ _ _ => s.decRef 0 h

/-- The management queues lose what they hold. -/
def State.dropMgmt (s : State) : State := (s.mgmt.flatMap (·.2)).foldl State.releaseMgmt { s with mgmt := [] }

/-- Does the PTP function mark a management frame (R114). -/
def MgmtFrame.ptp : MgmtFrame → Bool
  | .message _ _ => false
  | .built _ _ _ p => p

/-- Is a management frame's data poisoned (R13). -/
def State.mgmtPoison (s : State) : MgmtFrame → Bool
  | .message _ _ => false
  | .built h off len _ => s.gpoison (s.bufAddr h + off) len

/-- Serve the management queue (R251); a poisoned frame is dropped instead (R13). -/
def State.sendHead (s : State) (p : Nat) (f : MgmtFrame) (rest : List MgmtFrame) : State :=
  if s.mgmtPoison f then
    State.releaseMgmt { s.metPoison 1 5 with mgmt := nputD [] s.mgmt p rest } f
  else
    let b := s.mgmtBytes p f
    let s1 := (b.2.transmit p b.1 f.ptp).cinc .tmgCnt 0 6
    State.releaseMgmt { s1 with
      mgmt := nputD [] s1.mgmt p rest
      tmg := { s1.tmg with
        mgmtBucket := nput s1.tmg.mgmtBucket p (s.mgmtTokens p - 8000 * ((b.1.length + 4 : Nat) : Int), s.t) } } f

/-- The entity with the smallest S of a list, the first among equals. -/
def State.leastTag (s : State) (level : Nat) : List Nat → Option Nat
  | [] => none
  | i :: r =>
    match s.leastTag level r with
    | some j => some (if tagLt (s.tags level j).s (s.tags level i).s then j else i)
    | none => some i

/-- The leg a group serves (R239, R241, R242). -/
def State.chooseLeg (s : State) (g : Nat) : Option Nat :=
  let el := (s.legsOfGroup g).filter s.legEligible
  let fair := el.filter fun l => !(s.tags 2 l).credit
  let cred := el.filter fun l => (s.tags 2 l).credit
  let behind := fair.any fun l => tagLt (s.tags 2 l).s (s.vtime 1 g)
  if cred = [] ∨ behind then s.leastTag 2 fair
  else
    let last := (nget s.tmg.lastLeg g).elim 0 (· + 1)
    (cred.find? fun l => decide (last ≤ l)).or cred.head?

/-- Count the shapers of a port that hold an entity with a frame waiting (R254), a management frame among them. -/
def State.countHeld (s : State) (p : Nat) : State :=
  let legs := if s.egressOn then (s.legsOfPort p).filter s.legBacklog else []
  let groups := (s.groupsOfPort p).filter fun g => legs.any fun l => decide (s.legGroup l = g)
  let hold (s : State) (level i : Nat) : State :=
    if s.shOpen level i then s else s.sinc tyShaper (level * 65536 + i) 0x501
  let s1 := legs.foldl (fun s l => hold s 2 l) s
  let s2 := groups.foldl (fun s g => hold s 1 g) s1
  if legs = [] ∧ (nget s.mgmt p).getD [] = [] then s2 else hold s2 0 p

/-- Send the head of a leg's first non-empty class queue, or suppress it (R249, R250, R428). -/
def State.serveLeg (s : State) (p g l : Nat) : State :=
  match (List.range 4).find? fun k => decide ((s.queue (classQueue l k)).depth ≠ 0) with
  | none => s
  | some cls =>
    match s.dequeue (classQueue l cls) with
    | none => s
    | some (d, s1) =>
      match s1.egressFault l d with
      | some k => (s1.suppress l k d).wakeLeg l
      | none =>
        let tooLong := match d.tbh, s1.peer? l with
          | some _, some dev => decide (s1.rfld .curCasPeer 0 dev 16 14 < d.len + 16)
          | _, _ => false
        let poisoned := d.poison ||
          (decide (d.info % 2 = 1 ∨ d.cells = []) && s1.gpoison (s1.bufAddr d.handle + d.offset) d.len)
        if tooLong then ((s1.cinc .curCasCnt 0 3).decRef 4 d.handle).wakeLeg l
        else if poisoned then ((s1.metPoison 1 5).decRef 4 d.handle).wakeLeg l
        else
          let frame := if d.info % 2 = 1 then s1.gread (s1.bufAddr d.handle + d.offset) d.len else s1.copyFrame l cls d
          let frame := frame ++ zeros (60 - frame.length)
          let n := frame.length + 4
          let s2 := ((((s1.transmit p frame false).spend 1 g n).spend 2 l n).sinc tyLeg l 0x500).sadd tyLeg l 0x501 n
          let s3 := if d.tbh.isSome then
              { (s2.cinc .curCasCnt 0 1) with tmg := { s2.tmg with
                tbhSeq := nputD 0 s2.tmg.tbhSeq l ((ngetD 0 s2.tmg.tbhSeq l + 1) % 65536) } } else s2
          let s4 := if (s3.tags 2 l).credit then
              { s3 with tmg := { s3.tmg with lastLeg := nput s3.tmg.lastLeg g l } } else
              { s3.served 2 l g n with tmg := { (s3.served 2 l g n).tmg with lastLeg := nput s3.tmg.lastLeg g l } }
          ((s4.served 1 g p n).decRef 4 d.handle).wakeLeg l

/-! ### Enqueues of any producer (R196) -/

/-- What an item of a queue belongs to (R11): a stream's queue, its stream. -/
def flowOfQueue (q : Nat) : ItemFlow := if 131072 ≤ q ∧ q < 262144 then .stream (q - 131072) else .untied

/-- Answer a producer: a refusal is answered to firmware, and is a failed item of a hardware producer (R196). -/
def State.tellProducer (s : State) (cl : Client) (q code : Nat) : State :=
  match cl with
  | .core _ _ | .hw 0 => s.answerClient cl code 0
  | .hw d => if code = 0 then s else s.failHw d.val (flowOfQueue q)

/-- An enqueue waits until it can be taken (R206). -/
def State.waitEnqueue (s : State) (cl : Client) (q : Nat) (x : Desc) : State :=
  { s with stk := { s.stk with waiting := s.stk.waiting ++ [(cl, q, x)] } }

/-- An enqueue that no earlier one holds back: on a class queue the traffic manager admits the copy; the code of a range beyond
the buffer is a free value (log 24); one that must wait (R206) waits. -/
def State.enqueueNow (s : State) (cl : Client) (q : Nat) (x : Desc) : State :=
  let dom := cl.domain
  match s.enqueueFault q dom x with
  | some 0x11 => s.waitEnqueue cl q x
  | some 0x12 =>
    let k := (s.enqueue q dom x).2.draw 4
    k.2.tellProducer cl q k.1
  | some 0x10 => if q < 131072 then (s.admitCopy (q / 4) (q % 4) dom x).tellProducer cl q 0 else (s.enqueue q dom x).2
  | some c => (s.enqueue q dom x).2.tellProducer cl q c
  | none => (if q < 131072 then s.admitCopy (q / 4) (q % 4) dom x else (s.enqueue q dom x).2).tellProducer cl q 0

/-- The number under which an enqueue names port 0's management queue, the other ports' following (DESIGN CHOICE, log 90). -/
def mgmtQueue : Nat := 262144

/-- An enqueue on a port's management queue (R251): refused unless the buffer's owner is domain 0, the code of that refusal a
free value (log 24); META bit 0 is the PTP function's mark (log 90). -/
def State.enqueueMgmt (s : State) (cl : Client) (p : Nat) (x : Desc) : State :=
  match s.handleFault cl.domain 0 x.handle with
  | some c => (s.reject cl.domain 0 x.handle c).tellProducer cl (mgmtQueue + p) c
  | none =>
    if (s.bufRec x.handle).owner ≠ 0 ∨ bufSize x.handle < x.offset + x.len then
      (s.draw 4).2.tellProducer cl (mgmtQueue + p) (s.draw 4).1
    else
      State.tellProducer { s with
        mgmt := nput s.mgmt p ((nget s.mgmt p).getD [] ++ [.built x.handle x.offset x.len (decide (x.info % 2 = 1))]) }
        cl (mgmtQueue + p) 0

/-- A producer's enqueue: behind those that wait on the queue (R206). -/
def State.enqueueFor (s : State) (cl : Client) (q : Nat) (x : Desc) : State :=
  if mgmtQueue ≤ q then s.enqueueMgmt cl (q - mgmtQueue) x
  else if s.waitingEnqs q ≠ [] then s.waitEnqueue cl q x
  else s.enqueueNow cl q x

/-- The first waiting enqueue, the first of its queue, that need wait no longer. -/
def State.nextEnq (s : State) : List Nat → List (Client × Nat × Desc) → Option (Client × Nat × Desc)
  | _, [] => none
  | seen, e :: r =>
    if seen.contains e.2.1 || decide (s.enqueueFault e.2.1 e.1.domain e.2.2 = some 0x11) then s.nextEnq (e.2.1 :: seen) r
    else some e

/-- Enqueues that waited go on in order, once a descriptor has completed (R206); `fuel` bounds them. -/
def State.serveEnqs : Nat → State → State
  | 0, s => s
  | n + 1, s =>
    match s.nextEnq [] s.stk.waiting with
    | none => s
    | some e =>
      State.serveEnqs n (State.enqueueNow { s with stk := { s.stk with waiting := s.stk.waiting.erase e } } e.1 e.2.1 e.2.2)

/-- A producer extends its descriptor (R206), and what waited for it to complete goes on. -/
def State.extendQueue (s : State) (q len : Nat) (complete poison : Bool) : State :=
  let s1 := s.extendDesc q len complete poison
  State.serveEnqs s1.stk.waiting.length s1

def execDescriptorExtend (queue : Fin 262144) (len : Nat) (complete poison : Bool) (s : State) : Out :=
  .next (s.extendQueue queue len complete poison)

/-! ### Register writes -/

/-- A write of TMG_MGMT_RATE. -/
def State.writeMgmtRate (s : State) (v : W32) : Res State := do
  refuseIf (decide (fld v 0 14 = 0 ∨ 10000 < fld v 0 14)) stBadValue
  .ok (s.storeRw .tmgMgmtRate 0 0 v)

/-- A write of TMG_PORT_MAC_HI: a group address is refused. -/
def State.writeMacHi (s : State) (p : Nat) (v : W32) : Res State := do
  refuseIf (decide (fld v 8 1 = 1)) stBadValue
  .ok (s.storeRw .tmgPortMacHi 0 p v)

/-! ### The meanings -/

/-- Serve the groups of a port (R239). -/
def State.serveGroups (s : State) (p : Nat) : State :=
  if s.egressOn = false then s
  else
    match s.leastTag 1 ((s.groupsOfPort p).filter fun g => s.groupEligible g p) with
    | none => s
    | some g =>
      match s.chooseLeg g with
      | none => s
      | some l => s.serveLeg p g l

/-- The shapers that hold a frame back at a decision are counted, whatever the decision sends (R254). -/
def State.portHeld (s : State) (p : Nat) : State := if s.portReady p then s.countHeld p else s

/-- The traffic manager picks the next frame for a port (R238): the management queue first while its bucket allows. -/
def execDequeueDecision (port : Fin 96) (s : State) : Out :=
  let s0 := s.portHeld port
  if s0.portSends port = false then .next s0
  else
    match (nget s0.mgmt port).getD [] with
    | f :: rest =>
      if 0 ≤ s0.mgmtTokens port ∧ (s0.egressOn = true ∨ s0.m.mode = .linkUp) then .next (s0.sendHead port f rest)
      else .next (s0.serveGroups port)
    | [] => .next (s0.serveGroups port)

/-- A shaper's refill (R243, R244), and a leg's change between credit and fair queuing (R242). -/
def execShaperRefill (level : Fin 3) (index : Fin 32768) (s : State) : Out :=
  let lv := level.val
  let i := index.val
  if [96, 4096, 32768].getD lv 0 ≤ i then .next s
  else
  let x := s.shaper lv i
  let s1 := s.reach (x.last + 1000 * x.refill)
  let us := (s1.t - x.last) / 1000
  let n := s1.shRate lv i x * us * 16 + x.rem
  let cap : Int := 1024 * (x.burst : Int)
  let y : Shaper := { x with
    tokens := min cap (x.tokens + (n / 125 : Nat)), rem := n % 125, last := x.last + 1000 * us }
  let z : Shaper := if x.pending then
      { y with
        rate := s1.shAttr lv i 0x500, burst := s1.shAttr lv i 0x501, refill := s1.shAttr lv i 0x502, pending := false
        weight := s1.shAttr lv i 0x503, port := s1.shAttr lv i 0x504
        tokens := min y.tokens (1024 * (s1.shAttr lv i 0x501 : Int)) }
    else y
  let s2 := s1.setShaper lv i z
  if lv = 2 then
    if s2.objExists tyLeg i = false then .next s2
    else
      let g := s2.legGroup i
      let tg := s2.tags 2 i
      let s3 := if tg.credit = s2.creditMode then s2
        else if tg.credit then s2.setTags 2 i { tg with credit := false, s := s2.vtime 1 g, f := s2.vtime 1 g }
        else s2.setTags 2 i { tg with credit := true }
      .next (s3.wakeLeg i)
  else if lv = 1 then .next ((s2.legsOfGroup i).foldl State.wakeLeg s2)
  else .next (s2.wakePort i)

/-- A producer enqueues a descriptor (R196); the queues from 262,144 on are the ports' management queues (R251, log 90). -/
def execEnqueue (client : Client) (queue : Fin 262240) (desc : Desc) (s : State) : Out := .next (s.enqueueFor client queue desc)

def execTmgCntClr (s : State) : Out :=
  .next (s.answerWith (if s.blkUp 1 5 then .ok (s.cclear .tmgCnt 0 0 9) else .error stUnavailable))

end Sys2Proof.Machine
end

