-- ==== Sys2Proof/Machine/Atrium.lean ====
section
/-!
DEFINITION. The Atrium (chapter Ports, Lanes and Link Negotiation): PHY types, port configuration, negotiation and
training, link up and down, lane tests, the receive MAC, and the writes of its registers.
-/

namespace Sys2Proof.Machine

/-! ### PHY types (R97) and port configuration (R99 to R104) -/

/-- The MODE that an ability bit of ATR_PORT_ADV names. -/
def abilityMode (i : Nat) : Nat := [0, 2, 2, 4, 4, 6, 6, 8, 8, 10, 10].getD i 0

/-- The fields of ATR_PORT_CFG. -/
def cfgEnable (c : W32) : Bool := fld c 0 1 = 1
def cfgAn (c : W32) : Bool := fld c 1 1 = 1
def cfgLanes (c : W32) : Nat := 2 ^ fld c 2 2
def cfgBase (c : W32) : Nat := fld c 4 7
def cfgMode (c : W32) : Nat := fld c 12 4
def cfgFec (c : W32) : Nat := fld c 16 2

/-- The lanes a configuration occupies (R99). -/
def cfgLaneList (c : W32) : List Nat := (List.range (cfgLanes c)).map (· + cfgBase c)

/-- A port's configuration, its lanes. -/
def State.portCfg (s : State) (p : Nat) : W32 := s.rget .atrPortCfg 0 p
def State.portAdv (s : State) (p : Nat) : W32 := s.rget .atrPortAdv 0 p
def State.portLanes (s : State) (p : Nat) : List Nat := cfgLaneList (s.portCfg p)
def State.portOn (s : State) (p : Nat) : Bool := cfgEnable (s.portCfg p)

/-- The rate code of the quad a lane lies in. -/
def State.laneRate (s : State) (l : Nat) : Nat := s.rfld .atrQuadRate 0 (l / 4) 0 2

/-- The enabled port a lane belongs to. -/
def State.laneOwner (s : State) (l : Nat) : Option Nat :=
  (List.range 96).find? fun p => s.portOn p && (s.portLanes p).contains l

/-- The advertised abilities that survive the masking of R103: no more lanes than the port has, the quad's rate. -/
def State.surviving (s : State) (cfg adv : W32) : List Nat :=
  (List.range 11).filter fun i =>
    fld adv i 1 = 1 &&
      match phy (abilityMode i) with
      | some k => decide (k.lanes ≤ cfgLanes cfg) && decide (k.rate = s.laneRate (cfgBase cfg))
      | none => false

/-- The port rate for R101's sum and the FIFO share: the fixed mode's, or the highest surviving ability's. -/
def State.cfgGbps (s : State) (cfg adv : W32) : Nat :=
  if cfgAn cfg then
    (s.surviving cfg adv).foldl (fun a i => max a ((phy (abilityMode i)).elim 0 (·.gbps))) 0
  else (phy (cfgMode cfg)).elim 0 (·.gbps)

def State.portGbps (s : State) (p : Nat) : Nat := s.cfgGbps (s.portCfg p) (s.portAdv p)

/-- The receive FIFO share of an enabled port, a whole number of 256-byte cells (R101). -/
def State.fifoShare (s : State) (p : Nat) : Nat := s.portGbps p * 131072 / 100 / 256 * 256

/-- R101: the status a write leaving a port at `cfg` and `adv` is refused with, the first row that holds deciding. -/
def State.judgePort (s : State) (p : Nat) (cfg adv : W32) : Res Unit := do
  let kr (a b : Nat) : Bool := fld adv a 1 = 1 && fld adv b 1 = 1
  refuseIf s.atr.reconfig.isSome stInUse
  refuseIf (decide (cfgBase cfg > 95) || decide (cfgBase cfg % cfgLanes cfg ≠ 0)) stBadValue
  refuseIf (decide (cfgMode cfg > 12) || decide (cfgFec cfg = 3)) stBadValue
  refuseIf (kr 1 2 || kr 3 4 || kr 5 6 || kr 7 8 || kr 9 10) stBadValue
  if cfgEnable cfg then
    refuseIf ((cfgLaneList cfg).any fun l =>
      decide (s.laneRate l = 0) ||
        (List.range 96).any fun q => decide (q ≠ p) && s.portOn q && (s.portLanes q).contains l) stInUse
    if cfgAn cfg then
      refuseIf (decide (s.surviving cfg adv = [])) stBadValue
    else
      match phy (cfgMode cfg) with
      | none => .error stBadValue
      | some k =>
        refuseIf (decide (k.lanes ≠ cfgLanes cfg) || (cfgLaneList cfg).any fun l => decide (s.laneRate l ≠ k.rate))
          stBadValue
        refuseIf (!k.fec.contains (cfgFec cfg)) stBadValue
    refuseIf (decide (((List.range 96).filter fun q => decide (q ≠ p) && s.portOn q).foldl
      (fun a q => a + s.portGbps q) (s.cfgGbps cfg adv) > 2400)) stResource
  else .ok ()

/-! ### Port state -/

def State.port (s : State) (p : Nat) : PortSt := (nget s.atr.ports p).getD {}
def State.setPort (s : State) (p : Nat) (x : PortSt) : State :=
  { s with atr := { s.atr with ports := nputD {} s.atr.ports p x } }

/-- ATR_PORT_STATUS.STATE: 0 disabled, 1 break-link, 2 AN, 3 training or adapting, 4 hold-off, 5 up, 6 no common
ability, 7 test. -/
def State.portState (s : State) (p : Nat) : Nat := s.rfld .atrPortStatus 0 p 0 3
def State.setPortState (s : State) (p n : Nat) : State := s.rsetFld .atrPortStatus 0 p 0 3 n
def State.setPortMode (s : State) (p mode fec : Nat) : State :=
  (s.rsetFld .atrPortStatus 0 p 4 4 mode).rsetFld .atrPortStatus 0 p 8 2 fec

/-- The lanes in use in the port's resolved or fixed mode: its lowest-numbered (R104). -/
def State.usedLanes (s : State) (p : Nat) : List Nat :=
  (s.portLanes p).take ((phy (s.rfld .atrPortStatus 0 p 4 4)).elim 0 (·.lanes))

/-- Release the AGC of lanes (R109). -/
def State.releaseAgc (s : State) (lanes : List Nat) : State :=
  lanes.foldl (fun s l => s.rsetFld .atrLaneRxstat 0 l 3 1 0) s

/-- Lanes lose block lock: their status and the port's LOCKED bits. -/
def State.unlock (s : State) (p : Nat) (lanes : List Nat) : State :=
  let s1 := lanes.foldl (fun s l => s.rsetFld .atrLaneRxstat 0 l 2 1 0) s
  lanes.foldl (fun s l => s.rsetFld .atrPortStatus 0 p (16 + (l - cfgBase (s.portCfg p)) % 8) 1 0) s1

/-- Is the lane's reference pair present (R25). -/
def State.refOk (s : State) (l : Nat) : Bool := s.rfld .chpClkLock 0 0 (8 + l / 24) 1 = 1

/-- Can a lane run: its reference pair is present, and its quad is not out of service (R455). -/
def State.laneOk (s : State) (l : Nat) : Bool := s.refOk l && !s.partIsOut (.quad (l / 4))

/-! ### Receivers (R108, R109) -/

def State.laneEq (s : State) (l : Nat) : LaneEq := ngetD {} s.atr.lanes l
def State.setLaneEq (s : State) (l : Nat) (x : LaneEq) : State :=
  { s with atr := { s.atr with lanes := nputD {} s.atr.lanes l x } }

/-- The CTLE peaking of a training, or of a fixed mode's initial adaptation, is held until the next one (R108). -/
def State.setCtle (s : State) (lanes : List Nat) (ctle : List Nat) : State :=
  (List.zip lanes ctle).foldl (fun s e => s.setLaneEq e.1 { s.laneEq e.1 with ctle := some e.2 }) s

/-- A start of a port's lanes: their receivers adapt anew. -/
def State.freshEq (s : State) (lanes : List Nat) : State :=
  lanes.foldl (fun s l => s.setLaneEq l { s.laneEq l with ctle := none, fine := false }) s

/-- What a lane's receiver has settled on: its AGC keeps a frozen gain (R109), its DFE keeps its taps while DFE_FREEZE is
set, and from block lock on its step is 1/16 (R108). -/
def State.settleLane (s : State) (l : Nat) (rx : LaneRx) : State :=
  let old := s.rget .atrLaneRxstat 0 l
  let frozen := decide (s.rfld .atrLaneCtl 0 l 2 1 = 1)
  let gain := if fld old 3 1 = 1 then fld old 4 8 else rx.gain.toNat
  let tap1 := if frozen then fld old 12 8 else rx.tap1.toNat
  let x := s.laneEq l
  (s.rset .atrLaneRxstat 0 l (BitVec.ofNat 32 (15 + 16 * gain + 4096 * tap1 + 1048576 * rx.eye.toNat))).setLaneEq l
    { x with taps := if frozen then x.taps else (rx.tap1 :: rx.taps).take 12, fine := true }

/-- Start step 3 of R117, or any other start of the port: break-link with AN set, adapting in a fixed mode. -/
def State.startPort (s : State) (p : Nat) : State :=
  let s1 := ((s.setPort p { s.port p with ready := false, holdFrom := none }).releaseAgc (s.portLanes p)).freshEq
    (s.portLanes p)
  let s2 := s1.unlock p (s.portLanes p)
  if cfgAn (s.portCfg p) then s2.setPortState p 1
  else (s2.setPortState p 3).setPortMode p (cfgMode (s.portCfg p)) (cfgFec (s.portCfg p))

/-- The link of an up port drops (R115): LINK_DOWN, counter 13, the traffic manager's flag and drain, one event. -/
def State.dropLink (s : State) (p : Nat) : State :=
  if s.portState p = 5 then
    let s1 := ((s.flag .atrPortErr 0 p 0).cinc .atrCnt 0 (16 * p + 13)).rsetFld .tmgPortState 0 p 0 1 1
    (s1.drainPort p).raise 5 0 0 [byteOf p]
  else s

/-- Clause 73 starts on a port's lane 0 (R103): it offers the abilities that survive the masking, with the FEC bits F3 to F0
at 0, 1, 0, 0. -/
def State.beginAn (s : State) (p : Nat) : State :=
  let offer := (s.surviving (s.portCfg p) (s.portAdv p)).foldl (fun a i => a ||| BitVec.twoPow 11 i) 0
  (s.setPort p { s.port p with offered := some (offer, 4) }).setPortState p 2

/-- Every transmitter falls to electrical idle (R36, R38): what is on the lanes ends cut, and no port runs until the next entry
to LINK_UP starts it (R103). ATR_PORT_STATUS.STATE reads 0 until then (DESIGN CHOICE, log 88). -/
def State.silence (s : State) : State :=
  ((List.range 96).filter s.portOn).foldl (fun s p =>
    (((s.setPort p {}).releaseAgc (s.portLanes p)).unlock p (s.portLanes p)).setPortState p 0) s.cutFrames

/-- The running reconfiguration of a port completes (R58, R117). -/
def State.endReconfig (s : State) (p : Nat) : State :=
  match s.atr.reconfig with
  | some (q, _) => if q = p then { s with atr := { s.atr with reconfig := none } } else s
  | none => s

/-- Apply a reconfiguration (R117): link down, new configuration, restart; with ENABLE 0 it ends after step 2. -/
def State.reconfigure (s : State) (p : Nat) (cfg adv : W32) : State :=
  let s1 := (s.dropLink p).releaseAgc (s.portLanes p)
  let s2 := (s1.unlock p (s.portLanes p)).setPort p { s1.port p with ready := false, holdFrom := none }
  let s3 := ((s2.rset .atrPortCfg 0 p cfg).rset .atrPortAdv 0 p adv).setPortMode p 0 0
  if cfgEnable cfg then
    { s3.startPort p with
      atr := { (s3.startPort p).atr with reconfig := some (p, if cfgAn cfg then none else some s3.t) } }
  else s3.setPortState p 0

/-- A write of a port's ATR_PORT_CFG, ATR_PORT_ADV or both (R101, R102): in LOAD it is stored; in MAINTAIN it starts one
reconfiguration; in any other mode it is refused. -/
def State.writePort (s : State) (p : Nat) (cfg adv : Option W32) : Res State := do
  let c := (cfg.getD (s.portCfg p)) &&& (regInfo .atrPortCfg).rw
  let a := (adv.getD (s.portAdv p)) &&& (regInfo .atrPortAdv).rw
  refuseIf (s.afterLoad && decide (s.m.mode ≠ .maintain)) stModeRefused
  s.judgePort p c a
  if s.afterLoad then .ok (s.reconfigure p c a)
  else .ok ((s.rset .atrPortCfg 0 p c).rset .atrPortAdv 0 p a)

/-- A write of ATR_QUAD_RATE (R100, R102). -/
def State.writeQuadRate (s : State) (q : Nat) (v : W32) : Res State := do
  refuseIf (s.afterLoad && decide (s.m.mode ≠ .maintain)) stModeRefused
  if fld v 0 2 = s.rfld .atrQuadRate 0 q 0 2 then .ok s
  else
    refuseIf ((List.range 4).any fun i => (s.laneOwner (4 * q + i)).isSome) stInUse
    .ok (s.rset .atrQuadRate 0 q (v &&& 3))

/-- The sum of the magnitudes of the FIR coefficients in an ATR_LANE_TXFIR word (R112). -/
def firSum (v : W32) : Nat :=
  (sgn 6 (fld v 0 6)).natAbs + (sgn 6 (fld v 6 6)).natAbs + fld v 12 7 + (sgn 6 (fld v 19 6)).natAbs +
    (sgn 6 (fld v 25 6)).natAbs

/-- A write of ATR_LANE_TXFIR (R112). -/
def State.writeTxfir (s : State) (l : Nat) (v : W32) : Res State := do
  let an := match s.laneOwner l with
    | some p => cfgAn (s.portCfg p)
    | none => false
  refuseIf an stNotPermitted
  refuseIf (s.afterLoad && decide (s.m.mode ≠ .maintain ∧ s.m.mode ≠ .diagnostic)) stModeRefused
  refuseIf (decide (firSum v > 64) || decide (fld v 12 7 > 64)) stBadValue
  .ok (s.rset .atrLaneTxfir 0 l (v &&& (regInfo .atrLaneTxfir).rw))

/-- Every lane of a port has TEST 0. -/
def State.testsOff (s : State) (p : Nat) : Bool :=
  (s.portLanes p).all fun l => s.rfld .atrLaneCtl 0 l 8 3 = 0

/-- A write of ATR_LANE_CTL (R102, R119): inversion bits, DFE_FREEZE, AGC_RELEASE and TEST, all or none. -/
def State.writeLaneCtl (s : State) (l : Nat) (v : W32) : Res State := do
  let old := s.rget .atrLaneCtl 0 l
  let inv := decide (fld old 0 2 ≠ fld v 0 2)
  let test := fld v 8 3
  refuseIf (inv && s.afterLoad && decide (s.m.mode ≠ .maintain)) stModeRefused
  refuseIf (decide (s.m.mode ≠ .diagnostic) && decide (test ≠ 0 ∨ fld v 3 1 = 1)) stModeRefused
  refuseIf (inv && (s.laneOwner l).isSome) stInUse
  refuseIf (decide (test = 7) || (decide (test = 4 ∨ test = 5) && decide (s.laneRate l ≠ 3))) stBadValue
  let s1 := s.rset .atrLaneCtl 0 l (v &&& (regInfo .atrLaneCtl).rw)
  let s2 := if fld v 3 1 = 1 then s1.releaseAgc [l] else s1
  match s2.laneOwner l with
  | none => .ok s2
  | some p =>
    if test ≠ 0 then .ok ((s2.dropLink p).setPortState p 7)
    else if s2.portState p = 7 ∧ s2.testsOff p then .ok (s2.startPort p)
    else .ok s2

/-- A write of ATR_LINK_CFG. -/
def State.writeLinkCfg (s : State) (v : W32) : Res State := do
  refuseIf (decide (fld v 0 10 > 1000) || decide (fld v 16 14 < 1518 ∨ fld v 16 14 > 9216)) stBadValue
  .ok (s.storeRw .atrLinkCfg 0 0 v)

/-- A write of ATR_CNT_CLR (R120). -/
def State.writeAtrCntClr (s : State) (v : W32) : Res State := do
  refuseIf (decide (fld v 0 7 > 95)) stBadValue
  .ok (s.cclear .atrCnt 0 (16 * fld v 0 7) 16)

/-! ### Negotiation, training and link up -/

/-- Auto-negotiation or training fails to an idle state: STATE 1 and no hold. -/
def State.restartAn (s : State) (p : Nat) : State :=
  (((s.setPort p { s.port p with ready := false, holdFrom := none }).unlock p (s.portLanes p)).releaseAgc
    (s.portLanes p)).setPortState p 1

/-- Every lane in use has block lock. -/
def State.allLocked (s : State) (p : Nat) : Bool :=
  (s.usedLanes p).all fun l => s.rfld .atrLaneRxstat 0 l 2 1 = 1

/-- The PCS link status turns true once the receivers are ready and every lane in use has block lock: hold-off starts
(R116). -/
def State.tryHold (s : State) (p : Nat) : State :=
  if (s.portState p = 3 ∨ s.portState p = 4) ∧ (s.port p).ready ∧ s.allLocked p ∧ (s.port p).holdFrom = none then
    (s.setPort p { s.port p with holdFrom := some s.t }).setPortState p 4
  else s

/-- The highest-rate ability of a list (R104). -/
def bestAbility (l : List Nat) : Option Nat :=
  l.foldl (fun a i => match a with
    | none => some i
    | some j =>
      if (phy (abilityMode j)).elim 0 (·.gbps) < (phy (abilityMode i)).elim 0 (·.gbps) then some i else some j) none

/-- The FEC that a resolved mode uses (R105). -/
def resolvedFec (mode : Nat) : Nat := (phy mode).elim 0 fun k => k.fec.headD 0

/-- The ports whose lanes lie under reference pair `k`. -/
def State.pairPorts (s : State) (k : Nat) : List Nat :=
  (List.range 96).filter fun p => s.portOn p && (s.portLanes p).any fun l => decide (l / 24 = k)

/-- After a loss of link that is no reconfiguration, test or stop of egress (R115): a port with AN set breaks its link, a
fixed-mode port adapts on with the peaking it has. -/
def State.againAfterLoss (s : State) (p : Nat) : State :=
  if cfgAn (s.portCfg p) then s.startPort p
  else
    (((s.setPort p { s.port p with ready := false, holdFrom := none }).unlock p (s.portLanes p)).releaseAgc
      (s.portLanes p)).setPortState p 3

/-- The link of an up port is lost (R115). -/
def State.relink (s : State) (p : Nat) : State := if s.portState p = 5 then (s.dropLink p).againAfterLoss p else s

/-- A port's lanes lose their clock or their transmitter, the port being in one of R115's states: an up link is lost; in
hold-off the link status drops; in training nothing but the lanes' locks goes, and it ends by R107; Clause 73 restarts its
arbitration. -/
def State.portLoses (s : State) (p : Nat) : State :=
  let lost := (s.unlock p (s.portLanes p)).releaseAgc (s.portLanes p)
  match s.portState p with
  | 5 => s.relink p
  | 4 => lost.setPort p { lost.port p with holdFrom := none }
  | 3 => lost
  | 2 => s.setPortState p 1
  | _ => s

/-- A lane reference pair is lost (R115): each port under it flags the loss. -/
def State.refLost (s : State) (k : Nat) : State :=
  (s.pairPorts k).foldl (fun s p => (s.flag .atrPortErr 0 p 6).portLoses p) s

/-- A quad is out of service (R455): the ports with lanes in it lose them. -/
def State.quadLost (s : State) (q : Nat) : State :=
  ((List.range 96).filter fun p => s.portOn p && (s.portLanes p).any fun l => decide (l / 4 = q)).foldl State.portLoses s

/-- At entry to LINK_UP every enabled port starts: AN at once in STATE 2, a fixed port adapting (R103). -/
def State.startAllPorts (s : State) : State :=
  ((List.range 96).filter s.portOn).foldl (fun s p =>
    if cfgAn (s.portCfg p) then (s.startPort p).beginAn p else s.startPort p) s

/-! ### The meanings -/



def execPortReconfig (port : Fin 96) (cfg adv : Option W32) (s : State) : Out :=
  .next (s.answerWith (if s.blkUp 1 1 then
    (if cfg.isNone && adv.isNone then .ok s else s.writePort port cfg adv) else .error stUnavailable))

def execAtrQuadRate (quad : Fin 24) (v : W32) (s : State) : Out :=
  .next (s.answerWith (if s.blkUp 1 1 then s.writeQuadRate quad v else .error stUnavailable))

def execAtrLaneTxfir (lane : Fin 96) (v : W32) (s : State) : Out :=
  .next (s.answerWith (if s.blkUp 1 1 then s.writeTxfir lane v else .error stUnavailable))

def execLaneTest (lane : Fin 96) (v : W32) (s : State) : Out :=
  .next (s.answerWith (if s.blkUp 1 1 then s.writeLaneCtl lane v else .error stUnavailable))

/-- The write of 1 to AGC_RELEASE, the lane's other fields as they stand. -/
def execAgcRelease (lane : Fin 96) (v : W32) (s : State) : Out :=
  .next (s.answerWith (if s.blkUp 1 1 then s.writeLaneCtl lane v else .error stUnavailable))

def execAtrCntClr (v : W32) (s : State) : Out :=
  .next (s.answerWith (if s.blkUp 1 1 then s.writeAtrCntClr v else .error stUnavailable))

/-- break_link_timer ends (R103, R106): Clause 73 starts on lane 0; a restart after no common ability counts. -/
def execBreakLinkTimerExpiry (port : Fin 96) (s : State) : Out :=
  if s.portState port = 1 ∧ s.laneOk (cfgBase (s.portCfg port)) then .next (s.beginAn port)
  else if s.portState port = 6 ∧ s.laneOk (cfgBase (s.portCfg port)) then
    .next ((s.cinc .atrCnt 0 (16 * port + 14)).beginAn port)
  else .next s

/-- Auto-negotiation ends (R103 to R106) with the partner's abilities; or Clause 73 restarts its arbitration, through
break_link_timer (R103, R115). -/
def execAnComplete (port : Fin 96) (partner : Option (BitVec 11)) (s : State) : Out :=
  if s.portState port = 2 then
    match partner with
    | none => .next (s.setPortState port 1)
    | some able =>
      match bestAbility ((s.surviving (s.portCfg port) (s.portAdv port)).filter fun i => able.getLsbD i) with
      | none => .next ((((s.flag .atrPortErr 0 port 1).setPortState port 6).endReconfig port))
      | some i =>
        let s1 := (s.setPort port { s.port port with ready := false, holdFrom := none }).releaseAgc (s.portLanes port)
        .next ((s1.setPortMode port (abilityMode i) (resolvedFec (abilityMode i))).setPortState port 3)
  else .next s

/-- The coefficients that training leaves in use (R112): c(−2) and c(2) stay at 0 in Clause 72 training, c(2) in Clause 136
training; requests that would take the magnitudes' sum above 64 are not followed. -/
def trainedFir (nrz : Bool) (old fir : W32) : W32 :=
  let v := setFld (fir &&& (regInfo .atrLaneTxfir).rw) 25 6 0
  let w := if nrz then setFld v 0 6 0 else v
  if firSum w ≤ 64 then w else old

/-- Training completes on all lanes (R107, R108, R112): the trained coefficients are in use, the CTLE peaking is chosen, and
the port awaits block lock. -/
def execTrainingDone (port : Fin 96) (fir : List W32) (rx : TrainedRx) (s : State) : Out :=
  if s.portState port = 3 ∧ cfgAn (s.portCfg port) = true ∧ (s.port port).ready = false ∧
      (s.usedLanes port).all s.laneOk = true then
    let nrz := decide (s.laneRate (cfgBase (s.portCfg port)) ≤ 2)
    let s1 := (List.zip (s.usedLanes port) fir).foldl (fun s e =>
      s.rset .atrLaneTxfir 0 e.1 (trainedFir nrz (s.rget .atrLaneTxfir 0 e.1) e.2)) (s.setCtle (s.usedLanes port) rx.ctle)
    .next ((s1.setPort port { s1.port port with ready := true, precode := rx.precode }).tryHold port)
  else .next s

/-- Training has not completed at max_wait_timer (R107). -/
def execMaxWaitTimerExpiry (port : Fin 96) (s : State) : Out :=
  if s.portState port = 3 ∧ cfgAn (s.portCfg port) = true ∧ (s.port port).ready = false then
    .next (((s.flag .atrPortErr 0 port 2).cinc .atrCnt 0 (16 * port + 14)).restartAn port)
  else .next s

/-- A fixed-mode port's receivers reach lock (R107); a lane without a CTLE peaking has chosen one in its initial adaptation
(R108). -/
def execReceiverLock (lock : PortLock) (s : State) : Out :=
  let port := lock.port
  if s.portState port = 3 ∧ cfgAn (s.portCfg port) = false ∧ (s.portLanes port).all s.laneOk = true then
    let anew := (List.zip (s.usedLanes port) lock.ctle).filter fun e => decide ((s.laneEq e.1).ctle = none)
    let s1 := (s.usedLanes port).foldl (fun s l => s.rsetFld .atrLaneRxstat 0 l 0 2 3)
      (s.setCtle (anew.map (·.1)) (anew.map (·.2)))
    .next ((s1.setPort port { s1.port port with ready := true }).tryHold port)
  else .next s

/-- 200 ms after adaptation began without lock (R117): the reconfiguration is complete and the miss counts once. -/
def execReconfigLockTimeout (port : Fin 96) (s : State) : Out :=
  match s.atr.reconfig with
  | some (p, some since) =>
    if p = port ∧ s.portState p = 3 ∧ (s.port p).ready = false then
      .next (((s.reach (since + 200000000)).cinc .atrCnt 0 (16 * p + 14)).endReconfig p)
    else .next s
  | _ => .next s

/-- A lane gains block lock (R109): its AGC freezes. Training frames carry no blocks, so nothing locks in training. On a lane
that holds block lock the row brings only what its DFE has adapted to since (R108). -/
def execBlockLock (lane : Fin 96) (rx : LaneRx) (s : State) : Out :=
  match s.laneOwner lane with
  | none => .next s
  | some p =>
    if (s.usedLanes p).contains lane.val ∧ 3 ≤ s.portState p ∧ s.portState p ≤ 5 ∧ s.laneOk lane = true ∧
        (cfgAn (s.portCfg p) = true → (s.port p).ready = true) then
      .next (((s.settleLane lane rx).rsetFld .atrPortStatus 0 p (16 + (lane - cfgBase (s.portCfg p))) 1 1).tryHold p)
    else .next s

/-- A lane loses block lock (R109): its AGC is released; in hold-off the link status drops and the hold restarts. -/
def execBlockLockLost (lane : Fin 96) (s : State) : Out :=
  if s.rfld .atrLaneRxstat 0 lane 2 1 = 1 then
    match s.laneOwner lane with
    | none => .next ((s.rsetFld .atrLaneRxstat 0 lane 2 1 0).releaseAgc [lane])
    | some p =>
      let s1 := (s.unlock p [lane]).releaseAgc [lane]
      .next (if s1.portState p = 4 then s1.setPort p { s1.port p with holdFrom := none } else s1)
  else .next s

/-- The PCS of an up port, or of one in hold-off, asserts hi_ber: it is flagged and counted (R120). -/
def State.hiBer (s : State) (p : Nat) (cause : LinkLoss) : State :=
  match cause with
  | .hiBer => (s.flag .atrPortErr 0 p 3).cinc .atrCnt 0 (16 * p + 12)
  | _ => s

/-- The PCS link status of an up port goes false (R115); in hold-off the hold restarts (R116). -/
def execLinkDown (port : Fin 96) (cause : LinkLoss) (s : State) : Out :=
  if s.portState port = 5 then .next ((s.hiBer port cause).relink port)
  else if s.portState port = 4 then
    let s1 := s.hiBer port cause
    .next (s1.setPort port { s1.port port with holdFrom := none })
  else .next s

/-- In hold-off, link status has not returned within link_fail_inhibit_timer (R115). -/
def execLinkFailInhibitExpiry (port : Fin 96) (s : State) : Out :=
  if s.portState port = 4 ∧ cfgAn (s.portCfg port) = true ∧ (s.port port).holdFrom = none then
    .next (s.restartAn port)
  else .next s

/-- PCS link status has stayed true for HOLD_MS (R116): the link comes up. -/
def execLinkUpHoldExpiry (port : Fin 96) (s : State) : Out :=
  match s.portState port, (s.port port).holdFrom with
  | 4, some h =>
    let s1 := (s.reach (h + s.rfld .atrLinkCfg 0 0 0 10 * 1000000)).setPortState port 5
    let s2 := ((s1.rsetFld .tmgPortState 0 port 0 1 0).wakePort port).endReconfig port
    .next (s2.raise 6 0 0 [byteOf port, byteOf (s2.rfld .atrPortStatus 0 port 4 4), byteOf (s2.rfld .atrPortStatus 0 port 8 2)])
  | _, _ => .next s

/-- A received frame at the MAC (R113, R114): dropped with a reason, or stamped and put into the port's receive FIFO. While
the Atrium's block is in reset or its wing restarts, nothing takes frames from the lanes into the FIFO, and a frame that the
partner still sends is dropped as one that finds it full (R32, R60; DEDUCED, log 89). -/
def execMacReceive (port : Fin 96) (frame : Bytes) (fec : FecReport) (s : State) : Out :=
  if s.portState port = 5 ∧ s.blkUp 1 1 = true then
    let c (k : Nat) : Nat := 16 * port + k
    let s0 := ((s.cadd .atrCnt 0 (c 9) fec.corrected).cadd .atrCnt 0 (c 10) fec.uncorrectable).cadd .atrCnt 0 (c 11)
      fec.symbols
    let s1 := if fec.uncorrectable > 0 then s0.flag .atrPortErr 0 port 4 else s0
    let len := frame.length
    let fcs := decide (fec.uncorrectable > 0) ||
      decide (frame.drop (len - 4) ≠ leBytes 4 (crc32 (frame.take (len - 4))).toNat)
    let used := ((s1.port port).fifo.map (·.bytes.length)).sum
    if fcs then .next ((s1.cinc .atrCnt 0 (c 4)).drop 0x01)
    else if len < 64 then .next ((s1.cinc .atrCnt 0 (c 5)).drop 0x02)
    else if len > s1.rfld .atrLinkCfg 0 0 16 14 then .next ((s1.cinc .atrCnt 0 (c 6)).drop 0x03)
    else if used + len > s1.fifoShare port then
      .next (((s1.cinc .atrCnt 0 (c 7)).drop 0x04).flag .atrPortErr 0 port 5)
    else if beField frame 12 2 = 0x8808 then .next ((s1.cinc .atrCnt 0 (c 8)).drop 0x05)
    else
      let x := s1.port port
      .next (((s1.cinc .atrCnt 0 (c 0)).cadd .atrCnt 0 (c 1) len).setPort port
        { x with fifo := x.fifo ++ [⟨frame, s1.t⟩] })
  else if s.portState port = 5 then
    .next (((s.cinc .atrCnt 0 (16 * port + 7)).drop 0x04).flag .atrPortErr 0 port 5)
  else .next s

end Sys2Proof.Machine
end

