-- ==== Sys2Proof/Machine/AudioMath.lean ====
section
/-!
DEFINITION. The audio fabric's arithmetic (R306 to R309, R323): gains, ramps, fades, sums, thresholds and levels.
-/

namespace Sys2Proof.Machine

/-- The largest number below `2 ^ bits` that meets a test which holds up to some bound; `acc` is the part found. -/
def searchUp (p : Nat → Bool) : Nat → Nat → Nat
  | 0, acc => acc
  | b + 1, acc => if p (acc + 2 ^ b) then searchUp p b (acc + 2 ^ b) else searchUp p b acc

/-- The Q2.14 gain of a value in 0.1 dB (R306): round(16,384 × 10^(g / 200)), 0 for mute. -/
def gainOf (g : Int) : Int :=
  if g = -32768 then 0
  else
    let up := 10 ^ g.toNat
    let down := 10 ^ (-g).toNat
    (searchUp (fun k => decide ((2 * k - 1) ^ 200 * down ≤ 32768 ^ 200 * up)) 16 0 : Nat)

/-- A sample scaled by a Q2.14 gain or a fade weight. -/
def scaleQ14 (x g : Int) : Int := (x * g + 8192) / 16384

/-- A ramp from one gain to another at sample `n` of a tick (R309). -/
def rampAt (old new : Int) (n : Nat) : Int := (old * 480 + (new - old) * (n + 1)).tdiv 480

/-- The values of round(16,384 × (0.5 − 0.5 × cos(π (n + 0.5) / 480))), n = 0 to 479 (R309). -/
def fadeIn : List Nat :=
  [0, 0, 1, 2, 4, 5, 7, 10, 13, 16, 19, 23, 27, 32, 37, 42] ++
  [48, 54, 60, 67, 74, 81, 89, 97, 105, 114, 123, 132, 142, 152, 163, 173] ++
  [185, 196, 208, 220, 233, 246, 259, 272, 286, 300, 315, 330, 345, 361, 376, 393] ++
  [409, 426, 443, 461, 479, 497, 516, 535, 554, 573, 593, 613, 634, 655, 676, 697] ++
  [719, 741, 764, 787, 810, 833, 857, 881, 905, 930, 955, 980, 1006, 1031, 1058, 1084] ++
  [1111, 1138, 1165, 1193, 1221, 1250, 1278, 1307, 1336, 1366, 1396, 1426, 1456, 1487, 1518, 1549] ++
  [1580, 1612, 1644, 1677, 1709, 1742, 1775, 1809, 1843, 1877, 1911, 1945, 1980, 2015, 2051, 2086] ++
  [2122, 2158, 2195, 2231, 2268, 2305, 2343, 2380, 2418, 2457, 2495, 2534, 2572, 2612, 2651, 2691] ++
  [2730, 2771, 2811, 2851, 2892, 2933, 2974, 3016, 3057, 3099, 3141, 3184, 3226, 3269, 3312, 3355] ++
  [3399, 3442, 3486, 3530, 3574, 3619, 3663, 3708, 3753, 3798, 3843, 3889, 3935, 3980, 4027, 4073] ++
  [4119, 4166, 4213, 4260, 4307, 4354, 4401, 4449, 4497, 4545, 4593, 4641, 4689, 4738, 4787, 4836] ++
  [4885, 4934, 4983, 5032, 5082, 5132, 5181, 5231, 5281, 5331, 5382, 5432, 5483, 5533, 5584, 5635] ++
  [5686, 5737, 5788, 5840, 5891, 5943, 5994, 6046, 6098, 6150, 6202, 6254, 6306, 6358, 6410, 6463] ++
  [6515, 6568, 6620, 6673, 6725, 6778, 6831, 6884, 6937, 6990, 7043, 7096, 7149, 7203, 7256, 7309] ++
  [7362, 7416, 7469, 7523, 7576, 7629, 7683, 7736, 7790, 7844, 7897, 7951, 8004, 8058, 8112, 8165] ++
  [8219, 8272, 8326, 8380, 8433, 8487, 8540, 8594, 8648, 8701, 8755, 8808, 8861, 8915, 8968, 9022] ++
  [9075, 9128, 9181, 9235, 9288, 9341, 9394, 9447, 9500, 9553, 9606, 9659, 9711, 9764, 9816, 9869] ++
  [9921, 9974, 10026, 10078, 10130, 10182, 10234, 10286, 10338, 10390, 10441, 10493, 10544, 10596, 10647, 10698] ++
  [10749, 10800, 10851, 10901, 10952, 11002, 11053, 11103, 11153, 11203, 11252, 11302, 11352, 11401, 11450, 11499] ++
  [11548, 11597, 11646, 11695, 11743, 11791, 11839, 11887, 11935, 11983, 12030, 12077, 12124, 12171, 12218, 12265] ++
  [12311, 12357, 12404, 12449, 12495, 12541, 12586, 12631, 12676, 12721, 12765, 12810, 12854, 12898, 12942, 12985] ++
  [13029, 13072, 13115, 13158, 13200, 13243, 13285, 13327, 13368, 13410, 13451, 13492, 13533, 13573, 13613, 13654] ++
  [13693, 13733, 13772, 13812, 13850, 13889, 13927, 13966, 14004, 14041, 14079, 14116, 14153, 14189, 14226, 14262] ++
  [14298, 14333, 14369, 14404, 14439, 14473, 14507, 14541, 14575, 14609, 14642, 14675, 14707, 14740, 14772, 14804] ++
  [14835, 14866, 14897, 14928, 14958, 14988, 15018, 15048, 15077, 15106, 15134, 15163, 15191, 15219, 15246, 15273] ++
  [15300, 15326, 15353, 15378, 15404, 15429, 15454, 15479, 15503, 15527, 15551, 15574, 15597, 15620, 15643, 15665] ++
  [15687, 15708, 15729, 15750, 15771, 15791, 15811, 15830, 15849, 15868, 15887, 15905, 15923, 15941, 15958, 15975] ++
  [15991, 16008, 16023, 16039, 16054, 16069, 16084, 16098, 16112, 16125, 16138, 16151, 16164, 16176, 16188, 16199] ++
  [16211, 16221, 16232, 16242, 16252, 16261, 16270, 16279, 16287, 16295, 16303, 16310, 16317, 16324, 16330, 16336] ++
  [16342, 16347, 16352, 16357, 16361, 16365, 16368, 16371, 16374, 16377, 16379, 16380, 16382, 16383, 16384, 16384]

/-- A sample's weight: 0 steady, 1 entering, 2 leaving. -/
def weighted (w : Nat) (n : Nat) (y : Int) : Int :=
  match w with
  | 0 => y
  | 1 => scaleQ14 y (fadeIn.getD n 0)
  | _ => scaleQ14 y (16384 - fadeIn.getD n 0)

/-- Numbers 0 to n − 1 beside a list. -/
def indexed {α : Type} (l : List α) : List (Nat × α) := (List.range l.length).zip l

/-- A signal through a ramped gain. -/
def gained (old new : Int) (xs : List Int) : List Int :=
  (indexed xs).map fun e => scaleQ14 e.2 (if old = new then new else rampAt old new e.1)

/-- A signal weighted over its tick. -/
def faded (w : Nat) (xs : List Int) : List Int := if w = 0 then xs else (indexed xs).map fun e => weighted w e.1 e.2

/-- A sum in 32-bit two's complement. -/
def wrap32 (z : Int) : Int := sgn 32 (unsgn 32 z)
def addSig (a b : List Int) : List Int := List.zipWith (fun x y => wrap32 (x + y)) a b
def subSig (a b : List Int) : List Int := List.zipWith (fun x y => wrap32 (x - y)) a b
def noSound : List Int := List.replicate 480 0

/-- The 480 samples of a frame: 32-bit words. -/
def samples32 (b : Bytes) : List Int := (List.range 480).map fun i => sgn 32 (leField b (4 * i) 4)
/-- The 480 samples of a datagram: 24-bit words in network byte order (R434). -/
def samples24 (b : Bytes) : List Int := (List.range 480).map fun i => sgn 24 (beField b (3 * i) 3)
def bytes32 (xs : List Int) : Bytes := xs.flatMap fun x => leBytes 4 (unsgn 32 x)
def clamp24 (x : Int) : Int := max (-8388607) (min 8388607 x)
def bytes24 (xs : List Int) : Bytes := xs.flatMap fun x => beBytes 3 (unsgn 24 (clamp24 x))

/-- The largest magnitude at or below a limit in dBFS (R308): |y| ≤ 2^23 × 10^(L / 20). -/
def limitOf (l : Int) : Nat := searchUp (fun y => decide (y ^ 20 * 10 ^ (-l).toNat ≤ 2 ^ 460)) 24 0

/-! ### The limiter's gain (R308), in units of 2^−48 -/

def limUnity : Nat := 2 ^ 48

/-- The gain that holds a sample at a limit. -/
def limNeed (lim : Nat) (x : Int) : Nat := if x.natAbs ≤ lim then limUnity else lim * limUnity / x.natAbs

/-- A release of 6 dB a tick, linear in dB: 10^(1/1600) a sample, up to unity. -/
def limRelease (g : Nat) : Nat := min limUnity (g * 281880343378849 / limUnity)

/-- The gain of the next sample: the release, and below it every straight line from the gain now to the gain that a sample
of the lookahead needs, reached when that sample passes. -/
def limStep (lim g : Nat) (ahead : List Int) : Nat :=
  (indexed ahead).foldl (fun b e => if limNeed lim e.2 < g then min b ((g * e.1 + limNeed lim e.2) / (e.1 + 1)) else b)
    (limRelease g)

/-- The next `n` samples of a line with their gains; the lookahead of a sample is the 48 samples from it. -/
def limRun (lim : Nat) : Nat → Nat → List Int → List (Int × Nat)
  | 0, _, _ => []
  | _, _, [] => []
  | n + 1, g, x :: l =>
    let g' := limStep lim g (x :: l.take 47)
    (x, g') :: limRun lim n g' l

/-- The sum of squares of a signal. -/
def energy (xs : List Int) : Nat := xs.foldl (fun a x => a + (x * x).toNat) 0

/-- The RMS of a sum of squares in 0.1 dB, rounded down, floored at −127.0 dBFS; and whether it is exact, as the floor is
(R323). -/
def rmsFloor (e : Nat) : Int × Bool :=
  let full := 480 * 2 ^ 46
  if e ^ 100 * (10 ^ 127) ^ 10 ≤ full ^ 100 then (-1270, true)
  else
    let k := searchUp (fun k => decide (10 ^ k * full ^ 100 ≤ e ^ 100 * (10 ^ 127) ^ 10)) 11 0
    ((k : Int) - 1270, decide (10 ^ k * full ^ 100 = e ^ 100 * (10 ^ 127) ^ 10))

end Sys2Proof.Machine
end

