-- ==== Sys2Proof/Machine/Parser.lean ====
section
/-!
DEFINITION. The Registrar's parser (R123 to R126, R128): from the Ethernet header through tags, labels and tunnels to
the innermost UDP datagram, with the length checks of R125 in their order.
-/

namespace Sys2Proof.Machine

/-- The IP addresses, ports and protocol of one layer of a packet. -/
structure Layer where
  v6 : Bool
  src : Nat
  dst : Nat
  dscp : Nat
  proto : Nat
  srcPort : Nat
  dstPort : Nat
  deriving DecidableEq, Repr

/-- What the parser found. -/
inductive Parsed where
  /-- A parse failure of R125, or an IP fragment; `jcp` tells a first fragment its addressee (R71). -/
  | fail (code : Nat) (jcp : Option (Bool × Nat × Nat))
  /-- A depth stop (R123, R124), with the innermost and outermost IP layers read. -/
  | stop (inner outer : Option Layer)
  /-- Neither UDP nor a recognised tunnel, or an unknown EtherType. -/
  | nonMedia (inner outer : Option Layer)
  /-- The innermost UDP datagram: its layer, the outermost layer, its payload's offset and length. -/
  | udp (inner outer : Layer) (off len : Nat)
  deriving DecidableEq, Repr

/-- The settings of a port that the parser uses (R123, R124). -/
structure ParseCfg where
  depth : Nat
  vxlan : Bool
  geneve : Bool
  gre : Bool
  vxlanPort : Nat
  genevePort : Nat
  deriving DecidableEq, Repr

/-- The 16-bit one's complement sum of a string. -/
def onesSum (b : Bytes) : Nat :=
  let n := (List.range ((b.length + 1) / 2)).foldl (fun a i => a + byteN b (2 * i) * 256 + byteN b (2 * i + 1)) 0
  let f := n % 65536 + n / 65536
  f % 65536 + f / 65536

/-- The pseudo-header of a UDP datagram. -/
def pseudoHeader (v6 : Bool) (src dst len : Nat) : Bytes :=
  if v6 then beBytes 16 src ++ beBytes 16 dst ++ beBytes 4 len ++ [0, 0, 0, 17]
  else beBytes 4 src ++ beBytes 4 dst ++ [0, 17] ++ beBytes 2 len

/-- The UDP checksum over a datagram with its checksum field as stored sums to all ones. -/
def udpSumOk (l : Layer) (dgram : Bytes) : Bool :=
  onesSum (pseudoHeader l.v6 l.src l.dst dgram.length ++ dgram) = 65535

/-- Where the parser stands in its walk: what the next header is. -/
inductive Head where
  | ether
  | ethertype (t : Nat)
  | label
  | ipv4
  | ipv6
  | gre
  | udp
  deriving DecidableEq, Repr

/-- The walk's counts, the end of the bytes present, the layer being read, the outermost layer. -/
structure Walk where
  tags : Nat := 0
  labels : Nat := 0
  tunnels : Nat := 0
  fin : Nat
  cur : Option Layer := none
  outer : Option Layer := none
  deriving DecidableEq, Repr

/-- Note the layer just read: the first one is the outermost. -/
def Walk.layer (w : Walk) (l : Layer) : Walk := { w with cur := some l, outer := some (w.outer.getD l) }

/-- Note the ports of the layer being read. -/
def Walk.ports (w : Walk) (sp dp : Nat) : Walk :=
  let up (l : Layer) : Layer := { l with srcPort := sp, dstPort := dp }
  { w with cur := w.cur.map up, outer := if w.outer = w.cur then w.outer.map up else w.outer }

/-- A depth stop in a header some of whose fields have been read (R138): the layers as they then stand. -/
def Walk.stop {α : Type} (w : Walk) : Except Parsed α := .error (.stop w.cur w.outer)

/-- The next head after an EtherType. -/
def headOfType (t : Nat) : Option Head :=
  if t = 0x8100 ∨ t = 0x88A8 then some (.ethertype t)
  else if t = 0x8847 ∨ t = 0x8848 then some .label
  else if t = 0x0800 then some .ipv4
  else if t = 0x86DD then some .ipv6
  else none

/-- The chain of IPv6 extension headers from offset `o`, next-header value `nh`, `n` already passed: the transport
protocol and its offset, or the outcome. `dst` is the IPv6 destination, for R71's count of fragments. -/
def extChain (b : Bytes) (fin dst : Nat) : Nat → Nat → Nat → Nat → Except Parsed (Nat × Nat)
  | 0, _, _, _ => .error (.stop none none)
  | fuel + 1, o, nh, n =>
    if nh = 0 ∨ nh = 43 ∨ nh = 60 then
      if n ≥ 2 then .error (.stop none none)
      else if o + 8 > fin ∨ o + 8 * (byteN b (o + 1) + 1) > fin then .error (.fail 0x14 none)
      else extChain b fin dst fuel (o + 8 * (byteN b (o + 1) + 1)) (byteN b o) (n + 1)
    else if nh = 44 then
      let first := decide (o + 16 ≤ fin) && decide (beField b (o + 2) 2 / 8 = 0) && decide (byteN b o = 17)
      .error (.fail 0x15 (if first then some (true, dst, beField b (o + 10) 2) else none))
    else if nh = 50 ∨ nh = 51 ∨ nh = 135 ∨ nh = 139 ∨ nh = 140 ∨ nh = 253 ∨ nh = 254 then .error (.stop none none)
    else .ok (nh, o)

/-- Judge an IPv4 header at `o` (R125's steps in order); answers its protocol, its length and the walk inside it. -/
def judgeIpv4 (c : ParseCfg) (b : Bytes) (o : Nat) (w : Walk) : Except Parsed (Nat × Nat × Walk) :=
  let present := w.fin - o
  if present < 20 then .error (.fail 0x10 none)
  else if o + 20 > c.depth then .error (.stop none none)
  else
    let ihl := byteN b o % 16 * 4
    let tot := beField b (o + 2) 2
    if byteN b o / 16 ≠ 4 ∨ ihl < 20 ∨ ihl > present ∨ onesSum (slice b o ihl) ≠ 65535 then .error (.fail 0x11 none)
    else if tot < ihl ∨ tot > present then .error (.fail 0x12 none)
    else
      let fragf := beField b (o + 6) 2 % 16384
      let dst := beField b (o + 16) 4
      if fragf ≠ 0 then
        let first := decide (fragf % 8192 = 0) && decide (byteN b (o + 9) = 17) && decide (ihl + 8 ≤ tot)
        .error (.fail 0x15 (if first then some (false, dst, beField b (o + ihl + 2) 2) else none))
      else
        let w1 := { w with fin := o + tot }.layer
          ⟨false, beField b (o + 12) 4, dst, byteN b (o + 1) / 4, byteN b (o + 9), 0, 0⟩
        if o + ihl > c.depth then w1.stop else .ok (byteN b (o + 9), ihl, w1)

/-- Judge an IPv6 header at `o`; answers its transport protocol, the offset of what follows, and the walk inside it. -/
def judgeIpv6 (c : ParseCfg) (b : Bytes) (o : Nat) (w : Walk) : Except Parsed (Nat × Nat × Walk) :=
  let present := w.fin - o
  if present < 40 then .error (.fail 0x10 none)
  else if o + 40 > c.depth then .error (.stop none none)
  else
    let len := beField b (o + 4) 2
    if byteN b o / 16 ≠ 6 then .error (.fail 0x1C none)
    else if len = 0 ∨ len > present - 40 then .error (.fail 0x13 none)
    else
      let dst := beField b (o + 24) 16
      let w1 (proto : Nat) : Walk := { w with fin := o + 40 + len }.layer
        ⟨true, beField b (o + 8) 16, dst, (beField b o 2 / 64) % 64, proto, 0, 0⟩
      match extChain b (o + 40 + len) dst 8 (o + 40) (byteN b (o + 6)) 0 with
      | .error (.stop _ _) => (w1 0).stop
      | .error e => .error e
      | .ok (nh, q) => if q > c.depth then (w1 0).stop else .ok (nh, q, w1 nh)

/-- What follows an IP header with a transport protocol. -/
def afterIp (c : ParseCfg) (proto : Nat) (w : Walk) : Except Parsed Head :=
  if proto = 17 then .ok .udp
  else if proto = 47 ∧ c.gre then .ok .gre
  else .error (.nonMedia w.cur w.outer)

/-- One header of the walk: where it ends and what follows, or the outcome. -/
def parseHead (c : ParseCfg) (b : Bytes) (h : Head) (o : Nat) (w : Walk) : Except Parsed (Head × Nat × Walk) :=
  let typed (t : Nat) (o' : Nat) (w' : Walk) : Except Parsed (Head × Nat × Walk) :=
    match headOfType t with
    | some h' => .ok (h', o', w')
    | none => .error (.nonMedia w'.cur w'.outer)
  let tunnelled (t : Nat) (o' : Nat) (w' : Walk) : Except Parsed (Head × Nat × Walk) :=
    if t = 0x0800 then .ok (.ipv4, o', w')
    else if t = 0x86DD then .ok (.ipv6, o', w')
    else if t = 0x6558 then .ok (.ether, o', w')
    else w'.stop
  match h with
  | .ether =>
    if o + 14 > w.fin then .error (.fail 0x10 none)
    else if o + 14 > c.depth then .error (.stop none none)
    else typed (beField b (o + 12) 2) (o + 14) w
  | .ethertype _ =>
    if w.tags ≥ 4 then .error (.stop none none)
    else if o + 4 > w.fin then .error (.fail 0x10 none)
    else if o + 4 > c.depth then .error (.stop none none)
    else typed (beField b (o + 2) 2) (o + 4) { w with tags := w.tags + 1 }
  | .label =>
    if w.labels ≥ 8 then .error (.stop none none)
    else if o + 4 > w.fin then .error (.fail 0x10 none)
    else if o + 4 > c.depth then .error (.stop none none)
    else
      let w1 := { w with labels := w.labels + 1 }
      if byteN b (o + 2) % 2 = 0 then .ok (.label, o + 4, w1)
      else if o + 4 ≥ w.fin then .error (.fail 0x10 none)
      else if o + 4 ≥ c.depth then .error (.stop none none)
      else if byteN b (o + 4) / 16 = 4 then .ok (.ipv4, o + 4, w1)
      else if byteN b (o + 4) / 16 = 6 then .ok (.ipv6, o + 4, w1)
      else .error (.stop none none)
  | .ipv4 => do
    let r ← judgeIpv4 c b o w
    let h' ← afterIp c r.1 r.2.2
    .ok (h', o + r.2.1, r.2.2)
  | .ipv6 => do
    let r ← judgeIpv6 c b o w
    let h' ← afterIp c r.1 r.2.2
    .ok (h', r.2.1, r.2.2)
  | .gre =>
    if w.tunnels ≥ 2 then .error (.stop none none)
    else if o + 4 > w.fin then .error (.fail 0x10 none)
    else if o + 4 > c.depth then .error (.stop none none)
    else
      let f := beField b o 2
      let len := 4 + 4 * (f / 32768 % 2) + 4 * (f / 8192 % 2) + 4 * (f / 4096 % 2)
      if f / 16384 % 2 = 1 ∨ f % 4096 ≠ 0 ∨ o + len > w.fin then .error (.fail 0x16 none)
      else if o + len > c.depth then .error (.stop none none)
      else tunnelled (beField b (o + 2) 2) (o + len) { w with tunnels := w.tunnels + 1 }
  | .udp =>
    if o + 8 > w.fin then .error (.fail 0x10 none)
    else if o + 8 > c.depth then .error (.stop none none)
    else
      let len := beField b (o + 4) 2
      let dp := beField b (o + 2) 2
      let sum := beField b (o + 6) 2
      let w1 := w.ports (beField b o 2) dp
      let isVx := c.vxlan && decide (dp = c.vxlanPort)
      let isGe := c.geneve && decide (dp = c.genevePort)
      match w1.cur, w1.outer with
      | some l, some outer =>
        if len < 8 ∨ len > w.fin - o then .error (.fail 0x17 none)
        else if (sum ≠ 0 ∧ udpSumOk l (slice b o len) = false) ∨ (sum = 0 ∧ l.v6 = true ∧ (isVx || isGe) = false) then
          .error (.fail 0x18 none)
        else if isVx || isGe then
          if w.tunnels ≥ 2 then w1.stop
          else
            let q := o + 8
            let w2 := { w1 with tunnels := w.tunnels + 1, fin := o + len }
            if q + 8 > w2.fin then .error (.fail 0x10 none)
            else if q + 8 > c.depth then w2.stop
            else if isVx then
              if byteN b q / 16 ≠ 0 ∨ byteN b q % 8 ≠ 0 then .error (.fail 0x16 none)
              else .ok (.ether, q + 8, w2)
            else
              let opt := byteN b q % 64 * 4
              if byteN b q / 64 ≠ 0 ∨ byteN b (q + 1) % 64 ≠ 0 ∨ q + 8 + opt > w2.fin then .error (.fail 0x16 none)
              else if q + 8 + opt > c.depth then w2.stop
              else tunnelled (beField b (q + 2) 2) (q + 8 + opt) w2
        else .error (.udp l outer (o + 8) (len - 8))
      | _, _ => .error (.stop none none)

/-- The walk from a header on; every header advances, so `fuel` bounds it. -/
def parseFrom (c : ParseCfg) (b : Bytes) : Nat → Head → Nat → Walk → Parsed
  | 0, _, _, w => .stop w.cur w.outer
  | fuel + 1, h, o, w =>
    match parseHead c b h o w with
    | .error (.stop inner outer) => .stop (inner.or w.cur) (outer.or w.outer)
    | .error e => e
    | .ok (h', o', w') => parseFrom c b fuel h' o' w'

/-- Parse a frame given without its FCS. -/
def parseFrame (c : ParseCfg) (b : Bytes) : Parsed := parseFrom c b 48 .ether 0 { fin := b.length }

/-! ### Sorting the datagram (R126) and RTP header extensions (R128) -/

/-- What a media or control datagram is. -/
inductive Sorted where
  | fail (code : Nat)
  | stop
  | stun
  | dtls
  | rtcp
  | rtp
  | other
  deriving DecidableEq, Repr

/-- Rows 2 to 6 of R126 with the RTP and RTCP rows of R125, for a payload `p` that starts at offset `off`. -/
def sortUdp (depth off : Nat) (p : Bytes) : Sorted :=
  let b0 := byteN p 0
  if p = [] then .other
  else if off ≥ depth then .stop
  else if b0 ≤ 3 ∧ p.length ≥ 8 ∧ off + 8 > depth then .stop
  else if b0 ≤ 3 ∧ p.length ≥ 8 ∧ beField p 4 4 = 0x2112A442 then .stun
  else if 20 ≤ b0 ∧ b0 ≤ 63 then .dtls
  else if 128 ≤ b0 ∧ b0 ≤ 191 then
    if p.length ≥ 2 ∧ off + 2 > depth then .stop
    else if p.length ≥ 2 ∧ 192 ≤ byteN p 1 ∧ byteN p 1 ≤ 223 then
      if p.length < 8 then .fail 0x1B
      else if off + 8 > depth then .stop
      else if (beField p 2 2 + 1) * 4 > p.length then .fail 0x1B
      else .rtcp
    else if p.length < 12 then .fail 0x19
    else if off + 12 > depth then .stop
    else
      let cs := 12 + 4 * (b0 % 16)
      if cs > p.length then .fail 0x19
      else if b0 / 16 % 2 = 1 ∧ (p.length < cs + 4 ∨ 4 + 4 * beField p (cs + 2) 2 > p.length - cs) then .fail 0x1A
      else if off + cs > depth then .stop
      else .rtp
  else .other

/-- The length of an RTP header with its CSRC list and extension. -/
def rtpHeaderLen (p : Bytes) : Nat :=
  let cs := 12 + 4 * (byteN p 0 % 16)
  if byteN p 0 / 16 % 2 = 1 then cs + 4 + 4 * beField p (cs + 2) 2 else cs

/-- The elements of an extension block, from offset `i` of the payload to `e`; elements that do not end within `lim`
are not read. -/
def extElements (p : Bytes) (two : Bool) (e lim : Nat) : Nat → Nat → List (Nat × Bytes)
  | 0, _ => []
  | fuel + 1, i =>
    if i ≥ e then []
    else
      let x := byteN p i
      if two then
        if x = 0 then extElements p two e lim fuel (i + 1)
        else if i + 1 ≥ e then []
        else
          let n := byteN p (i + 1)
          if i + 2 + n > e then []
          else
            (if i + 2 + n ≤ lim then [(x, slice p (i + 2) n)] else []) ++ extElements p two e lim fuel (i + 2 + n)
      else if x / 16 = 15 then []
      else if x / 16 = 0 then extElements p two e lim fuel (i + 1)
      else
        let n := x % 16 + 1
        if i + 1 + n > e then []
        else (if i + 1 + n ≤ lim then [(x / 16, slice p (i + 1) n)] else []) ++ extElements p two e lim fuel (i + 1 + n)

/-- The extension elements of an RTP packet that the parser reads; `lim` is the depth as an offset in the payload. -/
def rtpElements (p : Bytes) (lim : Nat) : List (Nat × Bytes) :=
  let cs := 12 + 4 * (byteN p 0 % 16)
  if byteN p 0 / 16 % 2 = 0 then []
  else
    let prof := beField p cs 2
    let e := cs + 4 + 4 * beField p (cs + 2) 2
    if cs + 4 > lim then []
    else if prof = 0xBEDE then extElements p false e lim (e - cs) (cs + 4)
    else if prof / 16 = 0x100 then extElements p true e lim (e - cs) (cs + 4)
    else []

/-- The first element with an ID; ID 0 names none. -/
def findElement (l : List (Nat × Bytes)) (id : Nat) : Option Bytes :=
  if id = 0 then none else (l.find? fun e => e.1 = id).map (·.2)

end Sys2Proof.Machine
end

