-- ==== Sys2Proof/Machine/Layers.lean ====
section
/-!
DEFINITION. Reading a packet's layer (R216, R217): H.264, H.265 and the AV1 dependency descriptor. The payload layouts
are those of RFC 6184, RFC 7798 and the AV1 RTP payload format, which the chapter names (PRESUMED, log 30).
-/

namespace Sys2Proof.Machine

/-- `n` bits of a string from bit `pos` on, most significant first; bits past the end read as 0. -/
def bitField (b : Bytes) (pos n : Nat) : Nat :=
  let k := (n + pos % 8 + 7) / 8
  beField b (pos / 8) k / 2 ^ (8 * k - pos % 8 - n) % 2 ^ n

/-- A non-symmetric value below `n`, and the position after it. -/
def nsField (b : Bytes) (pos n : Nat) : Nat × Nat :=
  let w := if n = 0 then 0 else Nat.log2 n + 1
  let m := 2 ^ w - n
  let v := bitField b pos (w - 1)
  if v < m then (v, pos + (w - 1)) else (2 * v - m + bitField b (pos + (w - 1)) 1, pos + w)

/-- The templates' layers, and the position after them; none when the string ends first. -/
def ddLayers (b : Bytes) : Nat → Nat → Nat → Nat → Option (List (Nat × Nat) × Nat)
  | 0, _, _, _ => none
  | fuel + 1, pos, s, t =>
    match bitField b pos 2 with
    | 0 => (ddLayers b fuel (pos + 2) s t).map fun r => ((s, t) :: r.1, r.2)
    | 1 => (ddLayers b fuel (pos + 2) s (t + 1)).map fun r => ((s, t) :: r.1, r.2)
    | 2 => (ddLayers b fuel (pos + 2) (s + 1) 0).map fun r => ((s, t) :: r.1, r.2)
    | _ => some ([(s, t)], pos + 2)

/-- Skip one template's frame diffs. -/
def skipFdiffs (b : Bytes) : Nat → Nat → Nat
  | 0, pos => pos
  | fuel + 1, pos => if bitField b pos 1 = 1 then skipFdiffs b fuel (pos + 5) else pos + 1

/-- A template structure at a position, and the position after it; none when the string ends in it. -/
def ddStruct (b : Bytes) (pos : Nat) : Option (Av1Struct × Nat) :=
  let cnt := bitField b (pos + 6) 5 + 1
  match ddLayers b (4 * b.length + 1) (pos + 11) 0 0 with
  | none => none
  | some (ls, p1) =>
    let dtis (i : Nat) : List Nat := (List.range cnt).map fun j => bitField b (p1 + 2 * (i * cnt + j)) 2
    let p3 := ls.foldl (fun p _ => skipFdiffs b (8 * b.length) p) (p1 + 2 * cnt * ls.length)
    let c := nsField b p3 (cnt + 1)
    let p5 := if c.1 = 0 then c.2
      else (List.range cnt).foldl (fun p _ => (nsField b p c.1).2) c.2 + 4 * c.1 * ls.length
    let maxS := (ls.map (·.1)).foldl max 0
    let p6 := p5 + 1 + (if bitField b p5 1 = 1 then 32 * (maxS + 1) else 0)
    if p6 ≤ 8 * b.length then
      some (⟨bitField b pos 6, cnt, (List.zip (List.range ls.length) ls).map fun e => (e.2.1, e.2.2, dtis e.1)⟩, p6)
    else none

/-- A dependency descriptor: start and end of frame, template ID, frame number, template structure, custom DTIs. -/
structure DepDesc where
  sof : Bool
  eof : Bool
  tid : Nat
  fnum : Nat
  new : Option Av1Struct
  custom : Option (List Nat)
  deriving DecidableEq, Repr

/-- Read a descriptor; `cnt` is the number of decode targets in force. None when it is cut short. -/
def parseDd (b : Bytes) (cnt : Nat) : Option DepDesc :=
  let base (new : Option Av1Struct) (custom : Option (List Nat)) : DepDesc :=
    ⟨bitField b 0 1 = 1, bitField b 1 1 = 1, bitField b 2 6, bitField b 8 16, new, custom⟩
  if b.length < 3 then none
  else if b.length = 3 then some (base none none)
  else
    let st := if bitField b 24 1 = 1 then (ddStruct b 29).map fun r => (some r.1, r.2) else some (none, 29)
    match st with
    | none => none
    | some (new, pos) =>
      let n := match new with
        | some a => a.targets
        | none => cnt
      let p1 := pos + (if bitField b 25 1 = 1 then n else 0)
      let p2 := p1 + (if bitField b 26 1 = 1 then 2 * n else 0)
      if 8 * b.length < p2 then none
      else some (base new (if bitField b 26 1 = 1 then some ((List.range n).map fun j => bitField b (p1 + 2 * j) 2) else none))

/-- May a structure be adopted (R217). -/
def Av1Struct.adoptable (a : Av1Struct) : Bool :=
  decide (a.templates.length ≤ 64) && decide (a.targets ≤ 9) &&
    a.templates.all fun x => decide (x.1 ≤ 2) && decide (x.2.1 ≤ 2)

/-- The (S, T) that a decode target maps to (R217). -/
def Av1Struct.mapped (a : Av1Struct) (dt : Nat) : Option (Nat × Nat) :=
  match a.templates.filter fun x => decide (x.2.2.getD dt 0 ≠ 0) with
  | [] => none
  | l => some ((l.map (·.1)).foldl max 0, (l.map fun x => x.2.1).foldl max 0)

/-- The decode target of a subscription at (S, T) (R217). -/
def Av1Struct.target (a : Av1Struct) (s t : Nat) : Option Nat :=
  let l := List.range a.targets
  match l.find? fun d => decide (a.mapped d = some (s, t)) with
  | some d => some d
  | none =>
    l.foldl (fun b d =>
      match a.mapped d with
      | none => b
      | some (ms, mt) =>
        if s < ms ∨ t < mt then b
        else match b.bind a.mapped with
          | none => some d
          | some (bs, bt) => if bs < ms ∨ (bs = ms ∧ bt < mt) then some d else b) none

/-- Does a structure hold a template whose DTI for a decode target is 2 (R224). -/
def Av1Struct.hasSwitch (a : Av1Struct) (dt : Nat) : Bool := a.templates.any fun x => decide (x.2.2.getD dt 0 = 2)

/-- An unreadable packet: never a switching point. -/
def unreadable : LayerInfo := { start := false, key := false, unreadable := true, endOfFrame := false }

/-- The payload of an RTP packet, its padding left out. -/
def rtpPayload (p : Bytes) : Bytes :=
  let h := rtpHeaderLen p
  let pad := byteN p (p.length - 1)
  let n := p.length - h
  (p.drop h).take (if byteN p 0 / 32 % 2 = 1 ∧ pad ≤ n then n - pad else n)

/-- H.264 without a descriptor (R216). -/
def readH264 (b : Bytes) (fs eof : Bool) : LayerInfo :=
  let typ := byteN b 0 % 32
  if b.length < 1 ∨ [0, 25, 26, 27, 29, 30, 31].contains typ ∨ (typ = 24 ∧ b.length < 4) ∨ (typ = 28 ∧ b.length < 2) then
    unreadable
  else
    let h := if typ = 24 then byteN b 3 else byteN b 0
    let first := if typ = 28 then byteN b 1 % 32 else h % 32
    let t := if h / 32 % 4 ≠ 0 then 0 else 1
    { s := 0, t := t, start := fs, endOfFrame := eof
      key := fs && decide (first = 5 ∨ first = 7) && (decide (typ ≠ 28) || decide (128 ≤ byteN b 1))
      sw := if fs = true ∧ t = 0 then 1 else 0 }

/-- H.265 (R216). -/
def readH265 (b : Bytes) (fs eof : Bool) : LayerInfo :=
  let typ := byteN b 0 / 2 % 64
  if b.length < 2 ∨ typ = 50 ∨ (typ = 48 ∧ b.length < 6) ∨ (typ = 49 ∧ b.length < 3) then unreadable
  else
    let o := if typ = 48 then 4 else 0
    let first := if typ = 49 then byteN b 2 % 64 else byteN b o / 2 % 64
    let layer := byteN b o % 2 * 32 + byteN b (o + 1) / 8
    let tid := byteN b (o + 1) % 8
    if 2 < layer ∨ tid = 0 then unreadable
    else
      { s := layer, t := min (tid - 1) 2, start := fs, endOfFrame := eof
        key := fs && (decide (16 ≤ first ∧ first ≤ 21) || decide (32 ≤ first ∧ first ≤ 34)) &&
          (decide (typ ≠ 49) || decide (128 ≤ byteN b 2))
        sw := if fs = false then 0 else if first = 2 ∨ first = 3 then 2 else if first = 4 ∨ first = 5 then 3 else 0 }

/-- A packet read by its dependency descriptor (R216, R217), with its RTP timestamp: how it reads, the stream's record after
it, and whether a structure was not adopted. Custom DTIs hold for their own frame, whose packets share its number and
timestamp. -/
def readDd (b : Bytes) (ts : W32) (f : FwdStream) : LayerInfo × FwdStream × Bool :=
  match parseDd b ((f.av1.map (·.targets)).getD 0) with
  | none => (unreadable, f, false)
  | some d =>
    let good := d.new.any (·.adoptable)
    let refused := d.new.isSome && !good
    let f1 : FwdStream := if good then { f with av1 := d.new } else f
    match f1.av1 with
    | none => (unreadable, f1, refused)
    | some a =>
      match a.templates[(d.tid + 64 - a.offset) % 64]? with
      | none => (unreadable, f1, refused)
      | some (s, t, dtis) =>
        let f2 : FwdStream := match d.custom with
          | some c => { f1 with frameDti := nput f1.frameDti d.fnum (ts, c) }
          | none => f1
        let use := match nget f2.frameDti d.fnum with
          | some (at_, c) => if at_ = ts then c else dtis
          | none => dtis
        ({ s := s, t := t, start := d.sof, key := d.sof && good && decide (s = 0), dtis := some use, endOfFrame := d.eof },
          f2, refused)

/-- How a packet of a stream reads (R216). `dd` is its descriptor. -/
def readLayers (codec : Nat) (p : Bytes) (dd : Option Bytes) (f : FwdStream) : LayerInfo × FwdStream × Bool :=
  let ts : W32 := BitVec.ofNat 32 (beField p 4 4)
  let fs := decide (f.lastTs ≠ some ts)
  let eof := decide (128 ≤ byteN p 1)
  let r := match codec, dd with
    | 0, _ => (({ endOfFrame := eof } : LayerInfo), f, false)
    | 3, some b => readDd b ts f
    | 3, none => (unreadable, f, false)
    | 1, some b => readDd b ts f
    | 1, none => (readH264 (rtpPayload p) fs eof, f, false)
    | _, _ => (readH265 (rtpPayload p) fs eof, f, false)
  (r.1, { r.2.1 with lastTs := some ts }, r.2.2)

/-- How a packet of a video output reads: from its META field (R395, R396). -/
def readMeta (info : Nat) : LayerInfo :=
  { s := info % 4, t := info / 4 % 4, start := bitN info 4, key := bitN info 5, endOfFrame := bitN info 6
    sw := if bitN info 7 then 4 else 0 }

end Sys2Proof.Machine
end

