-- ==== Sys2Proof/Machine/Aes.lean ====
section
/-!
DEFINITION. The AES block cipher and its modes (R149, R150, R170): CBC, CTR, CFB-128, GCM with a 96-bit IV, GMAC.
-/

namespace Sys2Proof.Machine

/-- The AES substitution box. -/
def aesSbox : Bytes :=
  [0x63, 0x7C, 0x77, 0x7B, 0xF2, 0x6B, 0x6F, 0xC5, 0x30, 0x01, 0x67, 0x2B, 0xFE, 0xD7, 0xAB, 0x76] ++
  [0xCA, 0x82, 0xC9, 0x7D, 0xFA, 0x59, 0x47, 0xF0, 0xAD, 0xD4, 0xA2, 0xAF, 0x9C, 0xA4, 0x72, 0xC0] ++
  [0xB7, 0xFD, 0x93, 0x26, 0x36, 0x3F, 0xF7, 0xCC, 0x34, 0xA5, 0xE5, 0xF1, 0x71, 0xD8, 0x31, 0x15] ++
  [0x04, 0xC7, 0x23, 0xC3, 0x18, 0x96, 0x05, 0x9A, 0x07, 0x12, 0x80, 0xE2, 0xEB, 0x27, 0xB2, 0x75] ++
  [0x09, 0x83, 0x2C, 0x1A, 0x1B, 0x6E, 0x5A, 0xA0, 0x52, 0x3B, 0xD6, 0xB3, 0x29, 0xE3, 0x2F, 0x84] ++
  [0x53, 0xD1, 0x00, 0xED, 0x20, 0xFC, 0xB1, 0x5B, 0x6A, 0xCB, 0xBE, 0x39, 0x4A, 0x4C, 0x58, 0xCF] ++
  [0xD0, 0xEF, 0xAA, 0xFB, 0x43, 0x4D, 0x33, 0x85, 0x45, 0xF9, 0x02, 0x7F, 0x50, 0x3C, 0x9F, 0xA8] ++
  [0x51, 0xA3, 0x40, 0x8F, 0x92, 0x9D, 0x38, 0xF5, 0xBC, 0xB6, 0xDA, 0x21, 0x10, 0xFF, 0xF3, 0xD2] ++
  [0xCD, 0x0C, 0x13, 0xEC, 0x5F, 0x97, 0x44, 0x17, 0xC4, 0xA7, 0x7E, 0x3D, 0x64, 0x5D, 0x19, 0x73] ++
  [0x60, 0x81, 0x4F, 0xDC, 0x22, 0x2A, 0x90, 0x88, 0x46, 0xEE, 0xB8, 0x14, 0xDE, 0x5E, 0x0B, 0xDB] ++
  [0xE0, 0x32, 0x3A, 0x0A, 0x49, 0x06, 0x24, 0x5C, 0xC2, 0xD3, 0xAC, 0x62, 0x91, 0x95, 0xE4, 0x79] ++
  [0xE7, 0xC8, 0x37, 0x6D, 0x8D, 0xD5, 0x4E, 0xA9, 0x6C, 0x56, 0xF4, 0xEA, 0x65, 0x7A, 0xAE, 0x08] ++
  [0xBA, 0x78, 0x25, 0x2E, 0x1C, 0xA6, 0xB4, 0xC6, 0xE8, 0xDD, 0x74, 0x1F, 0x4B, 0xBD, 0x8B, 0x8A] ++
  [0x70, 0x3E, 0xB5, 0x66, 0x48, 0x03, 0xF6, 0x0E, 0x61, 0x35, 0x57, 0xB9, 0x86, 0xC1, 0x1D, 0x9E] ++
  [0xE1, 0xF8, 0x98, 0x11, 0x69, 0xD9, 0x8E, 0x94, 0x9B, 0x1E, 0x87, 0xE9, 0xCE, 0x55, 0x28, 0xDF] ++
  [0x8C, 0xA1, 0x89, 0x0D, 0xBF, 0xE6, 0x42, 0x68, 0x41, 0x99, 0x2D, 0x0F, 0xB0, 0x54, 0xBB, 0x16]

/-- The inverse of the AES substitution box. -/
def aesInvSbox : Bytes :=
  [0x52, 0x09, 0x6A, 0xD5, 0x30, 0x36, 0xA5, 0x38, 0xBF, 0x40, 0xA3, 0x9E, 0x81, 0xF3, 0xD7, 0xFB] ++
  [0x7C, 0xE3, 0x39, 0x82, 0x9B, 0x2F, 0xFF, 0x87, 0x34, 0x8E, 0x43, 0x44, 0xC4, 0xDE, 0xE9, 0xCB] ++
  [0x54, 0x7B, 0x94, 0x32, 0xA6, 0xC2, 0x23, 0x3D, 0xEE, 0x4C, 0x95, 0x0B, 0x42, 0xFA, 0xC3, 0x4E] ++
  [0x08, 0x2E, 0xA1, 0x66, 0x28, 0xD9, 0x24, 0xB2, 0x76, 0x5B, 0xA2, 0x49, 0x6D, 0x8B, 0xD1, 0x25] ++
  [0x72, 0xF8, 0xF6, 0x64, 0x86, 0x68, 0x98, 0x16, 0xD4, 0xA4, 0x5C, 0xCC, 0x5D, 0x65, 0xB6, 0x92] ++
  [0x6C, 0x70, 0x48, 0x50, 0xFD, 0xED, 0xB9, 0xDA, 0x5E, 0x15, 0x46, 0x57, 0xA7, 0x8D, 0x9D, 0x84] ++
  [0x90, 0xD8, 0xAB, 0x00, 0x8C, 0xBC, 0xD3, 0x0A, 0xF7, 0xE4, 0x58, 0x05, 0xB8, 0xB3, 0x45, 0x06] ++
  [0xD0, 0x2C, 0x1E, 0x8F, 0xCA, 0x3F, 0x0F, 0x02, 0xC1, 0xAF, 0xBD, 0x03, 0x01, 0x13, 0x8A, 0x6B] ++
  [0x3A, 0x91, 0x11, 0x41, 0x4F, 0x67, 0xDC, 0xEA, 0x97, 0xF2, 0xCF, 0xCE, 0xF0, 0xB4, 0xE6, 0x73] ++
  [0x96, 0xAC, 0x74, 0x22, 0xE7, 0xAD, 0x35, 0x85, 0xE2, 0xF9, 0x37, 0xE8, 0x1C, 0x75, 0xDF, 0x6E] ++
  [0x47, 0xF1, 0x1A, 0x71, 0x1D, 0x29, 0xC5, 0x89, 0x6F, 0xB7, 0x62, 0x0E, 0xAA, 0x18, 0xBE, 0x1B] ++
  [0xFC, 0x56, 0x3E, 0x4B, 0xC6, 0xD2, 0x79, 0x20, 0x9A, 0xDB, 0xC0, 0xFE, 0x78, 0xCD, 0x5A, 0xF4] ++
  [0x1F, 0xDD, 0xA8, 0x33, 0x88, 0x07, 0xC7, 0x31, 0xB1, 0x12, 0x10, 0x59, 0x27, 0x80, 0xEC, 0x5F] ++
  [0x60, 0x51, 0x7F, 0xA9, 0x19, 0xB5, 0x4A, 0x0D, 0x2D, 0xE5, 0x7A, 0x9F, 0x93, 0xC9, 0x9C, 0xEF] ++
  [0xA0, 0xE0, 0x3B, 0x4D, 0xAE, 0x2A, 0xF5, 0xB0, 0xC8, 0xEB, 0xBB, 0x3C, 0x83, 0x53, 0x99, 0x61] ++
  [0x17, 0x2B, 0x04, 0x7E, 0xBA, 0x77, 0xD6, 0x26, 0xE1, 0x69, 0x14, 0x63, 0x55, 0x21, 0x0C, 0x7D]

def subByte (x : Byte) : Byte := aesSbox.getD x.toNat 0
def invSubByte (x : Byte) : Byte := aesInvSbox.getD x.toNat 0

/-- Multiplication by x in AES's field. -/
def xtime (x : Byte) : Byte := if x.getLsbD 7 then (x <<< 1) ^^^ 0x1B else x <<< 1

/-- Multiplication in AES's field by a small constant. -/
def gmul8 : Nat → Byte → Byte → Byte
  | 0, _, _ => 0
  | n + 1, a, b => (if b.getLsbD 0 then a else 0) ^^^ gmul8 n (xtime a) (b >>> 1)

/-- The four bytes of a key-schedule word after rotation, substitution and the round constant. -/
def keyCore (rc : Byte) : Bytes → Bytes
  | [a, b, c, d] => [subByte b ^^^ rc, subByte c, subByte d, subByte a]
  | l => l

/-- Extend the AES key schedule (words newest first): `i` is the index of the next word, `nk` the key's words. -/
def keyExtend (nk : Nat) : Nat → Nat → Byte → List Bytes → List Bytes
  | 0, _, _, w => w
  | n + 1, i, rc, w =>
    let t := w.headD []
    let t' := if i % nk = 0 then keyCore rc t else if nk > 6 ∧ i % nk = 4 then t.map subByte else t
    keyExtend nk n (i + 1) (if i % nk = 0 then xtime rc else rc) (xorBytes (w.getD (nk - 1) []) t' :: w)

/-- The round keys of a 16- or 32-byte key, 16 bytes each, first round first. -/
def aesKeys (key : Bytes) : List Bytes :=
  let nk := key.length / 4
  let ws := keyExtend nk (4 * (nk + 7) - nk) nk 1 ((chunksB 4 nk key).reverse)
  chunksB 16 (nk + 7) (ws.reverse.flatten)
where
  chunksB (n : Nat) : Nat → Bytes → List Bytes
    | 0, _ => []
    | k + 1, l => l.take n :: chunksB n k (l.drop n)

/-- Byte `i` of ShiftRows' result comes from byte `i + 4·(i mod 4)` (columns of 4 bytes). -/
def shiftRows (s : Bytes) : Bytes := (List.range 16).map fun i => s.getD ((i + 4 * (i % 4)) % 16) 0
def invShiftRows (s : Bytes) : Bytes := (List.range 16).map fun i => s.getD ((i + 16 - 4 * (i % 4)) % 16) 0

/-- MixColumns with the first row of its circulant matrix. -/
def mixWith (m : Bytes) (s : Bytes) : Bytes :=
  (List.range 16).map fun i =>
    let c := 4 * (i / 4)
    let r := i % 4
    (List.range 4).foldl (fun a j => a ^^^ gmul8 8 (s.getD (c + j) 0) (m.getD ((j + 4 - r) % 4) 0)) 0

def mixColumns (s : Bytes) : Bytes := mixWith [2, 3, 1, 1] s
def invMixColumns (s : Bytes) : Bytes := mixWith [14, 11, 13, 9] s

/-- The rounds of AES encryption after the first key addition. -/
def aesRounds : List Bytes → Bytes → Bytes
  | [], s => s
  | [k], s => xorBytes (shiftRows (s.map subByte)) k
  | k :: ks, s => aesRounds ks (xorBytes (mixColumns (shiftRows (s.map subByte))) k)

/-- AES encryption of one 16-byte block with round keys. -/
def aesEncK (ks : List Bytes) (b : Bytes) : Bytes :=
  match ks with
  | [] => b
  | k :: r => aesRounds r (xorBytes b k)

/-- The rounds of AES decryption, round keys last first. -/
def aesInvRounds : List Bytes → Bytes → Bytes
  | [], s => s
  | [k], s => xorBytes ((invShiftRows s).map invSubByte) k
  | k :: ks, s => aesInvRounds ks (invMixColumns (xorBytes ((invShiftRows s).map invSubByte) k))

/-- AES decryption of one 16-byte block with round keys. -/
def aesDecK (ks : List Bytes) (b : Bytes) : Bytes :=
  match ks.reverse with
  | [] => b
  | k :: r => aesInvRounds r (xorBytes b k)

/-- AES encryption of one block. -/
def aesEnc (key b : Bytes) : Bytes := aesEncK (aesKeys key) b

/-- Chained CBC encryption of `n` blocks. -/
def cbcEnc (ks : List Bytes) : Nat → Bytes → Bytes → Bytes
  | 0, _, _ => []
  | n + 1, iv, p =>
    let c := aesEncK ks (xorBytes (p.take 16) iv)
    c ++ cbcEnc ks n c (p.drop 16)

/-- CBC decryption of `n` blocks. -/
def cbcDec (ks : List Bytes) : Nat → Bytes → Bytes → Bytes
  | 0, _, _ => []
  | n + 1, iv, c => xorBytes (aesDecK ks (c.take 16)) iv ++ cbcDec ks n (c.take 16) (c.drop 16)

/-- CFB-128 encryption, a short last block taking a prefix of the keystream; `n` bounds the blocks. -/
def cfbEnc (ks : List Bytes) : Nat → Bytes → Bytes → Bytes
  | 0, _, _ => []
  | n + 1, iv, p =>
    let c := xorBytes (p.take 16) (aesEncK ks iv)
    c ++ cfbEnc ks n c (p.drop 16)

/-- CFB-128 decryption. -/
def cfbDec (ks : List Bytes) : Nat → Bytes → Bytes → Bytes
  | 0, _, _ => []
  | n + 1, iv, c => xorBytes (c.take 16) (aesEncK ks iv) ++ cfbDec ks n (c.take 16) (c.drop 16)

/-- The keystream of counter mode: `n` blocks, the last `w` bytes of the counter block counting big-endian. -/
def ctrStream (ks : List Bytes) (w : Nat) : Nat → Bytes → Bytes
  | 0, _ => []
  | n + 1, iv =>
    aesEncK ks iv ++
      ctrStream ks w n (iv.take (16 - w) ++ beBytes w ((beNat (iv.drop (16 - w)) + 1) % 256 ^ w))

/-- Counter mode over a string, the whole 16-byte block counting. -/
def ctrXor (ks : List Bytes) (w : Nat) (iv p : Bytes) : Bytes :=
  xorBytes p (ctrStream ks w ((p.length + 15) / 16) iv)

/-- One step of multiplication in GHASH's field (numbers of 128 bits, bit 127 the first). -/
def ghashMul : Nat → Nat → Nat → Nat → Nat
  | 0, z, _, _ => z
  | n + 1, z, v, x =>
    ghashMul n (if bitN x n then z ^^^ v else z)
      (if bitN v 0 then (v / 2) ^^^ 0xE1000000000000000000000000000000 else v / 2) x

/-- GHASH over blocks of 16 bytes; `n` bounds the blocks. -/
def ghash (h : Nat) : Nat → Nat → Bytes → Nat
  | 0, y, _ => y
  | n + 1, y, b =>
    match b with
    | [] => y
    | _ => ghash h n (ghashMul 128 0 h (y ^^^ beNat (fitTo 16 (b.take 16)))) (b.drop 16)

/-- The full GCM tag over the additional data and the ciphertext for a 96-bit IV. -/
def gcmTag (ks : List Bytes) (iv aad c : Bytes) : Bytes :=
  let h := beNat (aesEncK ks (zeros 16))
  let d := padTo 16 aad ++ padTo 16 c ++ beBytes 8 (8 * aad.length) ++ beBytes 8 (8 * c.length)
  xorBytes (beBytes 16 (ghash h (d.length / 16) 0 d)) (aesEncK ks (iv ++ [0, 0, 0, 1]))

/-- GCM's cipher: counter mode from block 2 of the 96-bit IV. -/
def gcmCrypt (ks : List Bytes) (iv p : Bytes) : Bytes := ctrXor ks 4 (iv ++ [0, 0, 0, 2]) p

end Sys2Proof.Machine
end

