-- ==== Sys2Proof/Machine/Registrar.lean ====
section
/-!
DEFINITION. The Registrar (chapter Parsing, the Catalogue and Policing, R121 to R147): JCP filter, Catalogue, default
action, punting, policing, the check of the Terold header (R426), storing a packet, and the writes of its registers.
-/

namespace Sys2Proof.Machine

/-! ### The Catalogue (R130 to R137) -/

/-- The key of a stream (R133): addresses held as 16 bytes, ports, DISC, KEY_KIND, FAMILY. -/
structure CatKey where
  v6 : Bool
  src : Nat
  dst : Nat
  srcPort : Nat
  dstPort : Nat
  kind : Nat
  disc : Nat
  deriving DecidableEq, Repr

/-- A stream's key: its leg's addresses and its own DISC. -/
def State.streamKey (s : State) (st : Nat) : CatKey :=
  let l := s.streamLeg st
  let kind := s.attr tyStream st 0x101 0
  ⟨s.legV6 l, s.attr tyLeg l 0x102 0, s.attr tyLeg l 0x101 0, s.attr tyLeg l 0x104 0, s.attr tyLeg l 0x103 0, kind,
    if kind = 2 then 0 else s.attr tyStream st 0x102 0⟩

/-- The bytes of a key; an IPv4 address is held as ::ffff:a.b.c.d, KEY_KIND and FAMILY share the last byte (DEDUCED,
log 26). -/
def CatKey.bytes (k : CatKey) : Bytes :=
  let addr (a : Nat) : Bytes := beBytes 16 (if k.v6 then a else 281470681743360 + a)
  addr k.src ++ addr k.dst ++ beBytes 2 k.srcPort ++ beBytes 2 k.dstPort ++ beBytes 4 k.disc ++ [byteOf (k.kind * 2 + b2n k.v6)]

/-- The two buckets of a key (R133). -/
def State.catBucket (s : State) (second : Bool) (k : CatKey) : Nat :=
  fld (~~~ (k.bytes.foldl (crcByte 0x82F63B78) (if second then s.rgs.seed2 else s.rgs.seed1))) 0 14

/-- The eight slots of a stream: table 1 at bucket · 4, table 2 from 65,536 on. -/
def State.catSlots (s : State) (st : Nat) : List Nat :=
  let k := s.streamKey st
  (List.range 4).map (· + 4 * s.catBucket false k) ++ (List.range 4).map (· + (65536 + 4 * s.catBucket true k))

/-- Make room in one of some slots (R135): a free one, or the slot of a resident, any of them (free value), that moves to its
other bucket, where room is made likewise; `fuel` bounds the moves. A move writes the entry at its new place before it clears
the old one, so the chain moves from its free end on: one that finds no free slot in time has moved nothing (DEDUCED,
log 97). -/
def State.makeRoom : Nat → State → List Nat → Option (Nat × State)
  | n, s, slots =>
    match slots.find? fun k => (nget s.rgs.place k).isNone with
    | some k => some (k, s)
    | none =>
      match n with
      | 0 => none
      | m + 1 =>
        let d := s.draw 16
        let k := slots.getD (d.1 % slots.length) 0
        match nget s.rgs.place k with
        | none => none
        | some v =>
          let other := (d.2.catSlots v).filter fun j => decide (j < 65536 ↔ 65536 ≤ k)
          match State.makeRoom m d.2 other with
          | none => none
          | some (j, s1) => some (k, { s1 with rgs := { s1.rgs with place := ndel (nput s1.rgs.place j v) k } })

/-- Insert a stream's entry (R135): into a free slot of its buckets, after at most 128 moves, else into the CAM; none when
the CAM is full too. -/
def State.catInsert (s : State) (st : Nat) : Option State :=
  match State.makeRoom 128 s (s.catSlots st) with
  | some (k, s1) => some { s1 with rgs := { s1.rgs with place := nput s1.rgs.place k st } }
  | none =>
    if s.rgs.cam.length < 2048 then some { s with rgs := { s.rgs with cam := s.rgs.cam ++ [st] } } else none

/-- Remove a stream's entry. -/
def State.catRemove (s : State) (st : Nat) : State :=
  { s with rgs := { s.rgs with
    place := s.rgs.place.filter (fun e => e.2 ≠ st), cam := s.rgs.cam.filter (· ≠ st)
    ue := s.rgs.ue.filter (· ≠ st), fenced := s.rgs.fenced.filter (· ≠ st), seen := ndel s.rgs.seen st } }

/-- The streams with an entry. -/
def State.catEntries (s : State) : List Nat := s.rgs.place.map (·.2) ++ s.rgs.cam

/-- Probe a key: at most one entry matches, because keys are unique. -/
def State.probe (s : State) (k : CatKey) : Option Nat := s.catEntries.find? fun st => decide (s.streamKey st = k)

/-- The key of a packet under a kind. -/
def Layer.key (l : Layer) (kind disc : Nat) : CatKey := ⟨l.v6, l.src, l.dst, l.srcPort, l.dstPort, kind, disc⟩

/-- The stream of a media packet (R134): by SSRC, by 5-tuple, by MID for RTP. -/
def State.findStream (s : State) (l : Layer) (rtcp : Bool) (ssrc : Nat) (elems : List (Nat × Bytes)) : Option Nat :=
  match s.probe (l.key 0 ssrc) with
  | some st => some st
  | none =>
    match s.probe (l.key 2 0) with
    | none => none
    | some st =>
      match (if rtcp then none else findElement elems (s.attr tyStream st 0x107 0)) with
      | some mid =>
        if 1 ≤ mid.length ∧ mid.length ≤ 4 then (s.probe (l.key 1 (beNat (fitTo 4 mid)))).or (some st) else some st
      | none => some st

/-! ### Token buckets (R127, R140) -/

/-- A bucket credited up to now at a rate in thousands per second, capped at a burst. -/
def Bucket.credit (b : Bucket) (now rate burst : Nat) : Bucket :=
  ⟨min (burst * 1000000) (b.level + (now - b.at_) * rate), now⟩

/-- Take one packet from a bucket. -/
def Bucket.take (b : Bucket) : Option Bucket :=
  if 1000000 ≤ b.level then some { b with level := b.level - 1000000 } else none

/-- A write of RGS_JCP_RATE (R127): the content is kept, cut down to a smaller burst. -/
def State.writeJcpRate (s : State) (v : W32) : Res State := do
  refuseIf (decide (fld v 0 16 = 0) || decide (fld v 16 12 = 0)) stBadValue
  let b := s.rgs.jcp.credit s.t (s.rfld .rgsJcpRate 0 0 0 16) (s.rfld .rgsJcpRate 0 0 16 12)
  let s1 := s.storeRw .rgsJcpRate 0 0 v
  .ok { s1 with rgs := { s1.rgs with jcp := ⟨min b.level (fld v 16 12 * 1000000), s.t⟩ } }

/-- A port's punt bucket credited up to now. -/
def State.puntNow (s : State) (p : Nat) : Bucket :=
  (ngetD {} s.rgs.punt p).credit s.t (s.rfld .rgsPuntRate 0 p 0 16) (s.rfld .rgsPuntRate 0 p 16 12)

/-- A write of RGS_PUNT_RATE (R140). -/
def State.writePuntRate (s : State) (p : Nat) (v : W32) : Res State := do
  refuseIf (decide (fld v 16 12 = 0)) stBadValue
  let b := s.puntNow p
  let s1 := s.storeRw .rgsPuntRate 0 p v
  .ok { s1 with rgs := { s1.rgs with punt := nput s1.rgs.punt p ⟨min b.level (fld v 16 12 * 1000000), s.t⟩ } }

/-- At the end of LOAD every bucket is full (R127, R140). -/
def State.fillBuckets (s : State) : State :=
  { s with rgs := { s.rgs with
    jcp := ⟨s.rfld .rgsJcpRate 0 0 16 12 * 1000000, s.t⟩
    punt := (List.range 96).map fun p => (p, ⟨s.rfld .rgsPuntRate 0 p 16 12 * 1000000, s.t⟩) } }

/-! ### The hash of R138 -/

/-- Toeplitz over input bits, most significant first; key bits past the key's end are 0 (DEDUCED, log 27). -/
def toeplitz (key : Bytes) (input : Bytes) : Nat :=
  let k := beNat key * 2 ^ 64
  let bits := 8 * key.length + 64
  (List.range (8 * input.length)).foldl (fun a i =>
    if (byteN input (i / 8)) / 2 ^ (7 - i % 8) % 2 = 1 then a ^^^ (k / 2 ^ (bits - 32 - i) % 4294967296) else a) 0

/-- The fields of a packet that enter the hash, those that it lacks as zeros. The addresses of a packet with no IP header enter
as 4 bytes each (DESIGN CHOICE, log 95). CRC-32 then runs over them bit-reflected, as Ethernet's does (PRESUMED, log 95). -/
def hashInput (cfg : W32) (l : Option Layer) (ssrc : Option Nat) : Bytes :=
  let on (b : Nat) (v : Bytes) : Bytes := if fld cfg b 1 = 1 then v else []
  let w := if l.elim false (·.v6) then 16 else 4
  on 2 (beBytes w (l.elim 0 (·.src))) ++ on 3 (beBytes w (l.elim 0 (·.dst))) ++ on 4 (beBytes 2 (l.elim 0 (·.srcPort))) ++
    on 5 (beBytes 2 (l.elim 0 (·.dstPort))) ++ on 6 [byteOf (l.elim 0 (·.proto))] ++ on 7 (beBytes 4 (ssrc.getD 0))

/-- The Curator ring of a punted packet (R138). -/
def State.puntRing (s : State) (p : Nat) (inner outer : Option Layer) (ssrc : Option Nat) : Nat :=
  let cfg := s.rget .rgsPortHash 0 p
  let b := hashInput cfg (if fld cfg 1 1 = 1 then inner else outer) ssrc
  let key := (List.range 10).flatMap fun i => beBytes 4 (s.rget .rgsToeplitzKey 0 i).toNat
  let h := if fld cfg 0 1 = 1 then toeplitz key b else (crc32 b).toNat
  s.rfld .rgsInd 0 (p * 512 + h % 512) 0 4

/-- Punt a packet to the Curator (R140). -/
def State.punt (s : State) (p : Nat) (frame : Bytes) (inner outer : Option Layer) (ssrc : Option Nat) : State :=
  let b := s.puntNow p
  match (if s.rfld .rgsPuntRate 0 p 0 16 = 0 then none else b.take) with
  | none => { s.drop 0x23 with rgs := { s.rgs with punt := nput s.rgs.punt p b } }
  | some b' =>
    let s1 := s.cinc .rgsPortCnt 0 (8 * p + 5)
    { s1 with
      rgs := { s1.rgs with punt := nput s1.rgs.punt p b' }
      cur := { s1.cur with rings := s1.cur.rings ++ [(s.puntRing p inner outer ssrc, frame)] } }

/-! ### Storing a packet (R186, R196) -/

/-- A datagram of a peer leg that passes the Vault refreshes its device's liveness (R431). -/
def State.peerSeen (s : State) (l : Nat) : State :=
  match s.peer? l with
  | some d => { s with cas := { s.cas with peers := nput s.cas.peers d { ngetD {} s.cas.peers d with refreshed := s.t } } }
  | none => s

/-- The receive window of a peer leg takes a SEQ (R427): none for a SEQ already marked. -/
def State.tbhCommit (s : State) (l : Nat) (seq : W16) : Option State :=
  let w := ngetD {} s.cas.wins l
  let put (s : State) (w : TbhWin) : State := { s with cas := { s.cas with wins := nputD {} s.cas.wins l w } }
  let d := (seq - w.high).toNat
  let back := (w.high - seq).toNat
  if 1 ≤ d ∧ d < 32768 then
    let gone := (List.range (min d 1024)).foldl (fun n i => n + b2n (!w.marks.getLsbD (1023 - i))) 0
    some (put (s.cadd .curCasCnt 0 4 (gone + (d - 1024))) ⟨seq, (w.marks <<< d) ||| 1⟩)
  else if 1024 ≤ back then some (s.cinc .curCasCnt 0 5)
  else if w.marks.getLsbD back then none
  else some (put s { w with marks := w.marks ||| ((1 : BitVec 1024) <<< back) })

/-- A packet passes to the Cloakroom and its stream's internal queue; an RTCP compound goes to the Forwarder (R232), a
packet whose enqueue is refused is a failed item of its stream (R196). MEDIA is the one its probe found (R136). -/
def State.storeIn (s : State) (x : Staged) : State :=
  match s.alloc 1 (x.frame.length + 4) x.yellow with
  | (.error c, s1) => if c = 4 then s1.failHw 1 (.stream x.stream) else s1
  | (.ok h, s1) =>
    let s2 := s1.gwrite (s1.bufAddr h) x.frame
    if x.rtcp then { s2 with fwd := { s2.fwd with rtcp := s2.fwd.rtcp ++ [⟨x.stream, x.leg, h, x.off, x.len⟩] } }
    else
      let level := match x.level with
        | some v => v
        | none => 256
      let d : Desc := {
        handle := h, offset := x.off, len := x.len, yellow := x.yellow, conf := s2.legConf x.leg
        info := if x.media = 0 then level else 0, stamp := x.stamp, record := x.record
        tbh := x.tbh.map fun h => (byteN h 0 / 4 % 16, decide (byteN h 1 / 2 % 2 = 1), beField h 12 4) }
      let q := streamQueue x.stream
      match s2.enqueueFault q 1 d with
      | none | some 0x11 => s2.enqueueFor (.hw 1) q d
      | some _ => (s2.enqueueFor (.hw 1) q d).decRef 1 h (.stream x.stream)

/-- A packet with a pass verdict (R129, R163): a Terold datagram first goes through the receive window, and a HELLO to the
Curator (R427, R429). -/
def State.store (s : State) (x : Staged) : State :=
  match x.tbh with
  | none => s.storeIn x
  | some h =>
    let s0 := s.peerSeen x.leg
    match s0.tbhCommit x.leg (BitVec.ofNat 16 (beField h 8 2)) with
    | none => s0.cinc .curCasCnt 0 2
    | some s1 =>
      let s2 := s1.cinc .curCasCnt 0 0
      if byteN h 0 / 4 % 16 = 1 then
        let p := slice x.frame x.off x.len
        { s2 with cas := { s2.cas with
          hellos := s2.cas.hellos ++ [(x.leg, p.drop (rtpHeaderLen p), decide (byteN h 1 % 2 = 1))] } }
      else s2.storeIn x

/-! ### Policing (R141 to R144) -/

/-- The settings that a leg's attributes give its policer. -/
def State.polAttrs (s : State) (l : Nat) : PolSet :=
  ⟨s.attr tyLeg l 0x110 0, s.attr tyLeg l 0x111 0, s.attr tyLeg l 0x112 0, s.attr tyLeg l 0x113 0, s.attr tyLeg l 0x114 0⟩

/-- A policer whose buckets are full. -/
def Policer.full (set : PolSet) (now : Nat) : Policer := ⟨set, set.cbs * 1024, 0, set.ebs * 1024, 0, now⟩

/-- Credit the interval since the last stamp (R142). A rate of k kb/s gives 2·k/15,625 of 1/1,024 byte per ns. -/
def Policer.credit (p : Policer) (stamp : Nat) : Policer :=
  let dt := stamp - p.stamp
  let c := p.set.cir * dt * 2 + p.cRem
  let cc := p.c + c / 15625
  let q : Policer := { p with c := min cc (p.set.cbs * 1024), cRem := c % 15625, stamp := max p.stamp stamp }
  if p.set.mode = 1 then { q with e := min (p.set.ebs * 1024) (p.e + (cc - p.set.cbs * 1024)) }
  else
    let e := p.set.eir * dt * 2 + p.eRem
    { q with e := min (p.set.ebs * 1024) (p.e + e / 15625), eRem := e % 15625 }

/-- New settings are installed at a packet, the buckets cut down to smaller bursts (R143). -/
def Policer.install (p : Policer) (set : PolSet) : Policer :=
  { p with set := set, c := min p.c (set.cbs * 1024), e := min p.e (set.ebs * 1024) }

/-- Colour a packet of `n` bytes with pre-colour `pre` (RFC 2697, RFC 2698): 0 green, 1 yellow, 2 red. -/
def Policer.colour (p : Policer) (n pre : Nat) : Nat × Policer :=
  let b := n * 1024
  match p.set.mode with
  | 1 =>
    if pre = 0 ∧ b ≤ p.c then (0, { p with c := p.c - b })
    else if pre ≤ 1 ∧ b ≤ p.e then (1, { p with e := p.e - b })
    else (2, p)
  | 2 =>
    if pre = 2 ∨ p.e < b then (2, p)
    else if pre = 1 ∨ p.c < b then (1, { p with e := p.e - b })
    else (0, { p with c := p.c - b, e := p.e - b })
  | _ => (0, p)

/-- Meter a packet of a leg: its colour and the policer afterwards. Under COLOUR_AWARE a packet with no IP header has
pre-colour green (DESIGN CHOICE, log 95). -/
def State.police (s : State) (l p : Nat) (dscp : Option Nat) (n stamp : Nat) : Nat × State :=
  let set := s.polAttrs l
  let x := ((ngetD (Policer.full set s.t) s.rgs.pol l).credit stamp).install set
  let pre := if s.attr tyLeg l 0x115 0 = 1 then
      match dscp with
      | some d => s.rfld .rgsDscpColour 0 (4 * p + d / 16) (2 * (d % 16)) 2
      | none => 0
    else 0
  let r := x.colour n pre
  (r.1, { s with rgs := { s.rgs with pol := nput s.rgs.pol l r.2 } })

/-! ### A packet of a stream -/

/-- What the Registrar knows of a packet: port, frame, place of the media packet, stamp, DSCP, whether RTCP, its
extension elements, its Terold header. -/
structure PktIn where
  port : Nat
  frame : Bytes
  off : Nat
  len : Nat
  stamp : Nat
  dscp : Option Nat
  rtcp : Bool
  elems : List (Nat × Bytes)
  tbh : Option Bytes
  deriving DecidableEq, Repr

/-- A packet that matched a stream, or that FORWARD sends to one (R128, R129, R141, R144, R163). -/
def State.matched (s : State) (st : Nat) (k : PktIn) : State :=
  let l := s.streamLeg st
  let n := k.frame.length + 4
  let s1 := (s.sinc tyStream st 0x100).sadd tyStream st 0x101 n
  let s2 : State := { s1 with rgs := { s1.rgs with seen := nput s1.rgs.seen st (s.ms % 4294967296) } }
  if s2.rgs.ue.contains st then (s2.drop 0x28).cellError 1 2 0 2 st
  else if s2.isolated l then s2.drop 0x27
  else if s2.rgs.fenced.contains st then s2.drop 0x26
  else
    let r := s2.police l k.port k.dscp n k.stamp
    let s3 := (r.2.sinc tyLeg l (0x100 + 2 * r.1)).sadd tyLeg l (0x101 + 2 * r.1) n
    if r.1 = 2 ∧ s3.attr tyLeg l 0x116 0 = 0 then s3.drop 0x25
    else
      let level := match findElement k.elems (s3.attr tyStream st 0x105 0) with
        | some [b] => some b.toNat
        | _ => none
      let audio := decide (s3.media st = 0) && !k.rtcp
      let s4 := if audio && level.isNone then s3.sinc tyStream st 0x102 else s3
      let x : Staged := {
        stream := st, leg := l, frame := k.frame, off := k.off, len := k.len, rtcp := k.rtcp, stamp := k.stamp
        yellow := decide (r.1 ≠ 0), level := if audio then level else none
        replay := s.replay st, media := s.media st
        record := (findElement k.elems (s3.attr tyStream st 0x106 0)).map (·.take 8), tbh := k.tbh }
      if s4.srtp st then { s4 with rgs := { s4.rgs with staged := s4.rgs.staged ++ [x] } } else s4.store x

/-! ### The default action (R139) -/

/-- A port's default action for a packet, with the drop reason of its cause. -/
def State.defaultAction (s : State) (reason : Nat) (k : PktIn) (inner outer : Option Layer) (ssrc : Option Nat) : State :=
  let v := s.rget .rgsPortDefault 0 k.port
  match fld v 0 2 with
  | 0 => s.drop reason
  | 1 => s.punt k.port k.frame inner outer ssrc
  | 2 =>
    let l := fld v 2 15
    let s1 := s.cinc .rgsPortCnt 0 (8 * k.port + 6)
    match s1.alloc 1 (k.frame.length + 4) false with
    | (.error _, s2) => s2
    | (.ok h, s2) =>
      let s3 := s2.gwrite (s2.bufAddr h) k.frame
      s3.admitCopy l 3 1 { handle := h, len := k.frame.length, info := 1, conf := s3.legConf l, stamp := k.stamp }
  | _ => (s.cinc .rgsPortCnt 0 (8 * k.port + 7)).matched (fld v 2 17) k

/-! ### The Terold header (R426) -/

/-- Does an inner stream of a peer leg fit a TYPE of R425 (R423). -/
def State.tbhFits (s : State) (type st : Nat) : Bool :=
  let ssrc := s.attr tyStream st 0x102 0
  decide (s.attr tyStream st 0x101 0 = 0) &&
    match type with
    | 2 => decide (s.media st = 1)
    | 3 => decide (s.media st = 0) && decide (0x8000 ≤ ssrc ∧ ssrc < 0x8040)
    | 4 => decide (s.media st = 0) && decide (0x9000 ≤ ssrc ∧ ssrc < 0x9009)
    | _ => false

/-- A datagram on a peer leg's link stream: the inner stream and packet, or none where it is dropped with TBH_PEER. -/
def State.tbhCheck (s : State) (st : Nat) (layer : Layer) (depth : Nat) (k : PktIn) : Option (Nat × PktIn) :=
  let l := s.streamLeg st
  let p := slice k.frame k.off k.len
  let b0 := byteN p 0
  let type := b0 / 4 % 16
  let flags := byteN p 1
  let inner := p.drop 16
  let dev := beField p 2 2 / 64
  let peerUp := decide (s.rfld .curCasPeer 0 dev 0 3 = 2)
  if k.len < 28 ∨ beField p 10 2 + 16 ≠ k.len then none
  else if b0 / 64 ≠ 2 ∨ b0 % 4 ≠ 0 ∨ type = 0 ∨ 4 < type ∨ 4 ≤ flags ∨ (flags % 2 = 1 ∧ type ≠ 1) ∨
      (flags / 2 = 1 ∧ type ≠ 2) ∨ beField p 2 2 % 64 ≠ 0 ∨ (type ≠ 3 ∧ beField p 12 4 ≠ 0) then none
  else if s.peer? l ≠ some dev ∨ beField p 4 4 ≠ s.attr tyConf (s.legConf l) 0xA00 0 then none
  else if peerUp = false ∧ type ≠ 1 then none
  else
    let ssrc := beField inner 8 4
    let k' : PktIn := { k with
      off := k.off + 16, len := k.len - 16, rtcp := false, tbh := some (p.take 16)
      elems := rtpElements inner (depth - (k.off + 16)) }
    match sortUdp depth (k.off + 16) inner, s.probe (layer.key 0 ssrc) with
    | .rtp, none => if type = 1 ∧ ssrc = 0xFFFF then some (st, k') else none
    | .rtp, some st' => if s.tbhFits type st' then some (st', k') else none
    | _, _ => none

/-! ### The JCP filter (R71, R127) -/

/-- Is an address a management address of the CHIP section, and a port the JCP port. -/
def State.jcpAddressed (s : State) (v6 : Bool) (dst dport : Nat) : Bool :=
  decide (dport = s.cur.jcpPort) && (if v6 then s.cur.chip.mgmt6.contains dst else s.cur.chip.mgmt4.contains dst)

/-- A JCP datagram passes the shared bucket to the Curator. -/
def State.jcpIn (s : State) (d : Datagram) : State :=
  let b := s.rgs.jcp.credit s.t (s.rfld .rgsJcpRate 0 0 0 16) (s.rfld .rgsJcpRate 0 0 16 12)
  match b.take with
  | none => { s.drop 0x24 with rgs := { s.rgs with jcp := b } }
  | some b' => { s with rgs := { s.rgs with jcp := b' }, cur := { s.cur with rx := s.cur.rx ++ [d] } }

/-! ### A frame (R122 to R126) -/

/-- The parser settings of a port. -/
def State.parseCfg (s : State) (p : Nat) : ParseCfg :=
  let v := s.rget .rgsPortParse 0 p
  ⟨16 * fld v 0 5, decide (fld v 5 1 = 1), decide (fld v 6 1 = 1), decide (fld v 7 1 = 1), s.rfld .rgsTunnelPort 0 0 0 16,
    s.rfld .rgsTunnelPort 0 0 16 16⟩

/-- A media packet: probed, checked for a Terold header, handled (R126 rows 4 and 5). -/
def State.mediaIn (s : State) (k : PktIn) (inner outer : Layer) (depth : Nat) : State :=
  let p := slice k.frame k.off k.len
  let ssrc := beField p (if k.rtcp then 4 else 8) 4
  match s.findStream inner k.rtcp ssrc k.elems with
  | none => (s.cinc .rgsPortCnt 0 (8 * k.port + 2)).defaultAction 0x20 k (some inner) (some outer) (some ssrc)
  | some st =>
    let s1 := s.cinc .rgsPortCnt 0 (8 * k.port + 1)
    if (s1.peer? (s1.streamLeg st)).isSome ∧ s1.attr tyStream st 0x101 0 = 2 ∧ k.rtcp = false then
      match s1.tbhCheck st inner depth k with
      | some (st', k') => s1.matched st' k'
      | none => s1.cinc .curCasCnt 0 3
    else s1.matched st k

/-- Sort the innermost UDP datagram of a frame (R126). -/
def State.datagramIn (s : State) (k : PktIn) (inner outer : Layer) (depth : Nat) : State :=
  let p := slice k.frame k.off k.len
  let ssrcIn : Option Nat := if k.len ≥ 12 ∧ 128 ≤ byteN p 0 ∧ byteN p 0 ≤ 191 then some (beField p 8 4) else none
  if s.jcpAddressed inner.v6 inner.dst inner.dstPort then
    s.jcpIn ⟨k.port, slice k.frame 6 6, inner.v6, inner.src, inner.dst, inner.srcPort, inner.dstPort, p⟩
  else
    match sortUdp depth k.off p with
    | .fail c => (s.drop c).cinc .rgsPortCnt 0 (8 * k.port + 4)
    | .stop => (s.cinc .rgsPortCnt 0 (8 * k.port + 3)).defaultAction 0x21 k (some inner) (some outer)
        (if k.off + 12 ≤ depth then ssrcIn else none)
    | .stun | .dtls => s.punt k.port k.frame (some inner) (some outer) none
    | .other => s.defaultAction 0x22 k (some inner) (some outer) ssrcIn
    | .rtcp => s.mediaIn { k with rtcp := true } inner outer depth
    | .rtp => s.mediaIn { k with elems := rtpElements p (depth - k.off) } inner outer depth

/-- A frame through the parser. -/
def State.frameIn (s : State) (p : Nat) (f : RxFrame) : State :=
  let b := f.bytes.take (f.bytes.length - 4)
  let cfg := s.parseCfg p
  let s1 := s.cinc .rgsPortCnt 0 (8 * p)
  let k (off len : Nat) (dscp : Option Nat) : PktIn := ⟨p, b, off, len, f.stamp, dscp, false, [], none⟩
  match parseFrame cfg b with
  | .fail c jcp =>
    let s2 := (s1.drop c).cinc .rgsPortCnt 0 (8 * p + 4)
    match jcp with
    | some (v6, dst, dport) => if c = 0x15 ∧ s2.jcpAddressed v6 dst dport = true then s2.rcount .curJcpDrop 0 6 0 32 1 else s2
    | none => s2
  | .stop inner outer =>
    (s1.cinc .rgsPortCnt 0 (8 * p + 3)).defaultAction 0x21 (k 0 b.length (inner.map (·.dscp))) inner outer none
  | .nonMedia inner outer => s1.defaultAction 0x22 (k 0 b.length (inner.map (·.dscp))) inner outer none
  | .udp inner outer off len => s1.datagramIn (k off len (some inner.dscp)) inner outer cfg.depth

/-- Cells of 256 bytes that staged packets hold (R32). -/
def State.stagingCells (s : State) : Nat := (s.rgs.staged.map fun x => cdiv (x.frame.length + 4) 256).sum

/-! ### Register writes -/

/-- A write of RGS_PORT_PARSE. -/
def State.writePortParse (s : State) (p : Nat) (v : W32) : Res State := do
  refuseIf (decide (fld v 0 5 < 4 ∨ 16 < fld v 0 5)) stBadValue
  .ok (s.storeRw .rgsPortParse 0 p v)

/-- A write of RGS_PORT_DEFAULT (R139). -/
def State.writePortDefault (s : State) (p : Nat) (v : W32) : Res State := do
  refuseIf (decide (fld v 0 2 = 3) && !s.objExists tyStream (fld v 2 17)) stBadValue
  refuseIf (decide (fld v 0 2 = 2) && !(s.objExists tyLeg (fld v 2 15) && s.legMirror (fld v 2 15))) stBadValue
  .ok (s.storeRw .rgsPortDefault 0 p v)

/-- A write of RGS_DSCP_COLOUR: colour 3 is refused. -/
def State.writeDscpColour (s : State) (i : Nat) (v : W32) : Res State := do
  refuseIf ((List.range 16).any fun j => decide (fld v (2 * j) 2 = 3)) stBadValue
  .ok (s.storeRw .rgsDscpColour 0 i v)

/-- A write of RGS_CNT_CLR (R147). -/
def State.writeRgsCntClr (s : State) (v : W32) : Res State := do
  refuseIf (decide (fld v 8 1 = 1) && decide (95 < fld v 0 7)) stBadValue
  let s1 := if fld v 7 1 = 1 then s.cclear .rgsDropCnt 0 0 64 else s
  .ok (if fld v 8 1 = 1 then s1.cclear .rgsPortCnt 0 (8 * fld v 0 7) 8 else s1)

/-! ### The meanings -/

/-- The Registrar takes the next frame of a port (R122). `ue` names the Catalogue entries whose read meets a double-bit
error (R137). While the staging memory is full the FIFO holds. -/
def execRegistrarParse (port : Fin 96) (ue : List Nat) (s : State) : Out :=
  match (s.port port).fifo with
  | [] => .next s
  | f :: rest =>
    if s.blkUp 1 2 = false ∨ 32768 < s.stagingCells + cdiv f.bytes.length 256 then .next s
    else
      let s1 := s.setPort port { s.port port with fifo := rest }
      let s2 : State := { s1 with rgs := { s1.rgs with
        ue := s1.rgs.ue ++ (ue.filter fun st => s1.objExists tyStream st && !s1.rgs.ue.contains st) } }
      .next (s2.frameIn port f)

/-- A Catalogue entry with a double-bit error is rewritten from the Curator's copy (R137). -/
def execCatalogueRewrite (stream : Fin 131072) (s : State) : Out :=
  .next { s with rgs := { s.rgs with ue := s.rgs.ue.filter (· ≠ stream.val) } }

def execRgsJcpRate (v : W32) (s : State) : Out :=
  .next (s.answerWith (if s.blkUp 1 2 then s.writeJcpRate v else .error stUnavailable))

def execRgsPuntRate (port : Fin 96) (v : W32) (s : State) : Out :=
  .next (s.answerWith (if s.blkUp 1 2 then s.writePuntRate port v else .error stUnavailable))

def execRgsCntClrDrops (s : State) : Out :=
  .next (s.answerWith (if s.blkUp 1 2 then s.writeRgsCntClr 0x80 else .error stUnavailable))

def execRgsCntClrPortGo (port : BitVec 7) (s : State) : Out :=
  .next (s.answerWith (if s.blkUp 1 2 then s.writeRgsCntClr (BitVec.ofNat 32 (0x100 + port.toNat)) else .error stUnavailable))

end Sys2Proof.Machine
end

