-- ==== Sys2Proof/Machine/Vault.lean ====
section
/-!
DEFINITION. The Vault (chapter The Vault: SRTP and AES Jobs, R148 to R176): key slots, SRTP and SRTCP, replay windows,
general AES jobs, known-answer rounds, and the writes of its registers.
-/

namespace Sys2Proof.Machine

/-! ### Profiles and key slots (R151 to R158) -/

/-- A profile of R151: key bytes, salt bytes, SRTP tag, SRTCP tag, AEAD. -/
structure Profile where
  key : Nat
  salt : Nat
  rtpTag : Nat
  rtcpTag : Nat
  aead : Bool
  deriving DecidableEq, Repr

/-- The profile of a code. -/
def profileOf : Nat → Option Profile
  | 1 => some ⟨16, 14, 10, 10, false⟩
  | 2 => some ⟨16, 14, 4, 10, false⟩
  | 3 => some ⟨32, 14, 10, 10, false⟩
  | 4 => some ⟨32, 14, 4, 10, false⟩
  | 5 => some ⟨16, 12, 16, 16, true⟩
  | 6 => some ⟨32, 12, 16, 16, true⟩
  | _ => none

/-- `n` bytes of the key derivation function under a label, key derivation rate 0 (R152). -/
def kdf (key salt : Bytes) (label n : Nat) : Bytes :=
  let x := fitTo 14 salt
  ctrXor (aesKeys key) 16 (xorBytes x (zeros 7 ++ [byteOf label] ++ zeros 6) ++ [0, 0]) (zeros n)

/-- The check code of a slot for a leg (R155). -/
def slotCheck (slot : Bytes) (leg : Nat) : Nat :=
  let c := (crc16 0xFFFF (slot.take 10 ++ (slot.drop 12).take 180 ++ beBytes 2 leg)).toNat
  if c = 0 then 65535 else c

/-- A slot with its check code computed for the leg it was installed for. -/
def sealSlot (slot : Bytes) : Bytes := patch slot 10 (leBytes 2 (slotCheck slot (leField slot 2 2 % 32768)))

def State.slot (s : State) (i : Nat) : Bytes := ngetD (zeros 192) s.vlt.slots i
def State.setSlot (s : State) (i : Nat) (b : Bytes) : State :=
  { s with vlt := { s.vlt with slots := nputD (zeros 192) s.vlt.slots i b, ue := s.vlt.ue.filter (· ≠ i) } }

/-- The bytes of a freshly installed slot (R154). -/
def freshSlot (profile leg expiry gen : Nat) (p : Profile) (key salt : Bytes) : Bytes :=
  let auth (label : Nat) : Bytes :=
    if p.aead then zeros 40
    else
      let k := kdf key salt label 20
      sha1Out (hmacSha1State 0x36 k) ++ sha1Out (hmacSha1State 0x5C k)
  let part (base : Nat) : Bytes :=
    fitTo 32 (kdf key salt base p.key) ++ fitTo 16 (kdf key salt (base + 2) p.salt) ++ auth (base + 1)
  sealSlot ([1, byteOf profile] ++ leBytes 2 leg ++ leBytes 4 expiry ++ leBytes 2 gen ++ [0, 0] ++ zeros 4 ++ part 0 ++ part 3)

/-- Install a key into a slot (R152, R157, R158): an installation into SLOT 0 empties the replay windows of the leg's
streams. -/
def State.installKey (s : State) (leg slot profile lifetime : Nat) (p : Profile) (key salt : Bytes) : State :=
  let i := 2 * leg + slot
  let gen := (leField (s.slot i) 8 2 + 1) % 65536
  let expiry := if lifetime = 0 then 0 else (s.t / 1000000000 + lifetime) % 4294967296
  let s0 := s.setSlot i (freshSlot profile leg expiry gen p key salt)
  let s1 : State := { s0 with vlt := { s0.vlt with
    expires := if lifetime = 0 then ndel s0.vlt.expires i else nput s0.vlt.expires i (s.t / 1000000000 + lifetime) } }
  if slot = 0 then
    { s1 with vlt := { s1.vlt with ctx := nmapV (fun st c =>
        if s1.streamLeg st = leg then { c with rtpHigh := none, rtpWin := 0, rtcpHigh := none, rtcpWin := 0 } else c) s1.vlt.ctx } }
  else s1

/-- What a slot's content allows for a leg (R156): `ok` to use it, else the reason code. -/
def judgeSlot (slot : Bytes) (leg : Nat) : Except Nat Profile :=
  let st := byteN slot 0 % 8
  let good := decide (leField slot 10 2 = slotCheck slot leg)
  if allZero slot then .error 0x43
  else if st = 2 ∧ good = true then .error 0x43
  else if st = 1 ∧ good = true then
    match profileOf (byteN slot 1) with
    | some p => .ok p
    | none => .error 0x42
  else .error 0x42

/-- Slots with STATE 1 (VLT_KEY_STATUS). -/
def State.activeSlots (s : State) : Nat := countIf (fun e => decide (byteN e.2 0 % 8 = 1)) s.vlt.slots

/-- A retired slot (R158): key fields zeroised, STATE 2. -/
def retireSlot (slot : Bytes) : Bytes := sealSlot (2 :: (slot.take 16).drop 1 ++ zeros 176)

/-- Zeroise a leg's two slots (R87). -/
def State.zeroiseLeg (s : State) (leg : Nat) : State := (s.setSlot (2 * leg) (zeros 192)).setSlot (2 * leg + 1) (zeros 192)

/-! ### SRTP and SRTCP (R160 to R166) -/

/-- The fields of a slot's session keys: base offset 16 for SRTP, 104 for SRTCP. -/
def slotKeys (slot : Bytes) (p : Profile) (rtcp : Bool) : List Bytes :=
  aesKeys (slice slot (if rtcp then 104 else 16) p.key)
def slotSalt (slot : Bytes) (rtcp : Bool) : Bytes := slice slot (if rtcp then 136 else 48) 16
def slotTag (slot : Bytes) (rtcp : Bool) (n : Nat) (b : Bytes) : Bytes :=
  let o := if rtcp then 152 else 64
  (hmacSha1From (sha1In (slice slot o 20)) (sha1In (slice slot (o + 20) 20)) b).take n

/-- The counter block of AES-CM for an SSRC and a 48-bit index (RFC 3711). -/
def cmIv (salt : Bytes) (ssrc index : Nat) : Bytes :=
  xorBytes (salt.take 14 ++ [0, 0]) (zeros 4 ++ beBytes 4 ssrc ++ beBytes 6 index ++ [0, 0])

/-- The IV of AES-GCM (RFC 7714): `index` is ROC‖SEQ in 6 bytes, or the SRTCP index. -/
def gcmIv (salt : Bytes) (ssrc index : Nat) : Bytes :=
  xorBytes (salt.take 12) ([0, 0] ++ beBytes 4 ssrc ++ beBytes 6 index)

/-- The bytes of a packet that stay in clear: the RTP header, or the first 8 bytes of RTCP. -/
def clearLen (rtcp : Bool) (b : Bytes) : Nat := if rtcp then 8 else rtpHeaderLen b

/-- Authenticate and decrypt: none when the tag is wrong. `b` is the packet with its trailer, `index` the packet's. -/
def unprotect (slot : Bytes) (p : Profile) (rtcp : Bool) (b : Bytes) (index : Nat) : Option Bytes :=
  let n := b.length
  let ssrc := beField b (if rtcp then 4 else 8) 4
  let ks := slotKeys slot p rtcp
  let salt := slotSalt slot rtcp
  let h := clearLen rtcp b
  if p.aead then
    if rtcp then
      let word := b.drop (n - 4)
      let body := b.take (n - 20)
      let tag := slice b (n - 20) 16
      let iv := gcmIv salt ssrc index
      if byteN word 0 < 128 then if gcmTag ks iv (body ++ word) [] = tag then some body else none
      else if gcmTag ks iv (body.take 8 ++ word) (body.drop 8) = tag then
        some (body.take 8 ++ gcmCrypt ks iv (body.drop 8))
      else none
    else
      let body := b.take (n - 16)
      let iv := gcmIv salt ssrc index
      if gcmTag ks iv (body.take h) (body.drop h) = b.drop (n - 16) then
        some (body.take h ++ gcmCrypt ks iv (body.drop h))
      else none
  else
    let t := if rtcp then p.rtcpTag else p.rtpTag
    let body := b.take (n - t)
    let auth := if rtcp then body else body ++ beBytes 4 (index / 65536)
    if slotTag slot rtcp t auth ≠ b.drop (n - t) then none
    else if rtcp then
      let plain := body.take (body.length - 4)
      if byteN body (body.length - 4) < 128 then some plain
      else some (plain.take 8 ++ ctrXor ks 16 (cmIv salt ssrc index) (plain.drop 8))
    else some (body.take h ++ ctrXor ks 16 (cmIv salt ssrc index) (body.drop h))

/-- Encrypt and tag (R166); SRTCP gets its word with E 1. -/
def protect (slot : Bytes) (p : Profile) (rtcp : Bool) (b : Bytes) (index : Nat) : Bytes :=
  let ssrc := beField b (if rtcp then 4 else 8) 4
  let ks := slotKeys slot p rtcp
  let salt := slotSalt slot rtcp
  let h := clearLen rtcp b
  let word := beBytes 4 (2147483648 + index % 2147483648)
  if p.aead then
    let iv := gcmIv salt ssrc index
    let c := gcmCrypt ks iv (b.drop h)
    if rtcp then b.take 8 ++ c ++ gcmTag ks iv (b.take 8 ++ word) c ++ word
    else b.take h ++ c ++ gcmTag ks iv (b.take h) c
  else
    let c := b.take h ++ ctrXor ks 16 (cmIv salt ssrc index) (b.drop h)
    if rtcp then c ++ word ++ slotTag slot true p.rtcpTag (c ++ word)
    else c ++ slotTag slot false p.rtpTag (c ++ beBytes 4 (index / 65536))

/-- A replay window's verdict on an index (R165): may it pass. -/
def replayOk (high : Option Nat) (win : BitVec 128) (i : Nat) : Bool :=
  match high with
  | none => true
  | some h => if h < i then true else if 128 ≤ h - i then false else !win.getLsbD (h - i)

/-- Commit an index. -/
def replayCommit (high : Option Nat) (win : BitVec 128) (i : Nat) : Nat × BitVec 128 :=
  match high with
  | none => (i, 1)
  | some h => if h < i then (i, (if 128 ≤ i - h then 0 else win <<< (i - h)) ||| 1) else (h, win ||| ((1 : BitVec 128) <<< (h - i)))

def State.ctx (s : State) (st : Nat) : StreamCtx := ngetD {} s.vlt.ctx st
def State.setCtx (s : State) (st : Nat) (c : StreamCtx) : State :=
  { s with vlt := { s.vlt with ctx := nputD {} s.vlt.ctx st c } }

/-- A packet dropped by the Vault: its reason's counter, its stream's and its leg's counters, a checker hit for
KEY_CHECK. -/
def State.vaultDrop (s : State) (code leg : Nat) (stream : Option Nat) : State :=
  let s1 := s.cinc .vltDropCnt 0 (code - 0x40)
  let s2 := match stream with
    | some st => if code = 0x40 then s1.sinc tyStream st 0x201 else if code = 0x41 then s1.sinc tyStream st 0x202 else s1
    | none => s1
  if code = 0x42 then (s2.sinc tyLeg leg 0x200).checkerHit 1 leg
  else if code = 0x43 then s2.sinc tyLeg leg 0x201
  else s2

/-- The ROC notice of R162. -/
def State.rocNotice (s : State) (st seq : Nat) : State :=
  let c := s.ctx st
  if c.notified = false ∧ ((0xC000 ≤ seq ∧ c.rocLow = c.rocHigh) ∨ (0x4000 ≤ seq ∧ seq < 0x8000 ∧ c.rocLow ≠ c.rocHigh)) then
    (s.setCtx st { c with notified := true }).hwPost 4 1 (some st) none
      (leBytes 4 st ++ leBytes 4 c.rocHigh.toNat ++ leBytes 4 c.rocLow.toNat ++ leBytes 4 seq)
  else s

/-- Do the packets of a compound end exactly at its end (R164 step 8); `fuel` bounds their number. -/
def compoundOk : Nat → Bytes → Bool
  | 0, b => b.isEmpty
  | n + 1, b =>
    if b = [] then true
    else
      let k := 4 * (beField b 2 2 + 1)
      if b.length < 4 ∨ b.length < k then false else compoundOk n (b.drop k)

/-- Is an AES pipeline, a SHA-1 pipeline in service (R174): a fenced one takes no new job. -/
def State.aesUp (s : State) : Bool := decide (s.rget .vltAesStatus 0 0 ≠ 0xFFFFFFFF)
def State.shaUp (s : State) : Bool := decide (s.rfld .vltShaStatus 0 0 0 8 ≠ 255)

/-- Does a packet or copy of a profile find the pipelines it needs (R150, R164): AES, and SHA-1 where the tag is an HMAC. -/
def State.pipesFor (s : State) (p : Profile) : Bool := s.aesUp && (p.aead || s.shaUp)

/-- Steps 2 to 9 of R164 with a slot that may be used; none while the packet waits for a pipeline in service (R174). REPLAY
is as the packet's probe found it (R88, R136). -/
def State.srtpIn (s : State) (x : Staged) (slot : Bytes) (p : Profile) : Option State :=
  let b := slice x.frame x.off x.len
  let n := b.length
  let st := x.stream
  let c := s.ctx st
  let tag := if x.rtcp then p.rtcpTag else p.rtpTag
  let head := if x.rtcp then 8 else if n < 12 then 12 else rtpHeaderLen b
  let replay := x.replay
  if n < head + tag + (if x.rtcp then 4 else 0) then some (s.vaultDrop 0x45 x.leg (some st))
  else
    let seq := beField b 2 2
    let roc := (if 0x8000 ≤ seq then c.rocHigh else c.rocLow).toNat
    let word := beField b (if p.aead then n - 4 else n - 4 - tag) 4
    let index := if x.rtcp then word % 2147483648 else roc * 65536 + seq
    let high := if x.rtcp then c.rtcpHigh else c.rtpHigh
    let win := if x.rtcp then c.rtcpWin else c.rtpWin
    if replay && !replayOk high win index then some (s.vaultDrop 0x41 x.leg (some st))
    else if s.pipesFor p = false then none
    else
      some <| match unprotect slot p x.rtcp b index with
      | none => s.vaultDrop 0x40 x.leg (some st)
      | some plain =>
        let w := replayCommit high win index
        let c1 : StreamCtx := if x.rtcp then { c with rtcpHigh := some w.1, rtcpWin := w.2 }
          else { c with rtpHigh := some w.1, rtpWin := w.2 }
        let s1 := if replay then s.setCtx st c1 else s
        let s2 := if x.rtcp then s1 else s1.rocNotice st seq
        let pad := byteN plain (plain.length - 1)
        if x.rtcp = false ∧ byteN plain 0 / 32 % 2 = 1 ∧ (pad = 0 ∨ plain.length - head < pad) then
          s2.vaultDrop 0x44 x.leg (some st)
        else if x.rtcp = true ∧ compoundOk plain.length plain = false then s2.vaultDrop 0x45 x.leg (some st)
        else
          let s3 := (s2.cinc .vltJobCnt 0 0).sinc tyStream st 0x200
          s3.store { x with frame := x.frame.take x.off ++ plain, len := plain.length }

/-- A read of a slot meets a double-bit error (R156): the slot is marked until it is rewritten. -/
def State.slotUe (s : State) (i : Nat) (ue : Bool) : State :=
  if ue && !s.vlt.ue.contains i then { s with vlt := { s.vlt with ue := s.vlt.ue ++ [i] } } else s

/-! ### General jobs (R168 to R173) -/

/-- The 64 bytes of a job's descriptor; a Curator core's lies at the same address of the memory of its own port (log 20). -/
def State.jobDesc (s : State) (j : VaultJob) : Bytes := memRead (s.cmem (j.core / 16)) (j.addr % 1048576) 64

/-- A field of a descriptor. -/
def jfld (b : Bytes) (lo len : Nat) : Nat := leNat b / 2 ^ lo % 2 ^ len

/-- Are the reserved fields of a descriptor 0, and the fields that its mode does not use (code 0x02). -/
def jobFieldsOk (b : Bytes) : Bool :=
  let m := jfld b 0 4
  let z (lo len : Nat) : Bool := decide (jfld b lo len = 0)
  z 6 2 && z 13 3 && z 30 2 && z 46 18 && z 182 10 && z 246 10 && z 407 41 && z 456 56 &&
    (if m = 15 then z 81 15 else z 118 10) &&
    (if m = 6 ∨ m = 7 then z 352 32 else z 8 5 && z 32 14)

/-- The checks of R171 in the order of R172's codes, 0 when all pass. -/
def State.judgeJob (s : State) (j : VaultJob) : Nat :=
  let b := s.jobDesc j
  let m := jfld b 0 4
  let d := coreDomain j.core
  let len := jfld b 16 14
  let aad := jfld b 32 14
  let tag := jfld b 8 5
  let src := BitVec.ofNat 32 (jfld b 64 32)
  let dst := BitVec.ofNat 32 (jfld b 128 32)
  let kb := BitVec.ofNat 32 (jfld b 192 32)
  let keyOff := jfld b 224 22
  let gcm := decide (m = 6 ∨ m = 7)
  if m = 0 ∨ (8 ≤ m ∧ m ≤ 14) then 1
  else if jobFieldsOk b = false then 2
  else if gcm = true ∧ ¬ (tag = 8 ∨ tag = 12 ∨ tag = 16) then 3
  else if 16383 < aad + len then 4
  else if (m = 1 ∨ m = 2) ∧ len % 16 ≠ 0 then 5
  else if m = 15 then (if s.objExists tyStream (jfld b 64 17) then 0 else 0x0A)
  else if [src, dst, kb].any fun h => (s.handleFault d 0 h).isSome then 6
  else if bufSize src < jfld b 96 22 + aad + len + (if m = 7 then tag else 0) ∨
      bufSize dst < jfld b 160 22 + len + (if m = 6 then tag else 0) ∨ keyOff % 16 ≠ 0 ∨
      bufSize kb < keyOff + (if jfld b 4 1 = 1 then 32 else 16) then 7
  else 0

/-- The output of a job over its source data, none when the GCM tag does not match. -/
def jobOutput (m tagLen : Nat) (ks : List Bytes) (iv aad p tag : Bytes) : Option Bytes :=
  let blocks := cdiv p.length 16
  match m with
  | 1 => some (cbcEnc ks blocks iv p)
  | 2 => some (cbcDec ks blocks iv p)
  | 3 => some (ctrXor ks 16 iv p)
  | 4 => some (cfbEnc ks blocks iv p)
  | 5 => some (cfbDec ks blocks iv p)
  | 6 =>
    let c := gcmCrypt ks (iv.take 12) p
    some (c ++ (gcmTag ks (iv.take 12) aad c).take tagLen)
  | _ => if (gcmTag ks (iv.take 12) aad p).take tagLen = tag then some (gcmCrypt ks (iv.take 12) p) else none

/-- Run a cipher job that passed its checks: STATUS and the state with the destination written. Poisoned source data end it
as POISONED; a poisoned key block is dropped under R13 as well, but R172 names no status for it: it is a free value
(DESIGN CHOICE, log 96). -/
def State.runCipher (s : State) (j : VaultJob) : Nat × State :=
  let b := s.jobDesc j
  let m := jfld b 0 4
  let len := jfld b 16 14
  let aad := jfld b 32 14
  let tag := jfld b 8 5
  let srcA := s.bufAddr (BitVec.ofNat 32 (jfld b 64 32)) + jfld b 96 22
  let dstA := s.bufAddr (BitVec.ofNat 32 (jfld b 128 32)) + jfld b 160 22
  let kbA := s.bufAddr (BitVec.ofNat 32 (jfld b 192 32)) + jfld b 224 22
  let all := s.gread srcA (aad + len + (if m = 7 then tag else 0))
  let outLen := len + (if m = 6 then tag else 0)
  let keyLen := if jfld b 4 1 = 1 then 32 else 16
  if s.gpoison srcA all.length then (9, (s.metPoison 1 3).gwrite dstA (zeros outLen))
  else if s.gpoison kbA keyLen then
    ((s.draw 8).1, ((s.draw 8).2.metPoison 1 3).gwrite dstA (zeros outLen))
  else
    let ks := aesKeys (s.gread kbA keyLen)
    match jobOutput m tag ks (slice b 32 16) (all.take aad) (slice all aad len) (all.drop (aad + len)) with
    | some out => (0, s.gwrite dstA out)
    | none => (8, s.gwrite dstA (zeros outLen))

/-- CTX_WRITE (R162, R170): both ROC fields in one write, NOTIFIED cleared. -/
def State.ctxWrite (s : State) (b : Bytes) : State :=
  let st := jfld b 64 17
  s.setCtx st { s.ctx st with
    rocHigh := BitVec.ofNat 32 (jfld b 96 32), rocLow := BitVec.ofNat 32 (jfld b 128 32), notified := false }

/-- Jobs in flight. -/
def State.jobsInFlight (s : State) : Nat := countIf (fun j => decide (j.stage ≠ 0)) s.vlt.jobs

/-- Queued jobs go in flight while the 128 credits last (R173). -/
def promote : Nat → List VaultJob → List VaultJob
  | _, [] => []
  | n, j :: r =>
    if j.stage = 0 then if n < 128 then { j with stage := 1 } :: promote (n + 1) r else j :: r
    else j :: promote n r

/-- Let queued jobs go in flight. -/
def State.promoteJobs (s : State) : State :=
  { s with vlt := { s.vlt with jobs := promote s.jobsInFlight s.vlt.jobs } }

/-- A core submits a job (R281): a ninth queued job is refused. -/
def State.submitJob (s : State) (c addr : Nat) : State :=
  if 8 ≤ countIf (fun j => decide (j.core = c) && decide (j.stage = 0)) s.vlt.jobs then
    if c = curatorCore then s else s.flag .dspCoreStatus (c / 16) (c % 16) 13
  else
    let s1 := if c = curatorCore then s else s.cinc .dspCnt (c / 16) 6
    ({ s1 with vlt := { s1.vlt with jobs := s1.vlt.jobs ++ [(⟨c, addr, 0, 0⟩ : VaultJob)] } }).promoteJobs

/-- Replace the first job that meets a test. -/
def updFirst (t : VaultJob → Bool) (f : VaultJob → VaultJob) : List VaultJob → List VaultJob
  | [] => []
  | j :: r => if t j then f j :: r else j :: updFirst t f r

/-- The next job in flight of a mode runs to its end (R170 to R172); a cipher job waits while every AES pipeline is fenced
(R174). -/
def State.runJob (s : State) (mode : Nat) : State :=
  let t (j : VaultJob) : Bool := decide (j.stage = 1) && decide (jfld (s.jobDesc j) 0 4 = mode)
  match s.vlt.jobs.find? t with
  | none => s
  | some j =>
    let k := s.judgeJob j
    if k = 0 ∧ mode ≠ 15 ∧ s.aesUp = false then s
    else
      let r : Nat × State :=
        if k ≠ 0 then (k, s) else if mode = 15 then (0, s.ctxWrite (s.jobDesc j)) else s.runCipher j
      { r.2 with vlt := { r.2.vlt with jobs := updFirst t (fun j => { j with stage := 2, status := r.1 }) r.2.vlt.jobs } }

/-- Is a job ended: run, or of a reserved mode, which no operation runs. -/
def State.jobEnded (s : State) (j : VaultJob) : Bool :=
  decide (j.stage = 2) || (decide (j.stage = 1) && decide (s.judgeJob j = 1))

/-! ### Egress credits (R32, R173) -/

/-- The Forwarder submits a copy (R166): beyond 512 egress jobs in flight it waits on the Forwarder's side, oldest first. -/
def State.submitCopy (s : State) (c : CopyJob) : State :=
  if s.vlt.copies.length < 512 ∧ s.fwd.waitCopies = [] then { s with vlt := { s.vlt with copies := s.vlt.copies ++ [c] } }
  else { s with fwd := { s.fwd with waitCopies := s.fwd.waitCopies ++ [c] } }

/-- Copies that waited for egress credit enter the Vault as far as it lasts. -/
def State.refillCopies (s : State) : State :=
  let n := 512 - s.vlt.copies.length
  { s with
    vlt := { s.vlt with copies := s.vlt.copies ++ s.fwd.waitCopies.take n }
    fwd := { s.fwd with waitCopies := s.fwd.waitCopies.drop n } }

/-- The source packets whose copies have not all left the Forwarder: each holds a fan-out walk slot (R32). A copy's packet is
known by its buffer and offset. -/
def State.walksHeld (s : State) : Nat := (s.fwd.waitCopies.map fun c => (c.desc.handle, c.desc.offset)).dedup.length

/-! ### Register writes -/

/-- A write of VLT_CNT_CLR (R176). -/
def State.writeVltCntClr (s : State) (v : W32) : State :=
  let s1 := if fld v 0 1 = 1 then s.cclear .vltDropCnt 0 0 6 else s
  if fld v 1 1 = 1 then s1.cclear .vltJobCnt 0 0 4 else s1

/-! ### The meanings -/

/-- The Vault takes the oldest staged packet (R164). `ue`: its slot's read meets a double-bit error (R156). A packet that
finds no pipeline in service waits (R174). -/
def execSrtpIngress (ue : Bool) (s : State) : Out :=
  match s.rgs.staged with
  | [] => .next s
  | x :: rest =>
    if s.blkUp 1 3 = false then .next s
    else
      let s1 := ({ s with rgs := { s.rgs with staged := rest } }).slotUe (2 * x.leg) ue
      if s1.vlt.ue.contains (2 * x.leg) then .next ((s1.drop 0x28).cellError 1 3 0 2 (2 * x.leg))
      else
        let slot := s1.slot (2 * x.leg)
        match judgeSlot slot x.leg with
        | .error code => .next (s1.vaultDrop code x.leg (some x.stream))
        | .ok p => .next ((s1.srtpIn x slot p).getD s)

/-- The Vault encrypts the next copy (R166) and hands it to the traffic manager; without the pipelines it needs the copy
waits (R174). -/
def execSrtpEgress (ue : Bool) (s : State) : Out :=
  match s.vlt.copies with
  | [] => .next s
  | c :: rest =>
    if s.blkUp 1 3 = false then .next s
    else
      let i := 2 * c.leg + 1
      let s1 := (State.refillCopies { s with vlt := { s.vlt with copies := rest } }).slotUe i ue
      if s1.vlt.ue.contains i then .next (((s1.drop 0x28).cellError 1 3 0 2 i).decRef 4 c.desc.handle)
      else
        let slot := s1.slot i
        match judgeSlot slot c.leg with
        | .error code => .next ((s1.vaultDrop code c.leg none).decRef 4 c.desc.handle)
        | .ok p =>
          if s.pipesFor p = false then .next s
          else
            let index := if c.rtcp then c.index else c.index * 65536 + beField c.desc.cells 2 2
            let out := protect slot p c.rtcp c.desc.cells index
            let d : Desc := { c.desc with cells := out, len := out.length, ctag := appliedTag c.leg }
            .next ((s1.cinc .vltJobCnt 0 1).admitCopy c.leg c.cls 3 d)

/-- A key slot with a double-bit error is rewritten from the Curator's copy (R156). -/
def execKeySlotRewrite (slot : Fin 65536) (s : State) : Out :=
  .next { s with vlt := { s.vlt with ue := s.vlt.ue.filter (· ≠ slot.val) } }

/-- The sweep over every slot, 2 s after the one before it (R158): an active slot whose EXPIRY, the low 32 bits of the second
it retires at, has passed. -/
def execKeySweep (s : State) : Out :=
  let s0 := s.round 3 2000000000
  .next (s0.vlt.expires.foldl (fun s e =>
    let slot := s.slot e.1
    if byteN slot 0 % 8 = 1 ∧ leField slot 4 4 ≠ 0 ∧ e.2 ≤ s0.t / 1000000000 then
      let s1 := s.setSlot e.1 (retireSlot slot)
      State.raise { s1 with vlt := { s1.vlt with expires := ndel s1.vlt.expires e.1 } } 0x08 tyLeg (e.1 / 2)
        [byteOf (e.1 % 2)]
    else s) s0)

/-- A pipeline fails its known answer (R174): the fail bit, the fence, the report; a part that is no longer in service lowers
its limit at once (R59, R175). -/
def State.katFail (s : State) (r : Reg) (i bit : Nat) (p : Part) : State :=
  let s1 := s.flag .vltKatStatus 0 0 bit
  if s1.rfld r 0 0 i 1 = 1 then s1 else (s1.withLimits (fun s => s.rbit r 0 0 i) []).report (.part p 0x05)

/-- A round of known-answer tests, 1 ms after the one before it (R174), with the pipelines whose answers mismatch. -/
def execKatRound (aes ghash : List (Fin 32)) (sha : List (Fin 8)) (s : State) : Out :=
  .next (if s.blkUp 1 3 then
      let s0 := s.round 0 1000000
      let s1 := s0.rsetFld .vltKatStatus 0 0 16 16 (s0.rfld .vltKatStatus 0 0 16 16 + 1)
      let s2 := aes.foldl (fun s i => s.katFail .vltAesStatus i.val 0 (.aes i.val)) s1
      let s3 := ghash.foldl (fun s i => s.katFail .vltAesStatus i.val 1 (.aes i.val)) s2
      sha.foldl (fun s i => s.katFail .vltShaStatus i.val 2 (.sha i.val)) s3
    else s)

/-- A core submits a job. A DSP core's descriptor stands in its cluster's memory; a Curator core (272) brings its own. -/
def execJobSubmit (core : Fin 273) (job : JobStore) (s : State) : Out :=
  let s1 := if core.val = curatorCore then s.setCmem 17 (memWrite (s.cmem 17) (job.addr.toNat % 1048576) (fitTo 64 job.desc)) else s
  .next (s1.submitJob core job.addr.toNat)

def execCbcEncrypt (s : State) : Out := .next (s.runJob 1)
def execCbcDecrypt (s : State) : Out := .next (s.runJob 2)
def execCtr (s : State) : Out := .next (s.runJob 3)
def execCfbEncrypt (s : State) : Out := .next (s.runJob 4)
def execCfbDecrypt (s : State) : Out := .next (s.runJob 5)
def execGcmEncrypt (s : State) : Out := .next (s.runJob 6)
def execGcmDecrypt (s : State) : Out := .next (s.runJob 7)
def execCtxWrite (s : State) : Out := .next (s.runJob 15)

/-- The oldest ended job completes (R281): STATUS, then JOB_DONE, then the completion item. -/
def execJobDone (s : State) : Out :=
  match takeFirst s.jobEnded s.vlt.jobs with
  | none => .next s
  | some (j, rest) =>
    let b := s.jobDesc j
    let status := if j.stage = 2 then j.status else 1
    let cl := j.core / 16
    let s1 := ({ s with vlt := { s.vlt with jobs := rest } }).setCmem cl
      (memWrite (s.cmem cl) (j.addr % 1048576 + 56) [byteOf status])
    let s2 := s1.setCore j.core { s1.core j.core with jobDone := (s1.core j.core).jobDone + 1 }
    let s3 := (s2.cinc .vltJobCnt 0 (if status = 0 then 2 else 3)).promoteJobs
    .next (if jfld b 5 1 = 1 then
      s3.hwPost 7 2 (some (jfld b 384 17)) (some (jfld b 401 6)) (leBytes 4 j.addr ++ [byteOf status])
    else s3)

def execVltCntClrDrops (s : State) : Out :=
  .next (s.answerWith (if s.blkUp 1 3 then .ok (s.writeVltCntClr 1) else .error stUnavailable))

def execVltCntClrJobs (s : State) : Out :=
  .next (s.answerWith (if s.blkUp 1 3 then .ok (s.writeVltCntClr 2) else .error stUnavailable))

end Sys2Proof.Machine
end

