-- ==== Sys2Proof/Machine/Forwarder.lean ====
section
/-!
DEFINITION. The Forwarder (chapter Forwarding by Layers and Replication, R210 to R236): subscriptions, the walk, layer
switches, source changes, key requests, feedback, the retransmission cache, and the writes of its registers.
-/

namespace Sys2Proof.Machine

/-! ### Sources and subscriptions -/

/-- The number of a source: a stream index, or 131,072 + an output index. -/
def srcKey (kind source : Nat) : Nat := if kind = 0 then source else 131072 + source
def srcIsOutput (src : Nat) : Bool := decide (131072 ≤ src)

def State.fwdStream (s : State) (src : Nat) : FwdStream := ngetD {} s.fwd.streams src
def State.setFwdStream (s : State) (src : Nat) (x : FwdStream) : State :=
  { s with fwd := { s.fwd with streams := nputD {} s.fwd.streams src x } }
def State.setSub (s : State) (id : Nat) (e : Sub) : State := { s with fwd := { s.fwd with subs := nput s.fwd.subs id e } }

/-- Replace an attribute of an object. -/
def State.setAttr (s : State) (ty id a : Nat) (v : Bytes) : State :=
  { s with objs := nmodify s.objs (objKey ty id) fun o => nput o a v }

/-- The leg of a subscription. -/
def State.subLeg (s : State) (id : Nat) : Nat := s.attr tySub id 0x100 0

/-- The layer syntax by which a source's packets are taken: the stream's, 4 for a video output (R396), 0 for an audio
output. -/
def State.srcSyntax (s : State) (src : Nat) : Nat :=
  if srcIsOutput src then (if s.attr tyOutput (src - 131072) 0x600 0 = 1 then 4 else 0) else s.syntaxOf src

/-- The conference of a source. -/
def State.srcConf (s : State) (src : Nat) : Nat :=
  if srcIsOutput src then s.attr tyOutput (src - 131072) 0x60A 0 else s.streamConf src

/-- Does a source count its RTP clock at 48 kHz (R213; audio outputs do). -/
def State.src48k (s : State) (src : Nat) : Bool :=
  if srcIsOutput src then decide (s.attr tyOutput (src - 131072) 0x600 0 = 0) else decide (s.attr tyStream src 0x400 0 = 1)

/-- SWITCH_WAIT of a source in µs. -/
def State.switchWait (s : State) (src : Nat) : Nat :=
  1000 * (if srcIsOutput src then 200 else s.attr tyStream src 0x403 200)

/-! ### The fan-out lists (R226) -/

/-- The segment of a subscription. -/
def segOf (e : Sub) : Nat := min e.curS 2

/-- All subscriptions of a list, segment by segment. -/
def FanOut.all (f : FanOut) : List Nat := f.s0 ++ f.s1 ++ f.s2

/-- A list without a subscription. -/
def FanOut.remove (f : FanOut) (id : Nat) : FanOut :=
  ⟨f.s0.filter (· ≠ id), f.s1.filter (· ≠ id), f.s2.filter (· ≠ id)⟩

/-- A list with a subscription in a segment. -/
def FanOut.add (f : FanOut) (id seg : Nat) : FanOut :=
  match seg with
  | 0 => { f with s0 := f.s0 ++ [id] }
  | 1 => { f with s1 := f.s1 ++ [id] }
  | _ => { f with s2 := f.s2 ++ [id] }

/-- Take a subscription off a source's list. -/
def State.unlist (s : State) (src id : Nat) : State :=
  { s with fwd := { s.fwd with lists := nputD {} s.fwd.lists src ((ngetD {} s.fwd.lists src).remove id) } }

/-- Put a subscription on a source's list. -/
def State.list (s : State) (src id seg : Nat) : State :=
  { s with fwd := { s.fwd with lists := nputD {} s.fwd.lists src (((ngetD {} s.fwd.lists src).remove id).add id seg) } }

/-- Store an entry that a walk has changed: it moves between segments with CUR_S. -/
def State.putSub (s : State) (id : Nat) (old e : Sub) : State :=
  let s1 := s.setSub id e
  if segOf old = segOf e then s1
  else
    let s2 := s1.list e.source id (segOf e)
    if e.pend = 3 then s2.list e.newSource id (segOf e) else s2

/-! ### The subscription cache (R212) -/

/-- An entry is met: a miss fills it, replacing the least recently used one. -/
def State.touchSub (s : State) (id : Nat) : State :=
  let c := s.fwd.cache
  if c.contains id then { s with fwd := { s.fwd with cache := c.filter (· ≠ id) ++ [id] } }
  else
    let s1 := s.cinc .fwdCnt 0 3
    { s1 with fwd := { s1.fwd with cache := (if c.length < 65536 then c else c.drop 1) ++ [id] } }

/-! ### Feedback to senders and key requests (R230, R231, R235) -/

/-- A feedback message in its buffer leaves on a leg at SRTCP index FB_INDEX (R231). -/
def State.feedbackOut (s : State) (leg : Nat) (b : Bytes) (h : W32) : State :=
  let i := s.attr tyLeg leg 0x401 0
  let s1 := (s.gwrite (s.bufAddr h) b).setAttr tyLeg leg 0x401 (beBytes 4 (i + 1))
  let d : Desc := { handle := h, len := b.length, conf := s1.legConf leg, info := 4, cells := b, stamp := s.t }
  let s2 := if s1.legEncrypt leg then s1.submitCopy ⟨leg, 1, d, true, i⟩ else s1.admitCopy leg 1 3 d
  if i + 1 = 0x7FFFFF00 then s2.hwPost 5 3 none none (leBytes 2 leg ++ leBytes 4 (i + 1)) else s2

/-- Send the message of a work, which waits in the outbox while no buffer is free (R188). -/
def State.feedbackTry (s : State) (work leg : Nat) (b : Bytes) : State :=
  match s.hwAlloc 3 work b.length with
  | (.ok h, s1) => s1.feedbackOut leg b h
  | (.error c, s1) =>
    if c = 1 then { s1 with fwd := { s1.fwd with outbox := s1.fwd.outbox ++ [(work, leg, b)] } } else s1.failHw 3 .untied

/-- Send one RTCP message on a leg (R231): at the limit of FB_INDEX it is suppressed. -/
def State.sendFeedback (s : State) (leg : Nat) (b : Bytes) : Option State :=
  if 0x7FFFFFFF ≤ s.attr tyLeg leg 0x401 0 then none
  else some (State.feedbackTry { s with clo := { s.clo with works := s.clo.works + 1 } } s.clo.works leg b)

/-- Messages that waited for a buffer leave as buffers allow; one whose leg has meanwhile reached the limit of FB_INDEX is
suppressed and counted. -/
def State.flushOutbox (s : State) : State :=
  s.fwd.outbox.foldl (fun (s : State) e =>
    if 0x7FFFFFFF ≤ s.attr tyLeg e.2.1 0x401 0 then (s.cinc .fwdCnt 0 10).hwAllocDrop 3 e.1 else s.feedbackTry e.1 e.2.1 e.2.2)
    { s with fwd := { s.fwd with outbox := [] } }

/-- A message of payload-specific or transport-layer feedback (RFC 4585): format, type, sender, media source, FCI. -/
def fbMessage (fmt pt sender media : Nat) (fci : Bytes) : Bytes :=
  [byteOf (128 + fmt), byteOf pt] ++ beBytes 2 (2 + fci.length / 4) ++ beBytes 4 sender ++ beBytes 4 media ++ fci

/-- A key request leaves for a stream's sender (R231), or for an output's encoder (R385). With KEYREQ 2 nothing is sent, also
of a request held from before (R230). -/
def State.sendKey (s : State) (src : Nat) : State :=
  let f := s.fwdStream src
  if srcIsOutput src then
    ({ s with fwd := { s.fwd with encKey := (s.fwd.encKey.filter (· ≠ src - 131072)) ++ [src - 131072] } }).setFwdStream src
      { f with keyAt := some s.t, keyHeld := false }
  else if s.attr tyStream src 0x402 0 = 2 then s.setFwdStream src { f with keyHeld := false }
  else
    let leg := s.streamLeg src
    let sender := s.attr tyLeg leg 0x400 0
    let fir := decide (s.attr tyStream src 0x402 0 = 1)
    let b := if fir then fbMessage 4 206 sender 0 (beBytes 4 f.ssrc.toNat ++ [byteOf f.fir, 0, 0, 0])
      else fbMessage 1 206 sender f.ssrc.toNat []
    match s.sendFeedback leg b with
    | none => s.cinc .fwdCnt 0 10
    | some s1 =>
      ((s1.cinc .fwdCnt 0 (if fir then 5 else 4)).sinc tyStream src 0x403).setFwdStream src
        { f with keyAt := some s.t, keyHeld := false, fir := if fir then (f.fir + 1) % 256 else f.fir }

/-- May a request for a source leave now (R230): none was sent in the last 500 ms. -/
def FwdStream.keyFree (f : FwdStream) (now : Nat) : Bool :=
  match f.keyAt with
  | none => true
  | some t => decide (t + 500000000 ≤ now)

/-- A key request for a source (R230); an audio output has no encoder to ask. -/
def State.keyRequest (s : State) (src : Nat) : State :=
  let f := s.fwdStream src
  if srcIsOutput src = true ∧ s.srcSyntax src = 0 then s
  else if srcIsOutput src = false ∧ s.attr tyStream src 0x402 0 = 2 then s
  else if f.keyFree s.t then s.sendKey src
  else (s.cinc .fwdCnt 0 6).setFwdStream src { f with keyHeld := true }

/-- The FCI of a generic NACK for rising sequence numbers (RFC 4585); `fuel` bounds the entries. -/
def nackFci : Nat → List W16 → Bytes
  | 0, _ => []
  | _, [] => []
  | n + 1, p :: r =>
    let near (q : W16) : Bool := decide (1 ≤ (q - p).toNat ∧ (q - p).toNat ≤ 16)
    let blp := ((r.filter near).map fun q => 2 ^ ((q - p).toNat - 1)).sum
    beBytes 2 p.toNat ++ beBytes 2 blp ++ nackFci n (r.filter fun q => !near q)

/-- Does any subscription of a source lie with SWITCH_IN inside a gap (R235). -/
def State.gapCrossed (s : State) (src : Nat) (gap : List W16) : Bool :=
  s.fwd.subs.any fun e => decide (e.2.source = src) && e.2.started && (gap.drop 1).contains e.2.switchIn

/-- Send the NACK of a recorded gap (R235): the numbers that are still not in the ring. -/
def State.sendGap (s : State) (st : Nat) (gap : List W16) : State :=
  let f := s.fwdStream st
  let miss := gap.filter fun q => !((nget f.ring (q.toNat % 4096)).any fun e => decide (e.seq = q))
  let s1 := s.setFwdStream st { f with gap := none }
  if miss = [] ∨ s.gapCrossed st gap = true then s1
  else
    let leg := s.streamLeg st
    match s1.sendFeedback leg (fbMessage 1 205 (s.attr tyLeg leg 0x400 0) f.ssrc.toNat (nackFci 17 miss)) with
    | none => s1.cinc .fwdCnt 0 10
    | some s2 => s2.cinc .fwdCnt 0 9

/-- The upstream gap record of a stream with NACK_UP as a packet is walked (R235). -/
def State.noteGap (s : State) (st : Nat) (seq : W16) (arr : Nat) : State :=
  let f := s.fwdStream st
  let d := match f.highest with
    | some h => (seq - h).toNat
    | none => 1
  let s1 := if d = 0 ∨ 32768 ≤ d then s else s.setFwdStream st { f with highest := some seq }
  if s.attr tyStream st 0x404 0 = 0 then s1
  else
    let due := match f.gap with
      | some (g, at_) => if at_ + 1000000 * s.attr tyStream st 0x405 5 ≤ arr then some g else none
      | none => none
    let fresh := decide (2 ≤ d) && decide (d ≤ 17)
    let s2 := match (if fresh then f.gap.map (·.1) else due) with
      | some g => s1.sendGap st g
      | none => s1
    if fresh then
      s2.setFwdStream st { s2.fwdStream st with
        gap := some ((List.range (d - 1)).map fun i => seq - BitVec.ofNat 16 (d - 1 - i), arr) }
    else s2

/-! ### The retransmission cache (R233) -/

/-- Cached packets of all streams. -/
def State.rtxHeld (s : State) : Nat := (s.fwd.streams.map fun e => e.2.ring.length).sum

/-- A packet leaves a ring. -/
def State.ringDrop (s : State) (st slot : Nat) : State :=
  let f := s.fwdStream st
  match nget f.ring slot with
  | none => s
  | some e => (s.setFwdStream st { f with ring := ndel f.ring slot }).decRef 3 e.handle

/-- A walked packet is cached: the cache takes a reference of its own (R229). -/
def State.ringPut (s : State) (st : Nat) (e : RingEntry) : State :=
  if s.rfld .fwdRtxCfg 0 0 0 24 ≤ s.rtxHeld then s.flag .fwdRtxStatus 0 0 24
  else
    let slot := e.seq.toNat % 4096
    let s1 := (s.incRef 3 e.handle 1).ringDrop st slot
    let f := s1.fwdStream st
    s1.setFwdStream st { f with ring := nput f.ring slot e }

/-! ### Deciding each copy (R218 to R225) -/

/-- A source packet as a walk sees it: source, sequence number, timestamp, arrival in µs, how it reads, the way layers
are taken (R218; 4 by META), the structure in force, 48 kHz. -/
structure WalkPkt where
  src : Nat
  seq : W16
  ts : W32
  arr : W32
  info : LayerInfo
  codec : Nat
  av1 : Option Av1Struct
  khz48 : Bool
  deriving DecidableEq, Repr

/-- newer(a, b) of R219. -/
def newer (a b : W16) : Bool := decide (1 ≤ (a - b).toNat ∧ (a - b).toNat ≤ 32767)

/-- The DTI of a packet's frame for the decode target of (S, T), none when no target qualifies. -/
def WalkPkt.dti (p : WalkPkt) (sl tl : Nat) : Option Nat :=
  match p.info.dtis, p.av1 with
  | some l, some a => (a.target sl tl).map fun d => l.getD d 0
  | _, _ => none

/-- Does a subscription at (S, T) take a packet (R218, R396). -/
def WalkPkt.takenAt (p : WalkPkt) (sl tl : Nat) : Bool :=
  if sl = 3 then false
  else if p.info.unreadable then true
  else match p.codec with
    | 3 => decide ((p.dti sl tl).getD 0 ≠ 0)
    | 4 => decide (p.info.s = sl) && decide (p.info.t ≤ tl)
    | _ => decide (p.info.s ≤ sl) && decide (p.info.t ≤ tl)

/-- The targets in force for an entry: capped on a peer leg (R430). -/
def State.targets (s : State) (leg : Nat) (e : Sub) : Nat × Nat :=
  match s.peer? leg with
  | none => (e.tgtS, e.tgtT)
  | some d => (if e.tgtS = 3 then 3 else min e.tgtS (s.rfld .curCasPeer 0 d 4 2), min e.tgtT (s.rfld .curCasPeer 0 d 6 2))

/-- Are targets what an entry takes now (R221). -/
def Sub.atTarget (e : Sub) (tg : Nat × Nat) : Bool := decide (e.curS = tg.1) && decide (e.curT = tg.2)

/-- Does a packet reach a temporal target from CUR_T (R216, R221): a full switch. -/
def WalkPkt.raisesT (p : WalkPkt) (curT tgtS tgtT : Nat) : Bool :=
  if p.info.dtis.isSome then p.info.start && decide (p.dti tgtS tgtT = some 2)
  else match p.info.sw with
    | 1 => true
    | 2 | 4 => decide (curT < p.info.t) && decide (p.info.t ≤ tgtT)
    | 3 => decide (p.info.t = curT + 1) && decide (p.info.t = tgtT)
    | _ => false

/-- Is a packet the switching point of the change that waits (table of R221; any change of S of a video output waits for
a key picture, R396). An unreadable packet is none (R216). -/
def WalkPkt.switches (p : WalkPkt) (e : Sub) (tg : Nat × Nat) : Bool :=
  let i := p.info
  if i.unreadable then false
  else if tg.1 = 3 then true
  else if e.started = false ∨ e.curS = 3 then i.key
  else if p.codec = 4 ∧ tg.1 ≠ e.curS then i.key
  else if e.curS < tg.1 then
    i.key || (decide (p.codec = 3) && i.start && decide (p.dti tg.1 tg.2 = some 2))
  else if e.curT < tg.2 then
    (i.key || p.raisesT e.curT tg.1 tg.2) && (decide (tg.1 = e.curS) || (i.start && decide (i.s = 0)))
  else if tg.1 < e.curS then i.start && decide (i.s = 0)
  else i.start

/-- A change is applied (R222). -/
def Sub.apply (e : Sub) (p : WalkPkt) (tg : Nat × Nat) : Sub :=
  let e1 : Sub := { e with curS := tg.1, curT := tg.2, switchIn := p.seq, dropMark := p.seq - 1, pend := 0 }
  if e.started = false ∧ tg.1 ≠ 3 then { e1 with seqOffset := p.seq - e.lastOut, highestIn := p.seq - 1 } else e1

/-- A source change is applied at a key picture of the new source (R225). -/
def Sub.applySource (e : Sub) (p : WalkPkt) : Sub :=
  let dt := (p.arr - e.lastArr).toNat
  let k := if p.khz48 then dt * 6 / 125 else dt * 9 / 100
  { e with
    source := e.newSource, newSource := 0, seqOffset := p.seq - e.lastOut - 1, highestIn := p.seq - 1
    tsOffset := e.lastTsOut + BitVec.ofNat 32 (max 1 k) - p.ts, switchIn := p.seq, dropMark := p.seq - 1 }

/-- Can only a key picture meet an entry's waiting change (R224, R396). -/
def keyOnly (e : Sub) (tg : Nat × Nat) (codec : Nat) (av1 : Option Av1Struct) : Bool :=
  if tg.1 = 3 then false
  else if e.started = false ∨ e.curS = 3 then true
  else if codec = 4 then decide (tg.1 ≠ e.curS)
  else if codec = 3 ∧ e.curS < tg.1 then
    match av1 with
    | none => false
    | some a =>
      match a.target tg.1 tg.2 with
      | some d => !a.hasSwitch d
      | none => true
  else false

/-- apply_pending of R219: the waiting change meets a packet, or its wait has lasted (R221 to R225). -/
def State.applyPending (s : State) (id : Nat) (e : Sub) (p : WalkPkt) : State × Sub :=
  let leg := s.subLeg id
  let src := decide (e.pend = 3) && decide (p.src = e.newSource) && p.info.key
  if e.pend = 3 ∧ src = false then (s, e)
  else
    let s1 := if src then s.unlist e.source id else s
    let e1 := if src then e.applySource p else e
    let tg := s1.targets leg e1
    if e1.pend = 0 ∧ ((s.peer? leg).isNone ∨ e1.atTarget tg) then (s1, e1)
    else if src || p.switches e1 tg then ((s1.sinc tySub id 0x403), e1.apply p tg)
    else
      let e2 : Sub := if p.info.sw = 3 ∧ e1.started = true ∧ tg.1 ≤ e1.curS ∧ e1.curS ≠ 3 ∧ p.info.t = e1.curT + 1 ∧
          p.info.t < tg.2 ∧ (tg.1 = e1.curS ∨ p.info.s = 0) then { e1 with curT := p.info.t } else e1
      if e2.pend = 1 ∧ s.switchWait e2.source ≤ (BitVec.ofNat 32 s.us - e2.pendSince).toNat then
        (s1.keyRequest e2.source, { e2 with pend := 2 })
      else (s1, e2)

/-- The ROC of a copy (R220). -/
def Sub.rocOf (e : Sub) (o : W16) : W32 := if e.lastOut.toNat < o.toNat then e.rocOut - 1 else e.rocOut

/-- A copy that a walk decided: subscription, sequence number, ROC, timestamp, spatial layer of its entry. -/
structure Decided where
  sub : Nat
  seq : W16
  roc : W32
  ts : W32
  curS : Nat
  deriving DecidableEq, Repr

/-- One entry of a walk (R219). -/
def State.judgeEntry (s : State) (id : Nat) (p : WalkPkt) : State × Option Decided :=
  match nget s.fwd.subs id with
  | none => (s, none)
  | some e0 =>
    if e0.fenced || (decide (e0.source ≠ p.src) && !(decide (e0.pend = 3) && decide (p.src = e0.newSource) && p.info.key)) then
      (s, none)
    else
      let r := s.applyPending id e0 p
      let e := r.2
      let taken := p.takenAt e.curS e.curT
      let made (e : Sub) (o : W16) : Option Decided := some ⟨id, o, e.rocOf o, p.ts + e.tsOffset, e.curS⟩
      let d := (p.seq - e.highestIn).toNat
      if d = 0 ∨ 32768 ≤ d then
        let s1 := r.1.putSub id e0 e
        if 1024 < (e.highestIn - p.seq).toNat ∨ newer p.seq e.dropMark = false then (s1.sinc tySub id 0x402, none)
        else (s1, if taken then made e (p.seq - e.seqOffset) else none)
      else if taken then
        let o := p.seq - e.seqOffset
        let e1 : Sub := { e with
          highestIn := p.seq, rocOut := if e.started = true ∧ o.toNat < e.lastOut.toNat then e.rocOut + 1 else e.rocOut
          lastOut := o, lastTsOut := p.ts + e.tsOffset, lastArr := p.arr, started := true }
        (r.1.putSub id e0 e1, made e1 o)
      else
        let e1 : Sub := { e with highestIn := p.seq, seqOffset := e.seqOffset + 1, dropMark := p.seq }
        ((r.1.putSub id e0 e1).sinc tySub id 0x401, none)

/-! ### Copies (R220, R223, R229, R246) -/

/-- The rewritten packet of a copy. -/
def State.rewrite (s : State) (b : Bytes) (c : Decided) (codec : Nat) (info : LayerInfo) : Bytes :=
  let b1 := patch (patch (patch b 2 (beBytes 2 c.seq.toNat)) 4 (beBytes 4 c.ts.toNat)) 8 ((s.attr? tySub c.sub 0x103).getD (zeros 4))
  if codec = 3 ∧ s.attr tySub c.sub 0x109 0 = 1 then
    patch b1 1 [byteOf (byteN b1 1 % 128 + (if info.endOfFrame = true ∧ info.s = c.curS then 128 else 0))]
  else b1

/-- Issue one copy: to the Vault for the leg's encryption, or to the traffic manager when the leg takes it in clear. -/
def State.issue (s : State) (c : Decided) (codec : Nat) (info : LayerInfo) (cls flags : Nat) (b : Bytes) (d : Desc) : State :=
  let leg := s.subLeg c.sub
  let cells := s.rewrite b c codec info
  let d1 : Desc := { d with
    kind := 0, complete := true, info := flags, ctag := 0, cells := cells, len := cells.length, record := none
    tbh := if (s.peer? leg).isSome then some (2, info.key, 0) else none }
  let s1 := s.cinc .fwdCnt 0 1
  if s1.legEncrypt leg then s1.submitCopy ⟨leg, cls, d1, false, c.roc.toNat⟩ else s1.admitCopy leg cls 3 d1

/-- The class of a source's packet (R246). -/
def State.pktClass (s : State) (src : Nat) (info : LayerInfo) : Nat :=
  if srcIsOutput src = true ∧ s.srcSyntax src = 0 then 0
  else if srcIsOutput src = false ∧ s.media src = 4 then 3
  else if info.key then 1 else 2

/-- May a copy go to a leg whose peer is named (R430, R432): the peer UP and the syntax negotiated. -/
def State.peerTakes (s : State) (leg : Nat) (codec : Nat) : Bool :=
  match s.peer? leg with
  | none => true
  | some d => decide (s.rfld .curCasPeer 0 d 0 3 = 2) && (decide (codec = 0) || s.rfld .curCasPeer 0 d (8 + codec - 1) 1 = 1)

/-- Is the peer of a leg UP, where it names one. -/
def State.peerUp (s : State) (leg : Nat) : Bool :=
  match s.peer? leg with
  | none => true
  | some d => decide (s.rfld .curCasPeer 0 d 0 3 = 2)

/-- Which subscriptions of an audio output a variant's walk decides (R318): variant 0 those whose leg no slot names,
variant i those of the legs that slot i − 1 names. -/
def variantTakes (table : List (List Nat)) (variant leg : Nat) : Bool :=
  if variant = 0 then !(table.any (·.contains leg)) else (table.getD (variant - 1) []).contains leg

/-- The decisions of a walk over a source's list, and whether some subscription took the packet, also where the copy then
fell to its peer (R228, R430). -/
def State.walkList (s : State) (p : WalkPkt) (slots : Option (List (List Nat) × Nat)) (codec : Nat) :
    List Nat → State × List Decided × Bool
  | [] => (s, [], false)
  | id :: r =>
    let leg := s.subLeg id
    let named := match slots with
      | some (tab, v) => variantTakes tab v leg
      | none => true
    if named = false ∨ s.isolated leg = true then s.walkList p slots codec r
    else if s.peerUp leg = false then (s.cinc .curCasCnt 0 3).walkList p slots codec r
    else
      let s1 := s.touchSub id
      let x := s1.judgeEntry id p
      match x.2 with
      | none => x.1.walkList p slots codec r
      | some c =>
        if x.1.peerTakes leg codec then
          let y := (x.1.sinc tySub id 0x400).walkList p slots codec r
          (y.1, c :: y.2.1, true)
        else
          let y := (x.1.cinc .curCasCnt 0 3).walkList p slots codec r
          (y.1, y.2.1, true)

/-- Issue a walk's copies in batches of up to 64, each after one INC (R229); `fuel` bounds the batches. -/
def State.issueAll (codec : Nat) (info : LayerInfo) (cls : Nat) (b : Bytes) (d : Desc) : Nat → State → List Decided → State
  | 0, s, _ => s
  | n + 1, s, l =>
    if l = [] then s
    else
      let k := l.take 64
      State.issueAll codec info cls b d n
        (k.foldl (fun s c => s.issue c codec info cls 0 b d) (s.incRef 3 d.handle k.length)) (l.drop 64)

/-- The dependency descriptor of a packet: the Registrar's record, or the whole element when it carries a structure. -/
def State.ddOf (s : State) (st : Nat) (d : Desc) (b : Bytes) : Option Bytes :=
  match d.record with
  | none => none
  | some r =>
    if 3 < r.length ∧ 128 ≤ byteN r 3 then
      some ((findElement (rtpElements b b.length) (s.attr tyStream st 0x106 0)).getD r)
    else some r

/-- The slot table of an audio output's packet and the packet's variant (R318). -/
def State.slotsOf (s : State) (src seq : Nat) (d : Desc) : Option (List (List Nat) × Nat) :=
  if srcIsOutput src = true ∧ s.srcSyntax src = 0 then
    let l := ngetD [] s.fwd.slotTabs (src - 131072)
    some (((l.find? fun e => decide (e.1 = seq)).map (·.2)).getD [], d.info % 16)
  else none

/-- One walk (R219, R226 to R229, R233, R235): `d` is the descriptor that the walk took over. -/
def State.walk (s : State) (src : Nat) (d : Desc) : State :=
  let a := s.bufAddr d.handle + d.offset
  let flow : ItemFlow := if srcIsOutput src then .untied else .stream src
  if d.poison || s.gpoison a d.len then (s.metPoison 1 4).decRef 3 d.handle flow
  else
    let b := s.gread a d.len
    let out := srcIsOutput src
    let codec := s.srcSyntax src
    let f0 := s.fwdStream src
    let rd := if out then
        ((if codec = 4 then readMeta d.info else ({} : LayerInfo)), f0, false)
      else readLayers codec b (s.ddOf src d b) f0
    let info := rd.1
    let seq : W16 := BitVec.ofNat 16 (beField b 2 2)
    let f1 : FwdStream := { rd.2.1 with ssrc := BitVec.ofNat 32 (beField b 8 4), keyHeld := rd.2.1.keyHeld && !info.key }
    let s1 := (s.setFwdStream src f1).cinc .fwdCnt 0 0
    let s2 := if out then s1 else
      (((s1.sinc tyStream src 0x400).sadd tyStream src 0x401 (b2n info.unreadable)).sadd tyStream src 0x402
        (b2n info.key)).sadd tyStream src 0x404 (b2n rd.2.2)
    let s3 := if f1.keyHeld && f1.keyFree d.stamp then s2.sendKey src else s2
    let cls := s3.pktClass src info
    let s4 := if out then s3 else s3.noteGap src seq d.stamp
    let s5 := if out = false ∧ s4.attr tyStream src 0x401 0 = 1 then
        s4.ringPut src ⟨d.handle, d.offset, d.len, seq, info, s4.t, d.stamp, cls⟩ else s4
    let p : WalkPkt := ⟨src, seq, BitVec.ofNat 32 (beField b 4 4), BitVec.ofNat 32 (d.stamp / 1000), info, codec, f1.av1, s5.src48k src⟩
    let w := s5.walkList p (s5.slotsOf src seq.toNat d) (if out then 0 else codec) (ngetD {} s5.fwd.lists src).all
    let s6 := if w.2.2 = false then (w.1.cinc .fwdCnt 0 2)
      else State.issueAll codec info cls b { d with conf := w.1.srcConf src } (w.2.1.length + 1) w.1 w.2.1
    s6.decRef 3 d.handle flow

/-- The Forwarder takes the next packet of a source: of a stream from its internal queue once the doorbell has rung
(R204), of an output from its packetiser (R393). A packet of MEDIA 3 also passes on to the decode context. While all 512
walk slots wait for the Vault the packet waits (R32). -/
def State.walkNext (s : State) (src : Nat) : State :=
  if 512 ≤ s.walksHeld then s
  else if srcIsOutput src then
    match ngetD [] s.fwd.outPkts (src - 131072) with
    | [] => s
    | d :: r => ({ s with fwd := { s.fwd with outPkts := nputD [] s.fwd.outPkts (src - 131072) r } }).walk src d
  else if (s.media src = 1 ∨ s.media src = 3 ∨ s.media src = 4) ∧ (s.queue (streamQueue src)).bell = true then
    match s.dequeue (streamQueue src) with
    | none => s
    | some (d, s1) =>
      let s2 := if s1.media src = 3 then
          let x := s1.incRef 3 d.handle 1
          { x with fwd := { x.fwd with toDec := nput x.fwd.toDec src (ngetD [] x.fwd.toDec src ++ [d]) } }
        else s1
      s2.walk src d
  else s

/-! ### Feedback from receivers (R232, R234) -/

/-- The subscription of a leg with an OUT_SSRC. -/
def State.subOf (s : State) (leg ssrc : Nat) : Option Nat :=
  (nkeys s.fwd.subs).find? fun id => decide (s.subLeg id = leg) && decide (s.attr tySub id 0x103 0 = ssrc)

/-- Search the ring for copy number `o` (R234): `k` numbers counted so far, `i` source numbers looked at. -/
def State.findRtx (s : State) (e : Sub) (p : RingEntry → WalkPkt) (ring : NMap RingEntry) (o : W16) :
    Nat → Nat → Nat → Option RingEntry
  | 0, _, _ => none
  | fuel + 1, i, k =>
    let n := e.highestIn - BitVec.ofNat 16 i
    if (e.highestIn - e.switchIn).toNat < i then none
    else
      match (nget ring (n.toNat % 4096)).filter fun x => decide (x.seq = n) with
      | none => if e.lastOut - BitVec.ofNat 16 k = o then none else s.findRtx e p ring o fuel (i + 1) (k + 1)
      | some x =>
        if (p x).takenAt e.curS e.curT then
          if e.lastOut - BitVec.ofNat 16 k = o then some x else s.findRtx e p ring o fuel (i + 1) (k + 1)
        else s.findRtx e p ring o fuel (i + 1) k

/-- Answer one NACKed sequence number of a subscription (R234). -/
def State.retransmit (s : State) (id : Nat) (o : W16) : State :=
  match nget s.fwd.subs id with
  | none => s
  | some e =>
    let src := e.source
    let f := s.fwdStream src
    let codec := s.srcSyntax src
    let pkt (x : RingEntry) : WalkPkt := ⟨src, x.seq, 0, 0, x.info, codec, f.av1, false⟩
    let missing (s : State) : State := (s.cinc .fwdCnt 0 8).sinc tySub id 0x405
    let leg := s.subLeg id
    if e.fenced || !e.started || decide (e.curS = 3) || s.isolated leg then missing s
    else if s.peerTakes leg codec = false then s.cinc .curCasCnt 0 3
    else
      match s.findRtx e pkt f.ring o 512 0 0 with
      | none => missing s
      | some x =>
        let a := s.bufAddr x.handle + x.offset
        if s.gpoison a x.len then s.metPoison 1 4
        else
          let b := s.gread a x.len
          let c : Decided := ⟨id, o, e.rocOf o, BitVec.ofNat 32 (beField b 4 4) + e.tsOffset, e.curS⟩
          let d : Desc := { handle := x.handle, offset := x.offset, len := x.len, conf := s.srcConf src, stamp := x.stamp }
          (((s.incRef 3 x.handle 1).issue c codec x.info x.cls 2 b d).cinc .fwdCnt 0 7).sinc tySub id 0x404

/-- The sequence numbers that the FCI entries of a NACK name: 16 entries are read. -/
def nackList (fci : Bytes) : List W16 :=
  (List.range (min 16 (fci.length / 4))).flatMap fun k =>
    let p : W16 := BitVec.ofNat 16 (beField fci (4 * k) 2)
    let blp := beField fci (4 * k + 2) 2
    p :: ((List.range 16).filter (bitN blp ·)).map fun i => p + BitVec.ofNat 16 (i + 1)

/-- Act on one packet of a compound (R232). -/
def State.onFeedback (s : State) (leg : Nat) (b : Bytes) : State :=
  let fmt := byteN b 0 % 32
  let pt := byteN b 1
  let matched (s : State) (ssrc : Nat) (f : Nat → State) : State :=
    match s.subOf leg ssrc with
    | some id => f id
    | none => s.cinc .fwdCnt 0 8
  let key (s : State) (id : Nat) : State :=
    match nget s.fwd.subs id with
    | some e => s.keyRequest e.source
    | none => s
  if pt = 205 ∧ fmt = 1 then matched s (beField b 8 4) fun id => (nackList (b.drop 12)).foldl (fun s o => s.retransmit id o) s
  else if pt = 206 ∧ fmt = 1 then matched s (beField b 8 4) (key s)
  else if pt = 206 ∧ fmt = 4 then
    (List.range ((b.length - 12) / 8)).foldl (fun s k => matched s (beField b (12 + 8 * k) 4) (key s)) s
  else s

/-- Read a compound packet by packet; `fuel` bounds their number. -/
def State.readCompound : Nat → State → Nat → Bytes → State
  | 0, s, _, _ => s
  | n + 1, s, leg, b =>
    let k := 4 * (beField b 2 2 + 1)
    if b.length < 4 ∨ b.length < k then s
    else State.readCompound n (s.onFeedback leg (b.take k)) leg (b.drop k)

/-! ### Objects (R211, R213, R221, R225, R227) -/

/-- A subscription is created (R211), with the key request of R224. -/
def State.subCreate (s : State) (id : Nat) : State :=
  let src := srcKey (s.attr tySub id 0x101 0) (s.attr tySub id 0x102 0)
  let layered := decide (s.srcSyntax src ≠ 0)
  let e : Sub := {
    tgtS := s.attr tySub id 0x104 2, tgtT := s.attr tySub id 0x105 2, pend := if layered then 2 else 1, source := src
    lastOut := BitVec.ofNat 16 (s.attr tySub id 0x106 0), tsOffset := BitVec.ofNat 32 (s.attr tySub id 0x107 0)
    rocOut := BitVec.ofNat 32 (s.attr tySub id 0x108 0), pendSince := BitVec.ofNat 32 s.us }
  let s1 := (s.setSub id e).list src id 2
  if layered then s1.keyRequest src else s1

/-- New targets of a subscription (R221, R224). -/
def State.subTarget (s : State) (id ts tt : Nat) : State :=
  match nget s.fwd.subs id with
  | none => s
  | some e0 =>
    let e : Sub := { e0 with tgtS := ts, tgtT := tt }
    let tg := s.targets (s.subLeg id) e
    if e.pend = 3 then s.setSub id e
    else if e.atTarget tg then s.setSub id { e with pend := 0 }
    else
      let e1 : Sub := if e.pend = 0 then { e with pend := 1, pendSince := BitVec.ofNat 32 s.us } else e
      if e1.pend = 1 ∧ keyOnly e1 tg (s.srcSyntax e1.source) (s.fwdStream e1.source).av1 = true then
        (s.setSub id { e1 with pend := 2 }).keyRequest e1.source
      else s.setSub id e1

/-- A new source of a subscription (R225). -/
def State.subSource (s : State) (id src : Nat) : State :=
  match nget s.fwd.subs id with
  | none => s
  | some e =>
    if e.started = false then ((s.unlist e.source id).setSub id { e with source := src }).list src id (segOf e)
    else
      let s1 := if e.pend = 3 then s.unlist e.newSource id else s
      if src = e.source then
        let tg := s.targets (s.subLeg id) e
        if e.pend = 3 then
          s1.setSub id { e with
            newSource := 0, pend := if e.atTarget tg then 0 else 1
            pendSince := if e.atTarget tg then e.pendSince else BitVec.ofNat 32 s.us }
        else s
      else
        let e1 : Sub := { e with
          newSource := src, pend := 3, pendSince := if e.pend = 0 then BitVec.ofNat 32 s.us else e.pendSince }
        ((s1.setSub id e1).list src id (segOf e)).keyRequest src

/-- A subscription is deleted: VALID is cleared at once, and its fence with it. -/
def State.subDelete (s : State) (id : Nat) : State :=
  match nget s.fwd.subs id with
  | none => s
  | some e =>
    let s1 := (s.unlist e.source id).unlist e.newSource id
    { s1 with fwd := { s1.fwd with subs := ndel s1.fwd.subs id, cache := s1.fwd.cache.filter (· ≠ id) } }

/-- What the Forwarder keeps of a stream goes with it: its cached packets are released. -/
def State.fwdForget (s : State) (src : Nat) : State :=
  let s1 := (nkeys (s.fwdStream src).ring).foldl (fun s k => s.ringDrop src k) s
  { s1 with fwd := { s1.fwd with streams := ndel s1.fwd.streams src, lists := ndel s1.fwd.lists src } }

/-! ### Register writes -/

/-- A write of FWD_RTX_CFG: 0 packets are refused. -/
def State.writeRtxCfg (s : State) (v : W32) : Res State := do
  refuseIf (decide (fld v 0 24 = 0)) stBadValue
  .ok (s.storeRw .fwdRtxCfg 0 0 v)

/-! ### The meanings -/

/-- A walk of the next packet of a source: a stream index, or 131,072 + an output index. -/
def execFanoutWalk (source : Fin 147456) (s : State) : Out :=
  .next (if s.blkUp 1 4 then s.flushOutbox.walkNext source else s)

/-- A subscription entry is filled from GDDR7; `ue`: it holds a double-bit error (R212). -/
def execSubCacheFill (sub : Fin 1048576) (ue : Bool) (s : State) : Out :=
  if s.fwd.cache.contains sub.val then .next s
  else
    let s1 := s.touchSub sub
    .next (if ue && nhas s1.fwd.subs sub then ((s1.fenceSub sub).cellError 1 4 0 2 sub).setErr 1 4 4 else s1)

/-- The Forwarder reads the next RTCP compound and releases it (R232). -/
def execRtcpFeedback (s : State) : Out :=
  match s.fwd.rtcp with
  | [] => .next s
  | x :: rest =>
    if s.blkUp 1 4 = false then .next s
    else
      let s1 := State.flushOutbox { s with fwd := { s.fwd with rtcp := rest } }
      let a := s1.bufAddr x.handle + x.offset
      if s1.gpoison a x.len then .next ((s1.metPoison 1 4).decRef 3 x.handle (.stream x.stream))
      else
        let b := s1.gread a x.len
        .next ((State.readCompound b.length s1 x.leg b).decRef 3 x.handle (.stream x.stream))

/-- The oldest packet of a stream's ring leaves it (R233). -/
def execRtxAge (stream : Fin 131072) (s : State) : Out :=
  let ring := (s.fwdStream stream).ring
  match ring with
  | [] => .next s
  | e :: r =>
    let old := r.foldl (fun b x => if x.2.at_ < b.2.at_ then x else b) e
    .next ((s.reach (old.2.at_ + 1000000000)).ringDrop stream old.1)

def execFwdCntClr (s : State) : Out :=
  .next (s.answerWith (if s.blkUp 1 4 then .ok (s.cclear .fwdCnt 0 0 11) else .error stUnavailable))

end Sys2Proof.Machine
end

