-- ==== Sys2Proof/Machine/Audio.lean ====
section
/-!
DEFINITION. The audio fabric (chapter Talker Selection, Mixing and Audio Routing, R300 to R326) and the audio between
devices (R433 to R437): jitter buffer, talker selection, ticks, mixing, variants, meters.
-/

namespace Sys2Proof.Machine

/-! ### Inputs and conferences -/

def State.audIn (s : State) (st : Nat) : AudIn := ngetD {} s.afb.ins st
def State.setAudIn (s : State) (st : Nat) (x : AudIn) : State :=
  { s with afb := { s.afb with ins := nputD {} s.afb.ins st x } }
def State.audConf (s : State) (c : Nat) : AudConf := ngetD {} s.afb.confs c
def State.setAudConf (s : State) (c : Nat) (x : AudConf) : State :=
  { s with afb := { s.afb with confs := nputD {} s.afb.confs c x } }
def State.audOut (s : State) (o : Nat) : AudOut := ngetD {} s.afb.outs o
def State.setAudOut (s : State) (o : Nat) (x : AudOut) : State :=
  { s with afb := { s.afb with outs := nputD {} s.afb.outs o x } }

/-- This device (R421). -/
def State.device (s : State) : Nat := s.rfld .curCasCfg 0 0 0 10

/-- The low 16 bits of an SSRC-keyed stream on a peer leg: what it carries there (R423). -/
def State.peerSsrc (s : State) (st : Nat) : Option Nat :=
  if (s.peer? (s.streamLeg st)).isSome ∧ s.media st = 0 then some (s.attr tyStream st 0x102 0) else none

/-- The lane of a candidate stream of a peer leg. -/
def State.laneOf (s : State) (st : Nat) : Option Nat :=
  (s.peerSsrc st).bind fun x => if 0x8000 ≤ x ∧ x < 0x8040 then some (x - 0x8000) else none

/-- The variant of a return stream of a peer leg. -/
def State.returnOf (s : State) (st : Nat) : Option Nat :=
  (s.peerSsrc st).bind fun x => if 0x9000 ≤ x ∧ x < 0x9009 then some (x - 0x9000) else none

/-- A conference's MODE (1 crosspoint) and MAX_ACTIVE. -/
def State.crosspoint (s : State) (c : Nat) : Bool := decide (s.attr tyConf c 0x600 0 = 1)
def State.maxActive (s : State) (c : Nat) : Nat := s.attr tyConf c 0x601 4
def State.absent (s : State) (st : Nat) : Bool := decide (s.attr tyStream st 0x602 0 = 1)

/-- A peer is UP with audio exchange (R429, R430). -/
def State.peerAudio (s : State) (d : Nat) : Bool :=
  decide (s.rfld .curCasPeer 0 d 0 3 = 2) && decide (s.rfld .curCasPeer 0 d 3 1 = 1)

/-- The effective home of a conference (R433). -/
def State.homeOf (s : State) (c : Nat) : Nat :=
  let own := s.device
  let h := s.attr tyConf c 0xA01 own
  let b := s.attr tyConf c 0xA02 0xFFFF
  if h = own ∨ s.peerAudio h = true then h
  else if b ≠ 0xFFFF ∧ (b = own ∨ s.peerAudio b = true) then b
  else own

/-- The streams with MEDIA 0 of a conference. -/
def State.audioStreams (s : State) (c : Nat) : List Nat :=
  (s.idsOf tyStream).filter fun st => decide (s.media st = 0) && decide (s.streamConf st = c)

/-- The inputs of a conference (R300, R321, R434): its local streams, with an XP_IN in crosspoint mode, and at the home
the lane streams. -/
def State.inputsOf (s : State) (c : Nat) (home : Bool) : List Nat :=
  (s.audioStreams c).filter fun st =>
    match s.peerSsrc st with
    | none => !s.crosspoint c || decide (s.attr tyStream st 0x605 255 ≤ 127)
    | some _ => home && (s.laneOf st).isSome

/-- The audio outputs of a conference. -/
def State.audioOutputs (s : State) (c : Nat) : List Nat :=
  (s.idsOf tyOutput).filter fun o => decide (s.attr tyOutput o 0x600 0 = 0) && decide (s.attr tyOutput o 0x60A 0 = c)

/-! ### The jitter buffer (R301, R302) -/

/-- The frames of an Opus packet and their length in samples at 48 kHz, by its TOC (RFC 6716). -/
def opusSamples (b : Bytes) : Nat :=
  let k := byteN b 0 / 8
  let per := if k < 12 then [480, 960, 1920, 2880].getD (k % 4) 0
    else if k < 16 then [480, 960].getD (k % 2) 0 else [120, 240, 480, 960].getD (k % 4) 0
  let n := [1, 2, 2, byteN b 1 % 64].getD (byteN b 0 % 4) 0
  per * n

/-- A packet's duration in ticks, none where the table of R302 does not take it. -/
def audDuration (codec : Nat) (b : Bytes) : Option Nat :=
  if codec = 0 then
    let n := opusSamples b
    if b ≠ [] ∧ (n = 480 ∨ n = 960 ∨ n = 1920 ∨ n = 2880) then some (n / 480) else none
  else if b.length % 80 = 0 ∧ 0 < b.length ∧ b.length ≤ 480 then some (b.length / 80) else none

/-- Take the descriptors that the fabric has released from the head of a stream's internal queue (R30); `fuel` bounds
their number. -/
def State.popReleased : Nat → State → Nat → State
  | 0, s, _ => s
  | n + 1, s, st =>
    match (s.audIn st).taken with
    | (h, true) :: r =>
      let s1 := s.setAudIn st { s.audIn st with taken := r }
      if ((s.queue (streamQueue st)).first.map (·.handle)) = some h then
        match s1.dequeue (streamQueue st) with
        | some (_, s2) => State.popReleased n s2 st
        | none => State.popReleased n s1 st
      else State.popReleased n s1 st
    | _ => s

/-- Mark the first descriptor of a handle as released. -/
def markReleased (h : W32) : List (W32 × Bool) → List (W32 × Bool)
  | [] => []
  | (a, d) :: r => if a = h ∧ d = false then (a, true) :: r else (a, d) :: markReleased h r

/-- The fabric releases its own reference on a packet (R30). -/
def State.audRelease (s : State) (st : Nat) (h : W32) : State :=
  let s1 := s.setAudIn st { s.audIn st with taken := markReleased h (s.audIn st).taken }
  (State.popReleased (s1.audIn st).taken.length s1 st).decRef 5 h (.stream st)

/-- A packet counted as late or overlapping (R302). -/
def State.audLate (s : State) (st : Nat) : State := (s.sinc tyStream st 0x604).cinc .afbCnt 0 9

/-- A MIX of a device that is not the effective home, unless it is for a tick before a change of home (R435, R437). -/
def State.strayMix (s : State) (st : Nat) (seq : Nat) : Bool :=
  let l := s.streamLeg st
  let x := s.audConf (s.legConf l)
  match s.returnOf st, s.peer? l with
  | some _, some d =>
    decide (d ≠ x.home.getD (s.homeOf (s.legConf l))) &&
      !(decide (x.oldHome = some d) && decide ((x.changedAt + 65535 - seq) % 65536 < 32768))
  | _, _ => false

/-- The rows of R302 for a packet whose duration is known: `ts` its timestamp, `arr` the tick it arrived in. -/
def State.audMap (s : State) (st : Nat) (p : AudPkt) (ts : W32) (arr : Nat) : State :=
  let x := s.audIn st
  let codec := if (s.peerSsrc st).isSome then 0 else s.attr tyStream st 0x600 0
  let tpt : Int := if codec = 0 then 480 else 80
  let fresh : W32 × Nat := (ts, arr + s.attr tyStream st 0x601 2)
  let again := x.resync && x.anchor.isSome
  let anchor := if x.resync then fresh else x.anchor.getD fresh
  let firstOf (a : W32 × Nat) : Int := (a.2 : Int) + (sgn 32 (ts - a.1).toNat) / tpt
  let next := s.afb.last.elim 0 (· + 1)
  let odd (z : Int) : Bool := decide (z < (next : Int)) || decide (((s.t / 10000000 + 16 : Nat) : Int) < z)
  let streak := if odd (firstOf anchor) then x.streak + 1 else 0
  let third := decide (3 ≤ streak)
  let a := if third then fresh else anchor
  let first := firstOf a
  let s1 := s.setAudIn st { x with anchor := some a, resync := false, streak := if third then 0 else streak }
  let s2 := if third || again then s1.sinc tyStream st 0x605 else s1
  if first < 0 ∨ first + p.dur ≤ next then (s2.audLate st).audRelease st p.handle
  else
    let ticks := ((List.range p.dur).map (· + first.toNat)).filter fun k => decide (next ≤ k)
    let held := ((s2.audIn st).pkts.flatMap (·.claims))
    let claims := ticks.filter fun k => !held.contains k
    let s3 := if ticks.length < p.dur then s2.audLate st else s2
    let s4 := if claims.length < ticks.length then s3.audLate st else s3
    if claims = [] then s4.audRelease st p.handle
    else
      let y := s4.audIn st
      s4.setAudIn st { y with pkts := y.pkts ++ [{ p with first := first.toNat, claims := claims }] }

/-- The fabric looks at the next packet of a stream's internal queue (R300 to R302, R434, R435). -/
def State.jitterAccept (s : State) (st : Nat) : State :=
  let q := s.queue (streamQueue st)
  match q.all[(s.audIn st).taken.length]? with
  | none => s
  | some d =>
    if d.complete = false then s
    else
      let s1 := s.setAudIn st { s.audIn st with taken := (s.audIn st).taken ++ [(d.handle, false)] }
      let a := s1.bufAddr d.handle + d.offset
      if d.poison || s1.gpoison a d.len then (s1.metPoison 2 2).audRelease st d.handle
      else
        let b := s1.gread a d.len
        let h := rtpHeaderLen b
        let n := d.len - h - (if byteN b 0 / 32 % 2 = 1 then byteN b (d.len - 1) else 0)
        let peer := (s1.peerSsrc st).isSome
        if s1.strayMix st (beField b 2 2) then (s1.cinc .curCasCnt 0 3).audRelease st d.handle
        else
          match (if peer then some 1 else audDuration (s1.attr tyStream st 0x600 0) (slice b h n)) with
          | none => ((s1.sinc tyStream st 0x607).cinc .afbCnt 0 9).audRelease st d.handle
          | some dur =>
            let p : AudPkt := ⟨d.handle, d.offset + h, n, 0, dur, [], if d.info < 256 then some d.info else none,
              d.tbh.elim 0 (·.2.2)⟩
            s1.audMap st p (BitVec.ofNat 32 (beField b 4 4)) (d.stamp / 10000000)

/-! ### Levels (R303) and speech (R310) -/

/-- The packet of a stream that covers a tick and has claimed it. -/
def AudIn.covering (x : AudIn) (k : Nat) : Option AudPkt := x.pkts.find? fun p => p.claims.contains k

/-- Level in 0.1 dBov and V of an input in a tick (R303), the ABSENT input's from the meter of the tick before. -/
def State.levelAt (s : State) (st k : Nat) : Int × Bool :=
  let x := s.audIn st
  let recs := (x.pkts.filter fun p => decide (p.first ≤ k) && decide (k < p.first + p.dur)).filterMap (·.level)
  if recs = [] then (if s.absent st then (x.rms, true) else (-1270, false))
  else (-10 * (((recs.map (· % 128)).foldl min 127 : Nat) : Int), recs.any (128 ≤ ·))

/-- Speech in a tick (R310). -/
def State.speech (s : State) (c : Nat) (lv : Int × Bool) : Bool :=
  decide (10 * s.attrI tyConf c 0x602 8 (-40) ≤ lv.1) && (decide (s.attr tyConf c 0x603 1 = 0) || lv.2)

/-- The level of an input as a header extension carries it: V · 128 − level. The whole decibels of a metered level are
not given a rounding (free value, log 40). -/
def State.levelByte (s : State) (lv : Int × Bool) : Nat × State :=
  let n := (-lv.1).toNat
  let k := s.draw 1
  if n % 10 = 0 then (n / 10 + 128 * b2n lv.2, s) else (min 127 (n / 10 + k.1) + 128 * b2n lv.2, k.2)

/-! ### Talker selection (R311) -/

/-- Set an input's state and hang. -/
def State.setPhaseOf (s : State) (st phase hang : Nat) : State :=
  s.setAudIn st { s.audIn st with phase := phase, hang := hang }

/-- The occupants with their slots, lowest slot first. -/
def AudConf.occupants (x : AudConf) : List (Nat × Nat) := (indexed x.slots).filterMap fun e => e.2.map fun st => (e.1, st)

/-- The lowest free slot. -/
def AudConf.freeSlot (x : AudConf) : Option Nat := (indexed x.slots).findSome? fun e => if e.2.isNone then some e.1 else none

/-- The entry of an input in a slot table (R435). -/
def State.slotEntry (s : State) (st : Nat) : Nat :=
  match s.peer? (s.streamLeg st) with
  | some d => d * 4194304 + (s.audIn st).origin.getD 0 % 131072
  | none => s.device * 4194304 + st

/-- Step 1 of R311: occupants. -/
def State.selOccupants (s : State) (c : Nat) (lv : Nat → Int × Bool) : State :=
  let s1 := (s.audConf c).occupants.foldl (fun s e =>
    if s.speech c (lv e.2) then s.setPhaseOf e.2 2 0 else s.setPhaseOf e.2 3 ((s.audIn e.2).hang + 1)) s
  ((s1.audConf c).occupants.filter fun e => decide ((s1.audIn e.2).hang = 21)).foldl (fun (a : State × Bool) e =>
    if a.2 then (a.1.setPhaseOf e.2 3 20, true)
    else
      let x := a.1.audConf c
      ((a.1.setPhaseOf e.2 4 21).setAudConf c { x with
        slots := lset x.slots e.1 none, leaving := x.leaving ++ [(e.1, e.2, a.1.slotEntry e.2)] }, true)) (s1, false) |>.1

/-- Step 2 of R311: the pending place. -/
def State.selPending (s : State) (c : Nat) (ins : List Nat) (lv : Nat → Int × Bool) : State :=
  let x := s.audConf c
  let s1 := match x.pending with
    | some (p, _, _) => if s.speech c (lv p) then s else (s.setPhaseOf p 0 0).setAudConf c { x with pending := none }
    | none => s
  let cand := ins.filter fun i => decide ((s1.audIn i).phase = 0) && s1.speech c (lv i)
  let best := cand.foldl (fun (b : Option Nat) i =>
    match b with
    | some j => if (lv j).1 < (lv i).1 then some i else b
    | none => some i) none
  match best with
  | none => s1
  | some i =>
    let y := s1.audConf c
    let take (s : State) : State := (s.setPhaseOf i 1 0).setAudConf c { s.audConf c with pending := some (i, 0, 0) }
    match y.pending with
    | none => take s1
    | some (p, _, _) =>
      if (lv p).1 < (lv i).1 then take (((s1.setPhaseOf p 0 0).cinc .afbCnt 0 8).sinc tyConf c 0x602) else s1

/-- The weakest occupant with its slot (R311), none while a slot is free. -/
def State.weakest (s : State) (c : Nat) (lv : Nat → Int × Bool) : Option (Nat × Nat) :=
  let x := s.audConf c
  if x.freeSlot.isSome then none
  else
    let hang := x.occupants.filter fun e => decide ((s.audIn e.2).phase = 3)
    if hang ≠ [] then
      hang.foldl (fun (b : Option (Nat × Nat)) e =>
        match b with
        | some w => if (s.audIn e.2).hang < (s.audIn w.2).hang then b else some e
        | none => some e) none
    else
      x.occupants.foldl (fun (b : Option (Nat × Nat)) e =>
        match b with
        | some w => if (lv w.2).1 < (lv e.2).1 then b else some e
        | none => some e) none

/-- The pending input enters a slot. -/
def State.enterSlot (s : State) (c p slot : Nat) : State :=
  let x := s.audConf c
  (((s.setPhaseOf p 2 0).setAudConf c { x with slots := lset x.slots slot (some p), pending := none }).cinc .afbCnt 0 6).sinc
    tyConf c 0x600

/-- Step 3 of R311: entry and barge-in. -/
def State.selEntry (s : State) (c : Nat) (lv : Nat → Int × Bool) : State :=
  let x := s.audConf c
  match x.pending with
  | none => s
  | some (p, count, bc) =>
    let w := s.weakest c lv
    let bc' := match w with
      | some e => if (lv e.2).1 + 60 ≤ (lv p).1 then bc + 1 else 0
      | none => 0
    let s1 := s.setAudConf c { x with pending := some (p, count + 1, bc') }
    if count + 1 < 2 then s1
    else
      match x.freeSlot, w with
      | some k, _ => s1.enterSlot c p k
      | none, some e =>
        if 4 ≤ bc' then
          let s2 := (s1.setPhaseOf e.2 4 0).setAudConf c { s1.audConf c with
            leaving := x.leaving ++ [(e.1, e.2, s1.slotEntry e.2)] }
          ((s2.enterSlot c p e.1).cinc .afbCnt 0 7).sinc tyConf c 0x601
        else s1
      | none, none => s1

/-- Before the steps: the input that left in the tick before is IDLE; an input that is one no longer holds nothing. -/
def State.selStart (s : State) (c : Nat) (ins : List Nat) : State :=
  let x := s.audConf c
  let s1 := x.leaving.foldl (fun s e => if (s.audIn e.2.1).phase = 4 then s.setPhaseOf e.2.1 0 0 else s) s
  let slots := (x.slots ++ List.replicate (s.maxActive c - x.slots.length) none).map fun (o : Option Nat) => o.filter ins.contains
  let s2 := (x.slots.filterMap id).foldl (fun s st => if ins.contains st then s else s.setPhaseOf st 0 0) s1
  s2.setAudConf c { x with slots := slots, leaving := [], pending := x.pending.filter fun p => ins.contains p.1 }

/-- A lane whose candidate has another ORIGIN than before starts a new input: the one before leaves (R434). -/
def State.selLane (s : State) (c k : Nat) (st : Nat) : State :=
  if (s.laneOf st).isNone then s
  else
    match (s.audIn st).covering k with
    | none => s
    | some p =>
      let x := s.audIn st
      if x.origin = none ∨ x.origin = some p.origin then s.setAudIn st { x with origin := some p.origin }
      else
        let y := s.audConf c
        let out := y.occupants.filter fun e => decide (e.2 = st)
        let y1 : AudConf := { y with
          slots := y.slots.map fun o => if o = some st then none else o
          leaving := y.leaving ++ out.map fun e => (e.1, st, s.slotEntry st)
          pending := y.pending.filter fun q => decide (q.1 ≠ st) }
        (s.setAudConf c y1).setAudIn st { x with origin := some p.origin, phase := 0, hang := 0, cand := none }

/-- The effective home of a conference for a tick (R433, R437); a device that becomes the home starts with empty slots. -/
def State.selHome (s : State) (c k : Nat) : State :=
  let x := s.audConf c
  let h := s.homeOf c
  if x.home = some h then s
  else if x.home = none then s.setAudConf c { x with home := some h }
  else
    let s1 := (s.setAudConf c { x with home := some h, oldHome := x.home, changedAt := k }).cinc .curCasCnt 0 7
    if h = s.device then
      let held := x.slots.filterMap id ++ (x.pending.map (·.1)).toList
      (held.foldl (fun s st => s.setPhaseOf st 0 0) s1).setAudConf c { s1.audConf c with
        slots := List.replicate (s.maxActive c) none, pending := none }
    else s1

/-! ### Work within a tick (R313 to R316) -/

/-- The tag word of a conference and tick (R316). -/
def tagWord (c k : Nat) : Nat :=
  let v := c % 4096 + k % 65536 * 4096
  v + 2147483648 * (((List.range 28).map fun i => v / 2 ^ i % 2).sum % 2)

/-- Peak hold (R323): 200 ticks, then 0.2 dB a tick. -/
def peakStep (rms peak : Int) (age : Nat) : Int × Nat :=
  let p := if age < 200 then peak else max (-1270) (peak - 2)
  if p ≤ rms then (rms, 0) else (p, age + 1)

/-- The meter of a signal (R323); the rounding to 0.1 dB is not given (free value, log 40). -/
def State.meterOf (s : State) (xs : List Int) : Int × State :=
  let r := rmsFloor (energy xs)
  let k := s.draw 1
  if r.2 then (r.1, s) else (r.1 + k.1, k.2)

/-- An input's meter takes a tick's value. -/
def State.meterIn (s : State) (st : Nat) (rms : Int) : State :=
  let x := s.audIn st
  let p := peakStep rms x.peak x.peakAge
  s.setAudIn st { x with rms := rms, peak := p.1, peakAge := p.2 }

/-- The gains of a tick (R306, R309): the gain of the tick before and the one its attribute gives now. -/
def State.gainIn (s : State) (st : Nat) : State :=
  let x := s.audIn st
  let g := gainOf (s.attrI tyStream st 0x604 16 0)
  s.setAudIn st { x with gain := some (if x.gain = none then g else x.gainNew), gainNew := g }

def State.gainOut (s : State) (o : Nat) : State :=
  let x := s.audOut o
  let g := gainOf (s.attrI tyOutput o 0x606 16 0)
  s.setAudOut o { x with
    gain := some (if x.gain = none then g else x.gainNew), gainNew := g, limit := s.attrI tyOutput o 0x609 8 (-1)
    pt := s.attr tyOutput o 0x608 111 }

/-! ### Buffers (R188, R313): the fabric's tasks -/

/-- A frame of a tick has its buffer and its item, if the tick is still open; else the buffer is one whose decode missed
its mix point (R317). -/
def State.giveFrame (s : State) (c k st : Nat) (h : W32) : State :=
  let x := s.audConf c
  let mine (f : AudFrame) : Bool := decide (f.stream = st) && f.handle.isNone
  if x.tick = some k ∧ x.frames.any mine = true then
    s.setAudConf c { x with frames := x.frames.map fun f => if mine f then { f with handle := some h } else f }
  else { s with afb := { s.afb with late := s.afb.late ++ [(st, k, h)] } }

/-- A task has its buffer. -/
def State.taskGranted (s : State) (h : W32) : AudTask → State
  | .decode c k st _ p =>
    (((s.gwrite (s.bufAddr h) (leBytes 4 (tagWord c k))).giveFrame c k st h).cinc .afbCnt 0 1).hwPost 2 5 (some st) none
      (p.take 8 ++ leBytes 4 h.toNat ++ p.drop 12)
  | .encode c k _ carrier p pcm =>
    let s1 := s.gwrite (s.bufAddr h) (leBytes 4 (tagWord c k))
    let s2 := (indexed pcm).foldl (fun s e => s.gwrite (s.bufAddr h + 64 + 1920 * e.1) (bytes32 e.2)) s1
    (s2.cinc .afbCnt 0 2).hwPost 3 5 (some carrier) none (p.take 10 ++ leBytes 4 h.toNat ++ p.drop 14)
  | .datagram l c k type origin cells =>
    let s2 := (s.gwrite (s.bufAddr h) cells).request (.hw 5) 2 h 24
    s2.submitCopy ⟨l, 0, { handle := h, len := cells.length, conf := c, cells := cells, tbh := some (type, false, origin) },
      false, k / 65536⟩

/-- The size of a task's buffer, and the flow of its item. -/
def AudTask.size : AudTask → Nat
  | .decode .. => 2048
  | .encode _ _ _ _ _ pcm => 64 + 1920 * pcm.length
  | .datagram _ _ _ _ _ cells => cells.length
def AudTask.flow : AudTask → ItemFlow
  | .decode _ _ st _ _ => .flow st
  | .encode _ _ _ carrier _ _ => .flow carrier
  | .datagram .. => .untied

/-- The packet reference that a task holds goes back. -/
def State.taskOver (s : State) (t : AudTask) : State :=
  match t with
  | .decode _ _ st (some h) _ => s.decRef 5 h (.flow st)
  | _ => s

/-- Do a task, which waits while no buffer is free (R188). -/
def State.runTask (s : State) (n : Nat) (t : AudTask) : State :=
  match s.hwAlloc 5 n t.size with
  | (.ok h, s1) => s1.taskGranted h t
  | (.error c, s1) =>
    if c = 1 then { s1 with afb := { s1.afb with works := s1.afb.works ++ [(n, t)] } }
    else (s1.taskOver t).failHw 5 t.flow

def State.startTask (s : State) (t : AudTask) : State :=
  State.runTask { s with clo := { s.clo with works := s.clo.works + 1 } } s.clo.works t

/-- Tasks that waited go on as buffers allow, in order. -/
def State.flushTasks (s : State) : State :=
  s.afb.works.foldl (fun s e => s.runTask e.1 e.2) { s with afb := { s.afb with works := [] } }

/-- Waiting tasks that meet a test are given up. -/
def State.dropTasks (s : State) (p : AudTask → Bool) : State :=
  (s.afb.works.filter fun e => p e.2).foldl (fun s e => (s.hwAllocDrop 5 e.1).taskOver e.2)
    { s with afb := { s.afb with works := s.afb.works.filter fun e => !p e.2 } }

/-- The payload of an AUDIO_DECODE item (R314), its FRAME still 0. -/
def State.decodePayload (s : State) (c k st : Nat) (pkt : Option AudPkt) (reset only : Bool) : Bytes :=
  let flags := b2n reset + 2 * b2n pkt.isNone + 4 * b2n only
  leBytes 4 st ++ leBytes 4 k ++ zeros 4 ++ leBytes 4 (pkt.elim 0xFFFFFFFF (·.handle.toNat)) ++
    leBytes 4 (pkt.elim 0 (·.off)) ++ leBytes 2 (pkt.elim 0 (·.len)) ++ [byteOf (pkt.elim 0 (k - ·.first)), byteOf flags,
      byteOf (s.attr tyStream st 0x600 0), byteOf (s.attr tyStream st 0x603 7),
      byteOf (unsgn 8 (s.attrI tyStream st 0x606 8 (-55))), byteOf (unsgn 8 (s.attrI tyStream st 0x607 8 (-20)))] ++
    leBytes 4 (tagWord c k)

/-- A candidate of a tick: a local input gets a reference on its packet and a decode item with a frame, a lane's samples
are taken as they came (R313, R314, R434). -/
def State.candidate (s : State) (c k : Nat) (lv : Nat → Int × Bool) (st : Nat) (mixed : Bool) (slot weight : Nat) : State :=
  let x := s.audIn st
  let pkt := x.covering k
  let v := s.levelByte (lv st)
  let s0 := ((v.2.setAudIn st { x with cand := some k }).sinc tyStream st 0x602).sadd tyStream st 0x603 (b2n mixed)
  let add (s : State) (data : Bytes) : State :=
    s.setAudConf c { s.audConf c with
      frames := (s.audConf c).frames ++ [⟨st, s.streamLeg st, none, data, none, mixed, slot, weight, v.1⟩] }
  if (s.laneOf st).isSome then add s0 (pkt.elim [] fun p => s0.gread (s0.bufAddr p.handle + p.off) p.len)
  else
    let s1 := pkt.elim s0 fun p => s0.incRef 5 p.handle 1 (.flow st)
    let reset := decide (k = 0) || decide (x.cand ≠ some (k - 1))
    (add s1 []).startTask (.decode c k st (pkt.map (·.handle)) (s1.decodePayload c k st pkt reset (!mixed)))

/-- The lanes of a member's candidates (R434): kept until the input returns to IDLE, a freed lane not used again in the
same tick. `sel` are the candidates that selection yields, `abs` the inputs with ABSENT 1. -/
def State.assignLanes (s : State) (c : Nat) (sel abs : List Nat) : State :=
  let x := s.audConf c
  let m := s.maxActive c + 2
  let keep := x.lanes.filter fun e => if e.1 < m then sel.contains e.2 && !abs.contains e.2 else abs.contains e.2
  let give (lo hi : Nat) (a : State × NMap Nat) (st : Nat) : State × NMap Nat :=
    if a.2.any fun e => decide (e.2 = st) then a
    else
      match (List.range (hi - lo)).find? fun i => !nhas a.2 (lo + i) && !nhas x.lanes (lo + i) with
      | some i => (a.1, nput a.2 (lo + i) st)
      | none => (a.1.cinc .curCasCnt 0 8, a.2)
  let a := (sel.filter fun st => !abs.contains st).foldl (give 0 m) (s, keep)
  let b := abs.foldl (give m 64) a
  b.1.setAudConf c { b.1.audConf c with lanes := b.2 }

/-- The holder of each slot in a tick: its occupant, else the input that leaves it, which holds it for the tick. -/
def AudConf.shown (x : AudConf) : List (Option Nat) :=
  (indexed x.slots).map fun e => e.2.or ((x.leaving.find? fun l => decide (l.1 = e.1)).map (·.2.1))

/-- The slots of a tick as AUDIO_TICK gives them. -/
def AudConf.tickSlots (x : AudConf) : Bytes := x.shown.flatMap fun o => leBytes 4 (o.getD 0xFFFFFFFF)

/-- A tick's slot holders are kept for the Compositor's frames that fall due in it, those that already wait among them
(R363). -/
def State.keepShown (s : State) (c k : Nat) : State :=
  let x := s.audConf c
  let wait (d : DueFrame) : DueFrame :=
    if d.due / 10000000 = k ∧ s.attr tyOutput d.output 0x60A 0 = c then { d with slots := x.shown } else d
  { s.setAudConf c { x with past := (k, x.shown) :: x.past.take 1 } with
    cmp := { s.cmp with due := nmapV (fun _ l => l.map wait) s.cmp.due } }

/-- What a crosspoint's inputs and outputs are in a tick (R309, R321): a route that ends ramps to 0 over one more tick. -/
def State.latchRoutes (s : State) (c : Nat) (ins : List Nat) : State :=
  let x := s.audConf c
  let outs := s.audioOutputs c
  let routes (ids : List Nat) (f : Nat → Nat) : NMap Nat :=
    ids.foldl (fun m i => if f i ≤ 127 then nput m i (f i) else m) []
  s.setAudConf c { x with
    outs := outs
    xpOld := x.xpNew, xpNew := x.xp
    xinOld := x.xin, xin := if s.crosspoint c then routes ins fun i => s.attr tyStream i 0x605 255 else []
    xoutOld := x.xout, xout := if s.crosspoint c then routes outs fun o => s.attr tyOutput o 0x607 255 else [] }

/-- Selection and posting for one conference (R311 to R314, R433, R434). -/
def State.tickConf (s : State) (k c : Nat) : State :=
  let s0 := s.selHome c k
  let home := decide ((s0.audConf c).home = some s0.device)
  let ins := s0.inputsOf c home
  let s1 := ins.foldl (fun s st => s.selLane c k st) (s0.selStart c ins)
  let lv (st : Nat) : Int × Bool := s1.levelAt st k
  let before := (s1.audConf c).occupants.map (·.2)
  let s2 := if s1.crosspoint c then s1
    else ((s1.selOccupants c lv).selPending c ins lv).selEntry c lv
  let x := s2.audConf c
  let occ := x.occupants
  let gone := x.leaving.filter fun e => decide ((s2.audIn e.2.1).phase = 4)
  let pend := (x.pending.map (·.1)).toList
  let abs := ins.filter fun st => s2.absent st && (s2.laneOf st).isNone
  let sel := occ.map (·.2) ++ gone.map (·.2.1) ++ pend
  let returned := if home then [] else (s2.audioStreams c).foldl (fun m st =>
    match s2.returnOf st, (s2.audIn st).covering k with
    | some v, some p =>
      if s2.peer? (s2.streamLeg st) = x.home ∨ nhas m v = false then
        nput m v (s2.gread (s2.bufAddr p.handle + p.off) p.len) else m
    | _, _ => m) ([] : NMap Bytes)
  let s3 := (s2.setAudConf c { x with
    tick := some k, mixAt := s2.attr tyConf c 0x605 5 * 1000000, frames := [], returned := returned }).latchRoutes c ins |>.keepShown c k
  let s4 := (s3.audioOutputs c).foldl State.gainOut (ins.foldl State.gainIn s3)
  let ending := (s4.audioStreams c).filter fun st =>
    nhas (s4.audConf c).xinOld st && !ins.contains st && (s4.peerSsrc st).isNone
  let s5 := if s4.crosspoint c then (ins ++ ending).foldl (fun s st => s.candidate c k lv st true 0 0) s4
    else
      let a := occ.foldl (fun s e => s.candidate c k lv e.2 true e.1 (if before.contains e.2 then 0 else 1)) s4
      let b := gone.foldl (fun s e => s.candidate c k lv e.2.1 true e.1 2) a
      (pend ++ abs.filter fun st => !sel.contains st).foldl (fun s st => s.candidate c k lv st false 0 0) b
  let s6 := if home then s5.setAudConf c { s5.audConf c with lanes := [] } else s5.assignLanes c sel abs
  let s7 := (ins.filter fun st => decide ((s6.audIn st).cand ≠ some k)).foldl (fun s st => s.meterIn st (-1270)) s6
  let flow := s7.attr tyConf c 0x606 0xFFFFFFFF
  if flow = 0xFFFFFFFF then s7
  else s7.hwPost 1 5 (some flow) none (leBytes 2 c ++ leBytes 4 k ++ (s7.audConf c).tickSlots)

/-- The fabric releases every packet whose last covered tick has been selected (R30, R313). -/
def State.audExpire (s : State) (k : Nat) : State :=
  (nkeys s.afb.ins).foldl (fun s st =>
    let x := s.audIn st
    let old := x.pkts.filter fun p => decide (p.first + p.dur ≤ k + 1)
    old.foldl (fun s p => s.audRelease st p.handle)
      (s.setAudIn st { x with pkts := x.pkts.filter fun p => decide (k + 1 < p.first + p.dur) })) s

/-! ### Mixing (R306 to R309, R316, R321) -/

/-- A decode has missed its mix point (R317). -/
def State.decodeLate (s : State) (st : Nat) : State :=
  ((s.flag .afbErr 0 0 0).sinc tyStream st 0x606).cinc .afbCnt 0 3

/-- The conditioned samples of a frame, silence where R316, R317 or R13 say so; its buffer is released, unless its decode
is still running. A decode that has no buffer yet, or whose item was discarded, has not completed. Also whether the
samples are the input's own. -/
def State.frameSamples (s : State) (c k at_ : Nat) (f : AudFrame) : (List Int × Bool) × State :=
  match f.handle with
  | none =>
    if f.data ≠ [] then ((samples24 f.data, true), s)
    else if (s.peer? f.leg).isSome then ((noSound, true), s)
    else ((noSound, false), s.decodeLate f.stream)
  | some h =>
    let inTime := match f.done with
      | some d => decide (d ≤ at_)
      | none => false
    if inTime = false then
      let s1 := s.decodeLate f.stream
      match f.done with
      | some _ => ((noSound, false), s1.decRef 5 h)
      | none => ((noSound, false), { s1 with afb := { s1.afb with late := s1.afb.late ++ [(f.stream, k, h)] } })
    else
      let a := s.bufAddr h
      if s.gpoison a 1984 then ((noSound, true), (s.metPoison 2 2).decRef 5 h)
      else if s.gread a 4 = leBytes 4 (tagWord c k) ∧ s.gread (a + 4) 4 = leBytes 4 (tagWord c k) then
        ((samples32 (s.gread (a + 64) 1920), true), s.decRef 5 h)
      else
        let s1 := ((s.flag .afbErr 0 0 2).sinc tyConf c 0x603).cinc .afbCnt 0 5
        ((noSound, true), (if s1.objExists tyLeg f.leg then s1.checkerHit 4 f.leg else s1).decRef 5 h)

/-- Read every frame of a tick, with the inputs' meters. -/
def State.readFrames (s : State) (c k at_ : Nat) : List (AudFrame × List Int × Bool) × State :=
  (s.audConf c).frames.foldl (fun a f =>
    let r := a.2.frameSamples c k at_ f
    let m := r.2.meterOf r.1.1
    (a.1 ++ [(f, r.1)], m.2.meterIn f.stream m.1)) ([], s)

/-- The contribution of a frame to its slot (R306, R307, R309). -/
def State.contribution (s : State) (f : AudFrame) (xs : List Int) : List Int :=
  let x := s.audIn f.stream
  faded f.weight (gained (x.gain.getD x.gainNew) x.gainNew xs)

/-- The contributions of the slots of a native conference. -/
def State.slotSignals (s : State) (n : Nat) (fr : List (AudFrame × List Int × Bool)) : List (List Int) :=
  (List.range n).map fun i =>
    (fr.filter fun e => e.1.mixed && decide (e.1.slot = i)).foldl (fun a e => addSig a (s.contribution e.1 e.2.1)) noSound

/-- The variants of a mix (R307): the bus, then the bus minus each slot. -/
def variantsOf (slots : List (List Int)) : List (List Int) :=
  let bus := slots.foldl addSig noSound
  bus :: slots.map (subSig bus)

/-- The gain of a crosspoint from an input to an output: 0 where one of them has no place. -/
def nodeGain (xp : NMap W16) (xin xout : NMap Nat) (st o : Nat) : Int :=
  match nget xin st, nget xout o with
  | some i, some j => sgn 16 (ngetD 0 xp (128 * i + j)).toNat
  | _, _ => 0

/-- An output of the crosspoint (R321): every node's gain, and every change of a route, ramps over the tick (R309). -/
def State.xpMix (s : State) (c o : Nat) (fr : List (AudFrame × List Int × Bool)) : List Int :=
  let x := s.audConf c
  fr.foldl (fun a e =>
    addSig a (gained (nodeGain x.xpOld x.xinOld x.xoutOld e.1.stream o) (nodeGain x.xpNew x.xin x.xout e.1.stream o) e.2.1))
    noSound

/-! ### Output gain, limiter (R308) -/

/-- Limit a signal to `lim`: the signal of 48 samples ago under the limiter's gain. A reduced sample is rounded one way or
the other, which is not given (free values, log 41). Answers the samples, the limiter and whether it reduced. -/
def State.limitSig (s : State) (l : Limiter) (lim : Nat) (xs : List Int) : (List Int × Limiter × Bool) × State :=
  let all := l.line ++ xs
  let line := xs.drop 432
  if l.gain = limUnity ∧ all.all (fun x => decide (x.natAbs ≤ lim)) = true then
    (((all.take 480).map clamp24, ⟨line, limUnity⟩, false), s)
  else
    let a := s.draw 480
    let run := limRun lim 480 l.gain all
    let ys := (indexed run).map fun e =>
      if e.2.2 = limUnity then e.2.1
      else max (-(lim : Int)) (min lim (e.2.1 * e.2.2 / limUnity + (a.1 / 2 ^ e.1 % 2 : Nat)))
    ((ys.map clamp24, ⟨line, (run.getLast?.map (·.2)).getD limUnity⟩, run.any fun e => decide (e.2 < limUnity)), a.2)

/-- Stage 9 of an output's variants (R304, R306, R308): the finished samples of each, and whether a limiter reduced. -/
def State.finish (s : State) (o : Nat) (vs : List (List Int)) : (List (List Int) × Bool) × State :=
  (indexed vs).foldl (fun a e =>
    let x := a.2.audOut o
    let r := a.2.limitSig (ngetD {} x.lims e.1) (limitOf x.limit) (gained (x.gain.getD x.gainNew) x.gainNew e.2)
    ((a.1.1 ++ [r.1.1], a.1.2 || r.1.2.2), r.2.setAudOut o { x with lims := nputD {} x.lims e.1 r.1.2.1 })) (([], false), s)

/-- The meter and the limiter count of an output (R323, R325). -/
def State.meterOut (s : State) (o : Nat) (r : List (List Int) × Bool) : State :=
  let m := s.meterOf (r.1.headD noSound)
  let x := m.2.audOut o
  let p := peakStep m.1 x.peak x.peakAge
  (m.2.setAudOut o { x with rms := m.1, peak := p.1, peakAge := p.2 }).sadd tyOutput o 0x602 (b2n r.2)

/-- The payload of an AUDIO_ENCODE item (R315), its PCM still 0. -/
def State.encodePayload (s : State) (c k o variants : Nat) (phase : Nat) (seq first : Nat) : Bytes :=
  let rate := if s.attr tyOutput o 0x602 0 = 0 then 480 else 80
  leBytes 2 o ++ leBytes 2 c ++ leBytes 4 k ++ [byteOf variants, byteOf phase] ++ zeros 4 ++ leBytes 2 seq ++
    leBytes 4 (first * rate) ++ [byteOf (s.audOut o).pt] ++ leBytes 4 (tagWord c k)

/-- One output of a tick (R313 row 4, R315, R318): PCM buffer, encode item, the slot table for the Forwarder. -/
def State.encodeOut (s : State) (c k o : Nat) (table : List (List Nat)) (vs : List (List Int)) : State :=
  let r := s.finish o vs
  let s1 := r.2.meterOut o r.1
  let x := s1.audOut o
  let whole := decide (s1.attr tyOutput o 0x605 20 = 10) || decide (k % 2 = 1)
  let first := if s1.attr tyOutput o 0x605 20 = 10 ∨ k % 2 = 0 then k else x.first.getD k
  let seq := x.seq % 65536
  let tabs := ngetD [] s1.fwd.slotTabs o
  let s2 : State := if first = k then
      { s1 with fwd := { s1.fwd with slotTabs := nput s1.fwd.slotTabs o ((seq, table) :: tabs.filter fun e => decide (e.1 ≠ seq)) } }
    else s1
  let s3 := s2.setAudOut o (if whole then { x with seq := x.seq + 1, first := none } else { x with first := some first })
  s3.startTask (.encode c k o (s3.attr tyOutput o 0x601 0) (s3.encodePayload c k o vs.length (b2n whole) seq first) r.1.1)

/-! ### Audio between devices (R434, R435) -/

/-- The peer legs of a conference whose device takes audio, with the device. -/
def State.audioPeers (s : State) (c : Nat) : List (Nat × Nat) :=
  (s.idsOf tyLeg).filterMap fun l =>
    match s.peer? l with
    | some d => if s.legConf l = c ∧ s.peerAudio d = true then some (l, d) else none
    | none => none

/-- Send one audio datagram on a peer leg: SSRC, payload type, extension and payload; the buffer that its descriptor
names is shared with the Forwarder and the traffic manager (log 42), and waited for while none is free (R188). -/
def State.sendAudio (s : State) (l c k type origin ssrc pt : Nat) (ext body : Bytes) : State :=
  let head := [byteOf (if ext = [] then 0x80 else 0x90), byteOf pt] ++ beBytes 2 k ++ beBytes 4 (k * 480) ++ beBytes 4 ssrc
  s.startTask (.datagram l c k type origin (head ++ ext ++ body))

/-- A member sends one CAND per candidate with a lane (R434). -/
def State.sendCands (s : State) (c k : Nat) (fr : List (AudFrame × List Int × Bool)) : State :=
  match (s.audioPeers c).find? fun e => decide ((s.audConf c).home = some e.2) with
  | none => s
  | some (l, _) =>
    fr.foldl (fun s e =>
      match (s.audConf c).lanes.find? fun n => decide (n.2 = e.1.stream) with
      | none => s
      | some n =>
        if e.2.2 = false then s
        else
          let x := s.audIn e.1.stream
          let y := gained (x.gain.getD x.gainNew) x.gainNew e.2.1
          s.sendAudio l c k 3 e.1.stream (0x8000 + n.1) 126 [0xBE, 0xDE, 0, 1, 0x10, byteOf e.1.level, 0, 0] (bytes24 y)) s

/-- The slot table of a MIX (R435): for each of eight slots the occupant, then the leaving input. -/
def State.mixTable (s : State) (c : Nat) : Bytes :=
  let x := s.audConf c
  (List.range 8).flatMap fun i =>
    beBytes 4 (((x.slots.getD i none).map s.slotEntry).getD 0xFFFFFFFF) ++
      beBytes 4 (((x.leaving.find? fun e => decide (e.1 = i)).map (·.2.2)).getD 0xFFFFFFFF)

/-- Is an entry of a slot's pair of entries of a device. -/
def tableNames (table : Bytes) (i d : Nat) : Bool :=
  let f (k : Nat) : Bool :=
    let e := beField table (8 * i + 4 * k) 4
    decide (e ≠ 0xFFFFFFFF) && decide (e / 4194304 = d)
  f 0 || f 1

/-- The home sends variant 0, and the variant of each slot that names an input of the member (R435). -/
def State.sendMixes (s : State) (c k : Nat) (vs : List (List Int)) : State :=
  let table := s.mixTable c
  (s.audioPeers c).foldl (fun s e =>
    (indexed vs).foldl (fun s v =>
      if v.1 = 0 ∨ tableNames table (v.1 - 1) e.2 = true then
        s.sendAudio e.1 c k 4 0 (0x9000 + v.1) 125 [] (table ++ bytes24 v.2)
      else s) s) s

/-- The legs that each slot names on this device (R318, R435). -/
def State.tableLegs (s : State) (table : Bytes) (n : Nat) : List (List Nat) :=
  (List.range n).map fun i =>
    (List.range 2).filterMap fun k =>
      let e := beField table (8 * i + 4 * k) 4
      if e ≠ 0xFFFFFFFF ∧ e / 4194304 = s.device then some (s.streamLeg (e % 131072)) else none

/-- The legs that each slot of this device's own selection names (R318). -/
def State.ownLegs (s : State) (c n : Nat) : List (List Nat) :=
  let x := s.audConf c
  (List.range n).map fun i =>
    (((x.slots.getD i none).map s.streamLeg).toList) ++
      (x.leaving.filter fun e => decide (e.1 = i)).map fun e => s.streamLeg e.2.1

/-- The mix point of a conference's selected tick (R313 rows 3 and 4). -/
def State.mixConf (s : State) (c : Nat) : State :=
  match (s.audConf c).tick with
  | none => s
  | some k =>
    let n := s.maxActive c
    let at_ := k * 10000000 + (s.audConf c).mixAt
    let r := (s.reach at_).readFrames c k at_
    let outs := (r.2.audConf c).outs
    let fr := r.1
    let s2 := if r.2.crosspoint c then
        outs.foldl (fun s o => s.encodeOut c k o [] [s.xpMix c o fr]) r.2
      else if (r.2.audConf c).home = some r.2.device then
        let vs := variantsOf (r.2.slotSignals n fr)
        let table := r.2.ownLegs c n
        outs.foldl (fun s o => s.encodeOut c k o table vs) (r.2.sendMixes c k vs)
      else
        let ret := (r.2.audConf c).returned
        let vs := (List.range (n + 1)).map fun v => ((nget ret v).map fun b => samples24 (b.drop 64)).getD noSound
        let table := (ret.head?.map fun e => r.2.tableLegs e.2 n).getD []
        outs.foldl (fun s o => s.encodeOut c k o table vs) (r.2.sendCands c k fr)
    s2.setAudConf c { s2.audConf c with tick := none, frames := [], returned := [] }

/-- A tick of the fabric (R313): mixes still open come first; then selection for every conference, in ascending order,
and the release of the packets of the tick. -/
def State.audioTick (s : State) : State :=
  let k := s.afb.last.elim (cdiv s.t 10000000) (· + 1)
  let s0 := (s.idsOf tyConf).foldl State.mixConf s
  let late := decide (k * 10000000 + 1000000 < s.t)
  let s1 := s0.reach (k * 10000000)
  let s2 := ((s1.idsOf tyConf).foldl (fun s c => s.tickConf k c) s1).audExpire k
  let s3 := ({ s2 with afb := { s2.afb with last := some k } }).cinc .afbCnt 0 0
  let s4 := s3.rset .afbTick 0 0 (BitVec.ofNat 32 k)
  if late then s4.flag .afbErr 0 0 3 else s4

/-! ### Objects (R322, R325) -/

/-- What the fabric keeps of a stream goes with it: its buffered packets are released, its waiting tasks given up. -/
def State.audForget (s : State) (st : Nat) : State :=
  let s0 := s.dropTasks fun t => match t with | .decode _ _ i _ _ => decide (i = st) | _ => false
  let s1 := (s0.audIn st).pkts.foldl (fun s p => s.audRelease st p.handle) (s0.setAudIn st { s0.audIn st with pkts := [] })
  { s1 with afb := { s1.afb with ins := ndel s1.afb.ins st } }

/-- A conference goes: frames that are decoded are released, the others when they end. -/
def State.audForgetConf (s : State) (c : Nat) : State :=
  let s0 := s.dropTasks fun t => match t with | .decode i _ _ _ _ | .encode i _ _ _ _ _ | .datagram _ i _ _ _ _ => decide (i = c)
  let s1 := (s0.audConf c).frames.foldl (fun s f =>
    match f.handle, f.done with
    | some h, some _ => s.decRef 5 h
    | some h, none => { s with afb := { s.afb with late := s.afb.late ++ [(f.stream, 0, h)] } }
    | none, _ => s) s0
  { s1 with afb := { s1.afb with confs := ndel s1.afb.confs c } }

/-- An output goes with its slot tables, its waiting tasks and its place in the open tick. -/
def State.audForgetOut (s : State) (o : Nat) : State :=
  let s1 := s.dropTasks fun t => match t with | .encode _ _ i _ _ _ => decide (i = o) | _ => false
  let gone (x : AudConf) : AudConf :=
    { x with outs := x.outs.filter (· ≠ o), xout := ndel x.xout o, xoutOld := ndel x.xoutOld o }
  { s1 with
    afb := { s1.afb with outs := ndel s1.afb.outs o, confs := nmapV (fun _ x => gone x) s1.afb.confs }
    fwd := { s1.fwd with slotTabs := ndel s1.fwd.slotTabs o } }

/-- A row of crosspoint gains is written (R322). -/
def State.writeXpRow (s : State) (c : Nat) (b : Bytes) : State :=
  let i := byteN b 0
  let x := s.audConf c
  s.setAudConf c { x with
    xp := (List.range 128).foldl (fun m j => nputD 0 m (128 * i + j) (BitVec.ofNat 16 (beField b (2 + 2 * j) 2))) x.xp }

/-! ### The meanings -/

/-- The fabric takes the next packet of a stream with MEDIA 0 (R302). -/
def execJitterAccept (stream : Fin 131072) (s : State) : Out :=
  .next (if s.blkUp 2 2 && decide (s.media stream = 0) && s.objExists tyStream stream &&
      (s.queue (streamQueue stream)).bell then s.flushTasks.jitterAccept stream else s)

/-- Tick start (R313 rows 1 and 2). -/
def execAudioTick (s : State) : Out := .next (if s.blkUp 2 2 then s.flushTasks.audioTick else s)

/-- The mix point of a conference (R313 rows 3 and 4). -/
def execMixPoint (conf : Fin 4096) (s : State) : Out := .next (if s.blkUp 2 2 then s.flushTasks.mixConf conf else s)

def execAfbCntClr (s : State) : Out :=
  .next (s.answerWith (if s.blkUp 2 2 then .ok (s.cclear .afbCnt 0 0 10) else .error stUnavailable))

end Sys2Proof.Machine
end

