-- ==== Sys2Proof/Machine/DspCore.lean ====
section
/-!
DEFINITION. The Avhaton DSP core (chapter The Avhaton DSP Core, R256 to R285): fetch, the address map, pointers,
products and accumulators, port space, traps, loops, branches, and the run of one instruction.
-/

namespace Sys2Proof.Machine

/-! ### Instruction words (R274) -/

/-- The first word of an instruction: OP and the fields below it. -/
def dspWord (op : Nat) (w : BitVec 26) : W32 := BitVec.ofNat 32 (op * 67108864 + w.toNat)
/-- The same with FN. -/
def dspWordFn (op fn : Nat) (w : BitVec 26) : W32 := setFld (dspWord op w) 8 6 fn

/-- A field of an instruction word. -/
def dspFld (w : BitVec 26) (lo len : Nat) : Nat := w.toNat / 2 ^ lo % 2 ^ len

/-- The sizes of an instruction in bytes (R274). -/
def dspSize (w : W32) : Nat := if 0x30 ≤ fld w 26 6 then 8 else 4

/-- May a MOVS name a special register (R260): listed, and not read-only when written. -/
def specialOk (n : Nat) (write : Bool) : Bool :=
  decide (n ≤ 6 ∨ (8 ≤ n ∧ n ≤ 10) ∨ (12 ≤ n ∧ n ≤ 14) ∨ (16 ≤ n ∧ n ≤ 35)) || (!write && decide (40 ≤ n ∧ n ≤ 44))

/-- Are the fields of an instruction word as R273 and R275 demand; false for an encoding that traps with ILLEGAL. LEN 0
of a loop is one of them (DESIGN CHOICE, log 31). -/
def dspLegal (w : W32) : Bool :=
  let f (lo len : Nat) : Nat := fld w lo len
  let z (lo len : Nat) : Bool := decide (fld w lo len = 0)
  let even (lo : Nat) : Bool := decide (fld w lo 4 % 2 = 0)
  let pn := decide (f 16 3 ≠ 7) && z 0 16
  match f 26 6 with
  | 0x01 | 0x2A | 0x2C => z 0 26
  | 0x02 => z 0 2 && decide (f 8 6 ≤ 0x0F) && (decide (f 8 6 ≠ 0x0C) || z 14 4) && (decide (f 8 6 ≠ 0x0D) || z 22 4)
  | 0x03 | 0x04 => true
  | 0x05 => z 0 15 && specialOk (f 16 6) (decide (f 15 1 = 1))
  | 0x08 | 0x09 | 0x0B | 0x0C | 0x0E | 0x0F => pn
  | 0x0A | 0x0D => pn && even 22
  | 0x10 => z 0 2
  | 0x12 => z 0 2 && even 14
  | 0x11 | 0x14 => z 0 10 && decide (f 18 3 ≠ 7) && decide (f 12 3 ≠ 7)
  | 0x13 => z 0 10 && decide (f 18 3 ≠ 7) && decide (f 12 3 ≠ 7) && decide (f 24 1 = 0)
  | 0x15 => z 0 11
  | 0x16 => z 0 2 && decide (f 8 6 ≤ 3)
  | 0x20 | 0x21 => decide (f 22 4 ≤ 10)
  | 0x22 | 0x23 => decide (f 22 4 ≤ 10) && z 0 22
  | 0x24 => decide (f 22 4 ≤ 10)
  | 0x28 => decide (f 16 10 ≠ 0)
  | 0x29 => decide (f 16 10 ≠ 0) && z 0 12
  | 0x2D | 0x2E => true
  | 0x2F => decide (f 0 2 ≠ 3)
  | 0x30 | 0x31 | 0x32 | 0x33 | 0x34 => z 0 22
  | 0x35 | 0x36 => z 0 22 && even 22
  | _ => false

/-- May an instruction not stand in a delay slot (R269). -/
def noSlot (w : W32) : Bool :=
  [0x20, 0x21, 0x22, 0x23, 0x24, 0x28, 0x29, 0x2A, 0x2C, 0x31, 0x32].contains (fld w 26 6)

/-- Is an instruction a branch (R269, R271). -/
def isBranch (w : W32) : Bool := [0x20, 0x21, 0x22, 0x23, 0x24, 0x31, 0x32].contains (fld w 26 6)

/-! ### Registers (R260, R261) -/

def DspCore.dreg (x : DspCore) (n : Nat) : W32 := ngetD 0 x.d n
def DspCore.areg (x : DspCore) (n : Nat) : BitVec 72 := ngetD 0 x.a n
def DspCore.setA (x : DspCore) (n : Nat) (v : BitVec 72) : DspCore := { x with a := nputD 0 x.a n v }
def DspCore.preg (x : DspCore) (n : Nat) : W32 := ngetD 0 x.p n
def DspCore.setP (x : DspCore) (n : Nat) (v : W32) : DspCore := { x with p := nputD 0 x.p n v }
def DspCore.srFld (x : DspCore) (lo len : Nat) : Nat := fld x.sr lo len
def DspCore.setSr (x : DspCore) (lo len n : Nat) : DspCore := { x with sr := setFld x.sr lo len n }
/-- Active loop levels. -/
def DspCore.depth (x : DspCore) : Nat := x.srFld 6 2

/-- The flags Z, N, C, V. -/
def DspCore.flags (x : DspCore) (z n c v : Bool) : DspCore :=
  x.setSr 0 4 (b2n z + 2 * b2n n + 4 * b2n c + 8 * b2n v)

/-- An accumulator takes a value, wrapping modulo 2^72 and setting AV when it lies outside the range (R266). -/
def DspCore.accTo (x : DspCore) (n : Nat) (v : Int) : DspCore :=
  let y := x.setA n (BitVec.ofInt 72 v)
  if -(2 ^ 71 : Int) ≤ v ∧ v < (2 ^ 71 : Int) then y else y.setSr (8 + n) 1 1

/-- The condition COND of a branch (R274). -/
def DspCore.cond (x : DspCore) (c : Nat) : Bool :=
  let z := decide (x.srFld 0 1 = 1)
  let lt := decide (x.srFld 1 1 ≠ x.srFld 3 1)
  let cy := decide (x.srFld 2 1 = 1)
  let v := decide (x.srFld 3 1 = 1)
  match c with
  | 0 => true
  | 1 => z
  | 2 => !z
  | 3 => lt
  | 4 => !lt
  | 5 => z || lt
  | 6 => !(z || lt)
  | 7 => !cy
  | 8 => cy
  | 9 => v
  | _ => !v

/-! ### Addresses (R257, R262, R263) -/

/-- The regions of R257: 0 X, 1 Y, 2 cluster memory, 3 port space. -/
def dspRegion (a : Nat) : Option Nat :=
  if a < 0x20000 then some 0
  else if a < 0x40000 then some 1
  else if 0x100000 ≤ a ∧ a < 0x200000 then some 2
  else if 0x800000 ≤ a ∧ a < 0x801000 then some 3
  else none

/-- Is a pointer circular and inside its range. -/
def DspCore.circular (x : DspCore) (n : Nat) : Bool :=
  let b := (ngetD 0 x.b n).toNat
  let l := (ngetD 0 x.l n).toNat
  decide (n < 4) && decide (l ≠ 0) && decide (b ≤ (x.preg n).toNat) && decide ((x.preg n).toNat < b + l)

/-- A pointer moved by a signed amount (R263). -/
def DspCore.moved (x : DspCore) (n : Nat) (delta : Int) : W32 :=
  if x.circular n then
    let b := (ngetD 0 x.b n).toNat
    let l := (ngetD 0 x.l n).toNat
    BitVec.ofInt 32 ((b : Int) + (((x.preg n).toNat : Int) - (b : Int) + delta) % (l : Int))
  else BitVec.ofInt 32 (((x.preg n).toNat : Int) + delta)

/-- The address that MOD uses with a pointer, and the pointer after. -/
def DspCore.pointer (x : DspCore) (n mod size : Nat) : Nat × W32 :=
  match mod with
  | 0 => ((x.preg n).toNat, x.preg n)
  | 5 => ((x.preg n).toNat, x.moved n size)
  | 6 => ((x.moved n (-(size : Int))).toNat, x.moved n (-(size : Int)))
  | m => ((x.preg n).toNat, x.moved n (ngetD 0 x.m (m - 1)).toInt)

/-- The MISALIGN checks of an access through a pointer (R262, R263). -/
def DspCore.misaligned (x : DspCore) (n a size : Nat) : Bool :=
  decide (a % size ≠ 0) || (x.circular n && decide ((ngetD 0 x.b n).toNat + (ngetD 0 x.l n).toNat < a + size))

/-! ### Products (R264) -/

/-- A signed product of `w` bits, shifted left by 1 with FRAC; the product that would overflow gives the largest value. -/
def DspCore.product (x : DspCore) (w : Nat) (a b : Int) : Int :=
  if x.srFld 4 1 = 1 then
    if a * b * 2 = 2 ^ (w - 1) then 2 ^ (w - 1) - 1 else a * b * 2
  else a * b

/-- Accumulate a product: SUB subtracts, CLR replaces. -/
def DspCore.accumulate (x : DspCore) (n : Nat) (p : Int) (sub clr : Bool) : DspCore :=
  let q := if sub then -p else p
  x.accTo n (if clr then q else (x.areg n).toInt + q)

/-- A half of a register: upper when `hi`. -/
def halfOf (v : W32) (hi : Bool) : Int := sgn 16 (fld v (if hi then 16 else 0) 16)

/-! ### Traps (R280) -/

/-- Push the return stack, set IMASK, clear LDEPTH, and go on at a vector (R276, R280). -/
def DspCore.enter (x : DspCore) (ret vec : W32) : DspCore :=
  { ((x.setSr 5 1 1).setSr 6 2 0) with stack := (ret, x.sr) :: x.stack, pc := vec, branch := none }

/-- The values a pending load writes land. -/
def DspCore.land (x : DspCore) : DspCore :=
  { x with d := x.load.foldl (fun m e => nputD 0 m e.1 e.2) x.d, load := [] }

/-- A vector of a core's cluster (R284): 0 RESET, 4 DOORBELL, 8 TRAP. -/
def State.dspVec (s : State) (c off : Nat) : W32 := BitVec.ofNat 32 (leNat (memRead (s.cmem (c / 16)) off 4))

/-- A core halts (R280, R296, R448): it leaves dispatch; the fourth halted core makes its cluster a failed part (R456). -/
def State.haltCore (s : State) (c : Nat) : State :=
  let cl := c / 16
  let s1 := (s.setCore c { s.core c with run := 2, branch := none, load := [] }).syncCore c
  let s2 := (s1.rsetFld .dspClState cl 0 (16 + c % 16) 1 1).coreHalted c
  if countIf (fun k => decide ((s2.core (16 * cl + k)).run = 2)) (List.range 16) = 4 then
    s2.report (.part (.cluster cl) 0x14)
  else s2

/-- A trap of a core: `next` is the address of the next instruction, for SOFT. Data with a double-bit error count as poisoned
(R13, R258). A full return stack halts the core. -/
def State.dspTrap (s : State) (c code soft : Nat) (taddr next : W32) : State :=
  let x := (s.core c).land
  let slot := x.branch.isSome
  let ret := match x.branch with
    | some b => b.from_
    | none => if code = 7 then next else x.pc
  let cause : W32 := BitVec.ofNat 32 (code + 16 * b2n slot + 65536 * soft)
  let s1 := (if code = 5 then (s.flag .dspEcc (c / 16) 0 16).metPoison 2 (16 + c / 16) else s).cinc .dspCnt (c / 16) 3
  let y : DspCore := { x with lastTrap := code, tcause := cause, taddr := taddr }
  if x.stack.length < 4 then
    let s2 := (s1.setCore c (y.enter ret (s1.dspVec c 8))).syncCore c
    { s2 with doc := { s2.doc with
      trapped := if nhas s2.doc.running c && !s2.doc.trapped.contains c then s2.doc.trapped ++ [c] else s2.doc.trapped } }
  else
    (s1.setCore c y).haltCore c

/-! ### Program memory (R259) -/

/-- A line of program memory becomes the most recently used; a line not held is filled from cluster memory, replacing the
least recently used unlocked line of its set. The flag tells a miss. -/
def State.pmTouch (s : State) (cl : Nat) (pm : List PmLine) (line : Nat) : List PmLine × Bool :=
  match takeFirst (fun l => decide (l.line = line)) pm with
  | some (l, r) => (r ++ [l], false)
  | none =>
    let fresh : PmLine := ⟨line, memRead (s.cmem cl) (64 * line % 1048576) 64, false⟩
    let same (l : PmLine) : Bool := decide (l.line % 256 = line % 256)
    if countIf same pm < 4 then (pm ++ [fresh], true)
    else
      match takeFirst (fun l => same l && !l.locked) pm with
      | some (_, r) => (r ++ [fresh], true)
      | none => (pm ++ [fresh], true)

/-- A word of code as program memory would deliver it. -/
def State.pmWord (s : State) (c a : Nat) : W32 :=
  let code := match (s.core c).pm.find? fun l => decide (l.line = a / 64) with
    | some l => slice l.code (a % 64) 4
    | none => memRead (s.cmem (c / 16)) (a % 1048576) 4
  BitVec.ofNat 32 (leNat code)

/-- Count the stall of an access (R258, R259): its length, 1 to 40 cycles, is a free value. -/
def State.dspStall (s : State) (c : Nat) (cluster : Bool) : State :=
  let k := s.draw 6
  let n := k.1 % 40 + 1
  let s1 := if cluster then k.2.cadd .dspCnt (c / 16) 5 n else k.2
  let x := s1.core c
  (s1.cadd .dspCnt (c / 16) 0 n).setCore c { x with cycle := x.cycle + BitVec.ofNat 64 n }

/-- Fetch the words at an address through program memory, filling the lines that miss. -/
def State.dspFetch (s : State) (c a size : Nat) : State :=
  ([a / 64, (a + size - 4) / 64].eraseDups).foldl (fun s line =>
    let x := s.core c
    let r := s.pmTouch (c / 16) x.pm line
    let s1 := s.setCore c { x with pm := r.1 }
    if r.2 then (s1.cinc .dspCnt (c / 16) 4).dspStall c false else s1) s

/-! ### Port space (R281 to R283, R294) -/

/-- A core issues its request under a tag (R282). An ENQ whose index lies beyond the queues is rejected (R6); the code is a
free value, as no chapter gives it (log 24). -/
def State.dspRequest (s : State) (c tag : Nat) : State :=
  let x := s.core c
  if x.busy.contains tag then s.flag .dspCoreStatus (c / 16) (c % 16) 12
  else
    let s1 := s.setCore c { x with busy := x.busy ++ [tag] }
    let b := memRead x.req 0 32
    let cl : Client := .core c tag
    let h := BitVec.ofNat 32 (leField b 4 4)
    let n := leField b 8 4
    match leField b 0 4 % 8 with
    | 1 => s1.allocFor cl h.toNat false (decide (leField b 0 4 / 8 % 2 = 1))
    | 2 => s1.request cl 0 h n
    | 3 => s1.request cl 1 h 0
    | 4 => s1.request cl 2 h n
    | 5 =>
      if h.toNat < 262144 then s1.enqueueFor cl h.toNat (descOf (b.drop 16))
      else (s1.draw 4).2.answerClient cl (s1.draw 4).1 0
    | _ => s1.answerClient cl 8 0

/-- A core issues its move (R283): a fifth is discarded. -/
def State.dspMove (s : State) (c : Nat) : State :=
  let x := s.core c
  let b := memRead x.move 0 20
  if 4 ≤ x.moves.length then s.flag .dspCoreStatus (c / 16) (c % 16) 14
  else
    s.setCore c { x with moves := x.moves ++ [(⟨decide (byteN b 0 % 2 = 1), BitVec.ofNat 32 (leField b 4 4), leField b 8 4,
      leField b 12 4, leField b 16 4, decide (byteN b 0 < 2)⟩ : MoveJob)] }

/-- A load from port space: its value and the state after. What an offset without such a load gives is a free value
(log 32). -/
def State.portLoad (s : State) (c off size : Nat) : Nat × State :=
  let x := s.core c
  let cur := nget s.doc.running c
  match off, size with
  | 0x040, 4 =>
    (match cur with
     | some it => it.flow + it.prio * 131072 + (s.preOf c).length * 8388608 + 2147483648
     | none => 0, s)
  | 0x0C4, 4 => (x.postRes.toNat, s)
  | 0x104, 4 => (x.jobDone.toNat, s)
  | 0x108, 4 => (countIf (fun j => decide (j.core = c) && decide (j.stage = 0)) s.vlt.jobs, s)
  | 0x324, 4 => (x.moveDone.toNat, s)
  | 0x328, 4 => (x.moveFail.toNat, s)
  | o, 8 =>
    if o < 0x40 ∧ cur.isSome = true then (leNat (slice ((cur.map Item.bytes).getD []) o 8), s)
    else if 0x180 ≤ o ∧ o < 0x240 then
      let t := (o - 0x180) / 24
      let v := (ngetD 0 x.res t).toNat
      let s1 := s.setCore c { x with res := nputD 0 x.res t (BitVec.ofNat 64 (v / 2 * 2)) }
      if (o - 0x180) % 24 = 0 then (v, s1) else s1.draw 64
    else s.draw 64
  | _, _ => s.draw (8 * size)

/-- A store to port space; an offset without such a store ignores it. -/
def State.portStore (s : State) (c off size v : Nat) : State :=
  let x := s.core c
  match off, size with
  | 0x044, 4 => s.done c (decide (v % 2 = 1))
  | 0x0C0, 4 => if v % 2 = 1 then s.corePost c else s
  | 0x100, 4 => s.submitJob c v
  | 0x160, 4 => s.dspRequest c (v % 8)
  | 0x320, 4 => s.dspMove c
  | o, 8 =>
    let b := leBytes 8 v
    if 0x80 ≤ o ∧ o < 0xC0 then s.setCore c { x with post := memWrite x.post (o - 0x80) b }
    else if 0x140 ≤ o ∧ o < 0x160 then s.setCore c { x with req := memWrite x.req (o - 0x140) b }
    else if 0x300 ≤ o ∧ o < 0x320 then s.setCore c { x with move := memWrite x.move (o - 0x300) b }
    else s
  | _, _ => s

/-! ### Loads and stores (R257, R258) -/

/-- The bytes of a local range. -/
def State.localRead (s : State) (c a n : Nat) : Bytes :=
  match dspRegion a with
  | some 0 => memRead (s.core c).x a n
  | some 1 => memRead (s.core c).y (a - 0x20000) n
  | _ => memRead (s.cmem (c / 16)) (a - 0x100000) n

/-- Write a local range. -/
def State.localWrite (s : State) (c a : Nat) (b : Bytes) : State :=
  let x := s.core c
  match dspRegion a with
  | some 0 => s.setCore c { x with x := memWrite x.x a b }
  | some 1 => s.setCore c { x with y := memWrite x.y (a - 0x20000) b }
  | _ => s.setCmem (c / 16) (memWrite (s.cmem (c / 16)) (a - 0x100000) b)

/-- The outcome of a step of an instruction: a trap's code and data address, or a result. -/
abbrev Traps := Except (Nat × W32)

/-- A trap when a condition holds. -/
def trapIf (c : Bool) (code addr : Nat) : Traps Unit := if c then .error (code, BitVec.ofNat 32 addr) else .ok ()

/-- A word of X, Y or cluster memory is read with an error (R258): 1 a single bit, corrected and counted, 2 two bits, which
trap with ECC at its address. -/
def State.dspData (s : State) (c a : Nat) (err : Fin 3) : Traps State := do
  trapIf (decide (err.val = 2)) 5 a
  .ok (if err.val = 1 then s.rcount .dspEcc (c / 16) 0 0 16 1 else s)

/-- A data load of `size` bytes; `err`: the error it meets. -/
def State.dload (s : State) (c a size : Nat) (err : Fin 3) : Traps (Nat × State) := do
  let r := dspRegion a
  trapIf r.isNone 3 a
  trapIf (decide (r = some 3) && decide (size ≠ 4 ∧ size ≠ 8)) 3 a
  if r = some 3 then .ok ((s.dspStall c false).portLoad c (a - 0x800000) size)
  else
    let s1 ← s.dspData c a err
    .ok (leNat (s1.localRead c a size), if r = some 2 then s1.dspStall c true else s1)

/-- A data store of `size` bytes. -/
def State.dstore (s : State) (c a size v : Nat) : Traps State := do
  let r := dspRegion a
  trapIf r.isNone 3 a
  trapIf (decide (r = some 3) && decide (size ≠ 4 ∧ size ≠ 8)) 3 a
  if r = some 3 then .ok (s.portStore c (a - 0x800000) size v)
  else .ok ((if r = some 2 then s.dspStall c true else s).localWrite c a (leBytes size v))

/-! ### The run of one instruction (R267 to R271, R275, R280) -/

/-- Where an instruction leads: on; a branch; past a loop's body; into WAIT; a SOFT trap. -/
inductive DspFlow where
  | next
  | branch (taken : Bool) (target : W32) (reti : Bool)
  | skip (to_ : W32)
  | wait
  | soft (code : Nat)
  deriving DecidableEq, Repr

/-- What an instruction did: the state, the data registers it writes, those its load will write, where it leads, its
cycles. -/
structure DspDone where
  s : State
  writes : Landing := []
  load : Landing := []
  flow : DspFlow := .next
  cycles : Nat := 1

/-- The data registers at the end of an instruction: its own writes and the earlier load's. A register that both write
takes a free value (log 33). -/
def State.dspLand (s : State) (c : Nat) (writes : Landing) : State :=
  let x := s.core c
  let d1 := writes.foldl (fun m e => nputD 0 m e.1 e.2) x.d
  x.load.foldl (fun s e =>
    let clash := writes.any fun w => decide (w.1 = e.1)
    let k := s.draw 32
    let s1 := if clash then k.2 else s
    let y := s1.core c
    s1.setCore c { y with d := nputD 0 y.d e.1 (if clash then BitVec.ofNat 32 k.1 else e.2) })
    (s.setCore c { x with d := d1, load := [] })

/-- Does an address end an active loop level (R271). -/
def DspCore.endsLoop (x : DspCore) (a : W32) : Bool :=
  (List.range x.depth).any fun l => decide (ngetD 0 x.le l = a)

/-- The hardware loop after the instruction whose last word lies at `a` (R270): the address that follows. -/
def DspCore.loopEnd (x : DspCore) (a next : W32) : DspCore × W32 :=
  let l := x.depth - 1
  if x.depth = 0 ∨ ngetD 0 x.le l ≠ a then (x, next)
  else
    let n := ngetD 0 x.lc l
    if 1 < n.toNat then ({ x with lc := nputD 0 x.lc l (n - 1) }, ngetD 0 x.ls l)
    else (x.setSr 6 2 l, next)

/-- The end of a branch's second delay slot (R269, R277). -/
def State.branchEnd (s : State) (c : Nat) (b : Branch) : State :=
  let x := s.core c
  if b.reti then
    match x.stack with
    | (pc, sr) :: r =>
      let s1 := s.setCore c { x with pc := pc, sr := sr, stack := r, branch := none }
      { s1 with doc := { s1.doc with trapped := s1.doc.trapped.filter (· ≠ c) } }
    | [] =>
      let k := s.draw 32
      let j := k.2.draw 32
      j.2.setCore c { x with pc := BitVec.ofNat 32 k.1, sr := BitVec.ofNat 32 j.1 &&& 0xFFF, branch := none }
  else s.setCore c { x with pc := if b.taken then b.target else x.pc, branch := none }

/-- A core in WAIT starts at DOORBELL_VEC with the head item of its ready list (R276, R292). -/
def State.startCore (s : State) (c : Nat) : State :=
  (((s.setCore c { s.core c with run := 1, pc := s.dspVec c 4 }).cinc .dspCnt (c / 16) 1).bindHead c).syncCore c

/-- The state after an instruction that did not trap. A doorbell that is raised when the core executes WAIT starts it at once
(R293). -/
def State.dspEnd (c size : Nat) (r : DspDone) : State :=
  let s1 := r.s.dspLand c r.writes
  let x := s1.core c
  let last := x.pc + BitVec.ofNat 32 (size - 4)
  let next0 := match r.flow with
    | .skip a => a
    | _ => x.pc + BitVec.ofNat 32 size
  let le := { x with load := r.load }.loopEnd last next0
  let y : DspCore := { le.1 with pc := le.2, cycle := x.cycle + BitVec.ofNat 64 r.cycles }
  let s2 := (s1.setCore c y).cadd .dspCnt (c / 16) 0 r.cycles
  match r.flow with
  | .branch taken target reti => s2.setCore c { y with branch := some ⟨target, 2, x.pc, reti, taken⟩ }
  | .wait =>
    let s3 := (s2.setCore c { y.land with run := 0, entered := true }).syncCore c
    let s4 := s3.coreEntered (c / 16)
    if s4.doorbell c then s4.startCore c else s4
  | .soft code => (s2.setCore c { y with branch := x.branch }).dspTrap c 7 code 0 y.pc
  | _ =>
    match x.branch with
    | some b =>
      if b.left = 1 then s2.branchEnd c b else s2.setCore c { y with branch := some { b with left := b.left - 1 } }
    | none => s2

/-- Core `c` runs its next instruction, which the command names as the words `w` and, in the 64-bit forms, `imm`. The
words stand at the core's program counter: an address outside cluster memory, or words there that are an illegal
encoding, trap; where other words stand there nothing happens (log 34). `ecc`: 1 a single-bit, 2 a double-bit error in
the code the instruction is fetched from. `f` is what the instruction does. -/
def State.dspRun (s : State) (core : Fin 272) (w : W32) (imm : Option W32) (ecc : Fin 3)
    (f : State → Nat → DspCore → Traps DspDone) : State :=
  let c := core.val
  let x := s.core c
  let a := x.pc.toNat
  if x.run ≠ 1 ∨ s.clusterRuns (c / 16) = false then s
  else if dspRegion a ≠ some 2 then (s.dspTrap c 3 0 0 0).syncCore c
  else if a % 4 ≠ 0 then (s.dspTrap c 2 0 0 0).syncCore c
  else
    let word := s.pmWord c a
    let size := dspSize word
    if dspRegion (a + size - 4) ≠ some 2 then (s.dspTrap c 3 0 0 0).syncCore c
    else if dspLegal word = false then ((s.dspFetch c a size).dspTrap c 1 0 0 0).syncCore c
    else if word ≠ w ∨ (size = 8 ∧ imm ≠ some (s.pmWord c (a + 4))) then s
    else
      let s1 := s.dspFetch c a size
      let s2 := if ecc.val = 1 then s1.rcount .dspEcc (c / 16) 0 0 16 1 else s1
      let x := s2.core c
      let slot := x.branch.isSome
      let last := x.pc + BitVec.ofNat 32 (size - 4)
      if ecc.val = 2 then s2.dspTrap c 5 0 0 0
      else if slot && noSlot w then s2.dspTrap c 1 0 0 0
      else if (slot || isBranch w) && x.endsLoop last then s2.dspTrap c 4 0 0 0
      else
        match f s2 c x with
        | .error (code, addr) => s2.dspTrap c code 0 addr 0
        | .ok r => (State.dspEnd c size r).syncCore c

end Sys2Proof.Machine
end

