-- ==== Sys2Proof/Machine/DspInstr.lean ====
section
/-!
DEFINITION. The instructions of the Avhaton DSP core (R262 to R273), the doorbell, the mover, the core watchdog and the
writes of the cluster registers.
-/

namespace Sys2Proof.Machine

/-! ### Fields -/

def fRd (w : BitVec 26) : Nat := dspFld w 22 4
def fRa (w : BitVec 26) : Nat := dspFld w 18 4
def fRb (w : BitVec 26) : Nat := dspFld w 14 4

/-- An 18-bit signed immediate. -/
def fImm (w : BitVec 26) : W32 := BitVec.ofInt 32 (sgn 18 (dspFld w 0 18))

/-! ### The arithmetic of R273 -/

/-- A result with its carry and overflow: none for a value that the specification leaves open (log 35). -/
structure AluRes where
  value : Option W32
  c : Option Bool := none
  v : Option Bool := some false
  deriving DecidableEq, Repr

def aluAdd (a b : W32) : AluRes :=
  ⟨some (a + b), some (decide (2 ^ 32 ≤ a.toNat + b.toNat)),
    some (decide (¬ (-(2 ^ 31 : Int) ≤ a.toInt + b.toInt ∧ a.toInt + b.toInt < 2 ^ 31)))⟩

def aluSub (a b : W32) : AluRes :=
  ⟨some (a - b), some (decide (b.toNat ≤ a.toNat)),
    some (decide (¬ (-(2 ^ 31 : Int) ≤ a.toInt - b.toInt ∧ a.toInt - b.toInt < 2 ^ 31)))⟩

/-- Saturation to `w` bits. -/
def clampTo (w : Nat) (z : Int) : Int := max (-(2 ^ (w - 1) : Int)) (min (2 ^ (w - 1) - 1) z)

def aluAdds (a b : W32) : AluRes := { aluAdd a b with value := some (BitVec.ofInt 32 (clampTo 32 (a.toInt + b.toInt))) }
def aluSubs (a b : W32) : AluRes := { aluSub a b with value := some (BitVec.ofInt 32 (clampTo 32 (a.toInt - b.toInt))) }

/-- The absolute value; that of the most negative number is not stated. -/
def aluAbs (a : W32) : AluRes :=
  if a = 0x80000000 then ⟨none, none, none⟩ else ⟨some (if a.toInt < 0 then -a else a), none, some false⟩

/-- The flags of a result: those left open are drawn. -/
def State.aluFlags (s : State) (c : Nat) (r : AluRes) : State × W32 :=
  let v : W32 × State := match r.value with
    | some v => (v, s)
    | none => (BitVec.ofNat 32 (s.draw 32).1, (s.draw 32).2)
  let bit (s : State) (o : Option Bool) : Bool × State := match o with
    | some b => (b, s)
    | none => (decide ((s.draw 1).1 = 1), (s.draw 1).2)
  let cy := bit v.2 r.c
  let ov := bit cy.2 r.v
  (ov.2.setCore c ((ov.2.core c).flags (decide (v.1 = 0)) v.1.msb cy.1 ov.1), v.1)

/-- An instruction of OP 0x02 that sets flags. -/
def State.aluOp (s : State) (core : Fin 272) (fn : Nat) (w : BitVec 26) (ecc : Fin 3) (f : W32 → W32 → AluRes) : Out :=
  .next (s.dspRun core (dspWordFn 0x02 fn w) none ecc fun s c x =>
    let r := s.aluFlags c (f (x.dreg (fRa w)) (x.dreg (fRb w)))
    .ok { s := r.1, writes := if fn = 0x0D then [] else [(fRd w, r.2)] })

/-- An instruction that writes one data register and no flag. -/
def State.moveOp (s : State) (core : Fin 272) (word : W32) (imm : Option W32) (ecc : Fin 3) (rd : Nat) (f : DspCore → W32) : Out :=
  .next (s.dspRun core word imm ecc fun s _ x => .ok { s := s, writes := [(rd, f x)] })

def execNop (core : Fin 272) (w : BitVec 26) (ecc : Fin 3) (s : State) : Out :=
  .next (s.dspRun core (dspWord 0x01 w) none ecc fun s _ _ => .ok { s := s })

def execAdd (core : Fin 272) (w : BitVec 26) (ecc : Fin 3) (s : State) : Out := s.aluOp core 0x00 w ecc aluAdd
def execSub (core : Fin 272) (w : BitVec 26) (ecc : Fin 3) (s : State) : Out := s.aluOp core 0x01 w ecc aluSub
def execAdds (core : Fin 272) (w : BitVec 26) (ecc : Fin 3) (s : State) : Out := s.aluOp core 0x02 w ecc aluAdds
def execSubs (core : Fin 272) (w : BitVec 26) (ecc : Fin 3) (s : State) : Out := s.aluOp core 0x03 w ecc aluSubs
def execAnd (core : Fin 272) (w : BitVec 26) (ecc : Fin 3) (s : State) : Out :=
  s.aluOp core 0x04 w ecc fun a b => { value := some (a &&& b) }
def execOr (core : Fin 272) (w : BitVec 26) (ecc : Fin 3) (s : State) : Out :=
  s.aluOp core 0x05 w ecc fun a b => { value := some (a ||| b) }
def execXor (core : Fin 272) (w : BitVec 26) (ecc : Fin 3) (s : State) : Out :=
  s.aluOp core 0x06 w ecc fun a b => { value := some (a ^^^ b) }
def execShl (core : Fin 272) (w : BitVec 26) (ecc : Fin 3) (s : State) : Out :=
  s.aluOp core 0x07 w ecc fun a b => { value := some (a <<< fld b 0 5), v := none }
def execShr (core : Fin 272) (w : BitVec 26) (ecc : Fin 3) (s : State) : Out :=
  s.aluOp core 0x08 w ecc fun a b => { value := some (a >>> fld b 0 5) }
def execAsr (core : Fin 272) (w : BitVec 26) (ecc : Fin 3) (s : State) : Out :=
  s.aluOp core 0x09 w ecc fun a b => { value := some (a.sshiftRight (fld b 0 5)) }
def execMin (core : Fin 272) (w : BitVec 26) (ecc : Fin 3) (s : State) : Out :=
  s.aluOp core 0x0A w ecc fun a b => { value := some (if a.slt b then a else b) }
def execMax (core : Fin 272) (w : BitVec 26) (ecc : Fin 3) (s : State) : Out :=
  s.aluOp core 0x0B w ecc fun a b => { value := some (if a.slt b then b else a) }
def execAbs (core : Fin 272) (w : BitVec 26) (ecc : Fin 3) (s : State) : Out := s.aluOp core 0x0C w ecc fun a _ => aluAbs a
def execCmp (core : Fin 272) (w : BitVec 26) (ecc : Fin 3) (s : State) : Out := s.aluOp core 0x0D w ecc aluSub

def execMov (core : Fin 272) (w : BitVec 26) (ecc : Fin 3) (s : State) : Out :=
  s.moveOp core (dspWordFn 0x02 0x0E w) none ecc (fRd w) fun x => x.dreg (fRa w)

def execPack (core : Fin 272) (w : BitVec 26) (ecc : Fin 3) (s : State) : Out :=
  s.moveOp core (dspWordFn 0x02 0x0F w) none ecc (fRd w) fun x =>
    ((x.dreg (fRb w)) <<< (16 : Nat)) ||| ((x.dreg (fRa w)) &&& 0xFFFF)

/-- Dd takes Da plus a signed immediate; the table names no flag for it (log 35). -/
def execAddi (core : Fin 272) (w : BitVec 26) (ecc : Fin 3) (s : State) : Out :=
  s.moveOp core (dspWord 0x03 w) none ecc (fRd w) fun x => x.dreg (fRa w) + fImm w

def execCmpi (core : Fin 272) (w : BitVec 26) (ecc : Fin 3) (s : State) : Out :=
  .next (s.dspRun core (dspWord 0x04 w) none ecc fun s c x =>
    .ok { s := (s.aluFlags c (aluSub (x.dreg (fRa w)) (fImm w))).1 })

def execMovi (core : Fin 272) (w : BitVec 26) (imm : W32) (ecc : Fin 3) (s : State) : Out :=
  s.moveOp core (dspWord 0x30 w) (some imm) ecc (fRd w) fun _ => imm

/-! ### MOVS (R260, R261, R263) -/

/-- Read a special register; an empty return stack gives free values. -/
def State.readSpecial (s : State) (c n : Nat) : W32 × State :=
  let x := s.core c
  let free : W32 × State := (BitVec.ofNat 32 (s.draw 32).1, (s.draw 32).2)
  match n with
  | 0 => (x.sr, s)
  | 1 => (x.lr, s)
  | 2 => match x.stack with
    | (pc, _) :: _ => (pc, s)
    | [] => free
  | 3 => match x.stack with
    | (_, sr) :: _ => (sr, s)
    | [] => free
  | 40 => (x.tcause, s)
  | 41 => (x.taddr, s)
  | 42 => (BitVec.ofNat 32 x.cycle.toNat, s.setCore c { x with cycleHi := BitVec.ofNat 32 (x.cycle.toNat / 4294967296) })
  | 43 => (x.cycleHi, s)
  | 44 => (BitVec.ofNat 32 (c % 16 + c / 16 * 16), s)
  | n =>
    (if n ≤ 6 then ngetD 0 x.lc (n - 4)
     else if n ≤ 10 then ngetD 0 x.ls (n - 8)
     else if n ≤ 14 then ngetD 0 x.le (n - 12)
     else if n ≤ 23 then x.preg (n - 16)
     else if n ≤ 27 then ngetD 0 x.m (n - 24)
     else if n ≤ 31 then ngetD 0 x.b (n - 28)
     else ngetD 0 x.l (n - 32), s)

/-- Write a special register. -/
def DspCore.writeSpecial (x : DspCore) (n : Nat) (v : W32) : DspCore :=
  match n with
  | 0 => { x with sr := v &&& 0xFFF }
  | 1 => { x with lr := v }
  | 2 => { x with stack := match x.stack with
      | (_, sr) :: r => (v, sr) :: r
      | [] => [] }
  | 3 => { x with stack := match x.stack with
      | (pc, _) :: r => (pc, v &&& 0xFFF) :: r
      | [] => [] }
  | n =>
    if n ≤ 6 then { x with lc := nputD 0 x.lc (n - 4) v }
    else if n ≤ 10 then { x with ls := nputD 0 x.ls (n - 8) v }
    else if n ≤ 14 then { x with le := nputD 0 x.le (n - 12) v }
    else if n ≤ 23 then x.setP (n - 16) v
    else if n ≤ 27 then { x with m := nputD 0 x.m (n - 24) v }
    else if n ≤ 31 then { x with b := nputD 0 x.b (n - 28) v }
    else { x with l := nputD 0 x.l (n - 32) v }

def execMovs (core : Fin 272) (w : BitVec 26) (ecc : Fin 3) (s : State) : Out :=
  let n := dspFld w 16 6
  .next (s.dspRun core (dspWord 0x05 w) none ecc fun s c x =>
    if dspFld w 15 1 = 0 then
      let r := s.readSpecial c n
      .ok { s := r.2, writes := [(fRd w, r.1)] }
    else
      let v := x.dreg (fRd w)
      if (28 ≤ n ∧ n ≤ 31 ∧ v.toNat % 8 ≠ 0) ∨ (32 ≤ n ∧ v.toNat % 2 ≠ 0) then .error (1, 0)
      else .ok { s := s.setCore c (x.writeSpecial n v) })

/-! ### Loads and stores (R257, R262, R263, R268) -/

/-- Change a pointer of a core. -/
def State.setPtr (s : State) (c n : Nat) (v : W32) : State := s.setCore c ((s.core c).setP n v)

/-- What a load writes: a register, a pair, or an accumulator at once. -/
def loadLanding (rd size : Nat) (half : Bool) (v : Nat) : Landing :=
  if half then [(rd, BitVec.ofInt 32 (sgn 16 v))]
  else if size = 8 then [(rd, BitVec.ofNat 32 v), (rd + 1, BitVec.ofNat 32 (v / 4294967296))]
  else [(rd, BitVec.ofNat 32 v)]

/-- A load through a pointer; `err` is an error in the data it loads. -/
def State.loadOp (s : State) (core : Fin 272) (op size : Nat) (w : BitVec 26) (ecc err : Fin 3) : Out :=
  let n := dspFld w 19 3
  .next (s.dspRun core (dspWord op w) none ecc fun s c x => do
    let a := x.pointer n (dspFld w 16 3) size
    trapIf (x.misaligned n a.1 size) 2 a.1
    let r ← s.dload c a.1 size err
    .ok { s := r.2.setPtr c n a.2, load := loadLanding (fRd w) size (decide (size = 2)) r.1 })

/-- A store through a pointer. -/
def State.storeOp (s : State) (core : Fin 272) (op size : Nat) (w : BitVec 26) (ecc : Fin 3) : Out :=
  let n := dspFld w 19 3
  .next (s.dspRun core (dspWord op w) none ecc fun s c x => do
    let a := x.pointer n (dspFld w 16 3) size
    trapIf (x.misaligned n a.1 size) 2 a.1
    let hi := if size = 8 then (x.dreg (fRd w + 1)).toNat * 4294967296 else 0
    let s1 ← s.dstore c a.1 size ((x.dreg (fRd w)).toNat + hi)
    .ok { s := s1.setPtr c n a.2 })

def execLd (core : Fin 272) (w : BitVec 26) (ecc : LoadEcc) (s : State) : Out := s.loadOp core 0x08 4 w ecc.code ecc.data
def execLdh (core : Fin 272) (w : BitVec 26) (ecc : LoadEcc) (s : State) : Out := s.loadOp core 0x09 2 w ecc.code ecc.data
def execLdd (core : Fin 272) (w : BitVec 26) (ecc : LoadEcc) (s : State) : Out := s.loadOp core 0x0A 8 w ecc.code ecc.data
def execSt (core : Fin 272) (w : BitVec 26) (ecc : Fin 3) (s : State) : Out := s.storeOp core 0x0B 4 w ecc
def execSth (core : Fin 272) (w : BitVec 26) (ecc : Fin 3) (s : State) : Out := s.storeOp core 0x0C 2 w ecc
def execStd (core : Fin 272) (w : BitVec 26) (ecc : Fin 3) (s : State) : Out := s.storeOp core 0x0D 8 w ecc

/-- An accumulator is loaded from 16 bytes; bytes 0 to 8 hold it. -/
def execLda (core : Fin 272) (w : BitVec 26) (ecc : LoadEcc) (s : State) : Out :=
  let n := dspFld w 19 3
  .next (s.dspRun core (dspWord 0x0E w) none ecc.code fun s c x => do
    let a := x.pointer n (dspFld w 16 3) 16
    trapIf (x.misaligned n a.1 16) 2 a.1
    let r ← s.dload c a.1 16 ecc.data
    let y := (r.2.core c).setA (dspFld w 22 2) (BitVec.ofNat 72 r.1)
    .ok { s := (r.2.setCore c y).setPtr c n a.2, cycles := 2 })

/-- An accumulator is stored as 16 bytes: its 9 bytes and 7 of its sign. -/
def execSta (core : Fin 272) (w : BitVec 26) (ecc : Fin 3) (s : State) : Out :=
  let n := dspFld w 19 3
  .next (s.dspRun core (dspWord 0x0F w) none ecc fun s c x => do
    let a := x.pointer n (dspFld w 16 3) 16
    trapIf (x.misaligned n a.1 16) 2 a.1
    let s1 ← s.dstore c a.1 16 ((x.areg (dspFld w 22 2)).signExtend 128).toNat
    .ok { s := s1.setPtr c n a.2, cycles := 2 })

/-- A load from an absolute address. -/
def State.loadAbs (s : State) (core : Fin 272) (op size : Nat) (w : BitVec 26) (imm : W32) (ecc err : Fin 3) : Out :=
  .next (s.dspRun core (dspWord op w) (some imm) ecc fun s c _ => do
    trapIf (decide (imm.toNat % size ≠ 0)) 2 imm.toNat
    let r ← s.dload c imm.toNat size err
    .ok { s := r.2, load := loadLanding (fRd w) size false r.1 })

/-- A store to an absolute address. -/
def State.storeAbs (s : State) (core : Fin 272) (op size : Nat) (w : BitVec 26) (imm : W32) (ecc : Fin 3) : Out :=
  .next (s.dspRun core (dspWord op w) (some imm) ecc fun s c x => do
    trapIf (decide (imm.toNat % size ≠ 0)) 2 imm.toNat
    let hi := if size = 8 then (x.dreg (fRd w + 1)).toNat * 4294967296 else 0
    let s1 ← s.dstore c imm.toNat size ((x.dreg (fRd w)).toNat + hi)
    .ok { s := s1 })

def execLdx (core : Fin 272) (w : BitVec 26) (imm : W32) (ecc : LoadEcc) (s : State) : Out := s.loadAbs core 0x33 4 w imm ecc.code ecc.data
def execStx (core : Fin 272) (w : BitVec 26) (imm : W32) (ecc : Fin 3) (s : State) : Out := s.storeAbs core 0x34 4 w imm ecc
def execLddx (core : Fin 272) (w : BitVec 26) (imm : W32) (ecc : LoadEcc) (s : State) : Out := s.loadAbs core 0x35 8 w imm ecc.code ecc.data
def execStdx (core : Fin 272) (w : BitVec 26) (imm : W32) (ecc : Fin 3) (s : State) : Out := s.storeAbs core 0x36 8 w imm ecc

/-! ### The MAC family (R264 to R266, R272) -/

def execMac (core : Fin 272) (w : BitVec 26) (ecc : Fin 3) (s : State) : Out :=
  .next (s.dspRun core (dspWord 0x10 w) none ecc fun s c x =>
    let p := x.product 32 (halfOf (x.dreg (fRa w)) (bitN w.toNat 7)) (halfOf (x.dreg (fRb w)) (bitN w.toNat 6))
    .ok { s := s.setCore c (x.accumulate (dspFld w 4 2) p (bitN w.toNat 3) (bitN w.toNat 2)) })

/-- Four products of one half with the halves of a 64-bit value. -/
def DspCore.quad (x : DspCore) (h : Int) (y : Nat) (sub clr : Bool) : DspCore :=
  (List.range 4).foldl (fun z k => z.accumulate k (x.product 32 h (sgn 16 (y / 2 ^ (16 * k)))) sub clr) x

def execQmacr (core : Fin 272) (w : BitVec 26) (ecc : Fin 3) (s : State) : Out :=
  .next (s.dspRun core (dspWord 0x12 w) none ecc fun s c x =>
    let y := (x.dreg (fRb w)).toNat + (x.dreg (fRb w + 1)).toNat * 4294967296
    .ok { s := s.setCore c (x.quad (halfOf (x.dreg (fRa w)) (bitN w.toNat 7)) y (bitN w.toNat 3) (bitN w.toNat 2)) })

/-- The memory operands of a Q form: PX addresses 2 bytes of X memory, PY `size` bytes of Y memory; `ex` and `ey` are errors
in them. -/
def State.qOperands (s : State) (c : Nat) (x : DspCore) (w : BitVec 26) (size : Nat) (ex ey : Fin 3) :
    Traps ((Nat × W32 × Int) × (Nat × W32 × Nat) × State) := do
  let px := dspFld w 21 3
  let py := dspFld w 15 3
  let a := x.pointer px (dspFld w 18 3) 2
  let b := x.pointer py (dspFld w 12 3) size
  trapIf (x.misaligned px a.1 2) 2 a.1
  trapIf (x.misaligned py b.1 size) 2 b.1
  trapIf (decide (dspRegion a.1 ≠ some 0)) 3 a.1
  trapIf (decide (dspRegion b.1 ≠ some 1)) 3 b.1
  let s1 ← s.dspData c a.1 ex
  let s2 ← s1.dspData c b.1 ey
  .ok ((a.1, a.2, sgn 16 (leNat (s2.localRead c a.1 2))), (b.1, b.2, leNat (s2.localRead c b.1 size)), s2)

/-- Both pointers of a Q form move; PY last where they are the same. -/
def State.qPointers (s : State) (c : Nat) (w : BitVec 26) (p q : W32) : State :=
  (s.setPtr c (dspFld w 21 3) p).setPtr c (dspFld w 15 3) q

def execQmac (core : Fin 272) (w : BitVec 26) (ecc : MacEcc) (s : State) : Out :=
  .next (s.dspRun core (dspWord 0x11 w) none ecc.code fun s c x => do
    let (a, b, s) ← s.qOperands c x w 8 ecc.x ecc.y
    let s1 := s.setCore c (x.quad a.2.2 b.2.2 (bitN w.toNat 11) (bitN w.toNat 10))
    .ok { s := s1.qPointers c w a.2.1 b.2.1 })

def execDmac (core : Fin 272) (w : BitVec 26) (ecc : MacEcc) (s : State) : Out :=
  let n := dspFld w 24 2
  .next (s.dspRun core (dspWord 0x13 w) none ecc.code fun s c x => do
    let (a, b, s) ← s.qOperands c x w 8 ecc.x ecc.y
    let y := x.accumulate n (x.product 48 a.2.2 (sgn 32 b.2.2)) (bitN w.toNat 11) (bitN w.toNat 10)
    let z := y.accumulate (n + 1) (x.product 48 a.2.2 (sgn 32 (b.2.2 / 4294967296))) (bitN w.toNat 11) (bitN w.toNat 10)
    .ok { s := (s.setCore c z).qPointers c w a.2.1 b.2.1 })

/-- One FIR tap (R272): the sample is accumulated and written one place older. -/
def execTapmac (core : Fin 272) (w : BitVec 26) (ecc : MacEcc) (s : State) : Out :=
  let px := dspFld w 21 3
  .next (s.dspRun core (dspWord 0x14 w) none ecc.code fun s c x => do
    let (a, b, s) ← s.qOperands c x w 2 ecc.x ecc.y
    let y := x.accumulate (dspFld w 24 2) (x.product 32 a.2.2 (sgn 16 b.2.2)) (bitN w.toNat 11) (bitN w.toNat 10)
    let older := ((if dspFld w 18 3 = 6 then x.setP px a.2.1 else x).moved px 2).toNat
    trapIf (decide (dspRegion older ≠ some 0)) 3 older
    let s1 := (s.setCore c y).localWrite c older (leBytes 2 (unsgn 16 a.2.2))
    .ok { s := s1.qPointers c w a.2.1 b.2.1 })

/-- MOVA (R266). -/
def execMova (core : Fin 272) (w : BitVec 26) (ecc : Fin 3) (s : State) : Out :=
  let sh := dspFld w 14 6
  let w16 := bitN w.toNat 11
  .next (s.dspRun core (dspWord 0x15 w) none ecc fun s c x =>
    let a := (x.areg (dspFld w 20 2)).toInt
    let t := (a + (if bitN w.toNat 13 ∧ 0 < sh then 2 ^ (sh - 1) else 0)) / 2 ^ sh
    let n := if w16 then 16 else 32
    let v := if bitN w.toNat 12 then clampTo n t else sgn n (unsgn n t)
    let y := if bitN w.toNat 12 = true ∧ v ≠ t then x.setSr 3 1 1 else x
    .ok { s := s.setCore c y, writes := [(fRd w, BitVec.ofInt 32 v)] })

/-- An accumulator instruction of OP 0x16 on accumulator AD. -/
def State.accOp (s : State) (core : Fin 272) (fn : Nat) (w : BitVec 26) (ecc : Fin 3) (f : DspCore → Nat → DspCore) : Out :=
  .next (s.dspRun core (dspWordFn 0x16 fn w) none ecc fun s c x => .ok { s := s.setCore c (f x (dspFld w 4 2)) })

def execClra (core : Fin 272) (w : BitVec 26) (ecc : Fin 3) (s : State) : Out := s.accOp core 0 w ecc fun x n => x.setA n 0
def execLdad (core : Fin 272) (w : BitVec 26) (ecc : Fin 3) (s : State) : Out :=
  s.accOp core 1 w ecc fun x n => x.setA n ((x.dreg (fRa w)).signExtend 72)
def execSha (core : Fin 272) (w : BitVec 26) (ecc : Fin 3) (s : State) : Out :=
  s.accOp core 2 w ecc fun x n =>
    let k := sgn 7 (fld (x.dreg (fRb w)) 0 7)
    let a := (x.areg n).toInt
    x.accTo n (if 0 ≤ k then a * 2 ^ k.toNat else a / 2 ^ (-k).toNat)
def execAdda (core : Fin 272) (w : BitVec 26) (ecc : Fin 3) (s : State) : Out :=
  s.accOp core 3 w ecc fun x n => x.accTo n ((x.areg n).toInt + (x.areg (fld (x.dreg (fRa w)) 0 2)).toInt)

/-! ### Branches and loops (R269 to R271, R277) -/

/-- The address after the two instructions that follow an address (R269). -/
def State.afterSlots (s : State) (c : Nat) (a : W32) : W32 :=
  let a1 := a + BitVec.ofNat 32 (dspSize (s.pmWord c a.toNat))
  a1 + BitVec.ofNat 32 (dspSize (s.pmWord c a1.toNat))

/-- A branch of the B form under its condition; `link` sets LR when it is taken. -/
def State.branchOp (s : State) (core : Fin 272) (op : Nat) (w : BitVec 26) (ecc : Fin 3) (link reti : Bool)
    (target : DspCore → W32) : Out :=
  .next (s.dspRun core (dspWord op w) none ecc fun s c x =>
    let taken := x.cond (fRd w)
    let y : DspCore := if link && taken then { x with lr := s.afterSlots c (x.pc + 4) } else x
    .ok { s := s.setCore c y, flow := .branch taken (target x) (reti && taken) })

/-- The target of a PC-relative branch. -/
def relTarget (w : BitVec 26) (x : DspCore) : W32 := x.pc + BitVec.ofInt 32 (4 * sgn 22 (dspFld w 0 22))

def execBr (core : Fin 272) (w : BitVec 26) (ecc : Fin 3) (s : State) : Out :=
  s.branchOp core 0x20 w ecc false false (relTarget w)
def execCall (core : Fin 272) (w : BitVec 26) (ecc : Fin 3) (s : State) : Out :=
  s.branchOp core 0x21 w ecc true false (relTarget w)
def execRet (core : Fin 272) (w : BitVec 26) (ecc : Fin 3) (s : State) : Out :=
  s.branchOp core 0x22 w ecc false false fun x => x.lr
def execReti (core : Fin 272) (w : BitVec 26) (ecc : Fin 3) (s : State) : Out :=
  s.branchOp core 0x23 w ecc false true fun x => x.pc
def execJmpr (core : Fin 272) (w : BitVec 26) (ecc : Fin 3) (s : State) : Out :=
  s.branchOp core 0x24 w ecc false false fun x => x.dreg (fRa w)

/-- A jump or call to an absolute target. -/
def State.jumpOp (s : State) (core : Fin 272) (op : Nat) (w : BitVec 26) (imm : W32) (ecc : Fin 3) (link : Bool) : Out :=
  .next (s.dspRun core (dspWord op w) (some imm) ecc fun s c x =>
    let y : DspCore := if link then { x with lr := s.afterSlots c (x.pc + 8) } else x
    .ok { s := s.setCore c y, flow := .branch true imm false })

def execJmpl (core : Fin 272) (w : BitVec 26) (imm : W32) (ecc : Fin 3) (s : State) : Out := s.jumpOp core 0x31 w imm ecc false
def execCalll (core : Fin 272) (w : BitVec 26) (imm : W32) (ecc : Fin 3) (s : State) : Out := s.jumpOp core 0x32 w imm ecc true

/-- Open a loop level (R270, R271). -/
def State.loopOp (s : State) (core : Fin 272) (op : Nat) (w : BitVec 26) (ecc : Fin 3) (count : DspCore → W32) : Out :=
  .next (s.dspRun core (dspWord op w) none ecc fun s c x =>
    let l := x.depth
    let le := x.pc + BitVec.ofNat 32 (4 * dspFld w 16 10)
    if l = 3 then .error (4, 0)
    else if count x = 0 then .ok { s := s, flow := .skip (le + 4), cycles := 2 }
    else if x.endsLoop le then .error (4, 0)
    else
      let y : DspCore := { x with
        ls := nputD 0 x.ls l (x.pc + 4), le := nputD 0 x.le l le, lc := nputD 0 x.lc l (count x) }
      .ok { s := s.setCore c (y.setSr 6 2 (l + 1)) })

def execLoop (core : Fin 272) (w : BitVec 26) (ecc : Fin 3) (s : State) : Out :=
  s.loopOp core 0x28 w ecc fun _ => BitVec.ofNat 32 (dspFld w 0 16)
def execLoopr (core : Fin 272) (w : BitVec 26) (ecc : Fin 3) (s : State) : Out :=
  s.loopOp core 0x29 w ecc fun x => x.dreg (dspFld w 12 4)

def execEndl (core : Fin 272) (w : BitVec 26) (ecc : Fin 3) (s : State) : Out :=
  .next (s.dspRun core (dspWord 0x2A w) none ecc fun s c x => .ok { s := s.setCore c (x.setSr 6 2 (x.depth - 1)) })

/-! ### System instructions (R259, R276, R280) -/

/-- WAIT: illegal inside an interrupted item. -/
def State.dspWait (s : State) (core : Fin 272) (w : BitVec 26) (ecc : Fin 3) : State :=
  s.dspRun core (dspWord 0x2C w) none ecc fun s _ x => if x.stack ≠ [] then .error (1, 0) else .ok { s := s, flow := .wait }

def execTrap (core : Fin 272) (w : BitVec 26) (ecc : Fin 3) (s : State) : Out :=
  .next (s.dspRun core (dspWord 0x2D w) none ecc fun s _ _ => .ok { s := s, flow := .soft (dspFld w 0 16) })

def execDi (core : Fin 272) (w : BitVec 26) (ecc : Fin 3) (s : State) : Out :=
  .next (s.dspRun core (setFld (dspWord 0x2E w) 0 1 0) none ecc fun s c x => .ok { s := s.setCore c (x.setSr 5 1 1) })
def execEi (core : Fin 272) (w : BitVec 26) (ecc : Fin 3) (s : State) : Out :=
  .next (s.dspRun core (setFld (dspWord 0x2E w) 0 1 1) none ecc fun s c x => .ok { s := s.setCore c (x.setSr 5 1 0) })

def execPmctlUnlockAll (core : Fin 272) (w : BitVec 26) (ecc : Fin 3) (s : State) : Out :=
  .next (s.dspRun core (setFld (dspWord 0x2F w) 0 2 0) none ecc fun s c x =>
    .ok { s := s.setCore c { x with pm := x.pm.map fun l => { l with locked := false } } })

/-- Lock the line that holds the address in Pn, filling it; a set's fourth line is not locked. -/
def execPmctlLock (core : Fin 272) (w : BitVec 26) (ecc : Fin 3) (s : State) : Out :=
  .next (s.dspRun core (setFld (dspWord 0x2F w) 0 2 1) none ecc fun s c x => do
    let a := (x.preg (dspFld w 19 3)).toNat
    trapIf (decide (dspRegion a ≠ some 2)) 3 a
    let s1 := s.dspFetch c a 4
    let y := s1.core c
    let full := decide (3 ≤ countIf (fun l => decide (l.line % 256 = a / 64 % 256) && l.locked && decide (l.line ≠ a / 64)) y.pm)
    .ok { s := s1.setCore c { y with
      pm := if full then y.pm else y.pm.map fun l => if l.line = a / 64 then { l with locked := true } else l } })

def execPmctlInvalidate (core : Fin 272) (w : BitVec 26) (ecc : Fin 3) (s : State) : Out :=
  .next (s.dspRun core (setFld (dspWord 0x2F w) 0 2 2) none ecc fun s c x =>
    .ok { s := s.setCore c { x with pm := x.pm.filter (·.locked) } })

/-! ### The doorbell (R276, R278, R292), port space, the mover (R283), the item watchdog (R448) -/

/-- A core takes its doorbell when it may: from WAIT, or at an instruction boundary by pre-emption. The Curator's cores
take theirs at once. -/
def execDoorbell (core : Fin 273) (s : State) : Out :=
  let c := core.val
  if s.doorbell c = false then .next s
  else if c = curatorCore then .next (s.bindHead c)
  else
    let x := s.core c
    let vec := s.dspVec c 4
    if s.blkUp 2 (16 + c / 16) = false ∨ x.run = 2 then .next s
    else if x.run = 0 then .next (s.startCore c)
    else if x.srFld 5 1 = 1 ∨ x.branch.isSome = true ∨ 4 ≤ x.stack.length then .next s
    else
      .next ((((s.setCore c (x.land.enter x.pc vec)).cinc .dspCnt (c / 16) 1).cinc .dspCnt (c / 16) 2).bindHead c |>.syncCore c)

/-- A core's load of RES of a tag: its result is read and DONE cleared (R282). -/
def execResRead (core : Fin 272) (tag : Fin 8) (s : State) : Out :=
  let r := s.portLoad core (0x180 + 24 * tag.val) 8
  .next { r.2 with answer := ⟨0, [BitVec.ofNat 32 r.1, BitVec.ofNat 32 (r.1 / 4294967296)]⟩ }

/-- A core issues a move with a descriptor of 20 bytes. -/
def execMoveGo (core : Fin 272) (desc : Bytes) (s : State) : Out :=
  let x := s.core core
  .next ((s.setCore core { x with move := memWrite x.move 0 (fitTo 20 desc) }).dspMove core)

/-- Does a local range lie in one region of R257. -/
def localRangeOk (a n : Nat) : Bool :=
  match dspRegion a with
  | some 3 => false
  | some r => decide (dspRegion (a + n - 1) = some r)
  | none => false

/-- A core's oldest move ends (R283). A single-bit error in the local words it reads is corrected and counted, a two-bit one
poisons them; data that are poisoned by it or in the buffer are dropped, and the move ends without copying (R13, R258; DEDUCED,
log 96). -/
def execMoveComplete (move : MoveEnd) (s : State) : Out :=
  let c := move.core.val
  let x := s.core c
  match x.moves with
  | [] => .next s
  | j :: rest =>
    let bad := (s.handleFault (10 + c / 16) 0 j.handle).isSome || decide (bufSize j.handle < j.offset + j.len) ||
      decide (j.len = 0 ∨ 65536 < j.len) || !localRangeOk j.local_ j.len || !j.dirOk
    let a := s.bufAddr j.handle + j.offset
    let poison := !bad && (if j.toBuffer then decide (move.err.val = 2) else s.gpoison a j.len)
    let s0 := if !bad && j.toBuffer && decide (move.err.val = 1) then s.rcount .dspEcc (c / 16) 0 0 16 1 else s
    let s1 := (s0.setCore c { x with
      moves := rest, moveDone := x.moveDone + 1, moveFail := if bad || poison then x.moveFail + 1 else x.moveFail }).cinc .dspCnt (c / 16) 7
    .next (if bad then s1.flag .dspCoreStatus (c / 16) (c % 16) 14
      else if poison then (s1.metPoison 2 (16 + c / 16)).flag .dspCoreStatus (c / 16) (c % 16) 14
      else if j.toBuffer then s1.gwrite a (s1.localRead c j.local_ j.len)
      else s1.localWrite c j.local_ (s1.gread a j.len))

/-- A core's item has run for its cluster's CHP_WDT_BLK.MS without DONE, time spent pre-empted left out (R448): the core
halts as under R280. -/
def execCoreItemWatchdog (core : Fin 272) (s : State) : Out :=
  let blk := 16 + core.val / 16
  .next (if nhas s.doc.running core && decide ((s.core core).run = 1) && s.blkUp 2 blk then
      (s.reach (ngetD 0 s.doc.started core + 1000000 * s.rfld .chpWdtBlk 1 blk 0 7)).haltCore core
    else s)

def execDspCntClr (cluster : Fin 17) (s : State) : Out :=
  let cl := cluster.val
  .next (s.answerWith (if s.blkUp 2 (16 + cl) then .ok ((s.cclear .dspCnt cl 0 8).rsetFld .dspEcc cl 0 0 16 0)
    else .error stUnavailable))

end Sys2Proof.Machine
end

