-- ==== Sys2Proof/Machine/Cascade.lean ====
section
/-!
DEFINITION. The peer handshake of a cascade (chapter Cascading up to 1,024 Processors, R421, R429, R431, R438). The
Terold header is checked and committed in Registrar, sent in Tmg, the audio between devices in Audio, the video in
Forwarder.
-/

namespace Sys2Proof.Machine

/-- The processor takes part in a cascade (R421). -/
def State.cascadeOn (s : State) : Bool := decide (s.rfld .curCasCfg 0 0 10 1 = 1)

def State.peerDev (s : State) (d : Nat) : PeerDev := ngetD {} s.cas.peers d
def State.setPeerDev (s : State) (d : Nat) (x : PeerDev) : State :=
  { s with cas := { s.cas with peers := nputD {} s.cas.peers d x } }
def State.peerState (s : State) (d : Nat) : Nat := s.rfld .curCasPeer 0 d 0 3
def State.setPeerState (s : State) (d st : Nat) : State := s.rsetFld .curCasPeer 0 d 0 3 st

/-- The devices that peer legs name, each with its lowest-indexed peer leg. -/
def State.peerLegs (s : State) : NMap Nat :=
  (s.idsOf tyLeg).foldl (fun m l =>
    match s.peer? l with
    | some d => if nhas m d then m else nput m d l
    | none => m) []

/-- The HELLO payload that this processor offers (R429). -/
def State.helloOffer (s : State) : Bytes :=
  [1, 1, 7, 2, 2, 0] ++ beBytes 2 (s.rfld .curCasCfg 0 0 16 14) ++ zeros 8

/-- Send one HELLO on a peer leg (R429). The sequence number, timestamp and SRTP index of its inner packet are not given
(free values, log 43); SEEN is set once a valid HELLO of the device is held. -/
def State.sendHello (s : State) (d l : Nat) : State :=
  let n := s.draw 16
  let ts := n.2.draw 32
  let roc := ts.2.draw 32
  let s0 := roc.2
  let cells := [0x80, 127] ++ beBytes 2 n.1 ++ beBytes 4 ts.1 ++ [0, 0, 0xFF, 0xFF] ++ s0.helloOffer
  let s1 := if s0.peerState d = 0 then s0.setPeerState d 1 else s0
  match s1.alloc 0 cells.length false with
  | (.error _, s2) => s2
  | (.ok h, s2) =>
    let s3 := (s2.gwrite (s2.bufAddr h) cells).request (.hw 0) 2 h 24
    let x : Desc := { handle := h, len := cells.length, conf := s3.legConf l, cells := cells,
                      tbh := some (1, false, b2n (s3.peerDev d).held) }
    s3.submitCopy ⟨l, 3, x, false, roc.1⟩

/-- Negotiate a HELLO (R429): the results that both sides derive, and the peer's state. -/
def State.negotiate (s : State) (d : Nat) (p : Bytes) (seen : Bool) : State :=
  if byteN p 0 % 2 = 0 then
    (s.setPeerDev d { s.peerDev d with held := false, seen := false }).setPeerState d 4
  else
    let size := min (beField p 6 2) (s.rfld .curCasCfg 0 0 16 14)
    let audio := decide (byteN p 1 % 2 = 1) && decide (1548 ≤ size)
    let x : PeerDev := { s.peerDev d with held := true, seen := (s.peerDev d).seen || seen }
    let st := if x.seen then 2 else if s.peerState d = 2 ∨ s.peerState d = 3 then s.peerState d else 1
    (s.setPeerDev d x).rset .curCasPeer 0 d (BitVec.ofNat 32 (st + 8 * b2n audio + 16 * min 2 (byteN p 3) +
      64 * min 2 (byteN p 4) + 256 * (byteN p 2 % 8) + 65536 * size))

/-- A write of CUR_CAS_CFG (R421): refused after LOAD, MAX_PAYLOAD 1,280 to 8,960. -/
def State.writeCasCfg (s : State) (v : W32) : Res State := do
  refuseIf s.afterLoad stModeRefused
  refuseIf (decide (fld v 16 14 < 1280) || decide (8960 < fld v 16 14)) stBadValue
  .ok (s.storeRw .curCasCfg 0 0 v)

/-- A peer leg has gone: with the last leg to a device its entry goes too (CUR_CAS_PEER.STATE 0). -/
def State.casForget (s : State) (l : Nat) (peer : Option Nat) : State :=
  let s1 : State := { s with
    cas := { s.cas with wins := ndel s.cas.wins l, hellos := s.cas.hellos.filter fun e => decide (e.1 ≠ l) }
    tmg := { s.tmg with tbhSeq := ndel s.tmg.tbhSeq l } }
  match peer with
  | some d => if nhas s1.peerLegs d then s1 else
      ({ s1 with cas := { s1.cas with peers := ndel s1.cas.peers d } }).rset .curCasPeer 0 d 0
  | none => s1

/-! ### The meanings -/

/-- A HELLO to each device, 500 ms after the last ones (R429). -/
def execPeerHelloSend (s : State) : Out :=
  if s.cascadeOn = false then .next s
  else
    let s1 := match s.cas.helloAt with
      | some a => s.reach (a + 500000000)
      | none => s
    .next (s1.peerLegs.foldl (fun s e => s.sendHello e.1 e.2) { s1 with cas := { s1.cas with helloAt := some s1.t } })

/-- The next authenticated HELLO is taken up (R429). -/
def execPeerHello (s : State) : Out :=
  match s.cas.hellos with
  | [] => .next s
  | (l, p, seen) :: r =>
    let s1 : State := { s with cas := { s.cas with hellos := r } }
    match s1.peer? l with
    | some d => .next (if p.length = 16 then s1.negotiate d p seen else s1)
    | none => .next s1

/-- A peer without refresh is declared LOST between 2.0 and 2.1 s after the last one (R431); when within, is a free
value. -/
def execPeerLost (device : Fin 1024) (s : State) : Out :=
  let d := device.val
  if s.peerState d = 2 ∨ s.peerState d = 4 ∨ (s.peerState d = 1 ∧ (s.peerDev d).held = true) then
    let k := s.draw 32
    let s1 := k.2.reach ((s.peerDev d).refreshed + 2000000000 + k.1 % 100000001)
    let s2 := ((s1.setPeerDev d { s1.peerDev d with held := false, seen := false }).setPeerState d 3).cinc .curCasCnt 0 6
    .next (s2.raise 0x0D 0 0 (beBytes 2 d))
  else .next s

def execCurCasCntClr (s : State) : Out := .next (s.answerWith (.ok (s.cclear .curCasCnt 0 0 9)))

end Sys2Proof.Machine
end

