-- ==== Sys2Proof/Machine/Pager.lean ====
section
/-!
DEFINITION. The frame-store pager (R337 to R340, R355, R383, R409): pages, stores, guarantees, samples in pages, and the
writes of its registers.
-/

namespace Sys2Proof.Machine

/-! ### Sizes (R337, R338, R383) -/

/-- The luma columns of a page. -/
def pageCols (depth10 : Bool) : Nat := if depth10 then 128 else 256

/-- The pages of a store of a picture. -/
def storePages (w h : Nat) (depth10 : Bool) : Nat := cdiv w (pageCols depth10) * cdiv h 128

/-- The numbers of owners: a surface's and an encode context's output; the stores of a context that has ended; from
2,000,000 on, a context that ends with its picture in the engine, by the store of that picture (R348). -/
def surfOwner (o : Nat) : Nat := 131072 + o
def encOwner (o : Nat) : Nat := 262144 + o
def noOwner : Nat := 1000000
def endOwner (store : Nat) : Nat := 2000000 + store

/-- A decode context's sizes (R329). -/
def State.maxW (s : State) (st : Nat) : Nat := s.attr tyStream st 0x701 1280
def State.maxH (s : State) (st : Nat) : Nat := s.attr tyStream st 0x702 720
def State.maxFps (s : State) (st : Nat) : Nat := s.attr tyStream st 0x703 30
def State.maxDepth10 (s : State) (st : Nat) : Bool := decide (s.attr tyStream st 0x704 8 = 10)
def State.decPages (s : State) (st : Nat) : Nat := storePages (s.maxW st) (s.maxH st) (s.maxDepth10 st)

/-- A surface's sizes (R352). -/
def State.surfW (s : State) (o : Nat) : Nat := s.attr tyOutput o 0x801 0
def State.surfH (s : State) (o : Nat) : Nat := s.attr tyOutput o 0x802 0
def State.surfFps (s : State) (o : Nat) : Nat := s.attr tyOutput o 0x803 30
def State.surfDepth10 (s : State) (o : Nat) : Bool := decide (s.attr tyOutput o 0x804 8 = 10)
def State.surfPages (s : State) (o : Nat) : Nat := storePages (s.surfW o) (s.surfH o) (s.surfDepth10 o)

/-- The spatial layers of an encode context and the size of each (R380). -/
def State.slayers (s : State) (o : Nat) : Nat := s.attr tyOutput o 0x903 1
def State.layerW (s : State) (o i : Nat) : Nat := s.surfW o / 2 ^ (s.slayers o - 1 - i)
def State.layerH (s : State) (o i : Nat) : Nat := s.surfH o / 2 ^ (s.slayers o - 1 - i)
def State.layerPages (s : State) (o i : Nat) : Nat := storePages (s.layerW o i) (s.layerH o i) (s.surfDepth10 o)
def State.encPages (s : State) (o : Nat) : Nat := ((List.range (s.slayers o)).map (s.layerPages o)).sum

/-! ### The pool and the guarantees (R340, R355, R383) -/

/-- P of an owner: the pages of one of its stores, of an encode context those of a store in each spatial layer. -/
def State.ownerPages (s : State) (owner : Nat) : Nat :=
  if owner < 131072 then (nget s.vde.ctx owner).elim 0 (·.pages)
  else if owner < 262144 then s.surfPages (owner - 131072)
  else if owner < noOwner then s.encPages (owner - 262144)
  else (nget s.vde.ending owner).elim 0 (·.2.2)

/-- The guarantee of an owner: 2 × P. -/
def State.guarantee (s : State) (owner : Nat) : Nat := 2 * s.ownerPages owner

/-- The contexts and surfaces with a guarantee. -/
def State.pageOwners (s : State) : List Nat :=
  nkeys s.vde.ctx ++ (nkeys s.cmp.surf).map surfOwner ++ (nkeys s.ven.ctx).map encOwner ++ nkeys s.vde.ending

/-- Pages in use, of an owner or of all. -/
def State.heldPages (s : State) (owner : Nat) : Nat :=
  ((s.pgr.stores.filter fun e => decide (e.2.owner = owner)).map fun e => e.2.pages.length).sum
def State.usedPages (s : State) : List Nat := s.pgr.stores.flatMap fun e => e.2.pages

def State.pgPages (s : State) : Nat := s.rfld .vdePgPool 0 0 0 20
def State.pgStores (s : State) : Nat := s.rfld .vdePgCfg 0 0 0 5
def State.pgFree (s : State) : Nat := s.pgPages - s.usedPages.length
def State.pgGuar (s : State) : Nat := (s.pageOwners.map s.guarantee).sum

/-- The free pages that an owner may take: those beyond the others' unused guarantees. -/
def State.pgAvail (s : State) (owner : Nat) : Nat :=
  s.pgFree - ((s.pageOwners.filter (· ≠ owner)).map fun o => s.guarantee o - s.heldPages o).sum

/-- VDE_PG_LOW follows the free count down. -/
def State.pgLowMark (s : State) : State :=
  s.rsetFld .vdePgLow 0 0 0 20 (min (s.rfld .vdePgLow 0 0 0 20) s.pgFree)

/-- A page number into a rising list. -/
def insertNat (n : Nat) : List Nat → List Nat
  | [] => [n]
  | a :: r => if n ≤ a then n :: a :: r else a :: insertNat n r

/-- `n` free pages; which of the free ones is not given (free value, log 44). -/
def State.pickPages : Nat → State → List Nat → List Nat → List Nat × State
  | 0, s, _, got => (got, s)
  | n + 1, s, used, got =>
    let k := s.draw 20
    let p := nthMissing (k.1 % max 1 (s.pgPages - used.length)) used
    State.pickPages n k.2 (insertNat p used) (got ++ [p])

/-- The stores of an owner. -/
def State.storesOf (s : State) (owner : Nat) : NMap Store := s.pgr.stores.filter fun e => decide (e.2.owner = owner)

/-- The lowest slot of an owner's page table that no store of it has. -/
def State.freeSlot (s : State) (owner : Nat) : Nat :=
  let used := (s.storesOf owner).map (·.2.slot)
  ((List.range (used.length + 1)).find? fun k => !used.contains k).getD used.length

/-- Take a store of `n` pages for an owner, none when the pool has too few. -/
def State.takeStore (s : State) (x : Store) : Option (Nat × State) :=
  let n := storePages x.width x.height x.depth10
  if s.pgAvail x.owner < n then none
  else
    let used := s.usedPages.foldl (fun l p => insertNat p l) []
    let r := State.pickPages n s used []
    let id := r.2.pgr.nextId
    let s1 : State := { r.2 with pgr := { r.2.pgr with
      stores := nput r.2.pgr.stores id { x with pages := r.1, slot := s.freeSlot x.owner }, nextId := id + 1 } }
    some (id, (s1.cadd .vdePgCnt 0 0 n).pgLowMark)

def State.store? (s : State) (id : Nat) : Option Store := nget s.pgr.stores id
def State.modStore (s : State) (id : Nat) (f : Store → Store) : State :=
  { s with pgr := { s.pgr with stores := nmodify s.pgr.stores id f } }

/-- May a store be freed (R339). A store that is being written or that waits for output stays (DEDUCED, log 46). -/
def Store.idle (x : Store) : Bool :=
  !x.ref && !x.presented && !x.anchor && decide (x.holds = 0) && !x.busy && !x.queued

/-- Free the stores that nothing keeps (R339). -/
def State.freeStores (s : State) : State :=
  let n := ((s.pgr.stores.filter fun e => e.2.idle).map fun e => e.2.pages.length).sum
  if n = 0 then s
  else ({ s with pgr := { s.pgr with stores := s.pgr.stores.filter fun e => !e.2.idle } }).cadd .vdePgCnt 0 1 n

/-- Change every store of an owner. -/
def State.mapStores (s : State) (owner : Nat) (f : Store → Store) : State :=
  { s with pgr := { s.pgr with stores := nmapV (fun _ x => if x.owner = owner then f x else x) s.pgr.stores } }

/-- An owner ends: its stores lose every mark; those with holds, and one being written, keep their pages until these end
(R348, R373). -/
def State.dropOwner (s : State) (owner : Nat) : State :=
  (s.mapStores owner fun x => { x with
    owner := noOwner, ref := false, presented := false, anchor := false, queued := false }).freeStores

/-! ### Region 16 (R409) -/

/-- The first unit at which `n` units fit between blocks, given the blocks in rising order. -/
def firstFit (n : Nat) : Nat → List (Nat × Nat × Nat) → Nat
  | a, [] => a
  | a, (_, b, k) :: r => if a + n ≤ b then a else firstFit n (b + k) r

/-- Insert a block by its first unit. -/
def insertBlock (x : Nat × Nat × Nat) : List (Nat × Nat × Nat) → List (Nat × Nat × Nat)
  | [] => [x]
  | a :: r => if x.2.1 ≤ a.2.1 then x :: a :: r else a :: insertBlock x r

/-- Place a context's state block of 16 KiB and its page table for stores of `p` pages (R338, R409), none where it does
not fit. -/
def State.placeContext (s : State) (owner p : Nat) : Option State :=
  let n := cdiv (16384 + s.pgStores * 64 + s.pgStores * p * 4) 4096
  let a := firstFit n 0 s.pgr.blocks
  if 262144 < a + n then none
  else some { s with pgr := { s.pgr with blocks := insertBlock (owner, a, n) s.pgr.blocks } }

def State.unplace (s : State) (owner : Nat) : State :=
  { s with pgr := { s.pgr with blocks := s.pgr.blocks.filter fun b => decide (b.1 ≠ owner) } }

/-! ### The page tables (R338): a view of the stores, which their owner's block of region 16 shows -/

/-- The descriptor of a store. -/
def Store.descriptor (x : Store) : Bytes :=
  leBytes 64 (x.width % 2 ^ 14 + x.height % 2 ^ 14 * 2 ^ 14 + b2n x.depth10 * 2 ^ 28 + b2n x.mono * 2 ^ 29 +
    x.s % 4 * 2 ^ 30 + x.t % 4 * 2 ^ 32 + b2n x.key * 2 ^ 34 + b2n x.taint * 2 ^ 35 + b2n x.ref * 2 ^ 36 +
    b2n x.presented * 2 ^ 37 + b2n x.anchor * 2 ^ 38 + 2 ^ 39 + x.holds % 256 * 2 ^ 40 + x.outcome % 16 * 2 ^ 48 +
    x.conf % 4096 * 2 ^ 52 + x.rtpTs.toNat * 2 ^ 64 + x.doneUs.toNat * 2 ^ 96 + x.pages.length % 65536 * 2 ^ 128)

/-- The store in a slot of an owner's page table. -/
def State.slotStore (s : State) (owner k : Nat) : Option Store :=
  ((s.storesOf owner).find? fun e => decide (e.2.slot = k)).map (·.2)

/-- Entry `i` of an owner's page table: the page with VALID, or 0. -/
def State.pageEntry (s : State) (owner i : Nat) : Nat :=
  match (s.slotStore owner (i / s.ownerPages owner)).bind fun x => x.pages[i % s.ownerPages owner]? with
  | some p => p % 2 ^ 20 + 2 ^ 31
  | none => 0

/-- The byte of a page table at an address, none where no page table lies. -/
def State.tableByte (s : State) (a : Nat) : Option Byte :=
  s.pgr.blocks.findSome? fun b =>
    let base := s.regionBase 16 + 4096 * b.2.1 + 16384
    let n := s.pgStores * 64
    if base ≤ a ∧ a < base + n then
      some (((s.slotStore b.1 ((a - base) / 64)).elim [] Store.descriptor).getD ((a - base) % 64) 0)
    else if base + n ≤ a ∧ a < base + n + 4 * (s.pgStores * s.ownerPages b.1) then
      some ((leBytes 4 (s.pageEntry b.1 ((a - base - n) / 4))).getD ((a - base - n) % 4) 0)
    else none

/-- What a read of the memory finds: a page table, or the bytes stored. -/
def State.tableRead (s : State) (a n : Nat) : Bytes :=
  (indexed (s.gread a n)).map fun e => (s.tableByte (a + e.1)).getD e.2

/-- The bursts of 64 bytes that hold a slot's page entries. -/
def State.slotBursts (s : State) (owner k : Nat) : Nat :=
  let p := 4 * s.ownerPages owner
  if p = 0 then 0 else (k * p + p - 1) / 64 - k * p / 64 + 1

/-! ### Samples in pages (R337) -/

/-- The address of a page of a store. -/
def State.pageAddr (s : State) (x : Store) (i j : Nat) : Nat :=
  s.regionBase 17 + 65536 * x.pages.getD (j * cdiv x.width (pageCols x.depth10) + i) 0

/-- Samples as bytes: a byte each at 8 bits, a little-endian word each at 10. -/
def sampleBytes (depth10 : Bool) (l : List Nat) : Bytes :=
  if depth10 then l.flatMap fun v => leBytes 2 (v % 1024) else l.map byteOf

/-- `n` samples of a string. -/
def bytesSamples (depth10 : Bool) (b : Bytes) (n : Nat) : List Nat :=
  (List.range n).map fun i => if depth10 then leField b (2 * i) 2 % 1024 else byteN b i

/-- A list made `n` long by repeating its last item. -/
def extendTo (n : Nat) (l : List Nat) : List Nat := l.take n ++ List.replicate (n - l.length) (l.getLastD 0)

/-- Write one luma row of a store, with the copies right of the picture. -/
def State.putLuma (s : State) (x : Store) (y : Nat) (row : List Nat) : State :=
  let c := pageCols x.depth10
  let nx := cdiv x.width c
  let b := sampleBytes x.depth10 (extendTo (nx * c) row)
  (List.range nx).foldl (fun s i => s.gwrite (s.pageAddr x i (y / 128) + 256 * (y % 128)) (slice b (256 * i) 256)) s

/-- Interleave two rows of chroma. -/
def interleave : List Nat → List Nat → List Nat
  | a :: r, b :: q => a :: b :: interleave r q
  | _, _ => []

/-- Write one chroma row of a store. -/
def State.putChroma (s : State) (x : Store) (y : Nat) (cb cr : List Nat) : State :=
  let c := pageCols x.depth10
  let nx := cdiv x.width c
  let b := sampleBytes x.depth10 (interleave (extendTo (nx * c / 2) cb) (extendTo (nx * c / 2) cr))
  (List.range nx).foldl (fun s i =>
    s.gwrite (s.pageAddr x i (y / 64) + 32768 + 256 * (y % 64)) (slice b (256 * i) 256)) s

/-- Row `y` of a plane given row by row. -/
def planeRow (p : List Nat) (w y : Nat) : List Nat := (p.drop (y * w)).take w

/-- Write luma rows `y0` to `y0 + h − 1` of a store with their chroma; after the last row of the picture, the copies
below it. -/
def State.putBand (s : State) (x : Store) (y0 h : Nat) (luma cb cr : List Nat) : State :=
  let whole := decide (x.height ≤ y0 + h)
  let rows := if whole then cdiv x.height 128 * 128 - y0 else h
  let s1 := (List.range rows).foldl (fun s k => s.putLuma x (y0 + k) (planeRow luma x.width (min k (h - 1)))) s
  let hc := h / 2
  (List.range (rows / 2)).foldl (fun s k =>
    s.putChroma x (y0 / 2 + k) (planeRow cb (x.width / 2) (min k (hc - 1))) (planeRow cr (x.width / 2) (min k (hc - 1)))) s1

/-- Write the motion data of a store, page by page. -/
def State.putMotion (s : State) (x : Store) (m : List Bytes) : State :=
  (x.pages.zip m).foldl (fun s e => s.gwrite (s.regionBase 17 + 65536 * e.1 + 49152) (e.2.take 16384)) s

/-- A luma row of a store. -/
def State.lumaRow (s : State) (x : Store) (y : Nat) : List Nat :=
  let c := pageCols x.depth10
  ((List.range (cdiv x.width c)).flatMap fun i =>
    bytesSamples x.depth10 (s.gread (s.pageAddr x i (y / 128) + 256 * (y % 128)) 256) c).take x.width

/-- A chroma row of a store: Cb and Cr. -/
def State.chromaRow (s : State) (x : Store) (y : Nat) : List Nat × List Nat :=
  let c := pageCols x.depth10
  let l := (List.range (cdiv x.width c)).flatMap fun i =>
    bytesSamples x.depth10 (s.gread (s.pageAddr x i (y / 64) + 32768 + 256 * (y % 64)) 256) c
  let pick (k : Nat) : List Nat := (List.range (x.width / 2)).map fun i => l.getD (2 * i + k) 0
  (pick 0, pick 1)

/-- Is a sample of rows `y0` to `y1 − 1` of a store poisoned. -/
def State.storePoison (s : State) (x : Store) (y0 y1 : Nat) : Bool :=
  (List.range (y1 - y0)).any fun k =>
    (List.range (cdiv x.width (pageCols x.depth10))).any fun i =>
      s.gpoison (s.pageAddr x i ((y0 + k) / 128) + 256 * ((y0 + k) % 128)) 256 ||
        s.gpoison (s.pageAddr x i ((y0 + k) / 128) + 32768 + 256 * ((y0 + k) / 2 % 64)) 256

/-! ### Register writes -/

/-- A write of VDE_PG_POOL or VDE_PG_CFG: refused after LOAD. -/
def State.writePgPool (s : State) (v : W32) : Res State := do
  refuseIf s.afterLoad stModeRefused
  .ok (s.storeRw .vdePgPool 0 0 v)

def State.writePgCfg (s : State) (v : W32) : Res State := do
  refuseIf s.afterLoad stModeRefused
  refuseIf (decide (fld v 0 5 < 4) || decide (24 < fld v 0 5)) stBadValue
  .ok (s.storeRw .vdePgCfg 0 0 v)

/-- A write of VDE_PG_CNT_CLR (R351). -/
def State.writePgCntClr (s : State) (v : W32) : State :=
  let s1 := if fld v 0 1 = 1 then s.cclear .vdePgCnt 0 0 6 else s
  if fld v 1 1 = 1 then s1.rsetFld .vdePgLow 0 0 0 20 s1.pgFree else s1

end Sys2Proof.Machine
end

