-- ==== Sys2Proof/Machine/VideoDecode.lean ====
section
/-!
DEFINITION. The decode engines (chapter Video Decoding and Frame-Store Paging, R327 to R351): depacketising, access
units, pictures, outcomes, states, migration and engine loss. What a bitstream decodes to comes with the commands.
-/

namespace Sys2Proof.Machine

def State.decCtx? (s : State) (st : Nat) : Option DecCtx := nget s.vde.ctx st
def State.setDecCtx (s : State) (st : Nat) (x : DecCtx) : State :=
  { s with vde := { s.vde with ctx := nput s.vde.ctx st x } }
def State.modDecCtx (s : State) (st : Nat) (f : DecCtx → DecCtx) : State :=
  { s with vde := { s.vde with ctx := nmodify s.vde.ctx st f } }
def State.decPipe (s : State) (e : Nat) : List EnginePic := ngetD [] s.vde.pipe e
def State.setDecPipe (s : State) (e : Nat) (l : List EnginePic) : State :=
  { s with vde := { s.vde with pipe := nputD [] s.vde.pipe e l } }

/-- Is a context's picture in an engine. -/
def State.inEngine (s : State) (st : Nat) : Bool := s.vde.pipe.any fun e => e.2.any fun p => decide (p.stream = st ∧ p.ends = none)

def State.decS (s : State) (st : Nat) : Nat := s.attr tyStream st 0x705 2
def State.decT (s : State) (st : Nat) : Nat := s.attr tyStream st 0x706 2

/-! ### Depacketising (R331, R333) -/

/-- A NAL unit, an OBU, or a part of one: does it begin a unit, its bytes, whether it is left out, its layers, whether it
codes a picture, whether it belongs to a key picture. -/
structure Piece where
  start : Bool
  bytes : Bytes
  out : Bool := false
  s : Nat := 0
  t : Nat := 0
  slice_ : Bool := false
  key : Bool := false
  deriving DecidableEq, Repr

/-- A NAL unit of H.264 or H.265 by its header (R328, R333). -/
def nalPiece (codec : Nat) (b : Bytes) : Piece :=
  if codec = 1 then
    let t := byteN b 0 % 32
    { start := true, bytes := b, out := decide (t = 14 ∨ t = 20), slice_ := decide (1 ≤ t ∧ t ≤ 5), key := decide (t = 5) }
  else
    let t := byteN b 0 / 2 % 64
    { start := true, bytes := b, out := decide (byteN b 0 % 2 * 32 + byteN b 1 / 8 ≠ 0), t := byteN b 1 % 8 - 1
      slice_ := decide (t < 32), key := decide (16 ≤ t ∧ t ≤ 21) }

/-- The continuation of a fragmented unit. -/
def contPiece (b : Bytes) : Piece := { start := false, bytes := b }

/-- An unsigned LEB128 number: its value and its length, none when it does not end in eight bytes. -/
def leb128 (b : Bytes) : Option (Nat × Nat) :=
  (List.range 8).findSome? fun n =>
    if byteN b n < 128 ∧ n < b.length ∧ ((List.range n).all fun i => decide (128 ≤ byteN b i)) = true then
      some ((List.range (n + 1)).foldl (fun a i => a + byteN b i % 128 * 128 ^ i) 0, n + 1)
    else none

/-- An OBU, or its first part, by its header: temporal delimiters, padding, metadata and tile lists are left out. -/
def obuPiece (b : Bytes) : Piece :=
  let h := byteN b 0
  let t := h / 8 % 16
  let ext := decide (h / 4 % 2 = 1)
  let n := 1 + b2n ext
  let body := b.drop (if h / 2 % 2 = 1 then n + ((leb128 (b.drop n)).map (·.2)).getD 0 else n)
  let f := byteN body 0
  { start := true, bytes := b, out := decide (t = 2 ∨ t = 5 ∨ t = 8 ∨ t = 15)
    s := if ext then byteN b 1 / 8 % 4 else 0, t := if ext then byteN b 1 / 32 else 0
    slice_ := decide (t = 3 ∨ t = 6)
    key := decide (t = 3 ∨ t = 6) && decide (f / 128 = 0) && decide (f / 32 % 4 = 0) && decide (f / 16 % 2 = 1) }

/-- The NAL units of an aggregation packet, each after its 2-byte size; also whether a size ran past the packet, which a unit
cannot leave (R345). A size of 0 gives no unit. -/
def aggUnits (codec : Nat) : Nat → Bytes → List Piece × Bool
  | 0, _ => ([], false)
  | n + 1, b =>
    if b = [] then ([], false)
    else
      let k := beField b 0 2
      if b.length < 2 + k then ([], true)
      else
        let r := aggUnits codec n (b.drop (2 + k))
        (if k = 0 then r.1 else nalPiece codec (slice b 2 k) :: r.1, r.2)

/-- What a payload gives: pieces, whether it damages the access unit, whether a length field ran past the packet. -/
abbrev Depacket := List Piece × Bool × Bool

/-- RFC 6184 with packetization-mode 0 and 1. -/
def depacketH264 (b : Bytes) : Depacket :=
  let t := byteN b 0 % 32
  if 1 ≤ t ∧ t ≤ 23 then ([nalPiece 1 b], false, false)
  else if t = 24 then
    let r := aggUnits 1 b.length (b.drop 1)
    (r.1, false, r.2)
  else if t = 28 then
    let h := byteOf (byteN b 0 / 32 * 32 + byteN b 1 % 32)
    if 128 ≤ byteN b 1 then ([nalPiece 1 (h :: b.drop 2)], false, false) else ([contPiece (b.drop 2)], false, false)
  else ([], true, false)

/-- RFC 7798 without DONL. -/
def depacketH265 (b : Bytes) : Depacket :=
  let t := byteN b 0 / 2 % 64
  if t = 48 then
    let r := aggUnits 2 b.length (b.drop 2)
    (r.1, false, r.2)
  else if t = 49 then
    let h := byteOf (byteN b 0 / 128 * 128 + byteN b 2 % 64 * 2 + byteN b 0 % 2)
    if 128 ≤ byteN b 2 then ([nalPiece 2 (h :: byteAt b 1 :: b.drop 3)], false, false)
    else ([contPiece (b.drop 3)], false, false)
  else if t < 48 then ([nalPiece 2 b], false, false)
  else ([], true, false)

/-- The OBU elements of an AV1 payload: `w` the count in the aggregation header, `z` whether the first continues one. -/
def obuElems : Nat → Nat → Nat → Bool → Bytes → Depacket
  | 0, _, _, _, _ => ([], false, false)
  | n + 1, w, i, z, b =>
    if b = [] then ([], false, false)
    else
      let one (e rest : Bytes) : Depacket :=
        let r := obuElems n w (i + 1) false rest
        ((if z then contPiece e else obuPiece e) :: r.1, r.2.1 || (!z && decide (byteN e 0 / 8 % 16 = 8)), r.2.2)
      if w ≠ 0 ∧ i + 1 = w then one b []
      else
        match leb128 b with
        | none => ([], true, false)
        | some (k, m) => if b.length < m + k then ([], true, false) else one (slice b m k) (b.drop (m + k))

/-- The payload of a packet. -/
def depacket (codec : Nat) (b : Bytes) : Depacket :=
  match codec with
  | 1 => depacketH264 b
  | 2 => depacketH265 b
  | _ => obuElems b.length (byteN b 0 / 16 % 4) 0 (decide (128 ≤ byteN b 0)) (b.drop 1)

/-! ### The chain of an access unit (R331) -/

/-- Take buffers of 16 KiB for a context's chain until it has `n` to spare (R331); on EMPTY the request is held and the
assembler stalls (R188). -/
def State.growSpare : Nat → State → Nat → State
  | 0, s, _ => s
  | n + 1, s, st =>
    match s.hwAlloc 6 st 16384 with
    | (.ok h, s1) => State.growSpare n (s1.modDecCtx st fun x => { x with spare := x.spare ++ [h] }) st
    | (.error _, s1) => s1

/-- Write bytes at a position of a chain; `fuel` bounds the buffers touched. -/
def State.writeChain : Nat → State → List W32 → Nat → Bytes → State
  | 0, s, _, _, _ => s
  | n + 1, s, c, pos, b =>
    if b = [] then s
    else
      let room := 16384 - pos % 16384
      State.writeChain n (s.gwrite (s.bufAddr (c.getD (pos / 16384) 0) + pos % 16384) (b.take room)) c (pos + room) (b.drop room)

/-- The byte of an access unit at a position. -/
def State.unitByte (s : State) (u : AccessUnit) (i : Nat) : Nat :=
  byteN (s.gread (s.bufAddr (u.chain.getD (i / 16384) 0) + i % 16384) 1) 0

/-- Does an OBU of an access unit have an obu_size that runs past the unit (R345). -/
def State.obuSizeBad (s : State) (u : AccessUnit) : Bool :=
  u.starts.any fun i =>
    let h := s.unitByte u i
    let at_ := i + 1 + h / 4 % 2
    let b := (List.range (min 8 (u.len - at_))).map fun k => byteOf (s.unitByte u (at_ + k))
    decide (h / 2 % 2 = 1) && match leb128 b with
      | some (n, m) => decide (u.len < at_ + m + n)
      | none => true

/-- Is a chain's data poisoned. -/
def State.chainPoison (s : State) (u : AccessUnit) : Bool := u.chain.any fun h => s.gpoison (s.bufAddr h) 16384

/-- The buffers of an access unit are released. -/
def State.freeUnit (s : State) (u : AccessUnit) : State := u.chain.foldl (fun s h => s.decRef 6 h) s

/-! ### Outcomes and states (R341 to R344) -/

/-- The context asks for a key picture (R344). -/
def State.decKey (s : State) (st : Nat) : State := (s.keyRequest st).sinc tyStream st 0x706

/-- The state after a picture with an outcome (R343). -/
def nextPhase (phase outcome : Nat) (key : Bool) : Nat :=
  if phase = 3 then 3
  else if outcome = 0 ∧ key = true then 1
  else if outcome = 5 ∨ outcome = 8 then 0
  else if phase = 1 ∧ outcome ≠ 0 then 2
  else phase

/-- A picture's outcome acts on its context: state, last outcome other than OK, key request. -/
def State.settlePic (s : State) (st outcome : Nat) (key : Bool) : State :=
  match s.decCtx? st with
  | none => s
  | some x =>
    let ph := nextPhase x.phase outcome key
    let s1 := s.setDecCtx st { x with phase := ph, lastBad := if outcome = 0 then x.lastBad else outcome }
    if ph = 0 ∨ ph = 2 then s1.decKey st else s1

/-- The sticky bit and counter of an outcome (R341, R350). -/
def State.outcomeMark (s : State) (e outcome : Nat) : State :=
  match outcome with
  | 3 => (s.flag .vdeErr e 0 0).cinc .vdeCnt e 5
  | 4 => (s.flag .vdeErr e 0 1).cinc .vdeCnt e 6
  | 5 => (s.flag .vdeErr e 0 2).cinc .vdeCnt e 7
  | 6 => (s.flag .vdePgErr 0 0 0).cinc .vdePgCnt 0 3
  | 7 => s.flag .vdeErr e 0 3
  | 9 => s.flag .vdeErr e 0 4
  | 10 => s.flag .vdeErr e 0 5
  | _ => s

/-- A picture is not decoded: its access unit is released, counted, its outcome acts. -/
def State.notDecoded (s : State) (st e outcome : Nat) (u : AccessUnit) : State :=
  ((((s.freeUnit u).outcomeMark e outcome).cinc .vdeCnt e 4).sinc tyStream st 0x702).settlePic st outcome u.key

/-- The stores that a context's references name have REF, its others not. -/
def State.markRefs (s : State) (st : Nat) : State :=
  let held := ((s.decCtx? st).elim [] (·.refs)).map (·.2)
  { s with pgr := { s.pgr with
    stores := nmapV (fun i y => if y.owner = st then { y with ref := held.contains i } else y) s.pgr.stores } }

/-- AV1: the slots that a picture's refresh_frame_flags name are missing when it is not decoded (R341). -/
def State.loseSlots (s : State) (st : Nat) (sets : List Nat) : State :=
  if s.syntaxOf st = 3 then
    ((s.modDecCtx st fun x => { x with refs := sets.foldl ndel x.refs }).markRefs st).freeStores
  else s

/-- AV1: an OVERRUN discard leaves every slot missing (R341). -/
def State.loseAll (s : State) (st : Nat) : State :=
  s.loseSlots st ((s.decCtx? st).elim [] fun x => nkeys x.refs)

/-! ### Access units (R332, R333) -/

/-- The first expected number of the oldest open unit. -/
def DecCtx.expected (x : DecCtx) (u : AccessUnit) : W16 :=
  match x.next with
  | some n => n
  | none => u.got.foldl (fun a g => if (g - a).toNat < 32768 then a else g) (u.got.headD 0)

/-- How many numbers the run up to a number has. -/
def runLen (first n : W16) : Nat := if (n - first).toNat < 32768 then (n - first).toNat + 1 else 0

/-- Are the first `k` numbers from `first` on all there. -/
def hasRun (u : AccessUnit) (first : W16) (k : Nat) : Bool :=
  (List.range k).all fun i => u.got.contains (first + BitVec.ofNat 16 i)

/-- A closed unit waits for the engine (R333). -/
def State.pushUnit (s : State) (st : Nat) (u : AccessUnit) : State :=
  match s.decCtx? st with
  | none => s.freeUnit u
  | some x =>
    if x.waiting.length < 8 then s.setDecCtx st { x with waiting := x.waiting ++ [u] }
    else
      let lose (s : State) (v : AccessUnit) : State := ((s.notDecoded st x.engine 9 v).sinc tyStream st 0x705).loseAll st
      if u.key then x.waiting.foldl lose (s.setDecCtx st { x with waiting := [u] })
      else lose s u

/-- The timestamps of closed units: those more than 2^30 away from the one that closes last are forgotten (log 45). -/
def addClosed (ts : W32) (l : List W32) : List W32 :=
  ts :: l.filter fun c => decide (c ≠ ts) && decide (((sgn 32 (ts - c).toNat).natAbs) ≤ 2 ^ 30)

/-- The oldest open unit closes (R332). -/
def State.closeUnit (s : State) (st : Nat) : State :=
  match s.decCtx? st with
  | none => s
  | some x =>
    match x.opened with
    | [] => s
    | u :: r =>
      let first := x.expected u
      let n := u.got.foldl (fun a g => max a (runLen first g)) 0
      let bad := u.damaged || u.marker.isNone || !hasRun u first n
      let v : AccessUnit := { u with damaged := bad, closedAt := s.t }
      let s1 := (s.setDecCtx st { x with
        opened := r, next := some (first + BitVec.ofNat 16 n), closed := addClosed u.ts x.closed }).cinc .vdeCnt x.engine 8
      (s1.sadd tyStream st 0x703 (b2n bad)).pushUnit st v

/-- Does the oldest open unit close by rule 1 of R332. -/
def DecCtx.ready (x : DecCtx) : Bool :=
  match x.opened with
  | [] => false
  | u :: _ =>
    match u.marker with
    | none => false
    | some m => decide (runLen (x.expected u) m ≠ 0) && hasRun u (x.expected u) (runLen (x.expected u) m)

/-- Close every unit that rule 1 closes; at most two are open. -/
def State.closeReady : Nat → State → Nat → State
  | 0, s, _ => s
  | n + 1, s, st =>
    match s.decCtx? st with
    | some x => if x.ready then State.closeReady n (s.closeUnit st) st else s
    | none => s

/-- What a packet's pieces add to a unit: the layers that the context keeps (R333). A key picture raises the unit's layers
to `hi`. The H.264 unit is a key picture when its first slice is of type 5 (DEDUCED, log 45). -/
def gatherPieces (codec : Nat) (hi : Nat × Nat) : List Piece → AccessUnit → Bytes → AccessUnit × Bytes
  | [], u, acc => (u, acc)
  | p :: r, u, acc =>
    let key := p.start && p.key && !p.out && (decide (codec ≠ 1) || !u.begun)
    let u1 : AccessUnit := if key && !u.key then { u with key := true, s := hi.1, t := hi.2 } else u
    let keep := if p.start then !p.out && decide (p.s ≤ u1.s) && decide (p.t ≤ u1.t) else u1.keep
    let u2 : AccessUnit := { u1 with
      keep := keep, begun := u1.begun || (p.start && p.slice_ && !p.out)
      starts := if keep && p.start then u1.starts ++ [u1.len + acc.length] else u1.starts }
    gatherPieces codec hi r u2 (if keep then acc ++ p.bytes else acc)

/-- Put a unit that has taken a packet back among the open ones, which stay in the order of their first packets. -/
def putOpen (u : AccessUnit) (l : List AccessUnit) : List AccessUnit :=
  if l.any fun v => decide (v.ts = u.ts) then l.map fun v => if v.ts = u.ts then u else v else l ++ [u]

/-- A picture of a STOPPED context is counted as not decoded (R347). -/
def State.stoppedPic (s : State) (st e : Nat) : State := (s.sinc tyStream st 0x702).cinc .vdeCnt e 4

/-- A packet of a context (R331, R332): true when the assembler has taken it, false while it stalls for a buffer. -/
def State.assemble (s : State) (st : Nat) (x : DecCtx) (b : Bytes) (stamp : Nat) : Bool × State :=
  let ts : W32 := BitVec.ofNat 32 (beField b 4 4)
  let seq : W16 := BitVec.ofNat 16 (beField b 2 2)
  let fresh := x.opened.all fun u => decide (u.ts ≠ ts)
  if x.phase = 3 then
    (true, if x.closed.contains ts then s
      else (s.setDecCtx st { x with closed := addClosed ts x.closed }).stoppedPic st x.engine)
  else if fresh = true ∧ x.closed.contains ts = true then (true, s.sinc tyStream st 0x704)
  else
    let s1 := if fresh = true ∧ 2 ≤ x.opened.length then s.closeUnit st else s
    let x1 := (s1.decCtx? st).getD {}
    let lo := (min x1.s (s.decS st), min x1.t (s.decT st))
    let u0 : AccessUnit := (x1.opened.find? fun u => decide (u.ts = ts)).getD { ts := ts, openedAt := stamp, s := lo.1, t := lo.2 }
    let k := depacket (s.syntaxOf st) (rtpPayload b)
    let g := gatherPieces (s.syntaxOf st) (s.decS st, s.decT st) k.1 u0 []
    let body := g.2.take (s.attr tyStream st 0x707 2097152 - u0.len)
    let need := cdiv (u0.len + body.length) 16384 - u0.chain.length
    let s2 := State.growSpare (need - x1.spare.length) s1 st
    let spare := ((s2.decCtx? st).getD {}).spare
    if spare.length < need then (false, s2)
    else
      let u1 : AccessUnit := { g.1 with
        chain := u0.chain ++ spare.take need, len := u0.len + body.length
        got := if u0.got.contains seq then u0.got else u0.got ++ [seq]
        marker := if 128 ≤ byteN b 1 then some seq else u0.marker
        damaged := u0.damaged || k.2.1 || decide (body.length < g.2.length), lenErr := u0.lenErr || k.2.2 }
      let s3 := State.writeChain (body.length / 16384 + 2) s2 u1.chain u0.len body
      let s4 := s3.modDecCtx st fun y => { y with
        opened := putOpen u1 y.opened, spare := spare.drop need
        s := if fresh || u1.key then u1.s else y.s, t := if fresh || u1.key then u1.t else y.t }
      (true, State.closeReady 2 s4 st)

/-- A key request held for a stream leaves when its time has come (R230, R344). -/
def State.flushHeldKey (s : State) (st : Nat) : State :=
  let f := s.fwdStream st
  if f.keyHeld && f.keyFree s.t then s.sendKey st else s

/-- The last SSRC seen on a stream, which a key request of its context names (R231). -/
def State.seenSsrc (s : State) (st : Nat) (b : Bytes) : State :=
  s.setFwdStream st { s.fwdStream st with ssrc := BitVec.ofNat 32 (beField b 8 4) }

/-- The assembler takes a stream's next packet and releases it (R331). -/
def State.assembleNext (s : State) (st : Nat) : State :=
  match s.decCtx? st with
  | none => s
  | some x =>
    let next : Option (Desc × State) :=
      if s.media st = 3 then
        match ngetD [] s.fwd.toDec st with
        | [] => none
        | d :: r => some (d, { s with fwd := { s.fwd with toDec := nputD [] s.fwd.toDec st r } })
      else if (s.queue (streamQueue st)).bell then s.dequeue (streamQueue st) else none
    match next with
    | none => s
    | some (d, s1) =>
      let a := s1.bufAddr d.handle + d.offset
      if d.poison || s1.gpoison a d.len then (s1.metPoison 3 (1 + x.engine)).decRef 6 d.handle (.stream st)
      else
        let b := s1.gread a d.len
        let r := (s1.seenSsrc st b).assemble st x b d.stamp
        if r.1 then (r.2.decRef 6 d.handle (.stream st)).flushHeldKey st
        else (s.assemble st x b d.stamp).2

/-! ### Pictures (R335 to R343) -/

/-- May an anchor stand in for a reference of a picture (R342); the limits of AV1's reference scaling are that
standard's (PRESUMED, log 45). -/
def anchorFits (codec : Nat) (a : Store) (p : PicHead) : Bool :=
  if codec = 3 then
    decide (a.width ≤ 2 * p.width) && decide (a.height ≤ 2 * p.height) && decide (p.width ≤ 16 * a.width) &&
      decide (p.height ≤ 16 * a.height)
  else decide (a.width = p.width) && decide (a.height = p.height)

/-- The anchor of a spatial layer of a context. -/
def State.anchorOf (s : State) (st layer : Nat) : Option (Nat × Store) :=
  (s.storesOf st).find? fun e => e.2.anchor && decide (e.2.s = layer)

/-- The context that an engine takes next (R335): its oldest waiting unit closed first, ties to the lower stream. -/
def State.nextContext (s : State) (e : Nat) : Option (Nat × DecCtx) :=
  let cand := s.vde.ctx.filter fun c =>
    decide (c.2.engine = e) && decide (c.2.phase ≠ 3) && decide (c.2.waiting ≠ []) && decide (c.2.moveTo = none) &&
      !s.inEngine c.1
  let at_ (c : Nat × DecCtx) : Nat := (c.2.waiting.head?.map (·.closedAt)).getD 0
  cand.foldl (fun (b : Option (Nat × DecCtx)) c =>
    match b with
    | some w => if at_ c < at_ w then some c else b
    | none => some c) none

/-- Page a context in (R335): its state block and the page entries of the stores that the picture uses, its references
and its own, given by slot. Clocks stalled while 256 bursts are outstanding are not given (free value, log 46). -/
def State.pageIn (s : State) (e st : Nat) (slots : List Nat) : State :=
  let s1 := ((s.cinc .vdeCnt e 2).cinc .vdePgCnt 0 4).cadd .vdePgCnt 0 2 (256 + (slots.map (s.slotBursts st)).sum)
  let c := s1.draw 32
  if c.1 = 0 then c.2 else (c.2.cadd .vdeCnt e 11 c.1).flag .vdePgErr 0 0 1

/-- Do the engines decode a picture (R327, R328), up to the limits of its context. -/
def picSupported (codec : Nat) (p : PicHead) : Bool :=
  let named := match codec with
    | 1 => decide (p.profile = .constrainedBaseline ∨ p.profile = .main ∨ p.profile = .high) && decide (p.level ≤ 62) &&
        decide (p.depth = 8) && (decide (p.chroma = 1) || decide (p.chroma = 0 ∧ p.profile = .high)) && !p.fieldCoded
    | 2 => decide (p.level ≤ 62) && decide (p.chroma = 1) &&
        (decide (p.profile = .main ∧ p.depth = 8) || decide (p.profile = .main10 ∧ (p.depth = 8 ∨ p.depth = 10)))
    | _ => decide (p.profile = .av1Main) && decide (p.level ≤ 19 ∨ p.level = 31) && decide (p.depth = 8 ∨ p.depth = 10) &&
        decide (p.chroma ≤ 1) && !p.largeScale
  named && decide (16 ≤ p.width ∧ p.width ≤ 8192 ∧ 16 ≤ p.height ∧ p.height ≤ 8192 ∧ p.width * p.height ≤ 35651584)

/-- The references of a picture that are missing (R342): names that no store has, an H.264 gap in frame_num. -/
def DecCtx.missing (x : DecCtx) (codec : Nat) (p : PicHead) : Nat :=
  let gap := match codec, p.frameNum, x.prevFrame with
    | 1, some (n, m, false), some q => decide (n ≠ q) && decide (n ≠ (q + 1) % m)
    | _, _, _ => false
  countIf (fun n => !nhas x.refs n) p.uses + b2n gap

/-- The AV1 operating point that a context decodes (R333): the one whose operating_point_idc covers exactly the layers up to
S and T, else the smallest one that covers them; 0 covers every layer (log 45). -/
def chooseOp (s t : Nat) (ops : List Nat) : Option Nat :=
  let want := 2 ^ (t + 1) - 1 + 256 * (2 ^ (s + 1) - 1)
  let full (n : Nat) : Nat := if n = 0 then 4095 else n
  let size (n : Nat) : Nat := countIf (fun k => decide (full n / 2 ^ k % 2 = 1)) (List.range 12)
  ops.foldl (fun b n =>
    if full n &&& want = want then
      match b with
      | some m => if size n < size m then some n else b
      | none => some n
    else b) none

/-- A context presents a store (R336). -/
def State.present (s : State) (st id : Nat) : State :=
  ((s.mapStores st fun y => { y with presented := false }).modStore id fun y =>
    if y.owner = st then { y with presented := true, queued := false } else y).freeStores

/-- The picture waiting for output that is first in output order. -/
def firstOut : List (Int × Nat) → Option (Int × Nat)
  | [] => none
  | a :: r => some (r.foldl (fun b e => if e.1 < b.1 then e else b) a)

/-- The bumping process (R336): pictures leave in output order while more than `most` wait, or while the stores that are
references or wait exceed the decoded picture buffer; `fuel` bounds them. -/
def State.bump : Nat → State → Nat → Nat → Nat → State
  | 0, s, _, _, _ => s
  | n + 1, s, st, most, dpb =>
    match s.decCtx? st with
    | none => s
    | some x =>
      match firstOut x.out with
      | none => s
      | some o =>
        let full := countIf (fun e => e.2.ref || e.2.queued) (s.storesOf st)
        if most < x.out.length ∨ dpb < full then
          State.bump n ((s.setDecCtx st { x with out := x.out.erase o }).present st o.2) st most dpb
        else s

/-- What the headers of a picture say of the pictures before it that wait for output: they leave first (1), or are
discarded (2). -/
def State.priorOut (s : State) (st : Nat) (prior : Nat) : State :=
  match s.decCtx? st with
  | none => s
  | some x =>
    if prior = 1 then State.bump x.out.length s st 0 0
    else if prior = 2 then
      ((s.setDecCtx st { x with out := [] }).mapStores st fun y => { y with queued := false }).freeStores
    else s

/-- An AV1 show_existing_frame (R336): the slot's picture is output, without a store of its own; a picture that names other
slots is then held by these. An empty slot is a missing reference. -/
def State.showSlot (s : State) (st e : Nat) (p : PicHead) (u : AccessUnit) (slot : Nat) : State :=
  match (s.decCtx? st).bind fun x => nget x.refs slot with
  | none => (s.notDecoded st e 8 u).loseSlots st p.sets
  | some id =>
    let s1 := (s.modDecCtx st fun x => { x with refs := p.sets.foldl (fun m k => nput m k id) x.refs }).markRefs st
    (s1.present st id).freeUnit u

/-- An engine takes the next context's oldest unit into stage 1 (R335): the picture is begun, or takes an outcome that
leaves it undecoded. -/
def State.startPicture (s : State) (e : Nat) (p : PicHead) : State :=
  match s.nextContext e with
  | none => s
  | some (st, x) =>
    match x.waiting with
    | [] => s
    | w :: r =>
      let u : AccessUnit := if p.more then { w with chain := [] } else w
      let rest := if p.more then { w with key := false } :: r else r
      let codec := s.syntaxOf st
      let x1 : DecCtx := { x with
        waiting := rest, refs := if w.key then [] else x.refs, prevFrame := if w.key then none else x.prevFrame
        op := if codec = 3 ∧ p.ops ≠ [] then chooseOp w.s w.t p.ops else x.op }
      let s1 := s.setDecCtx st x1
      let s2 := if w.key then (s1.markRefs st).freeStores else s1
      match p.showExisting with
      | some k => s2.showSlot st e p u k
      | none =>
        let missing := x1.missing codec p
        let anchor := (s2.anchorOf st p.s).filter fun a => anchorFits codec a.2 p
        let noBase := (decide (x.phase = 0) && !w.key) || (decide (0 < missing) && anchor.isNone)
        let badSize := !picSupported codec p || decide (s.maxW st < p.width) || decide (s.maxH st < p.height) ||
          (decide (p.depth = 10) && !s.maxDepth10 st)
        let y : Store := {
          owner := st, width := p.width, height := p.height, depth10 := decide (p.depth = 10), mono := decide (p.chroma = 0)
          s := p.s, t := p.t, key := w.key, conf := s.streamConf st, rtpTs := w.ts, busy := true }
        let slots := (p.uses.filterMap fun n => (nget x1.refs n).bind s2.store?).map (·.slot)
        let s3 := (s2.pageIn e st (s2.freeSlot st :: slots)).priorOut st p.prior
        let taken := s3.takeStore y
        let bad := if s3.chainPoison w then some 10 else if noBase then some 8
          else if s.pgStores ≤ (s3.storesOf st).length then some 7
          else if taken.isNone then some 6 else if badSize then some 5 else none
        match bad, taken with
        | none, some (id, s4) =>
          let past := p.extents.any fun x => decide (w.len < x.1 + x.2)
          let n : AccessUnit := { u with lenErr := w.lenErr || past || (decide (codec = 3) && s.obuSizeBad w) }
          let s5 := s4.setDecPipe e (s4.decPipe e ++ [{ stream := st, store := id, unit_ := n, head := p, subst := missing, key := w.key }])
          s5.rset .vdeCurrent e 0 (BitVec.ofNat 32 (st + 2147483648))
        | some c, _ => ((if c = 10 then s3.metPoison 3 (1 + e) else s3).notDecoded st e c u).loseSlots st p.sets
        | none, none => (s3.notDecoded st e 6 u).loseSlots st p.sets

/-- The outcome of a decoded picture: the highest code that holds (R341). -/
def picOutcome (q : EnginePic) (r : PicDone) : Nat :=
  if r.syntaxBad then 4 else if q.unit_.lenErr then 3 else if q.unit_.damaged then 2 else if 0 < q.subst then 1 else 0

/-! ### Concealment (R341) -/

/-- Is a sample within one of the rectangles. -/
def inRects (rects : List (Nat × Nat × Nat × Nat)) (x y : Nat) : Bool :=
  rects.any fun r => decide (r.1 ≤ x ∧ x < r.1 + r.2.2.1 ∧ r.2.1 ≤ y ∧ y < r.2.1 + r.2.2.2)

/-- A row of a plane with its concealed samples replaced by those of `alt`, by the last of them beyond its end. -/
def concealRow (rects : List (Nat × Nat × Nat × Nat)) (y : Nat) (row alt : List Nat) : List Nat :=
  (indexed row).map fun e => if inRects rects e.1 y then alt.getD e.1 (alt.getLastD 0) else e.2

/-- A plane with its concealed samples replaced, row by row. -/
def concealPlane (rects : List (Nat × Nat × Nat × Nat)) (w h : Nat) (alt : Nat → List Nat) (p : List Nat) : List Nat :=
  (List.range h).flatMap fun y => concealRow rects y (planeRow p w y) (alt y)

/-- The samples of a picture: concealed blocks are copied from the layer's anchor, or are mid-grey; a monochrome picture's
chroma is mid-grey (R327). An anchor of another depth gives its samples at this depth (log 45). -/
def State.picPlanes (s : State) (y0 : Store) (r : PicDone) : List Nat × List Nat × List Nat :=
  let mid := if y0.depth10 then 512 else 128
  let w2 := y0.width / 2
  let h2 := y0.height / 2
  let grey := List.replicate (w2 * h2) mid
  let half := r.lost.map fun q => (q.1 / 2, q.2.1 / 2, q.2.2.1 / 2, q.2.2.2 / 2)
  let fit (a : Store) (l : List Nat) : List Nat :=
    if a.depth10 = y0.depth10 then l else if y0.depth10 then l.map (4 * ·) else l.map (· / 4)
  let luma (k : Nat) : List Nat := match s.anchorOf y0.owner y0.s with
    | some a => fit a.2 (s.lumaRow a.2 (min k (a.2.height - 1)))
    | none => List.replicate y0.width mid
  let chroma (pick : List Nat × List Nat → List Nat) (k : Nat) : List Nat := match s.anchorOf y0.owner y0.s with
    | some a => fit a.2 (pick (s.chromaRow a.2 (min k (a.2.height / 2 - 1))))
    | none => List.replicate w2 mid
  if r.lost = [] then (r.luma, if y0.mono then grey else r.cb, if y0.mono then grey else r.cr)
  else (concealPlane r.lost y0.width y0.height luma r.luma,
    if y0.mono then grey else concealPlane half w2 h2 (chroma (·.1)) r.cb,
    if y0.mono then grey else concealPlane half w2 h2 (chroma (·.2)) r.cr)

/-- Stage 6 of a picture: its samples and motion data go to its store. -/
def State.writePicture (s : State) (y0 : Store) (r : PicDone) : State :=
  let p := s.picPlanes y0 r
  (s.putBand y0 0 y0.height p.1 p.2.1 p.2.2).putMotion y0 r.motion

/-- The references of a context after a picture (R342): H.264 and H.265 keep those named, AV1 all but the slots refreshed;
the picture takes its names. -/
def DecCtx.refresh (x : DecCtx) (codec : Nat) (p : PicHead) (r : PicDone) (id : Nat) : DecCtx :=
  let kept := if codec = 3 then x.refs else x.refs.filter fun e => r.keeps.contains e.1
  { x with
    refs := p.sets.foldl (fun m k => nput m k id) kept
    prevFrame := if codec = 1 ∧ p.sets ≠ [] then p.frameNum.map (·.1) else x.prevFrame
    out := if r.output then x.out ++ [(r.poc, id)] else x.out }

/-- Finish a decoded picture of a context that still stands (R336, R339, R341, R343): a key picture cancels a held key
request before its own outcome makes one. AV1 outputs a picture with show_frame at once; H.264 and H.265 by bumping. -/
def State.finishPicture (s : State) (e : Nat) (q : EnginePic) (r : PicDone) : State :=
  let st := q.stream
  match s.store? q.store with
  | none => s
  | some y0 =>
    let out := picOutcome q r
    let codec := s.syntaxOf st
    let s1 := s.writePicture y0 r
    let s2 := if q.key then s1.setFwdStream st { s1.fwdStream st with keyHeld := false } else s1
    let s3 := (s2.outcomeMark e out).settlePic st out q.key
    let ph : Nat := ((s3.decCtx? st).map (·.phase)).getD 0
    let taint := decide (ph = 2)
    let anchor := decide (ph = 1) && decide (out = 0)
    let s4 := s3.mapStores st fun y => { y with anchor := y.anchor && !(anchor && decide (y.s = y0.s)) }
    let s5 := s4.modStore q.store fun y =>
      { y with busy := false, taint := taint, anchor := anchor, outcome := out, doneUs := BitVec.ofNat 32 s.us, queued := r.output }
    let s6 := (s5.modDecCtx st fun x => x.refresh codec q.head r q.store).markRefs st
    let n := ((s6.decCtx? st).elim [] (·.out)).length
    let s7 := State.bump n s6 st (if codec = 3 then 0 else r.reorder) r.dpb
    let s8 := (((s7.cinc .vdeCnt e 0).cadd .vdeCnt e 1 (y0.width * y0.height)).cadd .vdeCnt e 3 (b2n taint)).cadd .vdePgCnt 0 5
      (b2n anchor)
    ((s8.sinc tyStream st (if taint then 0x701 else 0x700)).sadd tyStream st 0x707 q.subst).freeStores

/-- A store that was being written goes. -/
def State.dropStore (s : State) (id : Nat) : State :=
  (s.modStore id fun y => { y with busy := false, ref := false, presented := false, anchor := false, queued := false }).freeStores

/-- A context that waited for its picture in an engine to end is gone (R348): its guarantee, its reservation and its page
table return. -/
def State.endContext (s : State) (owner : Nat) : State :=
  let s1 := (s.dropOwner owner).unplace owner
  { s1 with vde := { s1.vde with ending := ndel s1.vde.ending owner } }

/-- A picture whose context ends with it (R348). -/
def State.lastPicture (s : State) (e owner : Nat) (q : EnginePic) (r : Option PicDone) : State :=
  let s1 := match r, s.store? q.store with
    | some d, some y0 =>
      (((s.writePicture y0 d).outcomeMark e (picOutcome q d)).cinc .vdeCnt e 0).cadd .vdeCnt e 1 (y0.width * y0.height)
    | _, _ => (s.outcomeMark e 10).cinc .vdeCnt e 4
  ((s1.dropStore q.store).freeUnit q.unit_).endContext owner

/-- A picture that ends as POISONED in its engine (R13). -/
def State.poisonPicture (s : State) (e : Nat) (q : EnginePic) : State :=
  match q.ends with
  | some owner => s.lastPicture e owner q none
  | none => ((s.dropStore q.store).notDecoded q.stream e 10 q.unit_).loseSlots q.stream q.head.sets

/-- The oldest picture of an engine completes. Poisoned data on the way count and are reported by the engine (R13). -/
def State.endPicture (s : State) (e : Nat) (r : PicDone) : State :=
  match s.decPipe e with
  | [] => s
  | q :: rest =>
    let s1 := s.setDecPipe e rest
    let s2 := if rest = [] then s1.rsetFld .vdeCurrent e 0 31 1 0 else s1
    if r.poisoned then (s2.metPoison 3 (1 + e)).poisonPicture e q
    else
      match q.ends with
      | some owner => s2.lastPicture e owner q (some r)
      | none => (s2.finishPicture e q r).freeUnit q.unit_

/-! ### Contexts on engines (R330, R346 to R348) -/

/-- A context's reservation in pixels per second (R330). -/
def State.decRes (s : State) (st : Nat) : Nat := s.maxW st * s.maxH st * s.maxFps st + s.maxFps st * 8000

/-- The contexts on an engine. -/
def State.decOn (s : State) (e : Nat) : List Nat :=
  (s.vde.ctx.filter fun c => decide (c.2.engine = e) && decide (c.2.phase ≠ 3)).map (·.1)

/-- The reservations on an engine, those of contexts that are ending with their last picture among them. -/
def State.decReserved (s : State) (e : Nat) : List Nat :=
  ((s.vde.ctx.filter fun c => decide (c.2.engine = e) && decide (c.2.phase ≠ 3)).map (·.2.res)) ++
    (s.vde.ending.filter fun c => decide (c.2.1 = e)).map (·.2.2.1)

/-- The reservations that an engine must have room for, a context left out: a context that is to move there counts too. -/
def State.decClaims (s : State) (e but_ : Nat) : List Nat :=
  ((s.vde.ctx.filter fun c => decide (c.1 ≠ but_) && decide (c.2.phase ≠ 3) &&
    decide (c.2.engine = e ∨ c.2.moveTo = some e)).map (·.2.res)) ++
    (s.vde.ending.filter fun c => decide (c.2.1 = e)).map (·.2.2.1)

def State.decLoad (s : State) (e but_ : Nat) : Nat := (s.decClaims e but_).sum

/-- Is there room for a reservation of a context on an engine. -/
def State.decFits (s : State) (st res e : Nat) : Bool :=
  decide (s.decLoad e st + res ≤ s.rfld .vdeRes e 0 16 12 * 1000000) && decide ((s.decClaims e st).length < 2048)

/-- The engine that a context goes to (R330): the one named, or the one with the smallest reservation that has room. -/
def State.decEngine (s : State) (st res eng : Nat) : Option Nat :=
  let fit := (List.range 4).filter (s.decFits st res ·)
  if eng = 255 then
    fit.foldl (fun (b : Option Nat) e =>
      match b with
      | some w => if s.decLoad e st < s.decLoad w st then some e else b
      | none => some e) none
  else if fit.contains eng then some eng else none

/-- A stream has a decode context: MEDIA 2 or 3 with a LAYER_SYNTAX of 1 to 3. -/
def State.wantsContext (s : State) (st : Nat) : Bool := decide (s.media st = 2 ∨ s.media st = 3) && decide (s.syntaxOf st ≠ 0)

/-- Create a stream's decode context (R330, R340, R409). -/
def State.decCreate (s : State) (st : Nat) : Res State :=
  let p := s.decPages st
  if s.pgPages < s.pgGuar + 2 * p then .error stResource
  else
    match s.decEngine st (s.decRes st) (s.attr tyStream st 0x700 255), s.placeContext st p with
    | some e, some s1 => .ok (s1.setDecCtx st { engine := e, res := s.decRes st, pages := p, s := s.decS st, t := s.decT st })
    | _, _ => .error stResource

/-- A context's units and the buffers of its assembler are released. -/
def State.dropUnits (s : State) (st : Nat) : State :=
  match s.decCtx? st with
  | none => s
  | some x =>
    let s1 := (x.opened ++ x.waiting).foldl (fun s u => s.freeUnit u)
      ((s.setDecCtx st { x with opened := [], waiting := [], spare := [] }).hwAllocDrop 6 st)
    x.spare.foldl (fun s h => s.decRef 6 h) s1

/-- A context with its picture in an engine ends with that picture (R348): until then its stores, its page table, its
reservation and its guarantee stand under a number of their own. -/
def State.endLater (s : State) (st : Nat) (x : DecCtx) (store : Nat) : State :=
  let o := endOwner store
  let mark (q : EnginePic) : EnginePic := if q.stream = st ∧ q.ends = none then { q with ends := some o } else q
  { s with
    vde := { ctx := ndel s.vde.ctx st, pipe := nmapV (fun _ l => l.map mark) s.vde.pipe
             ending := nput s.vde.ending o (x.engine, x.res, x.pages) }
    pgr := { s.pgr with
      stores := nmapV (fun _ y => if y.owner = st then { y with owner := o } else y) s.pgr.stores
      blocks := s.pgr.blocks.map fun b => if b.1 = st then (o, b.2) else b } }

/-- A stream's decode context ends at its next frame boundary (R348): with its picture in an engine, else at once. -/
def State.decEnd (s : State) (st : Nat) : State :=
  match s.decCtx? st with
  | none => s
  | some x =>
    let s1 := s.dropUnits st
    let s2 := (ngetD [] s1.fwd.toDec st).foldl (fun s d => s.decRef 6 d.handle)
      { s1 with fwd := { s1.fwd with toDec := ndel s1.fwd.toDec st } }
    match (s2.vde.pipe.flatMap (·.2)).find? fun q => decide (q.stream = st ∧ q.ends = none) with
    | some q => s2.endLater st x q.store
    | none => (State.dropOwner { s2 with vde := { s2.vde with ctx := ndel s2.vde.ctx st } } st).unplace st

/-- Move a context to the engine it is to go to, if none of its pictures is in an engine (R346). -/
def State.migrate (s : State) (st : Nat) : State :=
  match s.decCtx? st with
  | none => s
  | some x =>
    match x.moveTo with
    | none => s
    | some e =>
      if s.inEngine st then s
      else ((s.setDecCtx st { x with engine := e, moveTo := none }).cinc .vdeCnt e 9).cinc .vdeCnt x.engine 10

/-- Does a migration of a decode context run on an engine (R58): from it or to it. -/
def State.decMigrates (s : State) (e : Nat) : Bool :=
  s.vde.ctx.any fun c => c.2.moveTo.isSome && decide (c.2.moveTo = some e ∨ c.2.engine = e)

/-- Does an operation of R58 run on a decode engine: a migration, its reset, its reload from a staged image. -/
def State.decBusy (s : State) (e : Nat) : Bool :=
  s.decMigrates e || s.underReset 3 (1 + e) || decide (s.cur.applyNow = some (0x3000 + 16 * (1 + e)))

/-- An OBJ_MODIFY of ENGINE (R346). -/
def State.decMove (s : State) (st eng : Nat) : Res State := do
  refuseIf (decide (s.m.mode ≠ .maintain)) stModeRefused
  match s.decCtx? st with
  | none => .ok s
  | some x =>
    match s.decEngine st x.res eng with
    | none => .error stResource
    | some e =>
      refuseIf (s.decBusy e || s.decBusy x.engine) stInUse
      if e = x.engine then .ok s else .ok ((s.setDecCtx st { x with moveTo := some e }).migrate st)

/-- Contexts by reservation, largest first. -/
def State.byDecRes (s : State) (l : List Nat) : List Nat :=
  let res (st : Nat) : Nat := (s.decCtx? st).elim 0 (·.res)
  let rec ins (st : Nat) : List Nat → List Nat
    | [] => [st]
    | a :: r => if res a < res st then st :: a :: r else a :: ins st r
  l.foldl (fun acc st => ins st acc) []

/-- A context that fits nowhere is STOPPED (R347): its units are released, each counted as a picture not decoded. -/
def State.decStop (s : State) (st : Nat) : State :=
  match s.decCtx? st with
  | none => s
  | some x =>
    let us := x.opened ++ x.waiting
    us.foldl (fun s _ => s.stoppedPic st x.engine)
      ((s.dropUnits st).modDecCtx st fun y => { y with
        phase := 3, moveTo := none, closed := us.foldl (fun l u => addClosed u.ts l) y.closed })

/-- An engine goes out of service: its pictures end as POISONED, its contexts move or stop, and none moves to it any more
(R347). Its LIMIT is 0 already. -/
def State.decEngineOut (s : State) (e : Nat) : State :=
  let s1 := ((s.decPipe e).foldl (fun s q => s.poisonPicture e q) (s.setDecPipe e [])).rsetFld .vdeCurrent e 0 31 1 0
  let stay (x : DecCtx) : DecCtx := if x.moveTo = some e then { x with moveTo := none } else x
  let s2 : State := { s1 with vde := { s1.vde with ctx := nmapV (fun _ x => stay x) s1.vde.ctx } }
  (s2.byDecRes (s2.decOn e)).foldl (fun s st =>
    match s.decEngine st ((s.decCtx? st).elim 0 (·.res)) 255 with
    | some k => (((s.modDecCtx st fun x => { x with engine := k, moveTo := none }).cinc .vdeCnt k 9).cinc .vdeCnt e 10)
    | none => s.decStop st) s2

/-- An engine returns: STOPPED contexts are placed on it (R347). -/
def State.decEngineBack (s : State) (e : Nat) : State :=
  let idle := (s.vde.ctx.filter fun c => decide (c.2.phase = 3)).map (·.1)
  (s.byDecRes idle).foldl (fun s st =>
    if s.decFits st ((s.decCtx? st).elim 0 (·.res)) e then
      ((s.modDecCtx st fun x => { x with engine := e, phase := 0, next := none }).cinc .vdeCnt e 9) else s) s

/-! ### The meanings -/

def execAssemblePacket (stream : Fin 131072) (s : State) : Out :=
  .next (match s.decCtx? stream with
    | some x => if s.blkUp 3 (1 + x.engine) then s.assembleNext stream else s
    | none => s)

/-- AU_WAIT after its first packet the oldest open unit of a context closes (R332). -/
def execAuWaitExpiry (stream : Fin 131072) (s : State) : Out :=
  match s.decCtx? stream with
  | none => .next s
  | some x =>
    match x.opened with
    | [] => .next s
    | u :: _ =>
      let s1 := s.reach (u.openedAt + s.attr tyStream stream 0x708 20 * 1000000)
      .next (State.closeReady 1 (s1.closeUnit stream) stream)

/-- An engine begins a picture: at most two are in it (R335). -/
def execPictureStart (engine : Fin 4) (pic : PicHead) (s : State) : Out :=
  .next (if s.blkUp 3 (1 + engine) && s.blkUp 3 13 && decide ((s.decPipe engine).length < 2) &&
      decide (s.rfld .vdeRes engine 0 16 12 ≠ 0) then s.startPicture engine pic else s)

/-- The older picture of an engine completes. -/
def execPictureDone (engine : Fin 4) (result : PicDone) (s : State) : Out :=
  .next (if s.blkUp 3 (1 + engine) && s.blkUp 3 13 then s.endPicture engine result else s)

def execContextMigrate (stream : Fin 131072) (s : State) : Out := .next (s.migrate stream)

def execVdeCntClr (engine : Fin 4) (s : State) : Out :=
  .next (s.answerWith (if s.blkUp 3 (1 + engine) then .ok (s.cclear .vdeCnt engine 0 12) else .error stUnavailable))

def execVdePgCntClrCounters (s : State) : Out :=
  .next (s.answerWith (if s.blkUp 3 13 then .ok (s.writePgCntClr 1) else .error stUnavailable))

def execVdePgCntClrLow (s : State) : Out :=
  .next (s.answerWith (if s.blkUp 3 13 then .ok (s.writePgCntClr 2) else .error stUnavailable))

end Sys2Proof.Machine
end

