-- ==== Sys2Proof/Machine/Compose.lean ====
section
/-!
DEFINITION. The Compositor (chapter Composing Pictures, R352 to R376): surfaces, frames, sources and their check,
geometry, scaling, blending, rows, and the writes of its registers.
-/

namespace Sys2Proof.Machine

/-! ### Surfaces (R352 to R355) -/

/-- The key under which item `i` of a repeated attribute is kept (layers, bindings, regions of interest). -/
def itemAttr (a i : Nat) : Nat := a + 65536 * (i + 1)

def State.surf? (s : State) (o : Nat) : Option Surface := nget s.cmp.surf o
def State.setSurf (s : State) (o : Nat) (x : Surface) : State :=
  { s with cmp := { s.cmp with surf := nput s.cmp.surf o x } }

/-- SINK 1: memory only. -/
def State.sinkOnly (s : State) (o : Nat) : Bool := decide (s.attr tyOutput o 0x805 0 = 1)
def State.outConf (s : State) (o : Nat) : Nat := s.attr tyOutput o 0x60A 0

/-- The pipeline of a surface (R353). -/
def State.pipeOf (s : State) (o : Nat) : Nat :=
  match nget s.ven.ctx o with
  | some c => c.engine
  | none => ((s.surf? o).map (·.pipe)).getD 0

/-- A surface's reservation in pixels per second (R354). -/
def State.surfRes (s : State) (o : Nat) : Nat := s.surfFps o * (s.surfW o * s.surfH o + 4000)

/-- The reservations on a pipeline, an output left out: those of surfaces that are to move there too; a stopped context's
surface reserves nothing. -/
def State.pipeLoad (s : State) (i but_ : Nat) : Nat :=
  (((nkeys s.cmp.surf).filter fun o => decide (o ≠ but_) &&
    decide (s.pipeOf o = i ∨ (nget s.ven.ctx o).bind (·.moveTo) = some i) &&
    !((nget s.ven.ctx o).elim false (·.stopped))).map s.surfRes).sum

/-- Is there room for a surface on a pipeline. -/
def State.pipeFits (s : State) (o i : Nat) : Bool :=
  decide (s.pipeLoad i o + s.surfRes o ≤ s.rfld .cmpPipeRes 0 i 16 10 * 1000000)

/-- The time a surface's frame is due (R361). -/
def State.dueAt (s : State) (o n : Nat) : Nat := cdiv (n * 1000000000) (max 1 (s.surfFps o))

/-- A surface comes into being on a pipeline (R355, R361, R364): its first frame is the first due after now. -/
def State.surfStart (s : State) (o pipe : Nat) : State :=
  let s1 := s.setSurf o { pipe := pipe, next := s.t * s.surfFps o / 1000000000 + 1 }
  { s1 with cmp := { s1.cmp with member := nput s1.cmp.member o (memberWord (s.outConf o) false) } }

/-- A surface ends (R348, R364, R373): a frame in composition goes on into memory alone. -/
def State.surfEnd (s : State) (o : Nat) : State :=
  let c := s.cmp
  let s1 : State := { s with cmp := { c with
    surf := ndel c.surf o, member := ndel c.member o
    due := nmapV (fun _ l => l.filter fun d => decide (d.output ≠ o)) c.due
    rows := nmapV (fun _ l => l.filter fun r => decide (r.output ≠ o)) c.rows
    frame := nmapV (fun _ f => if f.output = o then { f with sink := true } else f) c.frame } }
  s1.dropOwner (surfOwner o)

/-! ### Due frames (R361) -/

/-- Insert a due frame: by due time, ties to the lower output. -/
def insertDue (d : DueFrame) : List DueFrame → List DueFrame
  | [] => [d]
  | a :: r => if d.due < a.due ∨ (d.due = a.due ∧ d.output < a.output) then d :: a :: r else a :: insertDue d r

/-- Is a frame of a surface waiting or in composition. -/
def State.frameOpen (s : State) (o : Nat) : Bool :=
  (s.cmp.due.any fun e => e.2.any fun d => decide (d.output = o)) || s.cmp.frame.any fun e => decide (e.2.output = o)

/-- Who holds the slots of a conference in the tick that contains a time (R363). -/
def State.shownAt (s : State) (c at_ : Nat) : List (Option Nat) :=
  let p := (s.audConf c).past
  (((p.find? fun e => decide (e.1 = at_ / 10000000)).or p.head?).map (·.2)).getD []

/-- A surface's next frame falls due: it waits for its pipeline, or is skipped. An output that ends with its frame in
composition has no further one (R373). -/
def State.frameDue (s : State) (o : Nat) : State :=
  match (if s.cmp.ending.contains o then none else s.surf? o) with
  | none => s
  | some x =>
    let n := x.next
    let at_ := s.dueAt o n
    let s1 := (s.reach at_).setSurf o { x with next := n + 1 }
    if s1.frameOpen o || (nget s1.ven.ctx o).elim false (·.stopped) then
      ((s1.sinc tyOutput o 0x801).cinc .cmpCnt 0 1).flag .cmpErr 0 0 3
    else
      let p := s1.pipeOf o
      let d : DueFrame := ⟨o, n, at_, s1.shownAt (s1.outConf o) at_⟩
      { s1 with cmp := { s1.cmp with due := nput s1.cmp.due p (insertDue d (ngetD [] s1.cmp.due p)) } }

/-! ### Sources and their check (R358 to R364) -/

/-- The bytes of a layout's layer. -/
def State.layerBytes (s : State) (l i : Nat) : Bytes := (s.attr? tyLayout l (itemAttr 0x800 i)).getD (zeros 20)
/-- The binding of a layer of an output: KIND and INDEX. -/
def State.layerSrc (s : State) (o i : Nat) : Nat × Nat :=
  let b := (s.attr? tyOutput o (itemAttr 0x806 i)).getD (zeros 8)
  (byteN b 1, beField b 4 4)

/-- The store that a decode context shows, and whether it is a frozen anchor (R363). -/
def State.shownStore (s : State) (st : Nat) (freeze : Bool) : Option (Nat × Bool) :=
  match s.decCtx? st with
  | none => none
  | some x =>
    if x.phase = 3 then none
    else
      match (s.storesOf st).find? fun e => e.2.presented with
      | none => none
      | some e =>
        if freeze && e.2.taint then (s.anchorOf st e.2.s).map fun a => (a.1, true) else some (e.1, false)

/-- The source store of a binding, whether it is a frozen anchor, the stream it shows (R363). -/
def State.resolve (s : State) (src : Nat × Nat) (freeze : Bool) (slots : List (Option Nat)) : Option (Nat × Bool × Option Nat) :=
  match src.1 with
  | 1 => (s.shownStore src.2 freeze).map fun e => (e.1, e.2, some src.2)
  | 2 => ((s.surf? src.2).bind (·.last)).map fun i => (i, false, none)
  | 3 =>
    (slots.getD src.2 none).bind fun occ =>
      let v := s.attr tyStream occ 0x800 0xFFFFFFFF
      if v = 0xFFFFFFFF then none else (s.shownStore v freeze).map fun e => (e.1, e.2, some v)
  | _ => none

/-! ### Geometry (R366, R367) -/

/-- A side of a rectangle: from 2 × floor(a × size / 8,192), its length. -/
def span (a n size : Nat) : Nat × Nat :=
  let x0 := 2 * (a * size / 8192)
  (x0, 2 * ((a + n) * size / 8192) - x0)

/-- A layer's rectangle on a surface, from the bytes of LAYER. -/
def layerRect (b : Bytes) (w h : Nat) : (Nat × Nat) × (Nat × Nat) :=
  (span (beField b 4 2) (beField b 8 2) w, span (beField b 6 2) (beField b 10 2) h)

/-- A layer's crop in a picture. -/
def layerCrop (b : Bytes) (w h : Nat) : (Nat × Nat) × (Nat × Nat) :=
  (span (beField b 12 2) (beField b 16 2) w, span (beField b 14 2) (beField b 18 2) h)

/-- May a crop of a size be scaled to a size (R366, R367). -/
def ratioOk (c d : Nat) : Bool := decide (2 ≤ c) && decide (c ≤ 4 * d) && decide (d ≤ 8 * c)

/-! ### Beginning a frame (R362) -/

/-- Insert a layer by Z. -/
def insertLayer (x : CLayer) : List CLayer → List CLayer
  | [] => [x]
  | a :: r => if x.z < a.z then x :: a :: r else a :: insertLayer x r

/-- A layer of a frame is absent. -/
def State.layerAbsent (s : State) (o : Nat) : State := (s.cinc .cmpCnt 0 3).sinc tyOutput o 0x804

/-- Resolve, check and place one enabled layer: the store that it holds, once it has passed the check, and the layer, where
it is drawn. -/
def State.placeLayer (s : State) (d : DueFrame) (word : W16) (i : Nat) : (Option Nat × Option CLayer) × State :=
  let o := d.output
  let b := s.layerBytes (s.attr tyOutput o 0x800 0) i
  let flags := byteN b 1
  let src := s.layerSrc o i
  match s.resolve src (decide (flags / 2 % 2 = 1)) d.slots with
  | none => ((none, none), s.layerAbsent o)
  | some (id, frozen, st) =>
    match s.store? id with
    | none => ((none, none), s.layerAbsent o)
    | some y =>
      if y.conf ≠ 4095 - word.toNat % 4096 then
        let s1 := (((s.layerAbsent o).flag .cmpErr 0 0 0).cinc .cmpCnt 0 4).sinc tyOutput o 0x803
        let s2 := s1.rset .cmpChkLast 0 0 (BitVec.ofNat 32 (o + 16384 * i + 262144 * src.1 + 1048576 * y.conf))
        ((none, none), st.elim s2 fun v => s2.checkerHit 5 (s2.streamLeg v))
      else
        let r := layerRect b (s.surfW o) (s.surfH o)
        let c := layerCrop b y.width y.height
        if ratioOk c.1.2 r.1.2 && ratioOk c.2.2 r.2.2 then
          let x : CLayer := ⟨i, byteN b 2, byteN b 3, r.1.1, r.2.1, r.1.2, r.2.2, c.1.1, c.2.1, c.1.2, c.2.2, id, flags / 4 % 2⟩
          let s1 := (s.cinc .cmpCnt 0 2).cadd .cmpCnt 0 6 (b2n y.taint)
          ((some id, some x), if frozen then (s1.cinc .cmpCnt 0 7).sinc tyOutput o 0x805 else s1)
        else ((some id, none), ((s.layerAbsent o).cinc .cmpCnt 0 5).flag .cmpErr 0 0 2)

/-- The stores that a frame holds, each once, and its layers, in ascending Z; a membership word that fails makes every layer
absent and is rewritten (R362, R364). -/
def State.placeLayers (s : State) (d : DueFrame) : (List Nat × List CLayer) × State :=
  let o := d.output
  let on := (List.range 16).filter fun i => decide (byteN (s.layerBytes (s.attr tyOutput o 0x800 0) i) 1 % 2 = 1)
  let word := ngetD 0 s.cmp.member o
  if memberOk word then
    on.foldl (fun (a : (List Nat × List CLayer) × State) i =>
      let r := a.2.placeLayer d word i
      let held := match r.1.1 with
        | some id => if a.1.1.contains id then a.1.1 else a.1.1 ++ [id]
        | none => a.1.1
      ((held, r.1.2.elim a.1.2 fun x => insertLayer x a.1.2), r.2)) (([], []), s)
  else
    let s1 := (on.foldl (fun s _ => s.layerAbsent o) s).flag .cmpErr 0 0 1
    (([], []), { s1 with cmp := { s1.cmp with member := nput s1.cmp.member o (memberWord (s1.outConf o) false) } })

/-- The block-row height of an output (R370). -/
def State.rowHeight (s : State) (o : Nat) : Nat :=
  if !s.sinkOnly o && decide (s.attr tyOutput o 0x900 0 = 1) then 16 else 64

/-- A pipeline begins a frame. -/
def State.beginFrame (s : State) (p : Nat) (d : DueFrame) (rest : List DueFrame) : State :=
  let o := d.output
  let s0 : State := { s with cmp := { s.cmp with due := nputD [] s.cmp.due p rest } }
  let r := s0.placeLayers d
  let held := r.1.1
  let s1 := held.foldl (fun s i => s.modStore i fun y => { y with holds := y.holds + 1 }) r.2
  let taint := r.1.2.any fun l => (s1.store? l.store).elim false (·.taint)
  let y : Store := { owner := surfOwner o, width := s.surfW o, height := s.surfH o, depth10 := s.surfDepth10 o
                     conf := s.outConf o, busy := true }
  let t := s1.freeStores.takeStore y
  let s2 := match t with
    | some (_, s2) => s2
    | none => (s1.flag .cmpErr 0 0 5).cinc .cmpCnt 0 9
  let f : CFrame := {
    output := o, w := s.surfW o, h := s.surfH o, depth10 := s.surfDepth10 o, rowH := s.rowHeight o, sink := s.sinkOnly o
    conf := s.outConf o, n := d.n, due := d.due, layers := r.1.2
    bg := ((s.attr? tyLayout (s.attr tyOutput o 0x800 0) 0x801).getD [16, 128, 128]).map fun v =>
      if s.surfDepth10 o then 4 * v.toNat else v.toNat
    lcoef := (List.range 128).map (s.rget .cmpLcoef 0 ·), ccoef := (List.range 64).map (s.rget .cmpCcoef 0 ·)
    row := 0, held := held, store := t.map (·.1), taint := taint }
  { s2 with cmp := { s2.cmp with frame := nput s2.cmp.frame p f } }

/-! ### Scaling and blending (R367 to R369) -/

/-- Tap `j` of a phase: words of four signed bytes. -/
def tapOf (coef : List W32) (word j : Nat) : Int := sgn 8 (fld (coef.getD (word + j / 4) 0) (8 * (j % 4)) 8)

/-- Source sample and phase of output sample `x` (R367). -/
def scalePos (c d c0 x : Nat) : Int × Nat :=
  let step : Int := (c * 65536 / d : Nat)
  let p : Int := c0 * 65536 + step / 2 - 32768 + x * step
  (p / 65536, (p / 2048 % 32).toNat)

/-- An index clamped into a crop. -/
def clampCrop (c0 c : Nat) (i : Int) : Nat := (max (c0 : Int) (min (c0 + c - 1 : Int) i)).toNat

/-- A filter's result: (sum + 32) >> 6, clamped to the depth. -/
def filterOut (top : Nat) (z : Int) : Nat := (max 0 (min (top : Int) ((z + 32) / 64))).toNat

/-- The taps of a plane: their number, the first one's offset, the coefficients, the words of a phase. -/
structure Taps where
  n : Nat
  off : Int
  coef : List W32
  base : Nat
  words : Nat
  deriving DecidableEq, Repr

/-- One filtered sample: `at_` reads the source at an index. -/
def filterAt (k : Taps) (top c0 c : Nat) (pos : Int × Nat) (at_ : Nat → Nat) : Nat :=
  filterOut top ((List.range k.n).foldl (fun (a : Int) j =>
    a + tapOf k.coef (k.base + k.words * pos.2) j * (at_ (clampCrop c0 c (pos.1 + k.off + j)) : Int)) 0)

/-- A source row resampled to a width. -/
def scaleRow (k : Taps) (top c0 c d : Nat) (row : List Nat) : List Nat :=
  if c = d then (row.drop c0).take c
  else (List.range d).map fun x => filterAt k top c0 c (scalePos c d c0 x) fun i => row.getD i 0

/-- Row `y` of a plane of a layer: the rows that the vertical pass reads, each already resampled, then that pass.
`src` reads a resampled row. -/
def scaleCol (k : Taps) (top c0 c d y : Nat) (src : Nat → List Nat) : List Nat :=
  if c = d then src (c0 + y)
  else
    let pos := scalePos c d c0 y
    let rows := (List.range k.n).map fun j => (tapOf k.coef (k.base + k.words * pos.2) j, src (clampCrop c0 c (pos.1 + k.off + j)))
    (List.range ((rows.head?.map (·.2.length)).getD 0)).map fun x =>
      filterOut top (rows.foldl (fun (a : Int) r => a + r.1 * (r.2.getD x 0 : Int)) 0)

/-- Blend a layer sample over an underlying one (R369). -/
def blend (a top_ under : Nat) : Nat :=
  let t := a * top_ + (255 - a) * under + 128
  (t + t / 256) / 256

/-- Depth conversion before and after scaling (R368). -/
def depthIn (src10 dst10 : Bool) (v : Nat) : Nat := if !src10 && dst10 then 4 * v else v
def depthOut (src10 dst10 : Bool) (v : Nat) : Nat := if src10 && !dst10 then min ((v + 2) / 4) 255 else v

/-- Put a run of samples of a layer over a row, from column `x0` on. -/
def blendRow (a x0 : Nat) (layer row : List Nat) : List Nat :=
  row.take x0 ++ List.zipWith (blend a) layer ((row.drop x0).take layer.length) ++ row.drop (x0 + layer.length)

/-- Row `y` of a layer's plane as it is drawn: luma, or chroma 0 Cb, 1 Cr. -/
def State.layerRow (s : State) (f : CFrame) (l : CLayer) (y0 : Store) (plane : Option Bool) (y : Nat) : List Nat :=
  let top := if y0.depth10 || f.depth10 then 1023 else 255
  let conv (r : List Nat) : List Nat := r.map (depthIn y0.depth10 f.depth10)
  let back (r : List Nat) : List Nat := r.map (depthOut y0.depth10 f.depth10)
  match plane with
  | none =>
    let k : Taps := ⟨8, -3, f.lcoef, 64 * l.set_, 2⟩
    back (scaleCol k top l.cy0 l.ch l.dh (y - l.y0) fun r => scaleRow k top l.cx0 l.cw l.dw (conv (s.lumaRow y0 r)))
  | some cr =>
    let k : Taps := ⟨4, -1, f.ccoef, 32 * l.set_, 1⟩
    back (scaleCol k top (l.cy0 / 2) (l.ch / 2) (l.dh / 2) (y - l.y0 / 2) fun r =>
      let c := s.chromaRow y0 r
      scaleRow k top (l.cx0 / 2) (l.cw / 2) (l.dw / 2) (conv (if cr then c.2 else c.1)))

/-- A row of the surface. -/
def State.surfRow (s : State) (f : CFrame) (plane : Option Bool) (y : Nat) : List Nat :=
  let bg := f.bg.getD (match plane with
    | none => 0
    | some false => 1
    | some true => 2) 0
  let half := if plane.isSome then 2 else 1
  f.layers.foldl (fun row l =>
    if l.y0 / half ≤ y ∧ y < (l.y0 + l.dh) / half then
      match s.store? l.store with
      | some y0 => blendRow l.alpha (l.x0 / half) (s.layerRow f l y0 plane y) row
      | none => row
    else row) (List.replicate (f.w / half) bg)

/-- Does a band of a frame read a poisoned sample: the source rows that its layers' taps reach. -/
def State.bandPoison (s : State) (f : CFrame) (y0 h : Nat) : Bool :=
  f.layers.any fun l =>
    let a := max y0 l.y0
    let b := min (y0 + h) (l.y0 + l.dh)
    decide (a < b) && (s.store? l.store).elim false fun st =>
      let row (y : Nat) : Int := if l.ch = l.dh then (l.cy0 + (y - l.y0) : Nat) else (scalePos l.ch l.dh l.cy0 (y - l.y0)).1
      s.storePoison st (clampCrop l.cy0 l.ch (row a - 3)) (clampCrop l.cy0 l.ch (row (b - 1) + 4) + 1)

/-! ### Rows and the end of a frame (R370 to R372) -/

/-- The holds of a frame are released. -/
def State.releaseHolds (s : State) (f : CFrame) : State :=
  (f.held.foldl (fun s i => s.modStore i fun y => { y with holds := y.holds - 1 }) s).freeStores

/-- VEN_CURRENT: the output of the picture in stage 2, the one of the block row that the engine codes, else of the frame
that is under way. -/
def State.venCurrent (s : State) (e : Nat) : State :=
  match ((ngetD [] s.ven.rows e).head?.map (·.output)).or ((nget s.ven.frame e).map (·.output)) with
  | some o => s.rset .venCurrent e 0 (BitVec.ofNat 32 (o + 2147483648))
  | none => s.rsetFld .venCurrent e 0 31 1 0

/-- The pictures in an engine (R383), by output and due index: the one it codes, and those whose rows it holds. -/
def State.enginePics (s : State) (e : Nat) : List (Nat × Nat) :=
  (((nget s.ven.frame e).toList.map fun f => (f.output, f.n)) ++ (ngetD [] s.ven.rows e).map fun b => (b.output, b.n)).dedup

/-- Does an engine take a block row: stage 1 is free, and at most 2 pictures are in the engine (R382, R383). -/
def State.takesRow (s : State) (e : Nat) (r : BlockRow) : Bool :=
  s.blkUp 3 (8 + e) && decide ((ngetD [] s.ven.rows e).length < 2) &&
    ((s.enginePics e).contains (r.output, r.n) || decide ((s.enginePics e).length < 2))

/-- An engine takes block rows from its pipeline's row buffer while it can; `fuel` bounds them. -/
def State.feed : Nat → State → Nat → State
  | 0, s, e => s.venCurrent e
  | n + 1, s, e =>
    match ngetD [] s.cmp.rows e with
    | [] => s.venCurrent e
    | r :: rest =>
      if s.takesRow e r = false then s.venCurrent e
      else State.feed n { s with
        cmp := { s.cmp with rows := nputD [] s.cmp.rows e rest }
        ven := { s.ven with rows := nput s.ven.rows e (ngetD [] s.ven.rows e ++ [r]) } } e

/-- A row goes to the row buffer, and from there to the encoder. -/
def State.pushRow (s : State) (p : Nat) (r : BlockRow) : State :=
  State.feed 2 { s with cmp := { s.cmp with rows := nput s.cmp.rows p (ngetD [] s.cmp.rows p ++ [r]) } } p

/-- A poisoned read ends the frame (R13, R371). -/
def State.poisonFrame (s : State) (p : Nat) (f : CFrame) : State :=
  let s1 : State := { s with cmp := { s.cmp with frame := ndel s.cmp.frame p } }
  let s2 := if f.sink then s1 else s1.pushRow p ⟨f.output, f.n, f.due, f.row, true, true, [], [], [], []⟩
  let s3 := (f.store.elim s2 s2.dropStore).releaseHolds f
  let s4 := (s3.metPoison 3 12).flag .cmpErr 0 0 4
  if (s4.surf? f.output).isSome then s4.sinc tyOutput f.output 0x806 else s4

/-- The last row is written: the surface store becomes the last picture (R372). -/
def State.endFrame (s : State) (p : Nat) (f : CFrame) : State :=
  let s1 : State := { s with cmp := { s.cmp with frame := ndel s.cmp.frame p } }
  let here := (s1.surf? f.output).isSome
  let s2 := match f.store with
    | none => s1
    | some i =>
      if here then
        let a := s1.mapStores (surfOwner f.output) fun y => { y with presented := false }
        let b := a.modStore i fun y =>
          { y with busy := false, presented := true, taint := f.taint, doneUs := BitVec.ofNat 32 (f.due / 1000) }
        b.setSurf f.output { ((b.surf? f.output).getD {}) with last := some i }
      else s1.dropStore i
  let s3 := s2.cinc .cmpCnt 0 0
  (if here then (s3.sinc tyOutput f.output 0x800).sadd tyOutput f.output 0x802 (b2n f.taint) else s3).releaseHolds f

/-- A pipeline finishes its next block row (R370); with a full row buffer it stalls. -/
def State.nextRow (s : State) (p : Nat) : State :=
  match nget s.cmp.frame p with
  | none => s
  | some f =>
    if !f.sink && decide (2 ≤ (ngetD [] s.cmp.rows p).length) then
      let k := s.draw 32
      k.2.cadd .cmpCnt 0 8 k.1
    else
      let y0 := f.row * f.rowH
      let h := min f.rowH (f.h - y0)
      if s.bandPoison f y0 h then s.poisonFrame p f
      else
        let luma := (List.range h).flatMap fun k => s.surfRow f none (y0 + k)
        let cb := (List.range (h / 2)).flatMap fun k => s.surfRow f (some false) (y0 / 2 + k)
        let cr := (List.range (h / 2)).flatMap fun k => s.surfRow f (some true) (y0 / 2 + k)
        let last := decide (f.h ≤ y0 + h)
        let s1 := match f.store.bind s.store? with
          | some x => s.putBand x y0 h luma cb cr
          | none => s
        let s2 := if f.sink then s1 else s1.pushRow p ⟨f.output, f.n, f.due, f.row, last, false, luma, cb, cr,
          f.layers.map fun l => (l.index, l.x0, l.y0, l.dw, l.dh)⟩
        if last then s2.endFrame p f
        else { s2 with cmp := { s2.cmp with frame := nput s2.cmp.frame p { f with row := f.row + 1 } } }

/-! ### Coefficients (R375) -/

/-- Do the taps of a phase sum to 64. -/
def State.phaseOk (s : State) (luma : Bool) (item : Nat) : Bool :=
  let sum (r : Reg) (i : Nat) : Int := (List.range 4).foldl (fun (a : Int) j => a + sgn 8 (fld (s.rget r 0 i) (8 * j) 8)) 0
  decide ((if luma then sum .cmpLcoef (item / 2 * 2) + sum .cmpLcoef (item / 2 * 2 + 1) else sum .cmpCcoef item) = 64)

/-- A command's writes of coefficients: in LOAD or MAINTAIN only, judged when it ends (R375). -/
def State.writeCoefs (s : State) (luma chroma : List (Nat × W32)) : Res State := do
  refuseIf (s.afterLoad && decide (s.m.mode ≠ .maintain)) stModeRefused
  let s1 := luma.foldl (fun s e => s.rset .cmpLcoef 0 e.1 e.2) s
  let s2 := chroma.foldl (fun s e => s.rset .cmpCcoef 0 e.1 e.2) s1
  refuseIf (!((luma.all fun e => s2.phaseOk true e.1) && chroma.all fun e => s2.phaseOk false e.1)) stBadValue
  .ok s2

/-! ### The meanings -/


def execCmpCoefWrite (luma : List (Fin 128 × W32)) (chroma : List (Fin 64 × W32)) (s : State) : Out :=
  .next (s.answerWith (if s.blkUp 3 12 then
    s.writeCoefs (luma.map fun e => (e.1.val, e.2)) (chroma.map fun e => (e.1.val, e.2)) else .error stUnavailable))

def execCmpCntClr (s : State) : Out :=
  .next (s.answerWith (if s.blkUp 3 12 then .ok (s.cclear .cmpCnt 0 0 10) else .error stUnavailable))

end Sys2Proof.Machine
end

