-- ==== Sys2Proof/Machine/VideoEncode.lean ====
section
/-!
DEFINITION. The encode engines and packetisers (chapter Video Encoding and Rate Control, R377 to R401): contexts, frames,
rate control, regions of interest, packets, migration and engine loss. What coding a row gives comes with the commands.
-/

namespace Sys2Proof.Machine

def State.encCtx? (s : State) (o : Nat) : Option EncCtx := nget s.ven.ctx o
def State.setEncCtx (s : State) (o : Nat) (x : EncCtx) : State :=
  { s with ven := { s.ven with ctx := nput s.ven.ctx o x } }
def State.modEncCtx (s : State) (o : Nat) (f : EncCtx → EncCtx) : State :=
  { s with ven := { s.ven with ctx := nmodify s.ven.ctx o f } }
def State.setEncFrame (s : State) (e : Nat) (x : Option EngineFrame) : State :=
  { s with ven := { s.ven with frame := nset s.ven.frame e x } }

def State.vcodec (s : State) (o : Nat) : Nat := s.attr tyOutput o 0x900 1
def State.tlayers (s : State) (o : Nat) : Nat := s.attr tyOutput o 0x904 1
def State.qMin (s : State) (o : Nat) : Nat := byteN ((s.attr? tyOutput o 0x909).getD [10, 51]) 0
def State.qMax (s : State) (o : Nat) : Nat := byteN ((s.attr? tyOutput o 0x909).getD [10, 51]) 1
def State.carrierQueue (s : State) (o : Nat) : Nat := streamQueue (s.attr tyOutput o 0x601 0)

/-- The coding block's side, the blocks of a row and the rows of a spatial layer (R378). -/
def State.blockSide (s : State) (o : Nat) : Nat := if s.vcodec o = 1 then 16 else 64
def State.rowBlocks (s : State) (o i : Nat) : Nat := cdiv (s.layerW o i) (s.blockSide o)
def State.layerRows (s : State) (o i : Nat) : Nat := cdiv (s.layerH o i) (s.blockSide o)

/-! ### Rate control (R386 to R388) -/

/-- The rate of a spatial layer in bits per second, by SHARE. -/
def State.layerRate (s : State) (o i : Nat) : Nat :=
  let share := (s.attr? tyOutput o 0x90C).getD ([[100, 0, 0], [30, 70, 0], [15, 30, 55]].getD (s.slayers o - 1) [100, 0, 0])
  s.attr tyOutput o 0x906 1500 * 10 * byteN share i

/-- The buffer size B in bytes. -/
def State.bufSizeOf (s : State) (o i : Nat) : Nat := s.layerRate o i * s.attr tyOutput o 0x907 1000 / 8000

/-- The weight of a temporal layer in per cent. -/
def tWeight (tl t : Nat) : Nat := ([[100], [133, 67], [160, 120, 60]].getD (tl - 1) [100]).getD t 100

/-- The temporal layer of position `k` (R384). -/
def tLayerOf (tl k : Nat) : Nat :=
  match tl with
  | 2 => k % 2
  | 3 => [0, 2, 1, 2].getD (k % 4) 0
  | _ => 0

/-- Bounds, in 2^-64, of 2^(a / b), for the complexity of R386. -/
def pow2Bounds (a : Int) (b : Nat) : Nat × Nat :=
  let up := 2 ^ a.toNat
  let down := 2 ^ (-a).toNat
  let lo := searchUp (fun k => decide (k ^ b * down ≤ 2 ^ (64 * b) * up)) 96 0
  (lo, lo + 1)

/-- Bounds of a frame's complexity N (R386). -/
def CodedFrame.complexity (c : CodedFrame) : Nat × Nat :=
  let n := max 1 c.qNum
  let p := pow2Bounds ((c.qSum : Int) - 32 * n) (6 * n)
  (c.bytes * p.1, c.bytes * p.2)

/-- A byte count times the ratio `num / den`, the ratio held between one half and two. -/
def clampRatio (q num den : Nat) : Nat :=
  let d := max 1 den
  max (q / 2) (min (2 * q) (q * num / d))

/-- The base of a frame that is no key picture (R386): Q × w × k truncated; k is 1 while no frame of the layer stands
since the last key picture (DEDUCED, log 47). Where the bounds of k leave two whole numbers, either (free value). -/
def State.baseOf (s : State) (o i t : Nat) (rc : RateCtl) : Nat × State :=
  let num := s.layerRate o i * tWeight (s.tlayers o) t
  let den := 8 * s.surfFps o * 100
  let since := ngetD [] rc.since t
  if s.attr tyOutput o 0x905 0 = 0 ∨ since = [] then (num / max 1 den, s)
  else
    let last := ((nget rc.last t).getD {}).complexity
    let all := since.map CodedFrame.complexity
    let m := since.length
    let lo := clampRatio num (last.1 * m) (all.map (·.2)).sum / max 1 den
    let hi := clampRatio num (last.2 * m) (all.map (·.1)).sum / max 1 den
    let k := s.draw 1
    if lo = hi then (lo, s) else (if k.1 = 0 then lo else hi, k.2)

/-- Cap C of a frame of a spatial layer (R386). -/
def State.capOf (s : State) (o i : Nat) (rc : RateCtl) : Nat :=
  let cbr := s.bufSizeOf o i - rc.full
  let vbr := s.layerRate o i * s.attr tyOutput o 0x908 400 / (100 * max 1 (8 * s.surfFps o))
  match s.attr tyOutput o 0x905 0 with
  | 0 => cbr
  | 1 => vbr
  | _ => min cbr vbr

/-- Target T of a frame of a spatial layer (R386). -/
def State.targetOf (s : State) (o i t : Nat) (key : Bool) (rc : RateCtl) : Nat × State :=
  let fps8 := max 1 (8 * s.surfFps o)
  let rate := s.layerRate o i
  let b := if key then (rate * s.attr tyOutput o 0x90A 4 / fps8, s) else s.baseOf o i t rc
  (min (s.capOf o i rc) (max (b.1 - rc.carry) (rate / (8 * fps8))), b.2)

/-- Budgets by row (R387): in proportion to what the rows cost, or to their pixels; the remainder goes to the last. -/
def budgets (t : Nat) (w : List Nat) : List Nat :=
  let sum := max 1 w.sum
  let b := w.map fun x => t * x / sum
  match b.reverse with
  | [] => []
  | a :: r => ((a + (t - b.sum)) :: r).reverse

/-- The pixel rows of each block row of a spatial layer, times its width. -/
def State.rowPixels (s : State) (o i : Nat) : List Nat :=
  (List.range (s.layerRows o i)).map fun r => min (s.blockSide o) (s.layerH o i - r * s.blockSide o) * s.layerW o i

/-- Rounding half away from zero of `num / den`. -/
def roundAway (num : Int) (den : Nat) : Int :=
  let d := max 1 den
  if 0 ≤ num then (2 * num + d) / (2 * d) else -((2 * -num + d) / (2 * d))

/-- round(6 × log2(a / b)): the whole number m with 2^(2m − 1) ≤ (a / b)^12 < 2^(2m + 1). -/
def round6log2 (a b : Nat) : Int :=
  let p := (max 1 a) ^ 12
  let q := (max 1 b) ^ 12
  let up := searchUp (fun m => decide (q * 2 ^ (2 * m) ≤ 2 * p)) 8 0
  let down := searchUp (fun m => decide (p * 2 ^ (2 * m) ≤ 2 * q)) 8 0
  if 0 < up then up else -(down : Int)

def clampQ (lo hi : Nat) (q : Int) : Nat := (max (lo : Int) (min hi q)).toNat

/-- The starting q of a frame (R388). The mean q of a coded frame need not be whole; which way it is taken is not given
(free value, log 47). -/
def State.startQ (s : State) (o t target : Nat) (key : Bool) (rc : RateCtl) : Nat × State :=
  match (if key then rc.key else nget rc.last t) with
  | none => (30, s)
  | some c =>
    let n := max 1 c.qNum
    let k := s.draw 1
    let mean := c.qSum / n + (if c.qSum % n = 0 then 0 else k.1)
    (clampQ (s.qMin o) (s.qMax o) (mean + round6log2 c.bytes target), if c.qSum % n = 0 then s else k.2)

/-- The q of the next row of a frame (R388). -/
def EngineFrame.nextQ (fr : EngineFrame) (f : LayerFrame) : Nat :=
  let dev : Int := (f.spent : Int) - (f.budget.take f.rows).sum
  let step := max (-4) (min 4 (roundAway (24 * dev) f.target))
  clampQ fr.qMin fr.qMax ((f.q : Int) + step)

/-- Rate control after a coded frame (R386). -/
def State.rcAfter (s : State) (o t : Nat) (key : Bool) (f : LayerFrame) (rc : RateCtl) : RateCtl :=
  let c : CodedFrame := ⟨f.spent, f.qSum, f.qNum, f.rowBytes⟩
  let den := max 1 (8 * s.surfFps o)
  { rc with
    full := (rc.full * den + f.spent * den - f.rate) / den
    carry := f.spent - f.target
    target := f.target
    since := if key then [] else nput rc.since t ((c :: ngetD [] rc.since t).take 32)
    last := nput rc.last t c
    key := if key then some c else rc.key }

/-! ### Regions of interest (R390, R391) -/

/-- The regions of interest of an output, by INDEX. -/
def State.roisOf (s : State) (o : Nat) : List Bytes :=
  (List.range 16).map fun k => (s.attr? tyOutput o (itemAttr 0x90D k)).getD (zeros 16)

/-- The q offset of the block at (bx, row) of a spatial layer, under the regions that its frame began with. -/
def State.roiOffset (s : State) (o i bx row : Nat) (rois : List Bytes) (rects : List (Nat × Nat × Nat × Nat × Nat)) : Int :=
  let side := s.blockSide o
  let f := 2 ^ (s.slayers o - 1 - i)
  let cx := (bx * side + side / 2) * f
  let cy := (row * side + side / 2) * f
  let inside (x0 y0 w h : Nat) : Bool := decide (x0 ≤ cx ∧ cx < x0 + w ∧ y0 ≤ cy ∧ cy < y0 + h)
  let hit := rois.find? fun b =>
    decide (byteN b 1 % 2 = 1) &&
      if byteN b 1 / 2 % 2 = 1 then
        match rects.find? fun r => decide (r.1 = byteN b 3) with
        | some (_, x, y, w, h) => inside x y w h
        | none => false
      else
        let x := span (beField b 4 2) (beField b 8 2) (s.surfW o)
        let y := span (beField b 6 2) (beField b 10 2) (s.surfH o)
        inside x.1 y.1 x.2 y.2
  match hit with
  | some b => sgn 8 (byteN b 2)
  | none => 0

/-! ### Coding a row (R387 to R390) -/

/-- One block (R389): as coded, or in floor mode from the first block on at which the frame could pass its cap. -/
def codeBlock (qBlk after_ : Nat) (a : LayerFrame × Bytes) (b : Bytes × Bytes) : LayerFrame × Bytes :=
  let f := a.1
  let left := f.left - 1
  let floor := f.floor || decide (f.cap < f.spent + b.1.length + 2 * left + 32 * after_)
  let c := if floor then b.2.take 2 else b.1
  let q := if floor then 51 else qBlk
  ({ f with spent := f.spent + c.length, left := left, floor := floor, qSum := f.qSum + q, qNum := f.qNum + 1 }, a.2 ++ c)

/-- Code the next row of a spatial layer: the layer's frame after it, and the units coded (R378, R387). -/
def State.codeRow (s : State) (fr : EngineFrame) (i : Nat) (f : LayerFrame) (r : EncRow)
    (rects : List (Nat × Nat × Nat × Nat × Nat)) : LayerFrame × List CodedUnit :=
  let o := fr.output
  let row := f.rows
  let after_ := s.layerRows o i - 1 - row
  let params := if fr.key ∧ row = 0 then r.params else []
  let fh := if row = 0 then r.frameHead else []
  let head := r.head.take 32
  let start := (params.map (·.length)).sum + fh.length + head.length
  let f0 : LayerFrame := { f with spent := f.spent + start }
  let g := (List.range (s.rowBlocks o i)).foldl (fun a bx =>
    let q := clampQ fr.qMin fr.qMax ((f.q : Int) + s.roiOffset o i bx row fr.rois rects)
    codeBlock q after_ a (r.blocks.getD bx ([], []))) (f0, head)
  let f1 : LayerFrame := { g.1 with rows := row + 1, rowBytes := f.rowBytes ++ [g.1.spent - f.spent] }
  ({ f1 with q := fr.nextQ f1 },
    params.map (fun b => ⟨b, true⟩) ++ (if fh = [] then [] else [⟨fh, false⟩]) ++ [⟨g.2, false⟩])

/-! ### A frame begins (R383 to R386, R389) -/

/-- Does a frame become a key picture (R385). -/
def State.wantsKey (s : State) (o due : Nat) (x : EncCtx) : Bool :=
  let every := s.attr tyOutput o 0x90B 0
  x.keyN.isNone || s.fwd.encKey.contains o || x.owed ||
    (decide (every ≠ 0) && decide (x.keyAt + every * 1000000000 ≤ due))

/-- The least that a frame of a spatial layer takes: its header, 2 bytes a block, 32 a slice or tile (R389). -/
def State.leastBytes (s : State) (o i fh : Nat) : Nat :=
  fh + 2 * (s.rowBlocks o i * s.layerRows o i) + 32 * s.layerRows o i

/-- Is every layer's cap large enough for the least that a frame takes (R389). -/
def State.capsHold (s : State) (o fh : Nat) (x : EncCtx) : Bool :=
  (List.range (s.slayers o)).all fun i => decide (s.leastBytes o i fh ≤ s.capOf o i (ngetD {} x.rc i))

/-- The buffers of the next frame's layers, taken one by one into the context (R392); on EMPTY the request is held and the
engine waits (R188). Answers whether all are there. -/
def State.takeChains (o : Nat) (x : EncCtx) : List Nat → State → Bool × State
  | [], s => (true, s)
  | i :: r, s =>
    if nhas ((s.encCtx? o).getD {}).spare i then State.takeChains o x r s
    else
      match s.hwAlloc 7 (8 * o + i) (max 1 (min 4194304 (s.capOf o i (ngetD {} x.rc i)))) with
      | (.ok h, s1) => State.takeChains o x r (s1.modEncCtx o fun y => { y with spare := nput y.spare i h })
      | (.error _, s1) => (false, s1)

/-- The buffers taken for an output's next frame go back. -/
def State.dropChains (s : State) (o : Nat) : State :=
  let s1 := (List.range 3).foldl (fun s i => s.hwAllocDrop 7 (8 * o + i)) s
  (((s1.encCtx? o).elim [] (·.spare)).foldl (fun s e => s.decRef 7 e.2) s1).modEncCtx o fun y => { y with spare := [] }

/-- The stores of a T0 picture, one for each spatial layer: all of them, or none while the pool has too few pages or the
context would hold more than STORES (R340, R383). -/
def State.takeLayerStores (o : Nat) (key : Bool) : List Nat → State → Option (List Nat × State)
  | [], s => some ([], s)
  | i :: r, s =>
    let y : Store := { owner := encOwner o, width := s.layerW o i, height := s.layerH o i, depth10 := s.surfDepth10 o
                       s := i, key := key, conf := s.outConf o, busy := true }
    if s.pgStores ≤ (s.storesOf (encOwner o)).length then none
    else (s.takeStore y).bind fun a => (State.takeLayerStores o key r a.2).map fun b => (a.1 :: b.1, b.2)

/-- The layers of a frame that is coded, given their stores: targets, budgets, starting q, buffers. -/
def State.openLayers (o t : Nat) (key : Bool) (x : EncCtx) : List Nat → List Nat → State → List LayerFrame × State
  | [], _, s => ([], s)
  | i :: r, stores, s =>
    let rc := ngetD {} x.rc i
    let g := s.targetOf o i t key rc
    let q := g.2.startQ o t g.1 key rc
    let w := if key then none else (ngetD [] rc.since t).head?.map (·.rows)
    let f : LayerFrame := {
      target := g.1, cap := s.capOf o i rc, rate := s.layerRate o i, budget := budgets g.1 (w.getD (s.rowPixels o i)), q := q.1
      left := s.rowBlocks o i * s.layerRows o i, store := stores.head?
      handle := ngetD 0 ((s.encCtx? o).getD {}).spare i }
    let a := State.openLayers o t key x r stores.tail q.2
    (f :: a.1, a.2)

/-- A context's state and the page entries of its reference stores are paged in (R383). -/
def State.encPageIn (s : State) (e o : Nat) (x : EncCtx) : State :=
  let slots := x.refs.filterMap fun r => (s.store? r.2).map (·.slot)
  ((s.cinc .venCnt e 2).cinc .vdePgCnt 0 4).cadd .vdePgCnt 0 2 (256 + (slots.map (s.slotBursts (encOwner o))).sum)

/-- The frame of a block row as an engine takes it up, with nothing coded: `dropped` while it is to be skipped. -/
def State.newFrame (s : State) (b : BlockRow) (key : Bool) (t : Nat) (dropped : Bool) (layers : List LayerFrame) : EngineFrame :=
  { output := b.output, n := b.n, due := b.due, key := key, t := t, dropped := dropped, layers := layers
    qMin := s.qMin b.output, qMax := s.qMax b.output, rois := s.roisOf b.output }

/-- The frame's layers for the packetiser, with MAX_PAYLOAD, DD_ID and PT as they stand (R379). -/
def State.newBits (s : State) (o : Nat) (fr : EngineFrame) : List FrameBits :=
  (indexed fr.layers).map fun f => {
    handle := f.2.handle, s := f.1, t := fr.t, key := fr.key, due := fr.due, units := []
    limit := s.attr tyOutput o 0x90E 1200, ddId := s.attr tyOutput o 0x90F 0, pt := s.attr tyOutput o 0x608 96 }

/-- A picture that gets no store is not coded (R340, R351): it goes the way of a dropped frame, a key picture stays owed
(log 99). -/
def State.noStore (s : State) (e : Nat) (fr : EngineFrame) : State :=
  ((((s.flag .vdePgErr 0 0 0).cinc .vdePgCnt 0 3).setEncFrame e (some fr)).modEncCtx fr.output fun y =>
    { y with owed := y.owed || fr.key }).dropChains fr.output

/-- A frame that an engine codes comes into being: its layers open; a key picture cancels the requests held for the output
(R385). -/
def State.startFrame (s : State) (e : Nat) (b : BlockRow) (key : Bool) (t : Nat) (x : EncCtx) (stores : List Nat) : State :=
  let o := b.output
  let a := State.openLayers o t key x (List.range (s.slayers o)) stores s
  let fr := s.newFrame b key t false a.1
  let s1 := (a.2.setEncFrame e (some fr)).modEncCtx o fun y => { y with bits := y.bits ++ s.newBits o fr, spare := [] }
  if key then
    let s2 : State := { s1 with fwd := { s1.fwd with encKey := s1.fwd.encKey.filter (· ≠ o) } }
    (s2.setFwdStream (131072 + o) { s2.fwdStream (131072 + o) with keyHeld := false }).modEncCtx o fun y =>
      { y with owed := false, keyN := some b.n, keyAt := b.due }
  else s1

/-- A frame enters an engine with its first block row: coded, dropped, or a key picture deferred (R383 to R389). Answers
false while it waits for a buffer. At a key picture the context's references go first (R340). -/
def State.openFrame (s : State) (e : Nat) (b : BlockRow) (fh : Nat) (x : EncCtx) : Bool × State :=
  let o := b.output
  let key := s.wantsKey o b.due x
  let t := if key then 0 else tLayerOf (s.tlayers o) (b.n - x.keyN.getD 0)
  if s.capsHold o fh x = false then
    let s1 := (s.encPageIn e o x).setEncFrame e (some (s.newFrame b key t true []))
    (true, if key then ((s1.flag .venErr e 0 2).sinc tyOutput o 0x904).modEncCtx o fun y => { y with owed := true }
      else ((s1.flag .venErr e 0 1).cinc .venCnt e 5).sinc tyOutput o 0x903)
  else
    let c := State.takeChains o x (List.range (s.slayers o)) s
    if c.1 = false then c
    else
      let s1 := c.2.encPageIn e o x
      let s2 := if key then
          ((s1.mapStores (encOwner o) fun y => { y with ref := false }).modEncCtx o fun y => { y with refs := [] }).freeStores
        else s1
      if t ≠ 0 then (true, s2.startFrame e b key t x [])
      else
        match State.takeLayerStores o key (List.range (s.slayers o)) s2 with
        | some a => (true, a.2.startFrame e b key t x a.1)
        | none => (true, s2.noStore e (s2.newFrame b key t true []))

/-! ### Descriptors on the carrier's queue (R392) -/

/-- Add coded units to the packetiser's view of a layer's frame. -/
def addUnits (h : W32) (us : List CodedUnit) (l : List FrameBits) : List FrameBits :=
  l.map fun b => if b.handle = h then { b with units := b.units ++ us } else b

/-- Has the packetiser a layer's frame in view: it has, until the frame's buffer is released. -/
def State.hasBits (s : State) (o : Nat) (h : W32) : Bool :=
  (s.encCtx? o).elim false fun x => x.bits.any fun b => decide (b.handle = h)

/-- The packetiser loses sight of a layer's frame, whose buffer is released. -/
def State.dropBits (s : State) (o : Nat) (h : W32) : State :=
  (s.decRef 7 h).modEncCtx o fun x => { x with bits := x.bits.filter fun b => decide (b.handle ≠ h) }

/-- Enqueue or extend the descriptor of a layer's frame: `whole` when its last row is coded. A refusal is a failed item
of the producer, and the frame's buffer goes. -/
def State.publish (s : State) (o : Nat) (f : LayerFrame) (whole : Bool) : LayerFrame × State :=
  let q := s.carrierQueue o
  let len := min f.spent (bufSize f.handle)
  if f.enqueued then (f, if s.hasBits o f.handle then s.extendQueue q len whole false else s)
  else if whole || (decide (0 < s.ctBytes q) && decide (0 < f.spent)) then
    let d : Desc := { handle := f.handle, len := len, complete := whole, conf := s.outConf o, kind := 1, stamp := s.t }
    let s1 := s.enqueueFor (.hw 7) q d
    ({ f with enqueued := true }, match s.enqueueFault q 7 d with
      | none | some 0x11 => s1
      | some _ => s1.dropBits o f.handle)
  else (f, s)

/-- Publish the layers in order: a layer's descriptor is enqueued once every lower one is complete. -/
def State.publishAll (o : Nat) (whole : Bool) : List LayerFrame → Bool → State → List LayerFrame × State
  | [], _, s => ([], s)
  | f :: r, go, s =>
    if go then
      let a := s.publish o f whole
      let b := State.publishAll o whole r whole a.2
      (a.1 :: b.1, b.2)
    else (f :: r, s)

/-! ### The rows of a frame (R381, R382) -/

/-- A row of a lower layer: each sample the mean of the 2 × 2 samples above it. -/
def halveRow : List Nat → List Nat → List Nat
  | a :: b :: r, c :: d :: q => (a + b + c + d + 2) / 4 :: halveRow r q
  | _, _ => []

/-- A plane of width `w`, given row by row, `n` rows of it halved in both directions. -/
def halvePlane (w n : Nat) (p : List Nat) : List Nat :=
  (List.range n).flatMap fun y => halveRow (planeRow p w (2 * y)) (planeRow p w (2 * y + 1))

/-- The planes of a block row at a spatial layer `k` steps below the top one; `w` and `h` are the block row's size. -/
def lowerPlanes : Nat → Nat → Nat → List Nat × List Nat × List Nat → List Nat × List Nat × List Nat
  | 0, _, _, p => p
  | k + 1, w, h, p =>
    lowerPlanes k (w / 2) (h / 2)
      (halvePlane w (h / 2) p.1, halvePlane (w / 2) (h / 4) p.2.1, halvePlane (w / 2) (h / 4) p.2.2)

/-- A layer's line store takes what a block row of `h` luma rows gives it. -/
def LayerFrame.takeRows (f : LayerFrame) (p : List Nat × List Nat × List Nat) : LayerFrame :=
  { f with luma := f.luma ++ p.1, cb := f.cb ++ p.2.1, cr := f.cr ++ p.2.2 }

/-- A row of a layer, `n` luma samples of it, enters stage 2: its samples leave the line store. -/
def LayerFrame.dropRows (f : LayerFrame) (n : Nat) : LayerFrame :=
  { f with luma := f.luma.drop n, cb := f.cb.drop (n / 4), cr := f.cr.drop (n / 4) }

/-- Write coded bytes into a layer's buffer, as far as it reaches. -/
def State.storeBits (s : State) (o : Nat) (h : W32) (pos : Nat) (us : List CodedUnit) : State :=
  let b := us.flatMap (·.bytes)
  if s.hasBits o h then
    (s.gwrite (s.bufAddr h + pos) (b.take (bufSize h - pos))).modEncCtx o fun x => { x with bits := addUnits h us x.bits }
  else s

/-- Code the rows of every layer that a block row of the top layer makes ready. `given` are the coded rows, lowest layer
first. -/
def State.codeLayers (b : BlockRow) (fr : EngineFrame) :
    Nat → List LayerFrame → List EncRow → State → List LayerFrame × State
  | _, [], _, s => ([], s)
  | i, f :: rest, given, s =>
    let o := fr.output
    let w := s.layerW o (s.slayers o - 1)
    let f0 := f.takeRows (lowerPlanes rest.length w (b.luma.length / max 1 w) (b.luma, b.cb, b.cr))
    let n := s.blockSide o * s.layerW o i
    if n ≤ f0.luma.length ∨ (b.last = true ∧ f0.luma ≠ []) then
      let g := given.headD ⟨[], [], [], [], [], [], []⟩
      let c := s.codeRow fr i f0 g b.rects
      let s1 := s.storeBits o f.handle f.spent c.2
      let y0 := f.rows * s.blockSide o
      let s2 := match f.store.bind s1.store? with
        | some y => s1.putBand y y0 (min (s.blockSide o) (y.height - y0)) g.luma g.cb g.cr
        | none => s1
      let a := State.codeLayers b fr (i + 1) rest (given.drop 1) s2
      (c.1.dropRows n :: a.1, a.2)
    else
      let a := State.codeLayers b fr (i + 1) rest given s
      (f0 :: a.1, a.2)

/-- A coded frame ends (R383, R386, R388). -/
def State.closeFrame (s : State) (e : Nat) (fr : EngineFrame) (fs : List LayerFrame) : State :=
  let o := fr.output
  match s.encCtx? o with
  | none => s.setEncFrame e none
  | some x =>
    let rc := (indexed fs).foldl (fun m f => nput m f.1 (s.rcAfter o fr.t fr.key f.2 (ngetD {} m f.1))) x.rc
    let s1 := s.setEncCtx o { x with rc := rc }
    let s2 := if fr.t = 0 then
        let fresh := fs.filterMap (·.store)
        let stamp := BitVec.ofNat 32 s1.us
        fresh.foldl (fun (s : State) i => s.modStore i fun y =>
          { y with busy := false, ref := true, doneUs := stamp }) (s1.mapStores (encOwner o) fun y => { y with ref := false })
      else s1
    let s3 := if fr.t = 0 then
        s2.modEncCtx o fun y => { y with refs := (indexed fs).foldl (fun m f => nset m f.1 f.2.store) y.refs } else s2
    let pixels := ((List.range fs.length).map fun i => s.layerW o i * s.layerH o i).sum
    let bytes := (fs.map (·.spent)).sum
    let s4 := ((((s3.cadd .venCnt e 0 fs.length).cadd .venCnt e 1 pixels).cadd .venCnt e 3 (b2n fr.key)).cadd .venCnt e 7
      bytes)
    let s5 := ((s4.sinc tyOutput o 0x900).sadd tyOutput o 0x901 (b2n fr.key)).sadd tyOutput o 0x905 bytes
    let s6 := if fs.any (·.floor) then ((s5.flag .venErr e 0 0).cinc .venCnt e 4).sinc tyOutput o 0x902 else s5
    (s6.freeStores).setEncFrame e none

/-- A picture ends as poisoned (R397): the descriptor on the queue gets POISON and COMPLETE, others' buffers go, pages are
freed; a T0 picture makes the next frame a key picture. -/
def State.poisonEncode (s : State) (e : Nat) (fr : EngineFrame) : State :=
  let o := fr.output
  let s1 := fr.layers.foldl (fun s f =>
    let s' := f.store.elim s s.dropStore
    if !s'.hasBits o f.handle then s'
    else if f.enqueued then s'.extendQueue (s'.carrierQueue o) (min f.spent (bufSize f.handle)) true true
    else s'.dropBits o f.handle) s
  let s2 := ((s1.setEncFrame e none).flag .venErr e 0 3).cinc .venCnt e 6
  s2.modEncCtx o fun x => { x with owed := x.owed || decide (fr.t = 0) }

/-- Is the reference data of a context poisoned. -/
def State.refsPoison (s : State) (x : EncCtx) : Bool :=
  x.refs.any fun e => (s.store? e.2).elim false fun y => s.storePoison y 0 y.height

/-- The picture that a block row belongs to, of which no row has been coded: one that is to be a key picture counts as T0. -/
def State.freshFrame (s : State) (b : BlockRow) (x : EncCtx) : EngineFrame :=
  let key := s.wantsKey b.output b.due x
  s.newFrame b key (if key then 0 else tLayerOf (s.tlayers b.output) (b.n - x.keyN.getD 0)) true []

/-- An engine codes a block row of the picture that is open in it; poisoned rows and references end the picture (R397). -/
def State.codeBlockRow (s : State) (e : Nat) (b : BlockRow) (fr : EngineFrame) (given : List EncRow) : State :=
  if b.poison then (s.metPoison 3 (8 + e)).poisonEncode e fr
  else if fr.dropped then s.setEncFrame e (if b.last then none else some { fr with row := fr.row + 1 })
  else if s.refsPoison ((s.encCtx? b.output).getD {}) && !fr.key then (s.metPoison 3 (8 + e)).poisonEncode e fr
  else
    let c := State.codeLayers b fr 0 fr.layers given s
    let p := State.publishAll b.output b.last c.1 true c.2
    if b.last then p.2.closeFrame e fr p.1
    else p.2.setEncFrame e (some { fr with layers := p.1, row := fr.row + 1 })

/-- The first block row in an engine, its picture open or opened: none while the picture must wait, for a buffer or for the
context's picture in another engine. A row whose picture has ended goes unused. -/
def State.codeFirst (s : State) (e : Nat) (b : BlockRow) (given : List EncRow) : Bool × State :=
  match s.encCtx? b.output, (nget s.ven.frame e).filter fun f => decide (f.output = b.output) && decide (f.n = b.n) with
  | none, _ => (true, s)
  | some _, some fr => (true, s.codeBlockRow e b fr given)
  | some x, none =>
    if s.ven.frame.any (fun f => decide (f.2.output = b.output)) then (false, s)
    else if b.poison then (true, (s.metPoison 3 (8 + e)).poisonEncode e (s.freshFrame b x))
    else if b.row ≠ 0 then (true, s)
    else
      let a := s.openFrame e b ((given.head?.map (·.frameHead.length)).getD 0) x
      (a.1, if a.1 then (nget a.2.ven.frame e).elim a.2 fun fr => a.2.codeBlockRow e b fr given else a.2)


/-- Is a picture of an output being composed, in a row buffer or in an engine. -/
def State.encRuns (s : State) (o : Nat) : Bool :=
  let mine (l : NMap (List BlockRow)) : Bool := l.any fun e => e.2.any fun b => decide (b.output = o)
  s.cmp.frame.any (fun f => decide (f.2.output = o)) || mine s.cmp.rows || mine s.ven.rows ||
    s.ven.frame.any fun f => decide (f.2.output = o)

/-- The due frames of an output go from one pipeline to another. -/
def State.moveDue (s : State) (o from_ to_ : Nat) : State :=
  let l := ngetD [] s.cmp.due from_
  let d1 := nputD [] s.cmp.due from_ (l.filter fun d => decide (d.output ≠ o))
  let d2 := nputD [] d1 to_ ((l.filter fun d => decide (d.output = o)).foldl (fun a d => insertDue d a) (ngetD [] d1 to_))
  { s with cmp := { s.cmp with due := d2 } }

/-- A context goes over to an engine, its surface with it. -/
def State.encGoes (s : State) (o k : Nat) : State :=
  match s.encCtx? o with
  | none => s
  | some x => ((s.setEncCtx o { x with engine := k, moveTo := none }).moveDue o x.engine k).cinc .venCnt k 9

/-- Contexts that are to move do so at their next frame boundary, when none of their pictures is under way (R398). -/
def State.encMoves (s : State) : State :=
  s.ven.ctx.foldl (fun s c =>
    match c.2.moveTo with
    | some k => if s.encRuns c.1 then s else s.encGoes c.1 k
    | none => s) s

/-- An engine codes the next block row that it holds, and takes the next ones from the row buffer. -/
def State.encodeRow (s : State) (e : Nat) (given : List EncRow) : State :=
  match ngetD [] s.ven.rows e with
  | [] => State.feed 2 s e
  | b :: _ =>
    let a := s.codeFirst e b given
    if a.1 = false then a.2
    else
      let s1 : State := { a.2 with ven := { a.2.ven with rows := nputD [] a.2.ven.rows e (ngetD [] a.2.ven.rows e).tail } }
      (State.feed 2 s1 e).encMoves

/-! ### Packetising (R393 to R395) -/

/-- An unsigned LEB128 number. -/
def toLeb128 : Nat → Nat → Bytes
  | 0, _ => []
  | n + 1, v => if v < 128 then [byteOf v] else byteOf (128 + v % 128) :: toLeb128 n (v / 128)

/-- Bytes of a layer's frame not yet packetised. -/
def FrameBits.rest (f : FrameBits) : Nat := ((f.units.drop f.unit_).map (·.bytes.length)).sum - f.pos

/-- The bytes of payload that the packetiser holds of a layer's frame (R393): its coded bytes; for AV1 the aggregation header
and the length field of each OBU element with them. -/
def FrameBits.held (f : FrameBits) (codec : Nat) : Nat :=
  if codec ≠ 3 then f.rest
  else
    match f.units.drop f.unit_ with
    | [] => 0
    | u :: r => 1 + ((u.bytes.length - f.pos) :: r.map (·.bytes.length)).foldl (fun a n => a + (toLeb128 8 n).length + n) 0

/-- Move the packetiser's place on. -/
def FrameBits.moveTo (f : FrameBits) (u p : Nat) : FrameBits := { f with unit_ := u, pos := p, started := true }

/-- The next payload of H.264 or H.265 (R393): parameter sets in one aggregation packet, a unit that fits alone, a larger
one in fragments. -/
def nalPayload (codec limit : Nat) (f : FrameBits) : Bytes × FrameBits :=
  let us := f.units.drop f.unit_
  match us with
  | [] => ([], f)
  | u :: _ =>
    let sets := us.takeWhile (·.params)
    if sets ≠ [] then
      ((if codec = 1 then [0x78] else [0x60, 0x01]) ++ sets.flatMap fun v => beBytes 2 v.bytes.length ++ v.bytes,
        f.moveTo (f.unit_ + sets.length) 0)
    else if f.pos = 0 ∧ u.bytes.length ≤ limit then (u.bytes, f.moveTo (f.unit_ + 1) 0)
    else
      let hl := if codec = 1 then 1 else 2
      let p := max f.pos hl
      let room := limit - hl - 1
      let part := slice u.bytes p room
      let done := decide (u.bytes.length ≤ p + room)
      let se := 128 * b2n (decide (f.pos = 0)) + 64 * b2n done
      let h0 := byteN u.bytes 0
      let head := if codec = 1 then [byteOf (h0 / 32 * 32 + 28), byteOf (se + h0 % 32)]
        else [byteOf (h0 / 128 * 128 + 49 * 2 + h0 % 2), byteAt u.bytes 1, byteOf (se + h0 / 2 % 64)]
      (head ++ part, if done then f.moveTo (f.unit_ + 1) 0 else f.moveTo f.unit_ (p + room))

/-- OBU elements with length fields up to a room: elements, place, whether the last one goes on. `fuel` bounds the
elements. -/
def obuFill : Nat → Nat → FrameBits → Bytes → Bytes × FrameBits × Bool
  | 0, _, f, acc => (acc, f, false)
  | n + 1, room, f, acc =>
    match f.units.drop f.unit_ with
    | [] => (acc, f, false)
    | u :: _ =>
      let left := u.bytes.length - f.pos
      let whole := (toLeb128 8 left).length + left
      if whole ≤ room then
        obuFill n (room - whole) (f.moveTo (f.unit_ + 1) 0) (acc ++ toLeb128 8 left ++ u.bytes.drop f.pos)
      else
        let k := if room - 1 < 128 then room - 1 else room - 2
        if room < 2 then (acc, f, false)
        else (acc ++ toLeb128 8 k ++ slice u.bytes f.pos k, f.moveTo f.unit_ (f.pos + k), true)

/-- The next payload of AV1: aggregation header with W 0, Z, Y and N; then the elements. -/
def av1Payload (limit : Nat) (f : FrameBits) : Bytes × FrameBits :=
  let r := obuFill (f.units.length + 1) (limit - 1) f []
  let n := f.key && !f.started && decide (f.s = 0)
  (byteOf (128 * b2n (decide (0 < f.pos)) + 64 * b2n r.2.2 + 8 * b2n n) :: r.1, r.2.1)

/-- The dependency descriptor of a packet (R394): its mandatory fields; on the first packet of a key picture also a
template structure, of which the specification gives the templates' layers and the decode targets' number, the rest
being free values (log 48). -/
def State.ddBytes (s : State) (o frame : Nat) (f : FrameBits) (first last : Bool) : Bytes × State :=
  let tl := s.tlayers o
  let n := s.slayers o * tl
  let base := [byteOf (128 * b2n first + 64 * b2n last + (f.s * tl + f.t))] ++ beBytes 2 frame
  if f.key && first && decide (f.s = 0) then
    let idc (i : Nat) : Nat := if i + 1 = n then 3 else if (i + 1) % tl = 0 then 2 else 1
    let layers := (List.range n).foldl (fun a i => a * 4 + idc i) 0
    let k := s.draw 96
    let bits := ((128 / 8 * 64 + 0) * 32 + (n - 1)) * 4 ^ n + layers
    let len := 5 + 6 + 5 + 2 * n
    (base ++ beBytes (cdiv (len + 96) 8) ((bits * 2 ^ 96 + k.1) * 2 ^ ((8 - (len + 96) % 8) % 8)), k.2)
  else (base, s)

/-- The work number under which an output's packetiser asks for a packet's buffer. -/
def packetWork (o : Nat) : Nat := 1000000 + o

/-- Emit the next packet of a video frame, when enough of it is there (R393 to R395); none when nothing can be sent. While
no buffer is to be had the packetiser waits (R188). -/
def State.emitPacket (s : State) (o : Nat) (x : EncCtx) (f : FrameBits) (whole : Bool) : Option State :=
  let limit := f.limit
  if f.rest = 0 ∨ (f.held (s.vcodec o) < limit ∧ whole = false) then none
  else
    let codec := s.vcodec o
    let p := if codec = 3 then av1Payload limit f else nalPayload codec limit f
    let first := !f.started
    let last := whole && decide (p.2.rest = 0)
    let id := f.ddId
    let dd := if id ≠ 0 ∧ codec = 3 then s.ddBytes o (x.dd % 65536) f first last else ([], s)
    let ext := if id ≠ 0 ∧ codec = 3 then
        let e := padTo 4 ([byteOf id, byteOf dd.1.length] ++ dd.1)
        [0x10, 0x00] ++ beBytes 2 (e.length / 4) ++ e
      else []
    let head := [byteOf (if ext = [] then 0x80 else 0x90), byteOf (128 * b2n last + f.pt)] ++
      beBytes 2 x.seq ++ beBytes 4 (f.due * 9 / 100000) ++ zeros 4
    let pkt := head ++ ext ++ p.1
    match dd.2.hwAlloc 7 (packetWork o) pkt.length with
    | (.error _, s1) => some s1
    | (.ok h, s1) =>
      let s2 := s1.gwrite (s1.bufAddr h) pkt
      let info := f.s + 4 * f.t + 16 * b2n first + 32 * b2n f.key + 64 * b2n last + 128 * b2n (first && decide (0 < f.t))
      let d : Desc := { handle := h, len := pkt.length, conf := s2.outConf o, info := info, stamp := s2.t }
      let s3 : State := { s2 with fwd := { s2.fwd with outPkts := nput s2.fwd.outPkts o (ngetD [] s2.fwd.outPkts o ++ [d]) } }
      some (((s3.setEncCtx o { x with
        seq := x.seq + 1, dd := x.dd + b2n last
        bits := x.bits.map fun b => if b.handle = f.handle then p.2 else b }).cinc .venCnt x.engine 8).sinc tyOutput o 0x906)

/-- The engine whose packetiser serves an output's carrier queue (R393). -/
def State.packetEngine (s : State) (o : Nat) : Nat :=
  match s.encCtx? o with
  | some x => x.engine
  | none => s.attr tyOutput o 0x601 0 % 4

/-- The frame's chain is released once it is packetised, or when its producer failed. -/
def State.endBits (s : State) (o q : Nat) (h : W32) : State :=
  match s.dequeue q with
  | some (_, s1) => (s1.decRef 7 h).modEncCtx o fun x => { x with bits := x.bits.filter fun b => decide (b.handle ≠ h) }
  | none => s

/-- The packetiser serves the carrier queue of an output; poisoned data end the frame there (R13). -/
def State.packetise (s : State) (o : Nat) : State :=
  let q := s.carrierQueue o
  if (s.queue q).bell = false then s
  else
    match (s.queue q).first with
    | none => s
    | some d =>
      if d.kind = 0 then
        match s.dequeue q with
        | none => s
        | some (d, s1) =>
          let s2 : State := { s1 with fwd := { s1.fwd with outPkts := nput s1.fwd.outPkts o (ngetD [] s1.fwd.outPkts o ++ [d]) } }
          s2.cinc .venCnt (s.packetEngine o) 8
      else if d.poison || s.gpoison (s.bufAddr d.handle) d.len then
        if d.complete then ((s.metPoison 3 (8 + s.packetEngine o)).hwAllocDrop 7 (packetWork o)).endBits o q d.handle else s
      else
        match s.encCtx? o with
        | none => s.endBits o q d.handle
        | some x =>
          match x.bits.find? fun b => decide (b.handle = d.handle) with
          | none => if d.complete then s.endBits o q d.handle else s
          | some f =>
            match s.emitPacket o x f d.complete with
            | none => if f.rest = 0 ∧ d.complete = true then s.endBits o q d.handle else s
            | some s1 =>
              let done := match ((s1.encCtx? o).getD {}).bits.find? fun b => decide (b.handle = d.handle) with
                | some g => decide (g.rest = 0)
                | none => true
              if done && d.complete then s1.endBits o q d.handle else s1

/-! ### Contexts on engines (R379, R380, R398, R399) -/

/-- A context's reservation in pixels per second (R380). -/
def State.encRes (s : State) (o : Nat) : Nat :=
  s.surfFps o * (((List.range (s.slayers o)).map fun i => s.layerW o i * s.layerH o i).sum + 4000)

/-- The contexts on an engine. -/
def State.encOn (s : State) (e : Nat) : List Nat :=
  (s.ven.ctx.filter fun c => decide (c.2.engine = e) && !c.2.stopped).map (·.1)

/-- The contexts that an engine must have room for, one left out: those that are to move there count too. -/
def State.encClaims (s : State) (e but_ : Nat) : List Nat :=
  (s.ven.ctx.filter fun c =>
    decide (c.1 ≠ but_) && decide (c.2.engine = e ∨ c.2.moveTo = some e) && !c.2.stopped).map (·.1)

def State.encLoad (s : State) (e but_ : Nat) : Nat := ((s.encClaims e but_).map s.encRes).sum

/-- Is there room for a context and its surface on an engine and its pipeline. -/
def State.encFits (s : State) (o e : Nat) : Bool :=
  decide (s.encLoad e o + s.encRes o ≤ s.rfld .venRes e 0 16 10 * 1000000) &&
    decide ((s.encClaims e o).length < 1024) && s.pipeFits o e

/-- The engine that a context goes to (R380). -/
def State.encEngine (s : State) (o eng : Nat) : Option Nat :=
  let fit := (List.range 4).filter (s.encFits o ·)
  if eng = 255 then
    fit.foldl (fun (b : Option Nat) e =>
      match b with
      | some w => if s.encLoad e o < s.encLoad w o then some e else b
      | none => some e) none
  else if fit.contains eng then some eng else none

/-- The pipeline of a memory-only surface (R353): the smallest reservation that has room. -/
def State.sinkPipe (s : State) (o : Nat) : Option Nat :=
  ((List.range 4).filter (s.pipeFits o ·)).foldl (fun (b : Option Nat) e =>
    match b with
    | some w => if s.pipeLoad e o < s.pipeLoad w o then some e else b
    | none => some e) none

/-- Create a surface and its encode context (R352, R354, R355, R379, R380, R409). -/
def State.surfCreate (s : State) (o : Nat) : Res State :=
  let sink := s.sinkOnly o
  let guar := 2 * s.surfPages o + (if sink then 0 else 2 * s.encPages o)
  if 1024 ≤ s.cmp.surf.length ∨ s.pgPages < s.pgGuar + guar then .error stResource
  else if sink then
    match s.sinkPipe o with
    | some p => .ok (s.surfStart o p)
    | none => .error stResource
  else
    match s.encEngine o (s.attr tyOutput o 0x902 255), s.placeContext (encOwner o) (s.encPages o) with
    | some e, some s1 => .ok ((s1.setEncCtx o { engine := e }).surfStart o e)
    | _, _ => .error stResource

/-- A surface and its encode context end; packets still in the packetiser's hands are released. -/
def State.surfDelete (s : State) (o : Nat) : State :=
  let s1 := match s.encCtx? o with
    | none => s
    | some _ =>
      let mine : List (Nat × EngineFrame) := s.ven.frame.filter fun f => decide (f.2.output = o)
      let a := mine.foldl (fun (s : State) (f : Nat × EngineFrame) =>
        f.2.layers.foldl (fun (s : State) (l : LayerFrame) =>
            if l.enqueued || !s.hasBits o l.handle then s else s.decRef 7 l.handle)
          ((f.2.layers.foldl (fun (s : State) (l : LayerFrame) => l.store.elim s s.dropStore) s).setEncFrame f.1 none))
        ((s.dropChains o).hwAllocDrop 7 (packetWork o))
      let b : State := { a with ven := { a.ven with
        ctx := ndel a.ven.ctx o
        rows := nmapV (fun _ (l : List BlockRow) => l.filter fun r => decide (r.output ≠ o)) a.ven.rows } }
      let c := ((b.flushQueue (streamQueue (s.attr tyOutput o 0x601 0)) 7).dropOwner (encOwner o)).unplace (encOwner o)
      (List.range 4).foldl State.venCurrent c
  let s2 := (ngetD [] s1.fwd.outPkts o).foldl (fun (s : State) (d : Desc) => s.decRef 3 d.handle)
    { s1 with fwd := { s1.fwd with outPkts := ndel s1.fwd.outPkts o, encKey := s1.fwd.encKey.filter (· ≠ o) } }
  s2.surfEnd o

/-- Does an operation of R58 run on an encode engine: a migration from it or to it, its reset, its reload from a staged
image. -/
def State.encBusy (s : State) (e : Nat) : Bool :=
  (s.ven.ctx.any fun c => c.2.moveTo.isSome && decide (c.2.moveTo = some e ∨ c.2.engine = e)) ||
    s.underReset 3 (8 + e) || decide (s.cur.applyNow = some (0x3000 + 16 * (8 + e)))

/-- An OBJ_MODIFY of ENGINE (R398): the context goes over at its next frame boundary. -/
def State.encMove (s : State) (o eng : Nat) : Res State := do
  refuseIf (decide (s.m.mode ≠ .maintain)) stModeRefused
  match s.encCtx? o with
  | none => .ok s
  | some x =>
    match s.encEngine o eng with
    | none => .error stResource
    | some e =>
      refuseIf (s.encBusy e || s.encBusy x.engine) stInUse
      if e = x.engine then .ok s else .ok ((s.setEncCtx o { x with moveTo := some e }).encMoves)

/-- A change of BUF_MS cuts F down to the new B (R386). -/
def State.cutBuffer (s : State) (o : Nat) : State :=
  s.modEncCtx o fun x => { x with rc := nmapV (fun i r => { r with full := min r.full (s.bufSizeOf o i) }) x.rc }

/-- Outputs by reservation, largest first. -/
def State.byEncRes (s : State) (l : List Nat) : List Nat :=
  let rec ins (o : Nat) : List Nat → List Nat
    | [] => [o]
    | a :: r => if s.encRes a < s.encRes o then o :: a :: r else a :: ins o r
  l.foldl (fun acc o => ins o acc) []

/-- The pictures in an engine are ended under R397: the one it codes, one whose rows it has taken in, and those of the rows
given. -/
def State.endPictures (s : State) (e : Nat) (late : List BlockRow) : State :=
  let s1 := (nget s.ven.frame e).elim s (s.poisonEncode e)
  let waiting := (ngetD [] s.ven.rows e ++ late).filter fun b => decide (b.row = 0)
  let s2 := waiting.foldl (fun s b => (s.encCtx? b.output).elim s fun x => s.poisonEncode e (s.freshFrame b x)) s1
  State.venCurrent { s2 with ven := { s2.ven with rows := ndel s2.ven.rows e } } e

/-- An engine's row buffer is lost, and with it the pictures in the engine. -/
def State.loseRows (s : State) (e : Nat) : State :=
  let s1 := s.endPictures e (ngetD [] s.cmp.rows e)
  { s1 with cmp := { s1.cmp with rows := ndel s1.cmp.rows e } }

/-- A memory-only surface of a pipeline that is lost goes to another one with room, its due frames with it; where there is
none it waits for the pipeline (DEDUCED from R353 and R399, log 99). -/
def State.sinkMoves (s : State) (o e : Nat) : State :=
  match s.surf? o, s.sinkPipe o with
  | some x, some p => (s.setSurf o { x with pipe := p }).moveDue o e p
  | _, _ => s

/-- An engine goes out of service with its pipeline (R399): pictures in flight end, contexts move or stop, and none moves to
it any more. A stopped context's due frame is skipped. -/
def State.encEngineOut (s : State) (e : Nat) : State :=
  let s1 := s.loseRows e
  let s2 := match nget s1.cmp.frame e with
    | some f => ({ f.store.elim s1 s1.dropStore with cmp := { s1.cmp with frame := ndel s1.cmp.frame e } } : State).releaseHolds f
    | none => s1
  let stay (x : EncCtx) : EncCtx := if x.moveTo = some e then { x with moveTo := none } else x
  let s3 : State := { s2 with ven := { s2.ven with ctx := nmapV (fun _ x => stay x) s2.ven.ctx } }
  let sinks := (nkeys s3.cmp.surf).filter fun o => s3.sinkOnly o && decide (s3.pipeOf o = e)
  let s4 := (s3.byEncRes (s3.encOn e)).foldl (fun s o =>
    match s.encEngine o 255 with
    | some k => s.encGoes o k
    | none =>
      let late := (ngetD [] s.cmp.due e).filter fun d => decide (d.output = o)
      let t := late.foldl (fun s _ => ((s.sinc tyOutput o 0x801).cinc .cmpCnt 0 1).flag .cmpErr 0 0 3)
        ((s.modEncCtx o fun x => { x with stopped := true, moveTo := none }).flag .venErr e 0 4)
      { t with cmp := { t.cmp with
        due := nputD [] t.cmp.due e ((ngetD [] t.cmp.due e).filter fun d => decide (d.output ≠ o)) } }) s3
  sinks.foldl (fun s o => s.sinkMoves o e) s4

/-- An engine returns: stopped contexts are placed, largest reservation first and by the rule for ENGINE 255, and begin with a
key picture (R399). -/
def State.encEngineBack (s : State) : State :=
  let idle := (s.ven.ctx.filter fun c => c.2.stopped).map (·.1)
  (s.byEncRes idle).foldl (fun s o =>
    match s.encEngine o 255 with
    | some k => (s.modEncCtx o fun x => { x with engine := k, stopped := false, owed := true }).cinc .venCnt k 9
    | none => s) s

/-! ### The meanings -/

def execEncodeRow (engine : Fin 4) (rows : List EncRow) (s : State) : Out :=
  .next (if s.blkUp 3 (8 + engine) && s.blkUp 3 13 then s.encodeRow engine rows else s)

def execPacketise (output : Fin 16384) (s : State) : Out :=
  let e := match s.encCtx? output with
    | some x => x.engine
    | none => s.attr tyOutput output 0x601 0 % 4
  .next (if s.blkUp 3 (8 + e) && s.objExists tyOutput output then s.packetise output else s)

def execVenCntClr (engine : Fin 4) (s : State) : Out :=
  .next (s.answerWith (if s.blkUp 3 (8 + engine) then .ok (s.cclear .venCnt engine 0 10) else .error stUnavailable))

end Sys2Proof.Machine
end

