-- ==== Sys2Proof/Machine/BlockReset.lean ====
section
/-!
DEFINITION. The reset of a block (R15, R22) and what its wipe loses (R457), the wing's containment (R11), the return to
service.
-/

namespace Sys2Proof.Machine

/-- The blocks of a wing that R18 lists, the wing controller left out. -/
def blockListed (wing num : Nat) : Bool := (wingBlocks wing).contains num

/-- What the failure of a block is to the supervisor (R455, R456): of a replaceable part, of its wing, of South or of the
chip level. -/
def blockTrigger (wing num cause : Nat) : Trigger :=
  match wing with
  | 0 => .chip cause
  | 4 => .south cause
  | 2 => if 16 ≤ num then .part (.cluster (num - 16)) cause else .wing 2 cause
  | 3 =>
    if 1 ≤ num ∧ num ≤ 4 then .part (.decode (num - 1)) cause
    else if 8 ≤ num ∧ num ≤ 11 then .part (.encode (num - 8)) cause
    else .wing 3 cause
  | w => .wing w cause

/-! ### What a block's wipe loses (R15, R457) -/

/-- The Atrium: the frames in the receive FIFOs. -/
def State.atriumLoses (s : State) : State :=
  { s with atr := { s.atr with ports := nmapV (fun _ p => { p with fifo := [] }) s.atr.ports } }

/-- The Registrar: packets in parse and decryption, policer state, fences; buckets start full. -/
def State.registrarLoses (s : State) : State :=
  State.fillBuckets { s with rgs := { s.rgs with
    staged := [], fenced := [], seen := [], ue := []
    pol := nmapV (fun _ p => Policer.full p.set p.stamp) s.rgs.pol } }

/-- The Vault: copies and jobs on their way, replay windows; the ROC fields are restored (R457). -/
def State.vaultLoses (s : State) : State :=
  let s1 := s.vlt.copies.foldl (fun s c => s.decRef 4 c.desc.handle) s
  State.refillCopies { s1 with vlt := { s1.vlt with
    copies := [], jobs := [], ue := []
    ctx := nmapV (fun _ c => { c with
      rtpHigh := none, rtpWin := 0, rtcpHigh := none, rtcpWin := 0, notified := false }) s1.vlt.ctx } }

/-- The Forwarder: walks, copies and feedback on their way, and the subscription cache; every subscription resident in it is fenced (R212, R457). -/
def State.forwarderLoses (s : State) : State :=
  let s1 := s.fwd.cache.foldl State.fenceSub s
  let s2 := s1.fwd.rtcp.foldl (fun s r => s.decRef 3 r.handle) s1
  let s3 := s2.fwd.outPkts.foldl (fun (s : State) e => e.2.foldl (fun (s : State) d => s.decRef 3 d.handle) s) s2
  let s4 := s3.fwd.outbox.foldl (fun s e => s.hwAllocDrop 3 e.1) (s3.fwd.waitCopies.foldl (fun s c => s.decRef 4 c.desc.handle) s3)
  { s4 with fwd := { s4.fwd with
    cache := [], rtcp := [], outPkts := [], encKey := [], waitCopies := [], outbox := []
    streams := nmapV (fun _ x => { ring := x.ring, fir := x.fir }) s4.fwd.streams } }

/-- The traffic manager: shaper state (buckets start full), virtual times, the management queues. -/
def State.tmgLoses (s : State) : State :=
  let legs := s.idsOf tyLeg
  let ids := ((List.range 96).map fun p => (0, p)) ++ (legs.map fun l => (1, s.legGroup l)) ++ legs.map fun l => (2, l)
  let s1 := ids.foldl (fun s e =>
    let x := s.shaper e.1 e.2
    s.setShaper e.1 e.2 { x with tokens := x.burst * 1024, rem := 0, last := s.t }) s
  let s2 : State := State.dropMgmt { s1 with
    tmg := { s1.tmg with
      tags := nmapV (fun _ x => { x with s := 0, f := 0, awake := false }) s1.tmg.tags
      vtime := [], lastLeg := [] } }
  legs.foldl State.wakeLeg s2

/-- The Docent: queued and running items and fences; a running swap ends where it stands. -/
def State.docentLoses (s : State) : State :=
  let items := s.doc.active.map (·.2) ++ s.doc.waiting.flatMap (·.2) ++ s.doc.blocked
  items.foldl State.audioDiscarded (({ s with doc := { code := s.doc.code } }).setPhase 0)

/-- The audio fabric: talker states; every input is IDLE and unanchored, its buffered packets are released. An output's
SEQ counts on from its creation (R315). -/
def State.audioLoses (s : State) : State :=
  let s1 := (nkeys s.afb.ins).foldl State.audForget (s.dropTasks fun _ => true)
  let keep := nmapV (fun _ (x : AudConf) => ({ xp := x.xp } : AudConf)) s1.afb.confs
  let outs := nmapV (fun _ (x : AudOut) => ({ seq := x.seq } : AudOut)) s1.afb.outs
  let s2 := (nkeys s1.afb.confs).foldl State.audForgetConf s1
  { s2 with afb := { s2.afb with last := none, confs := keep, outs := outs } }

/-- A DSP cluster: its items; its flows are fenced as of halted cores, its ready items reassigned, and it is reloaded
(R15, R285). -/
def State.clusterLoses (s : State) (cl : Nat) : State :=
  let cs := (List.range 16).map (· + 16 * cl)
  ((cs.foldl (fun s c => s.dropItems c 2) (s.setClState cl 2)).reassign cs).reload cl (s.codeOf cl)

/-- A decode engine: its pictures end as POISONED, its contexts enter WAIT_KEY and make a key request (R457). -/
def State.decoderLoses (s : State) (e : Nat) : State :=
  let s1 := ((s.decPipe e).foldl (fun s q => s.poisonPicture e q) (s.setDecPipe e [])).rsetFld .vdeCurrent e 0 31 1 0
  (s1.decOn e).foldl (fun s st => (s.modDecCtx st fun x => { x with phase := 0 }).decKey st) s1

/-- An encode engine: its pictures end as poisoned; its contexts code a key picture next (R457). -/
def State.encoderLoses (s : State) (e : Nat) : State :=
  let s1 := s.endPictures e []
  (s1.encOn e).foldl (fun s o => s.modEncCtx o fun x => { x with owed := true }) s1

/-- The Compositor: the frames in composition, due frames and buffered rows, and with them the pictures of the engines that
they were on their way to. -/
def State.compositorLoses (s : State) : State :=
  let s0 := (List.range 4).foldl (fun s e =>
    if nhas s.cmp.frame e || !(ngetD [] s.cmp.rows e).isEmpty then s.loseRows e else s) s
  let s1 := s0.cmp.frame.foldl (fun (s : State) (f : Nat × CFrame) =>
    (f.2.store.elim s s.dropStore).releaseHolds f.2) s0
  { s1 with cmp := { s1.cmp with frame := [], due := [], rows := [] } }

/-- What a block loses with its wipe; tables and settings are restored. -/
def State.blockLoses (s : State) (wing num : Nat) : State :=
  match wing, num with
  | 1, 1 => s.atriumLoses
  | 1, 2 => s.registrarLoses
  | 1, 3 => s.vaultLoses
  | 1, 4 => s.forwarderLoses
  | 1, 5 => s.tmgLoses
  | 2, 1 => s.docentLoses
  | 2, 2 => s.audioLoses
  | 3, 12 => s.compositorLoses
  | 4, 1 => s.loseRequests
  | 2, b => if 16 ≤ b ∧ b ≤ 32 then s.clusterLoses (b - 16) else s
  | 3, b =>
    if 1 ≤ b ∧ b ≤ 4 then s.decoderLoses (b - 1) else if 8 ≤ b ∧ b ≤ 11 then s.encoderLoses (b - 8) else s
  | _, _ => s

/-! ### Reset and return (R15, R21, R22, R175) -/

/-- A block is wiped and restored: its reset begins (STATE 1, and from there as R21 says), RESETS, what it loses. -/
def State.wipeBlock (s : State) (wing num : Nat) : State :=
  let s1 := (s.blockLoses wing num).setBlkState wing num 1
  let s2 := if wing = 0 then s1 else s1.rcount .chpWingBlkState (wing - 1) num 8 8 1
  { s2 with sup := { s2.sup with resetAt := nput s2.sup.resetAt (256 * wing + num) s.t } }

/-- The wing resets a block (R15): the fault log, the RESET bit, the wipe. -/
def State.resetBlock (s : State) (wing num : Nat) : State :=
  ((s.logFault 0x04 wing num (s.errStatus wing num).toNat 0).wipeBlock wing num).setErr wing num 6

/-- The blocks that cannot be reset on their own (R22): chip-level blocks, the wing controllers, the Cloakroom and the
Stacks. -/
def cannotReset (wing num : Nat) : Bool := decide (wing = 0 ∨ num = 0 ∨ (wing = 4 ∧ num ≠ 1))

/-- Containment at the wing (R11, R22): the block is reset. A block that cannot be reset is escalated to the supervisor under
`cause`, one that needs a second reset within 1 s under cause 0x01. -/
def State.contain (s : State) (wing num cause : Nat) : State :=
  let again := match nget s.sup.resetAt (256 * wing + num) with
    | some x => decide (s.t < x + 1000000000)
    | none => false
  if cannotReset wing num then s.report (blockTrigger wing num cause)
  else if again then s.report (blockTrigger wing num 1)
  else s.resetBlock wing num

/-- Containment of an error for which R458 lists no cause, such as a crossing's parity error or a transaction that cannot be
tied to one item: the cause under which a block without a reset is escalated is a free value (DESIGN CHOICE, log 85). -/
def State.containFree (s : State) (wing num : Nat) : State :=
  if cannotReset wing num then (s.draw 8).2.contain wing num (s.draw 8).1 else s.contain wing num 1

/-- A failed item is dropped and its flow fenced by the block (R11): a stream's oldest staged packet under reason 0x26 with
the stream, a subscription, a Docent flow with what waits on it. An error tied to no item is contained by the wing. -/
def State.failItem (s : State) (wing num : Nat) : ItemFlow → State
  | .stream st =>
    let s1 := (s.fenceStream st).setErr wing num 4
    match takeFirst (fun p => decide (p.stream = st)) s1.rgs.staged with
    | some (_, r) => State.drop { s1 with rgs := { s1.rgs with staged := r } } 0x26
    | none => s1
  | .sub n => (s.fenceSub n).setErr wing num 4
  | .flow f => (s.fenceFlow f 0).setErr wing num 4
  | .untied => s.containFree wing num

/-- The Vault's fenced pipelines return with its reset (R175), and the limits 0x0040 and 0x0041 with them (R59). -/
def State.vaultBack (s : State) : State :=
  let out := s.sup.outParts.filter fun p =>
    match p with
    | .aes _ | .sha _ => true
    | _ => false
  let clear (s : State) : State := (s.rset .vltAesStatus 0 0 0).rset .vltShaStatus 0 0 0
  match out with
  | [] => s.withLimits clear []
  | p :: r => r.foldl State.partBack (s.partBackBy p clear)

/-- A cluster that was out of service returns: to an unmapped slot, else as the standby. -/
def State.clusterBack (s : State) (cl : Nat) : State :=
  let mapped := (List.range 16).any fun n => decide (s.docMapOf n = cl)
  let map (s : State) : State :=
    if mapped || decide (s.standby = some cl) then s
    else match (List.range 16).find? fun n => decide (s.docMapOf n = 31) with
      | some n => s.rsetFld .docMap 0 n 0 5 cl
      | none => if s.standby.isNone then s.rsetFld .docStandby 0 0 0 5 cl else s
  if s.partIsOut (.cluster cl) then s.partBackBy (.cluster cl) fun s => (map s).coreEntered cl
  else s.withLimits (fun s => (map s).coreEntered cl) []

/-- The SerDes quads return with the Atrium's reset. -/
def State.atriumBack (s : State) : State :=
  (s.sup.outParts.filter fun p =>
    match p with
    | .quad _ => true
    | _ => false).foldl State.partBack s

/-- A part returns with its block's return to service (R59). -/
def State.partsBack (s : State) (wing num : Nat) : State :=
  match wing, num with
  | 1, 1 => s.atriumBack
  | 1, 3 => s.vaultBack
  | 2, b => if 16 ≤ b then s.clusterBack (b - 16) else s
  | 3, b =>
    if 1 ≤ b ∧ b ≤ 4 then
      if s.partIsOut (.decode (b - 1)) then (s.partBack (.decode (b - 1))).decEngineBack (b - 1) else s
    else if 8 ≤ b ∧ b ≤ 11 then
      if s.partIsOut (.encode (b - 8)) then (s.partBack (.encode (b - 8))).encEngineBack else s
    else s
  | _, _ => s

/-- A block returns to service: STATE 4, or 6 for the standby cluster. -/
def State.blockReturns (s : State) (wing num : Nat) : State :=
  let s1 := s.setBlkState wing num 4
  let s2 : State := { s1 with sup := { s1.sup with wdtOpen := s1.sup.wdtOpen.filter (· ≠ 256 * wing + num) } }
  let s3 := s2.partsBack wing num
  if wing = 2 ∧ 16 ≤ num ∧ s3.standby = some (num - 16) then s3.setBlkState 2 num 6 else s3

/-- May a block's reset complete: it runs, its wing's clocks do, and of a cluster every core has executed WAIT (R285). -/
def State.resetRuns (s : State) (wing num : Nat) : Bool :=
  blockListed wing num && s.underReset wing num &&
    (decide (wing ≠ 2 ∨ num < 16) || s.clusterEntered (num - 16))

/-- A block that can report errors: those of R18, the wing controllers among them (R21). -/
def blockPresent (wing num : Nat) : Bool := blockListed wing num || decide (1 ≤ wing ∧ wing ≤ 4 ∧ num = 0)

/-! ### The meanings -/

/-- A cell transaction is aborted 10 µs after its grant (R12): the cell records it, and the block treats the item
whose transaction it was as failed (R11). -/
def execCellTimeout (wing blk cell : Nat) (tx : CellTx) (s : State) : Out :=
  .next (if blockPresent wing blk && decide (tx.granted ≤ s.t) then
      ((s.reach (tx.granted + 10000)).cellError wing blk cell 3 tx.place).failItem wing blk tx.item
    else s)

/-- A write of CHP_WING_BLK_RESET of a wing (R22), in the order of its checks. -/
def State.writeBlkReset (s : State) (wing : Nat) (v : W32) : Res State := do
  let b := fld v 0 8
  refuseIf (decide (b = 0 ∨ (wing = 4 ∧ (b = 2 ∨ b = 3)))) stBadValue
  refuseIf (decide (s.m.mode ≠ .maintain ∧ s.m.mode ≠ .diagnostic ∧ s.m.mode ≠ .recovery)) stModeRefused
  refuseIf (!blockListed wing b) stModeRefused
  return s.resetBlock wing b

def execBlockReset (wing : Fin 4) (v : W32) (s : State) : Out := .next (s.answerWith (s.writeBlkReset (wing + 1) v))

/-- A reset block finishes its wipe and restore (R15). While its wing restarts it returns with the wing. -/
def State.blockResetDone (s : State) (wing blk : Nat) : State :=
  if s.resetRuns wing blk && (s.m.restarting.map (·.1)) != some wing then s.blockReturns wing blk else s

/-- A pointer parity error of a dual-clock queue (R24): each packet, row or work item in it is dropped as
poisoned (R13), and the owning block is reset, or its wing's failure reported. What a queue between two blocks holds at
that moment comes with the row (log 7). -/
def execCdcParityError (wing blk : Nat) (queue : CdcQueue) (s : State) : Out :=
  .next (if blockPresent wing blk && decide (wing ≤ 4) then
      let s1 := (s.cellError wing blk queue.cell 4 0).flag .chpCdcErr 0 0 wing
      ((List.range queue.items).foldl (fun s _ => s.metPoison wing blk) s1).containFree wing blk
    else s)

end Sys2Proof.Machine
end

