-- ==== Sys2Proof/Machine/Mct.lean ====
section
/-!
DEFINITION. The memory controller: address map, rights, row state, reads and writes with in-band ECC, refresh,
retraining, scrub and power-down.
-/

namespace Sys2Proof.Machine

/-! ### Address map (R407) -/

/-- Channel of a burst. -/
def burstChannel (u : Nat) : Nat := u / 30 % 48

/-- Row of a burst. -/
def burstRow (u : Nat) : Nat := u / 30 / 48 / 16

/-- Bank of a burst: the chunk number's low four bits XOR the row's. -/
def burstBank (u : Nat) : Nat := (u / 30 / 48 % 16) ^^^ (burstRow u % 16)

/-- A bank of the module, as channel · 16 + bank. -/
def bankKey (u : Nat) : Nat := burstChannel u * 16 + burstBank u

/-- The burst at a position within a channel (the inverse of R407's map on that channel). -/
def channelBurst (ch pos : Nat) : Nat := (pos / 30 * 48 + ch) * 30 + pos % 30

/-- Bursts of one channel: 524,288 chunks of 30. -/
def channelBursts : Nat := 15728640

/-! ### Regions and rights (R408, R410) -/

/-- The region an address lies in. -/
def State.regionOf (s : State) (a : Nat) : Option Nat :=
  (List.range 18).find? fun r => decide (s.regionBase r ≤ a ∧ a < s.regionBase r + s.regionSize r)

/-- The pools' regions. -/
def poolRegions : List Nat := List.range' 8 8

/-- The regions that a block's own chapter gives it (R410; DEDUCED, log 49). The Curator reaches every region. -/
def blockRegions (wing blk : Nat) : List Nat :=
  match wing, blk with
  | 0, 0 => List.range 18
  | 1, 3 => 0 :: poolRegions
  | 1, 4 => [2, 3, 4] ++ poolRegions
  | 2, 2 => poolRegions
  | 3, 12 => [17]
  | 3, 13 => [16, 17]
  | 4, 2 => [6]
  | 4, 3 => [5, 7]
  | 2, b => if 16 ≤ b ∧ b ≤ 32 then poolRegions else []
  | 3, b => if (1 ≤ b ∧ b ≤ 4) ∨ (8 ≤ b ∧ b ≤ 11) then [16, 17] ++ poolRegions else []
  | _, _ => []

/-- Has a source (R411: wing in bits 15:13, block in 12:5) the right to every byte of a range. -/
def State.memRight (s : State) (source : BitVec 16) (a n : Nat) : Bool :=
  let ok := blockRegions (source.toNat / 8192) (source.toNat / 32 % 256)
  (burstsOf a n).all fun u =>
    match s.regionOf (max a (64 * u)) with
    | some r => ok.contains r
    | none => false

/-- The memory serves requests: its rails are on, training is over and the controller is in service. -/
def State.memUp (s : State) : Bool :=
  !s.rails.gddrOff && s.blkUp 4 1 &&
    match s.m.mode with
    | .off | .powerUp | .safeStop => false
    | _ => true

/-! ### Rows, power and errors -/

/-- A device wakes for a command of its channel (R419). -/
def State.wakeChannel (s : State) (ch : Nat) : State :=
  if s.rfld .mctChStatus 0 ch 0 2 = 1 then
    (List.range 4).foldl (fun s i => s.rsetFld .mctChStatus 0 (ch / 4 * 4 + i) 0 2 0) s
  else s

/-- A device enters power-down: its open rows close (R419). -/
def State.sleepDevice (s : State) (d : Nat) : State :=
  let s1 := (List.range 4).foldl (fun s i => s.rsetFld .mctChStatus 0 (4 * d + i) 0 2 1) s
  ({ s1 with mct := { s1.mct with openRows := s1.mct.openRows.filter fun e => decide (e.1 / 64 ≠ d) } }).cinc .mctCnt 0 8

/-- Run something for which a powered-down device is woken only for the moment (R419): it returns to power-down. -/
def State.awhile (s : State) (d : Nat) (f : State → State) : State :=
  if s.rfld .mctChStatus 0 (4 * d) 0 2 = 1 then (f (s.wakeChannel (4 * d))).sleepDevice d else f s

/-- An access to a burst's row (R413): a hit on the open row, or an activation. -/
def State.rowAccess (s : State) (u : Nat) : State :=
  let s1 := s.wakeChannel (burstChannel u)
  let s2 : State := { s1 with mct := { s1.mct with
    openRows := nput s1.mct.openRows (bankKey u) (burstRow u)
    lastCmd := nput s1.mct.lastCmd (burstChannel u / 4) s.t } }
  s2.cinc .mctCnt 0 (if nget s.mct.openRows (bankKey u) = some (burstRow u) then 3 else 2)

/-- A row closes with auto-precharge on its last access, unless the channel's queue holds another request for it (R413). -/
def State.closeRow (s : State) (u : Nat) : State :=
  if (ngetD [] s.mct.queues (burstChannel u)).any fun e => decide (bankKey e.burst = bankKey u ∧ burstRow e.burst = burstRow u) then s
  else { s with mct := { s.mct with openRows := ndel s.mct.openRows (bankKey u) } }

/-- Write an entry of the error log (MCT_ERR_LOG). -/
def State.logBurst (s : State) (u kind source : Nat) : State :=
  let i := s.mct.logNext % 8
  let s1 := (s.rset .mctErrLog 0 i (BitVec.ofNat 32 (u % 2 ^ 30 + kind * 2 ^ 30 + 2 ^ 31))).rset .mctErrSrc 0 i
    (BitVec.ofNat 32 (source + s.ms % 65536 * 65536))
  { s1 with mct := { s1.mct with logNext := (i + 1) % 8 } }

/-- A burst is corrected and written back (R416). -/
def State.correctBurst (s : State) (u : Nat) : State :=
  ((s.cinc .mctCnt 0 5).cellError 4 1 (burstChannel u) 1 u).flag .mctErr 0 0 0

/-- An uncorrectable read (R417): the burst stays as it stands; more than 1,000 within 1 s is a trigger (R456). -/
def State.badBurst (s : State) (u source : Nat) : State :=
  let s1 := (((s.cinc .mctCnt 0 6).cellError 4 1 (burstChannel u) 2 u).logBurst u 0 source).flag .mctErr 0 0 1
  let times := (s1.sup.ueTimes.filter fun x => decide (s.t < x + 1000000000)) ++ [s.t]
  let s2 : State := { s1 with
    poisoned := if s1.poisoned.contains u then s1.poisoned else u :: s1.poisoned
    sup := { s1.sup with ueTimes := times } }
  if times.length = 1001 then s2.report .memoryRate else s2

/-- What a read finds in a burst, given the fault that the array has there: 0 no error, 1 corrected, 2 uncorrectable. A burst
that failed before fails in the same way until it is written whole (R417). -/
def State.burstFault (s : State) (fault u : Nat) : Nat := if s.poisoned.contains u then 2 else fault

/-- Read one burst. -/
def State.burstRead (s : State) (fault source u : Nat) : State :=
  let s1 := (s.rowAccess u).cinc .mctCnt 0 0
  match s.burstFault fault u with
  | 0 => s1
  | 1 => s1.correctBurst u
  | _ => s1.badBurst u source

/-- Write one burst of a request: whole, or as a read-modify-write (R403). A read-modify-write whose read is
uncorrectable leaves the burst as it stands (R417). -/
def State.burstWrite (s : State) (fault source u lo : Nat) (data : Bytes) : State :=
  if data.length = 64 then ((s.rowAccess u).gwrite lo data).cinc .mctCnt 0 1
  else
    let s1 := (s.burstRead fault source u).cinc .mctCnt 0 4
    if s.burstFault fault u = 2 then s1 else (s1.gwrite lo data).cinc .mctCnt 0 1

/-- What a scrub read finds in a burst (R418): a corrected burst is written back; an uncorrectable one is rewritten with zero
data that reads as uncorrectable. -/
def State.burstScrub (s : State) (fault u : Nat) : State :=
  let ch := burstChannel u
  let s0 := (s.rowAccess u).cinc .mctCnt 0 7
  let s1 : State := { s0 with mct := { s0.mct with
    scrubAt := nput s0.mct.scrubAt ch ((ngetD 0 s.mct.scrubAt ch + 1) % channelBursts), lastCmd := s.mct.lastCmd } }
  match s.burstFault fault u with
  | 0 => s1
  | 1 => s1.correctBurst u
  | _ =>
    let s2 := (((s1.gwrite (64 * u) (zeros 64)).cellError 4 1 ch 2 u).logBurst u 1 0).flag .mctErr 0 0 2
    { s2 with poisoned := u :: s2.poisoned.filter (· ≠ u) }

/-! ### Channel queues (R411, R412) -/

/-- The class of a source's requests (R412). A port that the table places by what it does, and not by its block alone, has the
class of its implementation (`Config.latencyPort`); the Stacks' home records are told from spill by their region. -/
def latencySource (wing blk source region : Nat) : Bool :=
  match wing, blk with
  | 0, 0 | 1, 4 | 4, 2 | 3, 13 => true
  | 4, 3 => decide (region = 5)
  | 3, 12 => false
  | 2, b => if 16 ≤ b ∧ b ≤ 32 then false else Config.latencyPort source
  | 3, b => if 1 ≤ b ∧ b ≤ 4 then false else Config.latencyPort source
  | _, _ => Config.latencyPort source

def State.chQueue (s : State) (c : Nat) : List MemEntry := ngetD [] s.mct.queues c
def State.setChQueue (s : State) (c : Nat) (l : List MemEntry) : State :=
  { s with mct := { s.mct with queues := nputD [] s.mct.queues c l } }

/-- A request that is answered next (R411): all its bursts are served, and no earlier request of its source waits. -/
def nextAnswer : List Nat → List MemReq → Option MemReq
  | _, [] => none
  | seen, r :: l =>
    if r.left = [] ∧ seen.contains r.source = false then some r else nextAnswer (r.source :: seen) l

/-- What a request's source receives: an error and poisoned data where it was refused (R410, R412). -/
def MemReq.answer (r : MemReq) : MemAnswer :=
  { source := r.source, accepted := !r.refused, poison := r.poison || r.refused, data := r.got.flatMap (·.2) }

/-- Answer the requests that are complete, each source's in order; `fuel` bounds them. -/
def State.answerReqs : Nat → State → State
  | 0, s => s
  | n + 1, s =>
    match nextAnswer [] s.mct.reqs with
    | none => s
    | some r =>
      State.answerReqs n { s with mct := { s.mct with
        reqs := s.mct.reqs.erase r, answers := s.mct.answers ++ [r.answer] } }

/-- Stalled requests enter their channel's queue while it holds less than 32, each source's in order (R411, R412): the queues,
and what stays stalled. -/
def enterQueues : List Nat → List MemEntry → NMap (List MemEntry) → NMap (List MemEntry) × List MemEntry
  | _, [], q => (q, [])
  | held, e :: l, q =>
    let c := burstChannel e.burst
    let x := ngetD [] q c
    if held.contains e.source || decide (32 ≤ x.length) then
      let r := enterQueues (e.source :: held) l q
      (r.1, e :: r.2)
    else enterQueues held l (nput q c (x ++ [e]))

def State.admitStalled (s : State) : State :=
  let r := enterQueues [] s.mct.stalled s.mct.queues
  { s with mct := { s.mct with queues := r.1, stalled := r.2 } }

/-- The byte that queued writes give an address: the youngest that holds it. -/
def queuedByte (ws : List MemEntry) (a : Nat) : Option Byte :=
  ws.reverse.findSome? fun w => if w.lo ≤ a then w.data[a - w.lo]? else none

/-- The queued writes to a burst. -/
def writesTo (u : Nat) (l : List MemEntry) : List MemEntry := l.filter fun e => decide (e.kind = .write ∧ e.burst = u)

/-- A burst of a request is served: what was read of it, and whether it is poisoned. -/
def State.gotBurst (s : State) (q : MemEntry) (data : Bytes) (bad : Bool) : State :=
  { s with mct := { s.mct with reqs := s.mct.reqs.map fun r =>
      if r.id = q.req then { r with
        left := r.left.erase q.burst, poison := r.poison || bad
        got := if q.kind = .read then nput r.got q.burst data else r.got }
      else r } }

/-- Carry out a request that its channel grants; `older` are those queued before it. A read takes the bytes of older queued
writes to its burst from these (R411), and the others from the memory. -/
def State.serveEntry (s : State) (older : List MemEntry) (q : MemEntry) : State :=
  match q.kind with
  | .scrub => s.burstScrub q.fault q.burst
  | .write => (s.burstWrite q.fault q.source q.burst q.lo q.data).gotBurst q [] false
  | .read =>
    let ws := writesTo q.burst older
    let all := (List.range q.len).all fun k => (queuedByte ws (q.lo + k)).isSome
    let data := (indexed (s.tableRead q.lo q.len)).map fun e => (queuedByte ws (q.lo + e.1)).getD e.2
    if all then s.gotBurst q data false
    else (s.burstRead q.fault q.source q.burst).gotBurst q data (decide (s.burstFault q.fault q.burst = 2))

/-- Each request of a queue with those before it. -/
def withOlder : List MemEntry → List MemEntry → List (List MemEntry × MemEntry)
  | _, [] => []
  | seen, e :: l => (seen, e) :: withOlder (seen ++ [e]) l

/-- The requests of a channel that may be granted: a write waits for every older request on its burst (R411). -/
def State.grantable (s : State) (c : Nat) : List (List MemEntry × MemEntry) :=
  (withOlder [] (s.chQueue c)).filter fun e => decide (e.2.kind ≠ .write) || !(e.1.any fun x => decide (x.burst = e.2.burst))

/-- A channel begins to drain its writes when 16 are queued or a read needs a queued one, and ends when 4 are left (R412). -/
def State.turn (s : State) (c : Nat) : State :=
  let l := s.chQueue c
  let n := countIf (fun (e : MemEntry) => decide (e.kind = .write)) l
  let needs := (withOlder [] l).any fun e => decide (e.2.kind = .read ∧ writesTo e.2.burst e.1 ≠ [])
  let on := if s.mct.draining.contains c then decide (4 < n) else decide (16 ≤ n) || (needs && decide (4 < n))
  let rest := s.mct.draining.filter (· ≠ c)
  { s with mct := { s.mct with draining := if on then rest ++ [c] else rest } }

/-- The request that a channel grants (R412): one that 16 younger ones have passed; else, of the direction whose turn it is,
bulk where the last 3 grants went past waiting bulk requests, else latency before bulk; of these one that hits an open row,
else the oldest. Where a direction has no request of the class that is due the other one serves it (DEDUCED, log 74). -/
def State.pick (s : State) (c : Nat) : Option (List MemEntry × MemEntry) :=
  let all := s.grantable c
  match all.find? fun e => decide (16 ≤ e.2.passed) with
  | some e => some e
  | none =>
    let mine := all.filter fun e => decide (e.2.kind = .write) == s.mct.draining.contains c
    let dir := if mine = [] then all else mine
    let bulk (l : List (List MemEntry × MemEntry)) := l.filter fun e => !e.2.latency
    let fast := dir.filter fun e => e.2.latency
    let set_ :=
      if bulk all ≠ [] ∧ 3 ≤ ngetD 0 s.mct.sinceBulk c then (if bulk dir = [] then bulk all else bulk dir)
      else if fast ≠ [] then fast else dir
    (set_.find? fun e => decide (nget s.mct.openRows (bankKey e.2.burst) = some (burstRow e.2.burst))).or set_.head?

/-- A channel grants one request of its queue: those before it are passed once more, the row stays open for what is queued, and
stalled requests enter. -/
def State.channelGrant (s : State) (c : Nat) : State :=
  let s0 := s.turn c
  match s0.pick c with
  | none => s0
  | some (older, q) =>
    let rest := (older.map fun e => { e with passed := e.passed + 1 }) ++ (s0.chQueue c).drop (older.length + 1)
    let waits := rest.any fun e => !e.latency
    let s1 : State := s0.setChQueue c rest
    let s2 : State := { s1 with mct := { s1.mct with
      sinceBulk := nputD 0 s1.mct.sinceBulk c (if q.latency && waits then ngetD 0 s1.mct.sinceBulk c + 1 else 0) } }
    let s3 := ((s2.serveEntry older q).closeRow q.burst).admitStalled
    State.answerReqs s3.mct.reqs.length s3

/-- The channels make their grants in the order given; when a channel's next slot comes is timing (log 74). -/
def State.channelGrants (s : State) (l : List (Fin 48)) : State := l.foldl (fun s c => s.channelGrant c) s

/-- The fault that a request's operand names for a burst. -/
def faultOf (faults : List BurstFault) (u : Nat) : Nat :=
  match faults.find? fun f => f.burst = u with
  | some f => if f.bad then 2 else 1
  | none => 0

/-- The part of a request that falls on a burst. -/
def State.entryOf (s : State) (source : BitVec 16) (addr len : Nat) (data : Option Bytes) (faults : List BurstFault) (u : Nat) :
    MemEntry :=
  let lo := max addr (64 * u)
  let n := min (addr + len) (64 * u + 64) - lo
  { req := s.mct.nextReq, source := source.toNat, kind := if data.isSome then .write else .read
    latency := latencySource (source.toNat / 8192) (source.toNat / 32 % 256) source.toNat ((s.regionOf lo).getD 18)
    burst := u, lo := lo, len := n, data := slice (data.getD []) (lo - addr) n, fault := faultOf faults u }

/-- A request arrives: its bursts go to their channels' queues, or stall before them; one that is refused is answered in its
turn with an error and poisoned data (R410 to R412). -/
def State.memRequest (s : State) (source : BitVec 16) (addr len : Nat) (data : Option Bytes) (faults : List BurstFault) : State :=
  let ok := s.memRight source addr len
  let us := burstsOf addr len
  let r : MemReq := { id := s.mct.nextReq, source := source.toNat, addr := addr, len := len, refused := !ok, left := if ok then us else [] }
  let s1 : State := { s with mct := { s.mct with
    reqs := s.mct.reqs ++ [r], nextReq := s.mct.nextReq + 1, answers := []
    stalled := s.mct.stalled ++ if ok then us.map (s.entryOf source addr len data faults) else [] } }
  let s2 := if ok then s1.admitStalled else (s1.logBurst (addr / 64) 0 source.toNat).flag .mctErr 0 0 4
  State.answerReqs s2.mct.reqs.length s2

/-- A write to MCT_CFG: PD_US at most 1,000,000, SCRUB_H not 0. -/
def State.writeMctCfg (s : State) (v : W32) : Res State := do
  refuseIf (decide (1000000 < fld v 0 20 ∨ fld v 20 8 = 0)) stBadValue
  return s.storeRw .mctCfg 0 0 v

/-! ### The meanings -/

/-- A read arrives (R403, R410, R416, R417), and the channels make their next grants. -/
def execMemoryRead (source : BitVec 16) (addr len : Nat) (faults : List BurstFault) (grants : List (Fin 48)) (s : State) : Out :=
  .next (if s.memUp && decide (0 < len) then (s.memRequest source addr len none faults).channelGrants grants else s)

/-- A write arrives (R403, R410), and the channels make their next grants. -/
def execMemoryWrite (source : BitVec 16) (addr : Nat) (data : Bytes) (faults : List BurstFault) (grants : List (Fin 48))
    (s : State) : Out :=
  .next (if s.memUp && decide (data ≠ []) then (s.memRequest source addr data.length (some data) faults).channelGrants grants else s)

/-- Per-bank refresh (R413): an open row of the bank is closed; a powered-down device is woken for it (R419). -/
def execRefresh (channel : Fin 48) (bank : Fin 16) (s : State) : Out :=
  .next (if s.memUp then
      s.awhile (channel / 4) fun s => { s with mct := { s.mct with
        openRows := ndel s.mct.openRows (channel * 16 + bank) } }
    else s)

/-- The modes with periodic retraining (R414, R58). -/
def State.retrains (s : State) : Bool :=
  match s.m.mode with
  | .linkUp | .service | .degraded | .maintain | .diagnostic | .recovery => true
  | _ => false

/-- A retraining visit (R414, R415): `read` and `write` are the eye margins it measures, in mV. -/
def execRetrainVisit (read write : BitVec 8) (s : State) : Out :=
  if s.retrains && s.memUp then
    let ch := s.rfld .mctRetrain 0 0 0 6
    let s0 := match s.mct.visitAt with
      | some v => s.reach (v + 2083333)
      | none => s
    let visit (s : State) : State :=
      let s1 : State := { s with mct := { s.mct with
        openRows := s.mct.openRows.filter fun e => decide (e.1 / 16 ≠ ch) } }
      let s2 := ((s1.rsetFld .mctChStatus 0 ch 4 8 read.toNat).rsetFld .mctChStatus 0 ch 12 8 write.toNat).cinc .mctCnt 0 9
      let start := ngetD (0, 0) s2.mct.startMargin ch
      if 2 * read.toNat < start.1 ∨ 2 * write.toNat < start.2 then
        let s3 := s2.rbit .mctErr 0 0 3
        s3.raise 0x0B 0 0 ([4, 1, 0, 0] ++ beBytes 4 (s3.errStatus 4 1).toNat)
      else s2
    let s4 := s0.awhile (ch / 4) visit
    let s5 := s4.rsetFld .mctRetrain 0 0 0 6 ((ch + 1) % 48)
    let s6 := if ch = 47 then s5.rsetFld .mctRetrain 0 0 16 16 (s5.rfld .mctRetrain 0 0 16 16 + 1) else s5
    .next { s6 with mct := { s6.mct with visitAt := some s0.t } }
  else .next s

/-- One step of the patrol scrub on a channel (R418): a bulk request for the channel's next burst, and the channels make their
next grants. A channel that is powered down, or that still has the step
before in its queue, or no place in it, is skipped. -/
def execScrubStep (channel : Fin 48) (step : ScrubRead) (s : State) : Out :=
  let q := s.chQueue channel
  .next (if s.memUp && decide (s.rfld .mctCfg 0 0 28 1 = 1 ∧ s.rfld .mctChStatus 0 channel 0 2 = 0 ∧ q.length < 32) &&
      !(q.any fun e => decide (e.kind = .scrub)) then
      let u := channelBurst channel (ngetD 0 s.mct.scrubAt channel % channelBursts)
      State.channelGrants (s.setChQueue channel (q ++ [{
        req := 0, source := 0, kind := .scrub, latency := false, burst := u, lo := 64 * u, len := 64, data := [], fault := step.fault }]))
        step.grants
    else s)

/-- A device whose four channels have had no request queued for PD_US µs enters power-down (R419). -/
def execDevicePowerDown (device : Fin 12) (s : State) : Out :=
  let pd := s.rfld .mctCfg 0 0 0 20
  let idle := (List.range 4).all fun i => decide (s.chQueue (4 * device + i) = [])
  if idle && s.memUp && decide (s.m.mode ≠ .wipe ∧ pd ≠ 0) && decide (s.rfld .mctChStatus 0 (4 * device) 0 2 = 0) then
    .next ((s.reach (ngetD 0 s.mct.lastCmd device + 1000 * pd)).sleepDevice device)
  else .next s

/-- A write of 1 to COUNTERS (R420). -/
def execMctCntClr (s : State) : Out :=
  .next (s.answerWith (if s.blkUp 4 1 then .ok (s.cclear .mctCnt 0 0 10) else .error stUnavailable))

end Sys2Proof.Machine
end

