-- ==== Sys2Proof/Machine/Ecdsa.lean ====
section
/-!
DEFINITION. ECDSA over P-384, the image's signature (R46, R67) and the owner's return command (R56).
-/

namespace Sys2Proof.Machine

/-- The field prime of P-384. -/
def p384P : Nat := 2 ^ 384 - 2 ^ 128 - 2 ^ 96 + 2 ^ 32 - 1
/-- The order of P-384's base point. -/
def p384N : Nat :=
  0xFFFFFFFFFFFFFFFFFFFFFFFFFFFFFFFFFFFFFFFFFFFFFFFFC7634D81F4372DDF581A0DB248B0A77AECEC196ACCC52973
/-- The constant b of P-384. -/
def p384B : Nat :=
  0xB3312FA7E23EE7E4988E056BE3F82D19181D9C6EFE8141120314088F5013875AC656398D8A2ED19D2A85C8EDD3EC2AEF
/-- The base point of P-384. -/
def p384Gx : Nat :=
  0xAA87CA22BE8B05378EB1C71EF320AD746E1D3B628BA79B9859F741E082542A385502F25DBF55296C3A545E3872760AB7
def p384Gy : Nat :=
  0x3617DE4A96262C6F5D9E98BF9292DC29F8F41DBD289A147CE9DA3113B5F0B8C00A60B1CE1D7E819D7A431D7C90EA0E5F

/-- Power modulo `m`, the exponent's bits taken from bit `n - 1` down. -/
def powMod (m b e : Nat) : Nat → Nat → Nat
  | 0, a => a
  | n + 1, a => powMod m b e n (if bitN e n then a * a % m * b % m else a * a % m)

/-- Inverse modulo a prime of at most 384 bits. -/
def invMod (m a : Nat) : Nat := powMod m (a % m) (m - 2) 384 1

/-- Difference modulo `m`. -/
def subMod (m a b : Nat) : Nat := (a + m - b % m) % m

/-- A point in Jacobian coordinates; Z = 0 is the point at infinity. -/
structure JPoint where
  x : Nat
  y : Nat
  z : Nat
  deriving DecidableEq, Repr

/-- Doubling on P-384 (a = -3). -/
def jdouble (q : JPoint) : JPoint :=
  let p := p384P
  if q.z = 0 ∨ q.y = 0 then ⟨1, 1, 0⟩
  else
    let zz := q.z * q.z % p
    let yy := q.y * q.y % p
    let s := 4 * q.x * yy % p
    let m := 3 * subMod p q.x zz * ((q.x + zz) % p) % p
    let x := subMod p (m * m % p) (2 * s)
    ⟨x, subMod p (m * subMod p s x % p) (8 * (yy * yy % p)), 2 * q.y * q.z % p⟩

/-- Addition on P-384. -/
def jadd (a b : JPoint) : JPoint :=
  let p := p384P
  if a.z = 0 then b
  else if b.z = 0 then a
  else
    let z1 := a.z * a.z % p
    let z2 := b.z * b.z % p
    let u1 := a.x * z2 % p
    let u2 := b.x * z1 % p
    let s1 := a.y * z2 % p * b.z % p
    let s2 := b.y * z1 % p * a.z % p
    if u1 = u2 then (if s1 = s2 then jdouble a else ⟨1, 1, 0⟩)
    else
      let h := subMod p u2 u1
      let r := subMod p s2 s1
      let hh := h * h % p
      let hhh := hh * h % p
      let v := u1 * hh % p
      let x := subMod p (subMod p (r * r % p) hhh) (2 * v)
      ⟨x, subMod p (r * subMod p v x % p) (s1 * hhh % p), h * a.z % p * b.z % p⟩

/-- `u·G + v·Q`, the scalars' bits taken from bit `n - 1` down. -/
def jmul2 (u v : Nat) (g q gq : JPoint) : Nat → JPoint → JPoint
  | 0, a => a
  | n + 1, a =>
    let d := jdouble a
    jmul2 u v g q gq n
      (if bitN u n then (if bitN v n then jadd d gq else jadd d g) else if bitN v n then jadd d q else d)

/-- Is (x, y) a point of P-384. -/
def onP384 (x y : Nat) : Bool :=
  decide (x < p384P) && decide (y < p384P) &&
    decide (y * y % p384P = (x * x % p384P * x + (p384P - 3) * x + p384B) % p384P)

/-- ECDSA P-384 over a 48-byte digest: public key (qx, qy), signature (r, s). -/
def ecdsaVerify (digest : Bytes) (qx qy r s : Nat) : Bool :=
  if 0 < r ∧ r < p384N ∧ 0 < s ∧ s < p384N ∧ onP384 qx qy then
    let w := invMod p384N s
    let u := beNat digest * w % p384N
    let v := r * w % p384N
    let g : JPoint := ⟨p384Gx, p384Gy, 1⟩
    let q : JPoint := ⟨qx, qy, 1⟩
    let a := jmul2 u v g q (jadd g q) 384 ⟨1, 1, 0⟩
    if a.z = 0 then false
    else
      let zi := invMod p384P a.z
      decide (a.x * zi % p384P * zi % p384P % p384N = r)
  else false

end Sys2Proof.Machine
end

