-- ==== Sys2Proof/Machine/Watch.lean ====
section
/-!
DEFINITION. The safety supervisor: its decisions (R456), parts taken out of service, wing restarts; checkers' self-test,
watchdogs, heartbeats, the chip watchdog; clocks lost.
-/

namespace Sys2Proof.Machine

/-! ### Stops of the whole processor -/


/-! ### Parts and wings -/

/-- What stops with a part (R115, R298, R347, R399). -/
def State.partStops (s : State) : Part → State
  | .decode n => s.decEngineOut n
  | .encode n | .pipeline n => s.encEngineOut n
  | .quad q => s.quadLost q
  | _ => s

/-- A part is taken out of service (R41, R59, R297, R456). A cluster is swapped for the standby, where one stands by, and
is then no part out of service. -/
def State.takeOut (s : State) (p : Part) (cause : Nat) : State :=
  match partRecorded p with
  | .cluster n =>
    if s.spareFor n then
      ((s.logFault 0x05 2 (0x10 + n) cause 0xFF).raise 3 0 0 (partDetail (.cluster n) cause)).withLimits
        (fun s => s.takeCluster n) []
    else s.withLimits (fun s => (s.recordOut (.cluster n) cause).takeCluster n) []
  | q => (s.withLimits (fun s => s.recordOut q cause) []).partStops q

/-- A wing restarts (R60, R457): RECOVERY by transition 15, its PLLs locked again, its blocks wiped and restored. A clusters'
start-up (R285) runs within the restart. -/
def State.recoverWing (s : State) (w cause : Nat) : State :=
  let s0 := (s.rsetFld .chpSupStatus 0 0 8 8 cause).enterMode .recovery 15 cause
  let s1 := (wingPlls w).foldl (fun s b => s.rsetFld .chpClkLock 0 0 b 1 1) s0
  let s2 := (wingBlocks w).foldl (fun s b => s.wipeBlock w b) s1
  { s2 with m := { s2.m with restarting := some (w, s.t), recoveryWing := w, windowFrom := none } }

/-! ### Decisions (R456) -/

/-- What the supervisor decides on a trigger in the present mode: SAFE_STOP with a cause, a warm reset, RECOVERY of a
wing, a part out of service, nothing. -/
inductive Verdict where
  | stop (cause : Nat)
  | warm (bit : Nat)
  | recover (w cause : Nat)
  | out (p : Part) (cause : Nat)
  | nothing
  deriving DecidableEq, Repr

/-- The decision on a wing's failure (R42, R48, R456). A failure exactly 60 s after transition 16 is not within 60 s (DESIGN
CHOICE, log 84). -/
def State.judgeWing (s : State) (w cause : Nat) : Verdict :=
  match s.m.mode with
  | .off | .safeStop => .nothing
  | .powerUp | .wipe | .load | .linkUp => .warm 6
  | .selfTest => .stop cause
  | .recovery => .stop 0x0C
  | .service | .degraded | .maintain | .diagnostic =>
    match nget s.m.recovered w with
    | some x => if s.t < x + 60000000000 then .stop 0x0C else .recover w cause
    | none => .recover w cause

/-- The decision on a trigger (R456). -/
def State.verdict (s : State) (t : Trigger) : Verdict :=
  if s.m.mode = .off ∨ s.m.mode = .safeStop then .nothing
  else match t with
    | .part p cause =>
      if partReplaceable p then
        match s.m.mode with
        | .powerUp | .wipe | .load | .selfTest => .nothing
        | _ => .out p cause
      else match p with
        | .sramRow _ _ _ _ => .nothing
        | .block w _ => if 1 ≤ w ∧ w ≤ 3 then s.judgeWing w cause else .stop cause
        | .checker _ => .stop 0x06
        | _ => .stop cause
    | .wing w cause => if w = 4 then .stop cause else s.judgeWing w cause
    | .south cause => .stop cause
    | .chip cause => .stop cause
    | .checkerFailed _ => .stop 0x06
    | .critical cause => .stop cause
    | .memoryRate => .stop 0x0A
    | .watchdog => .warm 1
    | .lockstep => .stop 0x0E

/-- Every trigger is logged, also one that a higher decision overtakes. -/
def State.logTrigger (s : State) : Trigger → State
  | .part p cause => let (w, b, x) := partPlace p
                     s.logFault 0x05 w b cause x
  | .wing w cause => s.logFault 0x07 w 0 cause 0
  | .south cause => s.logFault 0x07 4 0 cause 0
  | _ => s

/-- The first SAFE_STOP decision among triggers, with its cause. -/
def State.stopAmong (s : State) (ts : List Trigger) : Option Nat :=
  (ts.map s.verdict).findSome? fun v => match v with
    | .stop c => some c
    | _ => none

/-- The first warm reset among the decisions on triggers, with its bit of CUR_RESET_CAUSE. -/
def State.warmAmong (s : State) (ts : List Trigger) : Option Nat :=
  (ts.map s.verdict).findSome? fun v => match v with
    | .warm b => some b
    | _ => none

/-- Egress stops (R38, R115): every port's link goes down and every transmitter falls idle; frames in flight end cut. -/
def State.stopEgress (s : State) : State := ((List.range 96).foldl State.dropLink s).silence

/-- SAFE_STOP with egress stopped first (R38, R45). -/
def State.toSafeStop (s : State) (cause : Nat) : State := s.stopEgress.safeStop cause

/-- A warm reset with egress stopped first (R38, R43). A reported trigger that the supervisor has not taken yet and that
leads to SAFE_STOP ranks above it and overtakes it (R40); every trigger is logged (R456). -/
def State.toWarmReset (s : State) (bit : Nat) : State :=
  let s1 := s.sup.reported.foldl State.logTrigger s
  match s.stopAmong s.sup.reported with
  | some c => s1.toSafeStop c
  | none => s1.stopEgress.warmReset bit

/-- Decide on one trigger below SAFE_STOP and warm reset. -/
def State.carryOut (s : State) (t : Trigger) : State :=
  match s.verdict t with
  | .stop c => (s.logTrigger t).toSafeStop c
  | .warm b => (s.logTrigger t).toWarmReset b
  | .recover w c => (s.logTrigger t).recoverWing w c
  | .out p c =>
    let s1 := (s.rsetFld .chpSupStatus 0 0 8 8 c).takeOut p c
    if s1.m.mode = .service ∧ s1.sup.outParts ≠ [] then s1.enterMode .degraded 9 c else s1
  | .nothing => s

/-- Triggers of wings that name a wing again are one failure. -/
def sameWings : List Trigger → List Nat → List Trigger
  | [], _ => []
  | .wing w c :: r, seen => if seen.contains w then sameWings r seen else .wing w c :: sameWings r (w :: seen)
  | t :: r, seen => t :: sameWings r seen

/-- Decide on triggers that fall together: the highest decision is taken (R40, R456). -/
def State.supervise (s : State) (ts : List Trigger) : State :=
  match s.stopAmong ts with
  | some c => (ts.foldl State.logTrigger s).toSafeStop c
  | none =>
    match s.warmAmong ts with
    | some b => (ts.foldl State.logTrigger s).toWarmReset b
    | none =>
      let wings := ts.filter fun t => match t with
        | .wing _ _ => true
        | _ => false
      let rest := ts.filter fun t => match t with
        | .wing _ _ => false
        | _ => true
      (sameWings wings [] ++ rest).foldl State.carryOut s

/-! ### The meanings: decisions, isolation, checkers -/

/-- The supervisor decides on the triggers reported to it and on faults found elsewhere (R456). -/
def execSupervisorDecision (faults : List Trigger) (s : State) : Out :=
  .next (State.supervise { s with sup := { s.sup with reported := [] } } (s.sup.reported ++ faults))

/-- A leg's isolation ends and its hit history is cleared (R443). -/
def State.releaseLeg (s : State) (l : Nat) : State :=
  if s.isolated l then
    let s1 := (s.rsetFld .chpLegIso 0 (l / 32) (l % 32) 1 0).logFault 0x03 0 2 0 l
    { s1 with sup := { s1.sup with
      hits := ndel s1.sup.hits l
      hitWings := s1.sup.hitWings.filter fun e => decide (e.1 ≠ l) } }
  else s

def execChpLegIsoClr (v : W32) (s : State) : Out := .next (s.answerWith (.ok (s.releaseLeg (fld v 0 15))))

/-- The modes in which the checkers are tested (R445, R446). -/
def State.checkersRun (s : State) : Bool := s.afterLoad && decide (s.m.mode ≠ .safeStop)

/-- A checker failed its injected test (R446). -/
def State.checkerFails (s : State) (code : Nat) : State :=
  let (w, b) := checkerBlock code
  (((s.flag .chpSelftest 0 0 code).setErr w b 9).logFault 0x0E w b code 0).report (.checkerFailed code)

/-- A test round of all checkers, 5 ms after the round before it (R445): `passed` are the codes of the checkers whose
injected input passed. -/
def execSelftestRound (passed : List (Fin 8)) (s : State) : Out :=
  .next (if s.checkersRun then
      (passed.filter fun c => decide (c.val ≠ 0)).foldl (fun s c => s.checkerFails c.val)
        ((s.round 1 5000000).rsetFld .chpSelftest 0 0 16 16 (s.rfld .chpSelftest 0 0 16 16 + 1))
    else s)

/-! ### Watchdogs and heartbeats -/

/-- Does a block hold accepted work (R447). What the pager, the South wing's blocks and a wing controller work on lies
within a row or in a queue of another block's, so that for them the row itself says that they hold some. -/
def State.holdsWork (s : State) (wing num : Nat) : Bool :=
  match wing, num with
  | 1, 1 => s.atr.ports.any fun e => !e.2.fifo.isEmpty
  | 1, 2 => !s.rgs.staged.isEmpty
  | 1, 3 => !s.vlt.copies.isEmpty || !s.rgs.staged.isEmpty || s.vlt.jobs.any fun j => decide (j.stage ≠ 2)
  | 1, 4 => !s.fwd.rtcp.isEmpty || s.fwd.outPkts.any (fun e => !e.2.isEmpty) || s.stk.queues.any fun e => decide (131072 ≤ e.1)
  | 1, 5 => s.mgmt.any (fun e => !e.2.isEmpty) || s.stk.queues.any fun e => decide (e.1 < 131072)
  | 2, 1 => !s.doc.active.isEmpty || !s.doc.blocked.isEmpty
  | 2, 2 => s.afb.confs.any (fun e => e.2.tick.isSome) || s.afb.ins.any fun e => !e.2.pkts.isEmpty
  | 3, 12 => !s.cmp.frame.isEmpty || s.cmp.due.any fun e => !e.2.isEmpty
  | 3, b =>
    if 1 ≤ b ∧ b ≤ 4 then !(s.decPipe (b - 1)).isEmpty || s.vde.ctx.any fun e => decide (e.2.engine + 1 = b) && !e.2.waiting.isEmpty
    else if 8 ≤ b ∧ b ≤ 11 then
      nhas s.ven.frame (b - 8) || nhas s.cmp.frame (b - 8) || !(ngetD [] s.ven.rows (b - 8)).isEmpty
    else true
  | _, _ => true

/-- A block's watchdog expires (R447): the block has held accepted work and completed nothing for CHP_WDT_BLK.MS. A DSP cluster's watchdog runs per core (R448) and is no event here. -/
def execBlockWatchdogExpiry (wing : Nat) (watch : BlockWatch) (s : State) : Out :=
  let blk := watch.blk
  if blockPresent wing blk && decide (1 ≤ wing ∧ (wing ≠ 2 ∨ blk < 16)) && (decide (blk = 0) || s.blkUp wing blk) &&
      s.holdsWork wing blk && decide (watch.since ≤ s.t) then
    let s0 := s.reach (watch.since + 1000000 * s.rfld .chpWdtBlk (wing - 1) blk 0 7)
    let s1 := (s0.setErr wing blk 5).logFault 0x0F wing blk 0 0
    let s2 : State := { s1 with sup := { s1.sup with wdtOpen := s1.sup.wdtOpen ++ [256 * wing + blk] } }
    let s3 := s2.contain wing blk 2
    .next (match blockTrigger wing blk 2 with
      | .part p c => s3.report (.part p c)
      | _ => s3)
  else .next s

/-- A heartbeat to each wing controller, 100 ms after the one before it (R449): a wing answers when no block of it has an unhandled watchdog expiry.
`silent` are the wings whose controllers do not answer for a fault of their own. -/
def execHeartbeat (silent : List (Fin 5)) (s : State) : Out :=
  if s.m.mode = .off ∨ s.m.mode = .safeStop then .next s
  else .next ([1, 2, 3, 4].foldl (fun (s : State) w =>
    if s.sup.wdtOpen.any (fun x => decide (x / 256 = w)) || silent.any fun f => decide (f.val = w) then
      { s with sup := { s.sup with heartbeat := nput s.sup.heartbeat w ((nget s.sup.heartbeat w).getD s.t) } }
    else
      let s1 := s.rsetFld .chpWingHb (w - 1) 0 0 16 (s.rfld .chpWingHb (w - 1) 0 0 16 + 1)
      { s1 with sup := { s1.sup with heartbeat := ndel s1.sup.heartbeat w } }) (s.round 2 100000000))

/-- 100 ms without an answer (R449). -/
def execHeartbeatMiss (wing : Fin 5) (s : State) : Out :=
  match nget s.sup.heartbeat wing with
  | none => .next s
  | some at_ =>
    let s1 := ((s.reach (at_ + 100000000)).rbit .chpWingHb (wing.val - 1) 0 16)
    let s2 : State := { s1 with sup := { s1.sup with heartbeat := ndel s1.sup.heartbeat wing } }
    .next (s2.report (if wing.val = 4 then .south 3 else .wing wing.val 3))

/-- The chip watchdog is armed: CHP_WDT_STATUS.ARMED. -/
def State.armed (s : State) : Bool := s.sup.deadline.isSome

/-- A WDT_SERVICE item with a fresh token, 500 ms after the one before it (R450). -/
def execWdtServicePost (s : State) : Out :=
  match s.sup.deadline with
  | none => .next s
  | some d =>
    let r := (s.round 4 500000000).draw 32
    let token : W32 := BitVec.ofNat 32 r.1
    let s1 : State := { r.2 with sup := { r.2.sup with token := some token } }
    .next (s1.hwPost 8 0 none none (leBytes 4 token.toNat ++ leBytes 4 (d / 1000000)))

/-- A write of CHP_WDT_KICK (R450): the current item's token restarts the armed watchdog, any other value is counted. -/
def State.kick (s : State) (v : W32) : State :=
  if s.armed && decide (s.sup.token = some v) then
    { s with sup := { s.sup with deadline := some (s.t + 2000000000) } }
  else s.rcount .chpWdtStatus 0 0 8 8 1

def execChpWdtKick (v : W32) (s : State) : Out := .next (s.answerWith (.ok (s.kick v)))

/-- The chip watchdog expires (R450). -/
def execChipWatchdogExpiry (s : State) : Out :=
  match s.sup.deadline with
  | none => .next s
  | some d =>
    let s1 := s.reach d
    .next (State.supervise { s1 with sup := { s1.sup with reported := [] } } (s1.sup.reported ++ [.watchdog]))

/-! ### Clocks (R25, R474) -/

/-- The wing of a PLL by its bit in CHP_CLK_LOCK: 0 for the Curator's. -/
def pllWing (pll : Nat) : Nat := [1, 1, 2, 3, 4, 4, 0].getD pll 0

/-- A PLL loses lock (R25): its wing's blocks are held in reset, the supervisor decides. -/
def execPllLossOfLock (pll : Fin 7) (s : State) : Out :=
  if s.rfld .chpClkLock 0 0 pll 1 = 0 then .next s
  else
    let w := pllWing pll
    let s1 := ((s.rsetFld .chpClkLock 0 0 pll 1 0).flag .chpClkLol 0 0 pll)
    let s2 := (wingBlocks w).foldl (fun s b => if w = 0 then s else (s.blockLoses w b).setBlkState w b 1) s1
    .next (s2.report (match w with
      | 0 => .chip 4
      | 4 => .south 4
      | n => .wing n 4))

/-- A clock input has had no edge for 10 µs (R25, R474). -/
def execClockInputLost (input : ClockInput) (s : State) : Out :=
  match input with
  | .sysref =>
    if s.rfld .chpClkLock 0 0 12 1 = 0 then .next s
    else .next (((s.rsetFld .chpClkLock 0 0 12 1 0).flag .chpClkLol 0 0 12).report (.chip 0x0D))
  | .lref k =>
    if 4 ≤ k ∨ s.rfld .chpClkLock 0 0 (8 + k) 1 = 0 then .next s
    else
      let s1 := (s.rsetFld .chpClkLock 0 0 (8 + k) 1 0).flag .chpClkLol 0 0 (8 + k)
      .next (s1.refLost k)

/-- A lost lane reference pair starts toggling again (R25): its lanes can relock. -/
def execLaneReferencePresent (k : Fin 4) (s : State) : Out :=
  .next (if s.m.mode = .off then s else s.rsetFld .chpClkLock 0 0 (8 + k) 1 1)

/-! ### Recovery (R42, R457) -/

/-- The last block of the restarted wing returns to service: the recovery window starts. -/
def execWingRestartDone (s : State) : Out :=
  match s.m.restarting with
  | none => .next s
  | some (w, from_) =>
    let ready := decide (w ≠ 2) || (List.range 17).all fun cl => s.partIsOut (.cluster cl) || s.clusterEntered cl
    if s.m.mode = .recovery ∧ ready = true then
      let s2 := (wingBlocks w).foldl (fun s b => s.blockReturns w b) s
      .next { s2 with m := { s2.m with
        restarting := none, windowFrom := some s.t, restartUs := (s.t - from_) / 1000 } }
    else .next s

/-- The recovery window has elapsed (transition 16). -/
def execRecoveryWindowExpiry (s : State) : Out :=
  match s.m.windowFrom with
  | none => .next s
  | some x =>
    if s.m.mode = .recovery then
      let s1 := (s.reach (x + s.cur.chip.recovery * 100000000)).logFault 0x08 s.m.recoveryWing 0 s.m.restartUs 0
      let s2 : State := { s1 with m := { s1.m with
        windowFrom := none, recovered := nput s1.m.recovered s1.m.recoveryWing s1.t } }
      .next (s2.enterMode s2.landing 16 0)
    else .next s

end Sys2Proof.Machine
end

