-- ==== Sys2Proof/Machine/Power.lean ====
section
/-!
DEFINITION. Power, pins and time: supply, rails, PORB, the I²C management target, the test access port, life cycle by
JTAG, the PPS pins, the timebase snapshot.
-/

namespace Sys2Proof.Machine

/-! ### Supply and rails (R463, R468, R476) -/

/-- Whether a value between two thresholds has crossed the one it rises (or falls) towards: below `lo` no, from `hi` on yes,
in between the part decides (free value). -/
def State.crossed (s : State) (v lo hi : Nat) : Bool × State :=
  if v < lo then (false, s) else if hi ≤ v then (true, s) else (decide ((s.draw 1).1 = 1), (s.draw 1).2)

/-- The drop to OFF with what the board's side of the pins becomes. -/
def State.dropOff (s : State) (p : Pins) : State := { s.powerOff with pins := { p with ppsOut := false } }

/-- Transition 1 (R38, R463, R476): VIN below the falling lockout or past the overvoltage lockout, or PORB low. -/
def execOffTransition (cause : OffCause) (s : State) : Out :=
  match cause with
  | .vin mv =>
    if s.m.mode = .off then .next { s with pins := { s.pins with vinMv := mv } } else
      let past := s.crossed mv 81000 84000
      let inRange := past.2.crossed mv 8200 8600
      if past.1 then .next (past.2.dropOff { s.pins with vinMv := mv, overVolt := true })
      else if inRange.1 then .next { inRange.2 with pins := { s.pins with vinMv := mv } }
      else .next (inRange.2.dropOff { s.pins with vinMv := mv })
  | .porbLow ns =>
    let low := s.crossed ns 1000 10000
    if low.1 = false then .next low.2
    else if s.m.mode = .off then .next { low.2 with pins := { s.pins with porb := false } }
    else .next (low.2.dropOff { s.pins with porb := false })

/-- Transition 2 (R38, R463): VIN at the rising lockout, below 78 V after an overvoltage stop, and PORB high. Everything
starts at its value at power-on reset; OTP is what it was. -/
def execPowerOn (vinMv : Nat) (porb : Bool) (s : State) : Out :=
  if s.m.mode ≠ .off then .next s
  else
    let up := s.crossed vinMv 8600 9000
    let past := decide ((if s.pins.overVolt then 78000 else 81000) ≤ vinMv)
    let p : Pins := { s.pins with vinMv := vinMv, porb := porb, overVolt := s.pins.overVolt && past }
    if up.1 && porb && !past then
      .next { State.reset with
        pending := s.pending, draws := up.2.draws, otp := s.otp, wire := s.wire, programmed := s.programmed, pins := p }
    else .next { up.2 with pins := p }

/-- The step of R468 in which a rail comes up. -/
def railStep (r : Nat) : Nat := [2, 3, 3, 3, 3, 3, 4, 4, 4, 4, 1, 1, 1, 2, 5, 5, 5, 5, 5].getD r 0

/-- A rail has not come up within 5 ms (R468): the sequence stops; after three retries it stays off. -/
def execRailStepTimeout (rail : Nat) (s : State) : Out :=
  let r := s.rails
  if s.m.mode = .powerUp ∧ r.step ≤ railStep rail ∧ 0 < r.step ∧ r.failed = false ∧ r.stopped = false then
    .next { s with rails := if r.retries = 3 then { r with step := 0, stopped := true } else { r with step := 0, failed := true } }
  else .next s

/-- 100 ms after a failed step (R468): the converter starts again from step 1. -/
def execRailRetry (s : State) : Out :=
  if s.rails.failed then .next { s with rails := { s.rails with step := 1, failed := false, retries := s.rails.retries + 1 } }
  else .next s

/-! ### Life cycle (R56, R57) -/

/-- Has a fuse group at least 2 of its 3 fuses blown. -/
def groupBlown (g : BitVec 3) : Bool := decide (2 ≤ countIf (fun i => g.getLsbD i) [0, 1, 2])

/-- The life-cycle state (R56): 0 BLANK, 1 PROVISIONED, 2 DEPLOYED, 3 RETURNED. -/
def State.lifeCycle (s : State) : Nat :=
  if groupBlown s.otp.returned then 3 else if groupBlown s.otp.deployed then 2 else if groupBlown s.otp.provisioned then 1 else 0

/-- The owner key hash, where one is present and not revoked. -/
def State.ownerKey (s : State) : Option Bytes := if s.otp.ownerRevoked then none else s.otp.ownerHash

/-- CUR_LC as read. -/
def State.curLc (s : State) : W32 := BitVec.ofNat 32 (s.lifeCycle + 4 * b2n s.ownerKey.isSome)

/-- Blow the fuses of a step, and for RETURNED every bit of the owner key hash (R56, R57). -/
def State.blow (s : State) (target : Nat) : State :=
  { s with otp :=
    match target with
    | 1 => { s.otp with provisioned := 7 }
    | 2 => { s.otp with deployed := 7 }
    | _ => { s.otp with returned := 7, ownerRevoked := true } }

/-- The instruction that takes force when one is loaded: outside the modes or life-cycle states in which it acts, and for
reserved codes, BYPASS. -/
def State.tapActs (s : State) (op : Nat) : Bool :=
  match op with
  | 0x01 | 0x02 => true
  | 0x00 | 0x03 | 0x04 | 0x05 | 0x06 => decide (s.m.mode = .safeStop)
  | n => decide (0x80 ≤ n ∧ n ≤ 0xFE ∧ s.lifeCycle ≠ 2)

/-- A debug instruction in force where the new life-cycle state does not let it act is BYPASS from then on (R480). -/
def State.judgeTap (s : State) : State :=
  if s.tapActs s.tap.ir.toNat then s else { s with tap := { s.tap with ir := 0xFF, dr := 0 } }

/-- An accepted life-cycle change (R57): egress stops, keys are zeroised, fuses are blown, a warm reset with LC_CHANGE. -/
def State.changeLife (s : State) (target : Nat) : State :=
  let s1 := s.stopEgress
  ({ s1 with vlt := { s1.vlt with slots := [], expires := [] } }.blow target).judgeTap.toWarmReset 4

/-- Provisioning by JTAG (R56), with the SHA-384 hash of the owner's public key. No warm reset can leave SAFE_STOP (R44),
so nothing is accepted there. -/
def execJtagProvision (hash : Bytes) (s : State) : Out :=
  .next (if s.lifeCycle = 0 ∧ hash.length = 48 ∧ s.m.mode ≠ .off ∧ s.m.mode ≠ .safeStop then
      State.changeLife { s with otp := { s.otp with ownerHash := some hash } } 1
    else s)

/-- The JTAG return command (R56), signed with the owner key. R56 does not say which message the signature covers, so it
covers whatever message the command carries (DESIGN CHOICE, log 86). -/
def execJtagReturn (msg : Bytes) (qx qy r sg : Nat) (s : State) : Out :=
  .next (if (s.lifeCycle = 1 ∨ s.lifeCycle = 2) ∧ s.m.mode ≠ .off ∧ s.m.mode ≠ .safeStop ∧
      s.ownerKey = some (sha384 (beBytes 48 qx ++ beBytes 48 qy)) ∧ ecdsaVerify (sha384 msg) qx qy r sg = true then
      s.changeLife 3
    else s)

/-! ### The I²C management target (R478) -/

/-- The target answers from the lock of the core PLLs on (R476 row 3). -/
def State.i2cOn (s : State) : Bool :=
  match s.m.mode with
  | .off => false
  | .powerUp => decide (s.rget .chpClkLock 0 0 &&& 0x7F = 0x7F)
  | _ => true

/-- The word at an aligned pointer. -/
def State.i2cWord (s : State) (p : Nat) : W32 :=
  if 0x1000 ≤ p then BitVec.ofNat 32 (s.frField (p - 0x1000) 4)
  else if 0x100 ≤ p ∧ p < 0x180 then s.rget .chpTemp 0 ((p - 0x100) / 4)
  else if 0x180 ≤ p ∧ p < 0x1D0 then s.rget .chpVmon 0 ((p - 0x180) / 4)
  else match p with
    | 0 => s.curMode
    | 4 => s.curLc
    | 8 => s.rget .curResetCause 0 0
    | 0xC => s.rget .chpThrottle 0 0
    | 0x10 => s.errSummary
    | 0x14 => s.rget .chpSupStatus 0 0
    | _ => 0

/-- One byte at the pointer: the first byte of a word latches it. -/
def State.i2cByte (s : State) : State :=
  let p := s.i2c.ptr.toNat
  let w := p / 4 * 4
  let fresh := decide (p % 4 = 0) || decide (s.i2c.latchAt ≠ some w)
  let word := if fresh then s.i2cWord w else s.i2c.latch
  { s with i2c := { s.i2c with
    ptr := s.i2c.ptr + 1, latchAt := some w, latch := word
    readData := s.i2c.readData ++ [byteOf (fld word (8 * (p % 4)) 8)] } }

/-- A read of `count` bytes, with a pointer written before it or from where the pointer stands. -/
def execI2cRead (addr : Nat) (ptr : Option (BitVec 13)) (count : Nat) (s : State) : Out :=
  if s.i2cOn && decide (addr = 0x50 + s.pins.strap.toNat) then
    let s1 : State := { s with i2c := match ptr with
      | some p => { s.i2c with ptr := p, latchAt := none, readData := [] }
      | none => { s.i2c with readData := [] } }
    .next ((List.range count).foldl (fun s _ => s.i2cByte) s1)
  else .next s

/-- A write: the pointer, then data bytes that are not acknowledged and change nothing. -/
def execI2cWrite (addr : Nat) (ptr : BitVec 13) (data : Bytes) (s : State) : Out :=
  if s.i2cOn && decide (addr = 0x50 + s.pins.strap.toNat) then
    .next { s with i2c := { s.i2c with ptr := ptr, latchAt := none, acked := data.isEmpty } }
  else .next s

/-! ### The test access port (R480) -/

def idcode : W32 := 0x19615757

/-- Load an instruction. In OFF the TAP is unpowered. -/
def State.loadTap (s : State) (op : BitVec 8) : State :=
  if s.m.mode = .off then s
  else
    let ir := if s.tapActs op.toNat then op else 0xFF
    { s with tap := { s.tap with ir := ir, dr := if ir = 1 then idcode else 0 } }

/-- Whether the boundary cells, not the processor, drive the pins: only in SAFE_STOP (R480). -/
def State.pinsByTap (s : State) : Bool :=
  decide (s.m.mode = .safeStop) && [(0x00 : BitVec 8), 0x03, 0x04, 0x05, 0x06].contains s.tap.ir

def execBypass (s : State) : Out := .next (s.loadTap 0xFF)

def execIdcode (s : State) : Out := .next (s.loadTap 0x01)

/-- SAMPLE/PRELOAD: the cells capture the pins (free values: the cells' order and the board's levels are not given) and take
the values shifted in. -/
def execSamplePreload (cells : List Bool) (s : State) : Out :=
  if s.m.mode = .off then .next s
  else
    let s1 := s.loadTap 0x02
    let r := s1.draw cells.length
    .next { r.2 with tap := { r.2.tap with
      cells := cells, captured := (List.range cells.length).map fun i => bitN r.1 i } }

def execExtest (s : State) : Out := .next (s.loadTap 0x00)

def execClamp (s : State) : Out := .next (s.loadTap 0x03)

def execHighz (s : State) : Out := .next (s.loadTap 0x04)

def execExtestPulse (s : State) : Out := .next (s.loadTap 0x05)

def execExtestTrain (s : State) : Out := .next (s.loadTap 0x06)

/-- An instruction of the debug range 0x80 to 0xFE, or any other code. -/
def execDebugInstruction (opcode : BitVec 8) (s : State) : Out := .next (s.loadTap opcode)

/-- TRST_N low, or five TCK cycles with TMS high: IDCODE is selected. -/
def execTapReset (s : State) : Out :=
  if s.m.mode = .off then .next s else .next { s with tap := { s.tap with ir := 1, dr := idcode } }

/-! ### Time (R27, R475) -/

/-- PTP is lost: from locked to holdover, the increment kept. -/
def execPtpLoss (s : State) : Out :=
  .next (if s.rfld .chpTbState 0 0 0 2 = 1 then s.rsetFld .chpTbState 0 0 0 2 2 else s)

/-- A rising PTP_PPS_IN edge, high for `highNs`: ignored when shorter than 100 ns or within 500 ms of the last accepted
edge (exactly 500 ms is within, DESIGN CHOICE, log 84); else stamped and handed to the servo as the PTP section sets. Whether the servo then holds the timebase to its
master is the servo's (free value, log 3). -/
def execPpsInEdge (highNs : Nat) (s : State) : Out :=
  let near := match s.time.ppsIn with
    | some x => decide (s.t ≤ x + 500000000)
    | none => false
  if s.m.mode = .off ∨ s.m.mode = .powerUp ∨ highNs < 100 ∨ near = true then .next s
  else
    let s1 : State := { s with time := { s.time with ppsIn := some s.t } }
    if s1.cur.ptp = [] then .next s1
    else
      let inc := Config.servoIncrement s1.cur.ptp s1.t s1.time.inc.toNat
      let s2 : State := { s1 with time := { s1.time with inc := BitVec.ofNat 64 inc } }
      if s2.rfld .chpTbState 0 0 0 2 = 1 then .next s2
      else
        let r := s2.draw 1
        .next (if r.1 = 1 then r.2.rsetFld .chpTbState 0 0 0 2 1 else r.2)

/-- The modes in which PTP_PPS_OUT pulses (R36). -/
def State.ppsOn (s : State) : Bool := s.afterLoad && decide (s.m.mode ≠ .safeStop)

/-- PTP_PPS_OUT rises as t crosses the next whole second. -/
def execPpsOutRise (s : State) : Out :=
  if s.ppsOn && !s.pins.ppsOut then
    let s1 := if s.t % 1000000000 = 0 ∧ s.time.ppsRise ≠ some s.t then s else s.reach ((s.t / 1000000000 + 1) * 1000000000)
    .next { s1 with pins := { s1.pins with ppsOut := true }, time := { s1.time with ppsRise := some s1.t } }
  else .next s

/-- It falls 100 ms later. -/
def execPpsOutFall (s : State) : Out :=
  match s.pins.ppsOut, s.time.ppsRise with
  | true, some x =>
    let s1 := s.reach (x + 100000000)
    .next { s1 with pins := { s1.pins with ppsOut := false } }
  | _, _ => .next s

/-- A write of CHP_TB_SNAP. -/
def State.snapTimebase (s : State) (v : W32) : State :=
  if fld v 0 1 = 1 then
    (s.rset .chpTbLo 0 0 (s.time.t.setWidth 32)).rset .chpTbHi 0 0 ((s.time.t >>> 32).setWidth 32)
  else s

def execChpTbSnap (v : W32) (s : State) : Out := .next (s.answerWith (.ok (s.snapTimebase v)))

end Sys2Proof.Machine
end

