-- ==== Sys2Proof/Machine/Registers.lean ====
section
/-!
DEFINITION. Reads and writes of the control space (R7, R8, R18 to R20): what each register reads, what a write to it
does, runs of words, counters with their latch (R120); the reservations of the audio fabric (R320).
-/

namespace Sys2Proof.Machine

/-! ### The audio fabric's reservations (R320) -/

/-- The inputs that reserve: audio streams on ordinary legs, in crosspoint mode those with an XP_IN (R321). -/
def State.isInput (s : State) (st : Nat) : Bool :=
  decide (s.media st = 0) && (s.peer? (s.streamLeg st)).isNone &&
    (!s.crosspoint (s.streamConf st) || decide (s.attr tyStream st 0x605 255 ≤ 127))

/-- Opus decodes reserved. -/
def State.opusDecodes (s : State) : Nat :=
  ((s.idsOf tyConf).map fun c =>
    if s.crosspoint c ∨ s.attr tyConf c 0x604 1 = 0 then 0 else s.maxActive c + 2).sum +
  countIf (fun st => s.isInput st && decide (s.attr tyStream st 0x600 0 = 0) &&
    (s.crosspoint (s.streamConf st) || s.absent st)) (s.idsOf tyStream)

/-- Opus encode units of an output. -/
def State.outUnits (s : State) (o : Nat) : Nat :=
  if s.attr tyOutput o 0x600 0 = 0 ∧ s.attr tyOutput o 0x602 0 = 0 then
    (if s.attr tyOutput o 0x604 5 ≤ 5 then 1 else 2) *
      (if s.crosspoint (s.outConf o) then 1 else s.maxActive (s.outConf o) + 1)
  else 0

/-- Opus encode units reserved. -/
def State.opusEncodes (s : State) : Nat := ((s.idsOf tyOutput).map s.outUnits).sum

/-- Tick items reserved. -/
def State.tickItems (s : State) : Nat :=
  ((s.idsOf tyConf).map fun c =>
    (if s.crosspoint c then 0 else s.maxActive c + 2) +
      (if s.attr tyConf c 0x606 0xFFFFFFFF = 0xFFFFFFFF then 0 else 1)).sum +
  countIf (fun st => s.isInput st && (s.crosspoint (s.streamConf st) || s.absent st)) (s.idsOf tyStream) +
  countIf (fun o => decide (s.attr tyOutput o 0x600 0 = 0)) (s.idsOf tyOutput)

/-! ### Reads -/

/-- CUR_JCP_SESS. -/
def Session.word (x : Session) : W32 :=
  BitVec.ofNat 32 (b2n x.confirmed.isSome + 2 * b2n x.hello.isSome + 16 * x.running.length +
    65536 * (x.confirmed.elim 0 (·.version)))

/-- A sum of reservations in Mpixel/s, each rounded up. -/
def mpix (l : List Nat) : Nat := (l.map fun x => cdiv x 1000000).sum

/-- A word from its fields: place and value. -/
def wordOf (l : List (Nat × Nat)) : W32 := BitVec.ofNat 32 ((l.map fun e => e.2 * 2 ^ e.1).sum)

/-- The registers of wings 0 and 1 that read from other state. -/
def State.regComputed01 (s : State) (r : Reg) (u i : Nat) : Option W32 :=
  match r with
  | .chpWingErrSummary => some (s.wingSummary (u + 1))
  | .chpErrStatus => some (s.errStatus (u + 1) i)
  | .chpWingBlkState => some (setFld (s.rget r u i) 0 3 (s.blkShown (u + 1) i))
  | .curMode => some s.curMode
  | .curLc => some s.curLc
  | .curJcpSess => some ((s.cur.sessions[i]?).elim 0 Session.word)
  | .curGpioIn => some s.gpioIn
  | .chpErrSummary => some s.errSummary
  | .chpChipErrStatus => some (s.errStatus 0 i)
  | .chpWdtStatus => some (wordOf [(0, b2n s.armed), (8, s.rfld .chpWdtStatus 0 0 8 8),
      (16, s.sup.deadline.elim 0 fun d => (d - s.t) / 1000000)])
  | .rgsCatStatus => some (wordOf [(0, s.catEntries.length), (18, s.rgs.cam.length), (30, s.rfld .rgsCatStatus 0 0 30 1)])
  | .vltCredit => some (wordOf [(0, min 384 s.rgs.staged.length), (10, s.vlt.copies.length % 1024), (20, s.jobsInFlight % 1024)])
  | .vltKeyStatus => some (wordOf [(0, s.activeSlots)])
  | .fwdRtxStatus => some (wordOf [(0, s.rtxHeld), (24, s.rfld .fwdRtxStatus 0 0 24 1)])
  | .fwdStatus => some (wordOf [(0, s.walksHeld), (11, s.fwd.cache.length)])
  | .fwdSrcStatus => some (wordOf [(0, countIf (fun st => decide (s.attr tyStream st 0x401 0 = 1)) (s.idsOf tyStream)),
      (16, countIf (fun e => e.2.av1.isSome) s.fwd.streams)])
  | .tmgPortState => some (wordOf [(0, s.rfld .tmgPortState 0 i 0 1), (16, (s.legsOfPort i).length)])
  | .tmgStatus => some (wordOf [(0, b2n s.creditMode),
      (16, countIf (fun l => (s.tags 2 l).credit) (s.idsOf tyLeg))])
  | _ => none

/-- The registers of wings 2 to 4 that read from other state. -/
def State.regComputed24 (s : State) (r : Reg) (u i : Nat) : Option W32 :=
  match r with
  | .docStatus => some (wordOf [(0, s.itemCount), (17, s.rfld .docStatus 0 0 17 2)])
  | .afbStatus => some (wordOf [(0, (s.idsOf tyConf).length)])
  | .afbDecRes => some (setFld (s.rget r u i) 0 14 s.opusDecodes)
  | .afbEncRes => some (setFld (s.rget r u i) 0 14 s.opusEncodes)
  | .afbItemBound => some (wordOf [(0, s.tickItems)])
  | .vdeStatus => some (wordOf [(0, (s.decReserved u).length),
      (12, (s.decPipe u).length), (16, b2n (s.partIsOut (.decode u)))])
  | .vdeRes => some (setFld (s.rget r u i) 0 12 (mpix (s.decReserved u)))
  | .vdePgFree => some (wordOf [(0, s.pgFree)])
  | .vdePgGuar => some (wordOf [(0, s.pgGuar)])
  | .venStatus => some (wordOf [(0, (s.encOn u).length), (11, (s.enginePics u).length),
      (16, b2n (s.partIsOut (.encode u)))])
  | .venRes => some (setFld (s.rget r u i) 0 10 (mpix ((s.encOn u).map s.encRes)))
  | .cmpStatus => some (wordOf [(0, s.cmp.surf.length)])
  | .cmpPipeRes => some (setFld (s.rget r u i) 0 10 (mpix (((nkeys s.cmp.surf).filter fun o =>
      decide (s.pipeOf o = i) && !((nget s.ven.ctx o).elim false (·.stopped))).map s.surfRes)))
  | .cloPoolFree => some (wordOf [(0, s.poolFree i)])
  | .cloExtStatus => some (wordOf [(0, s.clo.ext.length), (13, s.rfld .cloExtStatus 0 0 13 1)])
  | .stkSpillStatus => some (wordOf [(0, s.chunksFree), (29, s.rfld .stkSpillStatus 0 0 29 1)])
  | .stkSlotStatus => some (wordOf [(0, s.stk.slots.length), (16, countIf (fun e => e.2.incomplete) s.stk.queues)])
  | _ => none

/-- What a register reads (R8): write-only and reserved bits read 0. -/
def State.regRead (s : State) (r : Reg) (u i : Nat) : W32 :=
  match s.regComputed01 r u i with
  | some v => v
  | none =>
    match s.regComputed24 r u i with
    | some v => v
    | none => s.rget r u i &&& ((regInfo r).rw ||| (regInfo r).rw1c ||| (regInfo r).ro)

/-- A read of one word of the control space. A counter's low word latches the high word; a read of the high word
consumes the latch (R120). -/
def State.readWord (s : State) (a : Nat) : W32 × State :=
  match findReg a with
  | none => (0, s)
  | some ⟨r, u, i, high⟩ =>
    if (regInfo r).wide then
      let k := regAddr r u i
      let hi : W32 := (s.cget r u i >>> 32).setWidth 32
      if high then
        match nget s.latches k with
        | some v => (v, { s with latches := ndel s.latches k })
        | none => (hi, s)
      else ((s.cget r u i).setWidth 32, { s with latches := nput s.latches k hi })
    else (s.regRead r u i, s)

/-- May `n` words from an address on be accessed (R19, R20, R84). -/
def State.accessOk (s : State) (a n : Nat) : Res Unit := do
  refuseIf (!(mappedAddr a && decide (0 < n) && mappedAddr (a + 4 * (n - 1)) &&
    decide (a / 0x100000 = (a + 4 * (n - 1)) / 0x100000))) stUnmapped
  refuseIf (!s.blkUp (addrWing a) (addrBlk a)) stUnavailable

/-- Read consecutive words in one pass. -/
def State.readWords (s : State) (a n : Nat) : List W32 × State :=
  (List.range n).foldl (fun x k =>
    let r := x.2.readWord (a + 4 * k)
    (x.1 ++ [r.1], r.2)) ([], s)

/-! ### Writes -/

/-- A write of CHP_TEMP_TH (R452). -/
def State.writeTempTh (s : State) (v : W32) : Res State := do
  refuseIf (decide (100 < fld v 8 8 ∨ 115 < fld v 16 8)) stBadValue
  refuseIf (decide (fld v 8 8 < fld v 0 8 ∨ fld v 16 8 ≤ fld v 8 8)) stBadValue
  return s.storeRw .chpTempTh 0 0 v

/-- A write of CHP_WDT_BLK[b] (R447): 1 to 100 ms. An absent block has no register there. -/
def State.writeWdtBlk (s : State) (u i : Nat) (v : W32) : Res State := do
  if (findBlk (u + 1) i).isSome then
    refuseIf (decide (fld v 0 7 = 0 ∨ 100 < fld v 0 7)) stBadValue
    return s.storeRw .chpWdtBlk u i v
  else return s

/-- Clear all counters of a register together where the write's bit 0 is set. -/
def State.writeClr (s : State) (r : Reg) (u : Nat) (v : W32) : State :=
  if fld v 0 1 = 1 then s.cclear r u 0 (regInfo r).count else s

/-- What a write of a register does. Ports' configuration and coefficients are written as groups, by `writeWords`. -/
def State.regWrite (s : State) (r : Reg) (u i : Nat) (v : W32) : Res State :=
  match r with
  | .chpWingBlkReset => s.writeBlkReset (u + 1) v
  | .chpWdtBlk => s.writeWdtBlk u i v
  | .curCasCfg => s.writeCasCfg v
  | .curCasCntClr => .ok (s.writeClr .curCasCnt 0 v)
  | .chpTempTh => s.writeTempTh v
  | .chpLegIsoClr => .ok (s.releaseLeg (fld v 0 15))
  | .chpWdtKick => .ok (s.kick v)
  | .chpTbSnap => .ok (s.snapTimebase v)
  | .atrPortCfg => s.writePort i (some v) none
  | .atrPortAdv => s.writePort i none (some v)
  | .atrQuadRate => s.writeQuadRate i v
  | .atrLinkCfg => s.writeLinkCfg v
  | .atrCntClr => s.writeAtrCntClr v
  | .atrLaneCtl => s.writeLaneCtl i v
  | .atrLaneTxfir => s.writeTxfir i v
  | .rgsPortParse => s.writePortParse i v
  | .rgsPortDefault => s.writePortDefault i v
  | .rgsPuntRate => s.writePuntRate i v
  | .rgsJcpRate => s.writeJcpRate v
  | .rgsCntClr => s.writeRgsCntClr v
  | .rgsDscpColour => s.writeDscpColour i v
  | .vltCntClr => .ok (s.writeVltCntClr v)
  | .fwdRtxCfg => s.writeRtxCfg v
  | .fwdCntClr => .ok (s.writeClr .fwdCnt 0 v)
  | .tmgPortMacHi => s.writeMacHi i v
  | .tmgMgmtRate => s.writeMgmtRate v
  | .tmgCntClr => .ok (s.writeClr .tmgCnt 0 v)
  | .docCfg => s.writeDocCfg r i v
  | .docAdmit => s.writeDocCfg r i v
  | .docSet => s.writeDocCfg r i v
  | .docFrange => s.writeDocCfg r i v
  | .docHwitem => s.writeDocCfg r i v
  | .docSwap => s.startSwap (fld v 0 4)
  | .docFenceClr => .ok (s.writeFenceClr v)
  | .docCntClr => .ok (s.writeClr .docCnt 0 v)
  | .afbCntClr => .ok (s.writeClr .afbCnt 0 v)
  | .dspCntClr => .ok (if fld v 0 1 = 1 then (s.writeClr .dspCnt u v).rsetFld .dspEcc u 0 0 16 0 else s)
  | .vdeCntClr => .ok (s.writeClr .vdeCnt u v)
  | .vdePgPool => s.writePgPool v
  | .vdePgCfg => s.writePgCfg v
  | .vdePgCntClr => .ok (s.writePgCntClr v)
  | .cmpCntClr => .ok (s.writeClr .cmpCnt 0 v)
  | .cmpLcoef => s.writeCoefs [(i, v)] []
  | .cmpCcoef => s.writeCoefs [] [(i, v)]
  | .venCntClr => .ok (s.writeClr .venCnt u v)
  | .mctCfg => s.writeMctCfg v
  | .mctCntClr => .ok (s.writeClr .mctCnt 0 v)
  | .cloPoolCfg => s.writePoolCfg i v
  | .cloPoolYel => s.writePoolYel i v
  | .cloCntClr => .ok (s.writeCloCntClr v)
  | .stkQprof0 => s.writeQprof r i v
  | .stkQprof1 => s.writeQprof r i v
  | .stkQprof2 => s.writeQprof r i v
  | .stkQprof3 => s.writeQprof r i v
  | .stkClassProf => s.writeClassProf v
  | .stkSpillCfg => s.writeSpillCfg v
  | .stkCntClr => .ok (s.writeClr .stkCnt 0 v)
  | _ => .ok (s.storeRw r u i v)

/-- The ports that writes touch, each once. -/
def portsOf (ws : List (RegRef × W32)) : List Nat :=
  ((ws.filter fun e => decide (e.1.reg = .atrPortCfg ∨ e.1.reg = .atrPortAdv)).map (·.1.item)).dedup

/-- The last value written to a register's item. -/
def lastTo (ws : List (RegRef × W32)) (r : Reg) (i : Nat) : Option W32 :=
  (ws.reverse.find? fun e => decide (e.1.reg = r ∧ e.1.item = i)).map (·.2)

/-- One command's writes to registers (R84): all or none. A port's two words take effect together when the command
completes, and one command touches one port at most in service (R102); coefficients are judged at its end (R375). -/
def State.writeWords (s : State) (ws : List (RegRef × W32)) : Res State := do
  let ps := portsOf ws
  refuseIf (decide (ps ≠ []) && s.afterLoad && decide (s.m.mode ≠ .maintain)) stModeRefused
  refuseIf (decide (1 < ps.length) && s.afterLoad) stInUse
  let s1 ← ws.foldlM (fun (s : State) e =>
    if e.1.reg = .atrPortCfg ∨ e.1.reg = .atrPortAdv ∨ e.1.reg = .cmpLcoef ∨ e.1.reg = .cmpCcoef then .ok s
    else s.regWrite e.1.reg e.1.unit e.1.item e.2) s
  let s2 ← ps.foldlM (fun (s : State) p => s.writePort p (lastTo ws .atrPortCfg p) (lastTo ws .atrPortAdv p)) s1
  let cs (r : Reg) : List (Nat × W32) := (ws.filter fun e => decide (e.1.reg = r)).map fun e => (e.1.item, e.2)
  if cs .cmpLcoef = [] ∧ cs .cmpCcoef = [] then .ok s2 else s2.writeCoefs (cs .cmpLcoef) (cs .cmpCcoef)

/-- A word under a mask (R84): bits outside it keep their values; RW1C and write-only bits outside it are not written. -/
def State.masked (s : State) (x : RegRef) (v mask : W32) : W32 :=
  (s.rget x.reg x.unit x.item &&& (regInfo x.reg).rw &&& ~~~mask) ||| (v &&& mask)

/-- A write of consecutive words of one block in one pass, optionally under a mask. -/
def State.writeRun (s : State) (a : Nat) (vs : List W32) (mask : Option (List W32)) : Res State := do
  s.accessOk a vs.length
  let refs := ((List.range vs.length).zip vs).filterMap fun e =>
    match findReg (a + 4 * e.1) with
    | none => none
    | some x =>
      if (regInfo x.reg).wide || x.high then none
      else match mask with
        | none => some (x, e.2)
        | some m => if m.getD e.1 0 = 0 then none else some (x, s.masked x e.2 (m.getD e.1 0))
  s.writeWords refs

/-! ### The meanings -/

/-- A write of one register (R7, R8, R19, R20). -/
def execRegisterWrite (addr v : W32) (s : State) : Out := .next (s.answerWith (s.writeRun addr.toNat [v] none))

/-- A read of one word (R120): of a counter's low word it latches the high word. -/
def execCounterLowRead (addr : W32) (s : State) : Out :=
  .next (match s.accessOk addr.toNat 1 with
    | .error e => { s with answer := ⟨e, []⟩ }
    | .ok _ => { (s.readWord addr.toNat).2 with answer := ⟨0, [(s.readWord addr.toNat).1]⟩ })

end Sys2Proof.Machine
end

