-- ==== Sys2Proof/Machine/ObjAttrs.lean ====
section
/-!
DEFINITION. The attributes of the objects: number, length, range, what OBJ_MODIFY may change (R85, R132, R208, R213,
R243, R245, R322, R325, R329, R352, R356, R360, R379, R391, R422), and what each object's attributes must be together.
-/

namespace Sys2Proof.Machine

/-! ### The attribute tables -/

/-- An attribute of a type: its number, the lengths its value may have, whether it is creation-only, its range (signed
where the lower bound is negative) with single values beside it. `raw` leaves the value to `rawOk`. -/
structure AttrRule where
  num : Nat
  lens : List Nat
  fixed : Bool
  lo : Int
  hi : Int
  also : List Int := []
  raw : Bool := false
  deriving DecidableEq, Repr

/-- A number attribute. -/
def aNum (num len : Nat) (lo hi : Int) (also : List Int := []) : AttrRule := ⟨num, [len], false, lo, hi, also, false⟩
/-- A creation-only number attribute. -/
def aFix (num len : Nat) (lo hi : Int) (also : List Int := []) : AttrRule := ⟨num, [len], true, lo, hi, also, false⟩
/-- An attribute that is a string of bytes. -/
def aRaw (num : Nat) (lens : List Nat) : AttrRule := ⟨num, lens, false, 0, 0, [], true⟩

def n32 : Int := 0xFFFFFFFF

/-- Leg attributes (R132, R213, R245, R422). -/
def legAttrs : List AttrRule :=
  [aNum 0x100 1 4 4 [6], aRaw 0x101 [4, 16], aRaw 0x102 [4, 16], aNum 0x103 2 1 65535, aNum 0x104 2 1 65535,
    aNum 0x110 1 0 2, aNum 0x111 4 1 400000000, aNum 0x112 4 0 16777215, aNum 0x113 4 0 400000000,
    aNum 0x114 4 0 16777215, aNum 0x115 1 0 1, aNum 0x116 1 0 1] ++
  [aNum 0x400 4 0 n32, aNum 0x401 4 0 0x7FFFFFFF, aNum 0x500 1 0 95, aNum 0x501 2 0 4095, aNum 0x502 2 0 4095,
    aFix 0x503 1 0 1, aFix 0x504 1 0 1, aRaw 0x505 [6], aRaw 0x506 [2], aRaw 0x507 [4], aFix 0xA00 2 0 1023 [65535]]

/-- Stream attributes (R132, R208, R213, R325, R329, R360). -/
def streamAttrs : List AttrRule :=
  [aFix 0x100 2 0 32767, aFix 0x101 1 0 2, aFix 0x102 4 0 n32, aNum 0x103 1 0 4, aNum 0x104 1 0 3, aNum 0x105 1 0 255,
    aNum 0x106 1 0 255, aNum 0x107 1 0 255, aNum 0x108 1 0 1, aNum 0x109 1 0 1, aNum 0x300 1 0 15 [255]] ++
  [aNum 0x400 1 0 1, aNum 0x401 1 0 1, aNum 0x402 1 0 2, aNum 0x403 2 0 5000, aNum 0x404 1 0 1, aNum 0x405 1 1 50] ++
  [aFix 0x600 1 0 3, aNum 0x601 1 1 10, aNum 0x602 1 0 1, aNum 0x603 1 0 7, aNum 0x604 2 (-600) 60 [-32768],
    aNum 0x605 1 0 127 [255], aNum 0x606 1 (-90) (-20), aNum 0x607 1 (-40) (-6)] ++
  [aNum 0x700 1 0 3 [255], aFix 0x701 2 16 8192, aFix 0x702 2 16 8192, aFix 0x703 1 1 120, aFix 0x704 1 8 8 [10],
    aNum 0x705 1 0 2, aNum 0x706 1 0 2, aNum 0x707 4 16384 4194304, aNum 0x708 1 1 100, aNum 0x800 4 0 131071 [n32]]

/-- Conference attributes (R325, R422). -/
def confAttrs : List AttrRule :=
  [aFix 0x600 1 0 1, aFix 0x601 1 1 8, aNum 0x602 1 (-127) 0, aNum 0x603 1 0 1, aFix 0x604 1 0 1, aNum 0x605 1 3 8,
    aNum 0x606 4 0 131071 [n32], aRaw 0x607 [258], aFix 0xA00 4 0 n32, aNum 0xA01 2 0 1023, aNum 0xA02 2 0 1023 [65535]]

/-- Subscription attributes (R213). -/
def subAttrs : List AttrRule :=
  [aFix 0x100 2 0 32767, aFix 0x101 1 0 1, aNum 0x102 4 0 131071, aFix 0x103 4 0 n32, aNum 0x104 1 0 3, aNum 0x105 1 0 2,
    aFix 0x106 2 0 65535, aFix 0x107 4 0 n32, aFix 0x108 4 0 n32, aNum 0x109 1 0 1]

/-- Output attributes (R325, R352, R379). -/
def outputAttrs : List AttrRule :=
  [aFix 0x600 1 0 1, aFix 0x601 4 0 131071, aFix 0x602 1 0 3, aNum 0x603 4 6000 510000, aNum 0x604 1 0 10,
    aFix 0x605 1 10 10 [20], aNum 0x606 2 (-600) 60 [-32768], aNum 0x607 1 0 127 [255], aNum 0x608 1 0 127,
    aNum 0x609 1 (-12) 0, aFix 0x60A 2 0 4095] ++
  [aNum 0x800 2 0 4095, aFix 0x801 2 64 4096, aFix 0x802 2 64 4096, aFix 0x803 1 1 60, aFix 0x804 1 8 8 [10],
    aFix 0x805 1 0 1, aRaw 0x806 [8]] ++
  [aFix 0x900 1 1 3, aFix 0x901 1 0 2, aNum 0x902 1 0 3 [255], aFix 0x903 1 1 3, aFix 0x904 1 1 3, aNum 0x905 1 0 2,
    aNum 0x906 4 64 50000, aNum 0x907 2 100 5000, aNum 0x908 2 100 2000, aRaw 0x909 [2], aNum 0x90A 1 1 8,
    aNum 0x90B 1 0 60, aRaw 0x90C [3], aRaw 0x90D [16], aNum 0x90E 2 600 1400, aNum 0x90F 1 0 255, aNum 0x910 1 0 15]

/-- The attribute table of a type (R86). -/
def attrRules (ty : Nat) : List AttrRule :=
  match ty with
  | 1 => legAttrs
  | 2 => streamAttrs
  | 3 => confAttrs
  | 4 => subAttrs
  | 5 => outputAttrs
  | 6 => [aRaw 0x800 [20], aRaw 0x801 [3]]
  | 7 => [aNum 0x100 1 0 7, aNum 0x101 4 0 16777215]
  | 8 => [aNum 0x500 4 0 400000000, aNum 0x501 4 9216 16777215, aNum 0x502 2 1 1000, aNum 0x503 1 1 255,
      aNum 0x504 1 0 95 [255]]
  | _ => []

def attrRule (ty a : Nat) : Option AttrRule := (attrRules ty).find? fun r => decide (r.num = a)

/-- The attributes that name one entry of a table by their first byte: LAYER, LAYER_SRC, ROI, XP_ROW. -/
def perEntry (ty a : Nat) : Bool :=
  decide ((ty = 6 ∧ a = 0x800) ∨ (ty = 5 ∧ (a = 0x806 ∨ a = 0x90D)) ∨ (ty = 3 ∧ a = 0x607))

/-- Where an attribute is kept: a table's entries apart. -/
def attrKey (ty : Nat) (e : Nat × Bytes) : Nat := if perEntry ty e.1 then itemAttr e.1 (byteN e.2 0) else e.1

/-- The ranges of R357 that concern one LAYER value alone. -/
def layerOk (b : Bytes) : Bool :=
  let f (i : Nat) : Nat := beField b (4 + 2 * i) 2
  decide (byteN b 0 ≤ 15) && decide (byteN b 1 < 8) && decide (byteN b 2 ≤ 15) &&
    decide (f 2 ≠ 0 ∧ f 3 ≠ 0 ∧ f 6 ≠ 0 ∧ f 7 ≠ 0) &&
    decide (f 0 + f 2 ≤ 4096 ∧ f 1 + f 3 ≤ 4096 ∧ f 4 + f 6 ≤ 4096 ∧ f 5 + f 7 ≤ 4096)

/-- The ranges of an ROI value (R391). -/
def roiOk (b : Bytes) : Bool :=
  let f (i : Nat) : Nat := beField b (4 + 2 * i) 2
  decide (byteN b 0 ≤ 15) && decide (byteN b 1 < 4) && decide ((sgn 8 (byteN b 2)).natAbs ≤ 15) &&
    decide (byteN b 3 ≤ 15) && decide (beField b 12 4 = 0) &&
    (decide (byteN b 1 / 2 = 1) || (decide (f 2 ≠ 0 ∧ f 3 ≠ 0) && decide (f 0 + f 2 ≤ 4096 ∧ f 1 + f 3 ≤ 4096)))

/-- The range of a value that is a string of bytes. -/
def rawOk (ty a : Nat) (b : Bytes) : Bool :=
  match ty, a with
  | 1, 0x505 => decide (byteN b 0 % 2 = 0)
  | 1, 0x506 => decide (beNat b % 4096 ≠ 4095)
  | 1, 0x507 => b.all fun x => decide (x.toNat ≤ 63)
  | 3, 0x607 => decide (byteN b 0 ≤ 127 ∧ byteN b 1 = 0)
  | 5, 0x806 => decide (byteN b 0 ≤ 15) && decide (byteN b 1 ≤ 3) && decide (beField b 2 2 = 0)
  | 5, 0x909 => decide (byteN b 0 ≤ byteN b 1 ∧ byteN b 1 ≤ 51)
  | 5, 0x90D => roiOk b
  | 6, 0x800 => layerOk b
  | _, _ => true

/-- Is a value in its attribute's range. -/
def AttrRule.ok (r : AttrRule) (ty : Nat) (b : Bytes) : Bool :=
  if r.raw then rawOk ty r.num b
  else
    let v : Int := if r.lo < 0 then sgn (8 * b.length) (beNat b) else (beNat b : Nat)
    decide (r.lo ≤ v ∧ v ≤ r.hi) || r.also.contains v

/-- The attributes of a command judged one by one (R85): unknown, malformed or repeated BAD_TLV, creation-only in
OBJ_MODIFY NOT_PERMITTED, out of range BAD_VALUE. -/
def judgeAttrs (ty : Nat) (create : Bool) (l : List (Nat × Bytes)) : Res Unit := do
  refuseIf (!(l.all fun e => (attrRule ty e.1).elim false fun r => r.lens.contains e.2.length)) stBadTlv
  refuseIf (!decide (l.map (attrKey ty)).Nodup) stBadTlv
  refuseIf (!create && l.any fun e => (attrRule ty e.1).elim false (·.fixed)) stNotPermitted
  refuseIf (!(l.all fun e => (attrRule ty e.1).elim false fun r => r.ok ty e.2)) stBadValue

/-! ### Tentative values: every rule below judges the state as the command would leave it -/

/-- Write attributes into an object, whose entry comes into being where there is none. A row of crosspoint gains is
kept by the fabric (R322). -/
def State.putAttrs (s : State) (ty id : Nat) (l : List (Nat × Bytes)) : State :=
  let m := l.foldl (fun m e => if ty = tyConf ∧ e.1 = 0x607 then m else nput m (attrKey ty e) e.2) ((s.obj? ty id).getD [])
  { s with objs := nput s.objs (objKey ty id) m }

/-! ### Legs -/

/-- The addresses of a leg match its FAMILY, and LOCAL_ADDR is an address in use (R66, R132). -/
def State.legAddrsOk (s : State) (l : Nat) : Bool :=
  let len := if s.legV6 l then 16 else 4
  let own := if s.legV6 l then s.cur.chip.mgmt6 ++ s.cur.chip.media6 else s.cur.chip.mgmt4 ++ s.cur.chip.media4
  ((s.attr? tyLeg l 0x101).elim true fun b => decide (b.length = len) && own.contains (beNat b)) &&
    (s.attr? tyLeg l 0x102).elim true fun b => decide (b.length = len)

/-- The attributes a leg's POLICE_MODE uses were all given (R481). -/
def State.polGiven (s : State) (l : Nat) : Bool :=
  let g (a : Nat) : Bool := (s.attr? tyLeg l a).isSome
  match s.attr tyLeg l 0x110 0 with
  | 0 => true
  | 1 => g 0x111 && g 0x112 && g 0x114
  | _ => g 0x111 && g 0x112 && g 0x113 && g 0x114

/-- The policer's values fit together (R132, R481). -/
def State.polOk (s : State) (l : Nat) : Bool :=
  let mf := s.rfld .atrLinkCfg 0 0 16 14
  let p := s.polAttrs l
  ((s.attr? tyLeg l 0x112).elim true fun _ => decide (mf ≤ p.cbs)) &&
    (match p.mode with
     | 0 => true
     | 1 => decide (p.eir = 0)
     | _ => decide (p.cir ≤ p.eir) && decide (mf ≤ p.ebs))

/-- The rules of a peer leg (R421, R422). -/
def State.peerOk (s : State) (l : Nat) : Bool :=
  match s.peer? l with
  | none => true
  | some d => decide (d ≠ s.device) && s.legV6 l && s.legEncrypt l && !s.legMirror l &&
      !((s.idsOf tyLeg).any fun k => decide (k ≠ l ∧ s.peer? k = some d ∧ s.legConf k = s.legConf l))

/-- Has a leg streams; streams or subscriptions. -/
def State.legStreams (s : State) (l : Nat) : List Nat := (s.idsOf tyStream).filter fun st => decide (s.streamLeg st = l)
def State.legSubs (s : State) (l : Nat) : List Nat := (s.idsOf tySub).filter fun i => decide (s.subLeg i = l)

/-- Judge a leg: `n` is the state with the command's attributes in it, `given` their numbers
and, for entries of tables, their keys. -/
def State.judgeLeg (s n : State) (l : Nat) (given : List Nat) (create : Bool) : Res Unit := do
  refuseIf (create && !([0x500, 0x501, 0x502].all given.contains && (given.contains 0x505 || n.legMirror l))) stBadTlv
  let pol := given.any fun a => decide (0x110 ≤ a ∧ a ≤ 0x114)
  refuseIf (pol && !n.polGiven l) stBadTlv
  refuseIf (given.contains 0xA00 && !s.cascadeOn) stBadValue
  refuseIf (!n.legAddrsOk l || (pol && !n.polOk l) || (n.legMirror l && n.legEncrypt l)) stBadValue
  refuseIf (!n.objExists tyConf (n.legConf l)) stNoObject
  refuseIf (decide (n.shAttr 1 (n.legGroup l) 0x504 ≠ n.legPort l) || !n.peerOk l) stBadValue
  let moved := [0x100, 0x101, 0x102, 0x103, 0x104].any fun a => decide (n.attr? tyLeg l a ≠ s.attr? tyLeg l a)
  refuseIf (!create && moved && decide (s.legStreams l ≠ [])) stInUse
  refuseIf (!create && decide (n.legConf l ≠ s.legConf l) && decide (s.legStreams l ≠ [] ∨ s.legSubs l ≠ [])) stInUse

/-! ### Streams -/

/-- An Opus input of a conference that takes none (R325). -/
def State.opusBarred (s : State) (st : Nat) : Bool :=
  decide (s.media st = 0) && decide (s.attr tyStream st 0x600 0 = 0) && (s.peer? (s.streamLeg st)).isNone &&
    decide (s.attr tyConf (s.streamConf st) 0x604 1 = 0)

/-- The rules of a stream on a peer leg (R423). -/
def State.peerStreamOk (s : State) (st : Nat) : Bool :=
  match s.peer? (s.streamLeg st) with
  | none => true
  | some _ =>
    let kind := s.attr tyStream st 0x101 0
    decide (kind ≠ 1) && !(decide (kind = 0) && !bitN (s.attr tyStream st 0x102 0) 15) &&
      !(decide (s.media st = 0) && !(decide (s.attr tyStream st 0x601 2 = 1) && decide (s.attr tyStream st 0x105 0 = 1)))

/-- The rules that a stream's attributes meet together (R132, R213, R329, R360, R423). -/
def State.streamOk (s : State) (st : Nat) (given : List Nat) : Bool :=
  let v := s.attr tyStream st 0x800 0xFFFFFFFF
  !(given.contains 0x107 && decide (s.attr tyStream st 0x101 0 ≠ 2)) &&
    !(!s.srtp st && s.replay st) &&
    !(decide (s.attr tyStream st 0x404 0 = 1) && decide (s.attr tyStream st 0x401 0 ≠ 1)) &&
    !(decide (s.media st = 2 ∨ s.media st = 3) && decide (s.syntaxOf st = 0)) &&
    decide (s.maxW st * s.maxH st ≤ 35651584) &&
    !(given.contains 0x800 && decide (v ≠ 0xFFFFFFFF) &&
      !(decide (s.media st = 0) && (s.decCtx? v).isSome && decide (s.streamConf v = s.streamConf st))) &&
    s.peerStreamOk st && !s.opusBarred st

/-- No reservation of R320 grows beyond its limit. -/
def State.audioFits (s n : State) : Bool :=
  (decide (n.opusDecodes ≤ s.opusDecodes) || decide (n.opusDecodes ≤ n.rfld .afbDecRes 0 0 16 14)) &&
    (decide (n.opusEncodes ≤ s.opusEncodes) || decide (n.opusEncodes ≤ n.rfld .afbEncRes 0 0 16 14)) &&
    (decide (n.tickItems ≤ s.tickItems) || decide (n.tickItems ≤ n.rfld .docAdmit 0 0 0 16))

/-- Another object of a kind has the same value of an attribute in the same conference (R322). -/
def State.sameXp (s : State) (ty id a : Nat) (confOf : Nat → Nat) : Bool :=
  let v := s.attr ty id a 255
  decide (v ≠ 255) && (s.idsOf ty).any fun k => decide (k ≠ id ∧ s.attr ty k a 255 = v ∧ confOf k = confOf id)

/-- The streams with an attribute at a value. -/
def State.streamsWith (s : State) (a v : Nat) : Nat := countIf (fun st => decide (s.attr tyStream st a 0 = v)) (s.idsOf tyStream)

def State.judgeStream (s n : State) (st : Nat) (given : List Nat) (create : Bool) : Res Unit := do
  refuseIf (create && !(given.contains 0x100 && given.contains 0x101 &&
    (given.contains 0x102 || decide (n.attr tyStream st 0x101 0 = 2)))) stBadTlv
  refuseIf (!n.objExists tyLeg (n.streamLeg st)) stNoObject
  refuseIf (!n.streamOk st given) stBadValue
  refuseIf (create && (s.idsOf tyStream).any fun k => decide (n.streamKey k = n.streamKey st)) stInUse
  refuseIf (n.sameXp tyStream st 0x605 n.streamConf) stInUse
  refuseIf (decide (16384 < n.streamsWith 0x401 1) && decide (s.streamsWith 0x401 1 < n.streamsWith 0x401 1)) stResource
  refuseIf (decide (16384 < n.streamsWith 0x104 3) && decide (s.streamsWith 0x104 3 < n.streamsWith 0x104 3)) stResource
  refuseIf (!s.audioFits n) stResource

/-! ### Conferences -/

def State.judgeConf (s n : State) (c : Nat) (given : List Nat) : Res Unit := do
  refuseIf (given.any (fun a => decide (0xA00 ≤ a)) && !s.cascadeOn) stBadValue
  refuseIf (given.contains 0x607 && !n.crosspoint c) stBadValue
  let away (a : Nat) : Bool := decide (n.attr tyConf c a n.device ≠ n.device) && decide (n.attr tyConf c a n.device ≠ 0xFFFF)
  refuseIf (n.crosspoint c && (away 0xA01 || away 0xA02)) stBadValue
  let g := n.attr tyConf c 0xA00 0
  refuseIf (decide (g ≠ 0) && (n.idsOf tyConf).any fun k => decide (k ≠ c ∧ n.attr tyConf k 0xA00 0 = g)) stInUse
  refuseIf (!s.audioFits n) stResource

/-! ### Subscriptions (R213, R214, R424) -/

/-- The source that a subscription's attributes name. -/
def State.subSrc (s : State) (i : Nat) : Nat := srcKey (s.attr tySub i 0x101 0) (s.attr tySub i 0x102 0)

/-- Does a source exist. -/
def State.srcExists (s : State) (src : Nat) : Bool :=
  if srcIsOutput src then s.objExists tyOutput (src - 131072) else s.objExists tyStream src

/-- Does a subscription take a source: as its attribute names it, or as it is fed. -/
def State.takes (s : State) (i src : Nat) : Bool :=
  decide (s.subSrc i = src) || (nget s.fwd.subs i).elim false fun e =>
    decide (e.source = src) || (decide (e.pend = 3) && decide (e.newSource = src))

def State.judgeSub (s n : State) (i : Nat) (given : List Nat) (create : Bool) : Res Unit := do
  refuseIf (create && !([0x100, 0x101, 0x102, 0x103].all given.contains)) stBadTlv
  if create || given.contains 0x102 then
    let leg := n.subLeg i
    let src := n.subSrc i
    let ssrc := n.attr tySub i 0x103 0
    refuseIf (decide (n.attr tySub i 0x101 0 = 1 ∧ 16383 < n.attr tySub i 0x102 0)) stBadValue
    refuseIf (!n.objExists tyLeg leg || !n.srcExists src) stNoObject
    refuseIf (!srcIsOutput src && decide (n.media src = 0 ∨ n.media src = 2)) stBadValue
    refuseIf (decide (n.srcConf src ≠ n.legConf leg)) stBadValue
    let others := (s.legSubs leg).filter (· ≠ i)
    refuseIf (others.any fun k => s.takes k src) stInUse
    refuseIf (others.any fun k => decide (s.attr tySub k 0x103 0 = ssrc)) stInUse
    let old := s.subSrc i
    refuseIf (!create && (decide (s.srcSyntax old ≠ s.srcSyntax src) || decide (s.src48k old ≠ s.src48k src))) stBadValue
    refuseIf ((n.peer? leg).isSome && (!bitN ssrc 15 || decide (ssrc < 65536))) stBadValue

/-! ### Outputs -/

/-- Would a binding close a cycle of surfaces: is `target` reached from `from_` over KIND 2 bindings; `fuel` bounds the
path. -/
def State.reaches : Nat → State → Nat → Nat → Bool
  | 0, _, _, _ => false
  | n + 1, s, from_, target =>
    decide (from_ = target) || (List.range 16).any fun i =>
      decide ((s.layerSrc from_ i).1 = 2) && State.reaches n s (s.layerSrc from_ i).2 target

/-- A binding of a layer (R358, R359). -/
def State.bindOk (s : State) (o i : Nat) : Bool :=
  let b := s.layerSrc o i
  match b.1 with
  | 0 => decide (b.2 = 0)
  | 1 => (s.decCtx? b.2).isSome && decide (s.streamConf b.2 = s.outConf o)
  | 2 => s.objExists tyOutput b.2 && decide (s.attr tyOutput b.2 0x600 0 = 1) && decide (s.outConf b.2 = s.outConf o) &&
      !State.reaches 1025 s b.2 o
  | 3 => !s.crosspoint (s.outConf o) && decide (b.2 < s.maxActive (s.outConf o))
  | _ => false

/-- A layer's rectangle is at least 2 by 2 samples on a surface (R357). -/
def State.layerFits (s : State) (o i : Nat) (b : Bytes) : Bool :=
  let r := layerRect b (s.surfW o) (s.surfH o)
  (s.attr? tyLayout (s.attr tyOutput o 0x800 0) (itemAttr 0x800 i)).isNone || decide (2 ≤ r.1.2 ∧ 2 ≤ r.2.2)

/-- Every layer of a surface's layout fits it. -/
def State.layoutFits (s : State) (o : Nat) : Bool :=
  (List.range 16).all fun i => s.layerFits o i (s.layerBytes (s.attr tyOutput o 0x800 0) i)

/-- Size, profile and shares of an encode context fit together (R377, R379). -/
def State.encodeOk (s : State) (o : Nat) : Bool :=
  let codec := s.attr tyOutput o 0x900 1
  let profile := s.attr tyOutput o 0x901 (if codec = 1 then 2 else 0)
  let n := s.slayers o
  let k := 2 ^ n
  let share := (s.attr? tyOutput o 0x90C).elim true fun b =>
    decide (byteN b 0 + byteN b 1 + byteN b 2 = 100) &&
      (List.range 3).all fun i => decide (byteN b i ≠ 0 ↔ i < n)
  decide (profile < [0, 3, 2, 1].getD codec 0) &&
    !(s.surfDepth10 o && (decide (codec = 1) || decide (codec = 2 ∧ profile = 0))) &&
    !(decide (1 < n) && decide (codec ≠ 3)) && decide (s.surfW o % k = 0 ∧ s.surfH o % k = 0) && share

def State.judgeOutput (s n : State) (o : Nat) (given : List Nat) (create : Bool) : Res Unit := do
  let video := decide (n.attr tyOutput o 0x600 0 = 1)
  let sink := n.sinkOnly o
  let need := if video then [0x600, 0x60A, 0x800, 0x801, 0x802] ++ (if sink then [] else [0x601, 0x900])
    else [0x600, 0x60A, 0x601, 0x602]
  refuseIf (create && !(need.all given.contains)) stBadTlv
  refuseIf (!n.objExists tyConf (n.outConf o)) stNoObject
  refuseIf (video && !n.objExists tyLayout (n.attr tyOutput o 0x800 0)) stNoObject
  refuseIf (video && (decide (n.surfW o % 2 = 1 ∨ n.surfH o % 2 = 1) || !n.layoutFits o)) stBadValue
  refuseIf (video && !sink && !n.encodeOk o) stBadValue
  refuseIf (given.contains 0x90F && decide (n.attr tyOutput o 0x900 0 ≠ 3)) stBadValue
  refuseIf ((List.range 16).any fun i => given.contains (itemAttr 0x806 i) && !n.bindOk o i) stBadValue
  let carrier := n.attr tyOutput o 0x601 0
  refuseIf (create && given.contains 0x601 && (s.objExists tyStream carrier || (s.carrierOf carrier).isSome)) stInUse
  refuseIf (!video && n.sameXp tyOutput o 0x607 n.outConf) stInUse
  refuseIf (!s.audioFits n) stResource

/-! ### Layouts, pools, shapers -/

/-- A layout's layers together (R357): enabled layers have different Z, every layer fits every surface that uses it. -/
def State.judgeLayout (n : State) (l : Nat) : Res Unit := do
  let on := (List.range 16).filter fun i => decide (byteN (n.layerBytes l i) 1 % 2 = 1)
  refuseIf (!decide (on.map fun i => byteN (n.layerBytes l i) 2).Nodup) stBadValue
  refuseIf (!((n.idsOf tyOutput).all fun o =>
    decide (n.attr tyOutput o 0x600 0 ≠ 1 ∨ n.attr tyOutput o 0x800 0 ≠ l) || n.layoutFits o)) stBadValue

/-- A pool's attributes (R208): the fields of CLO_POOL_CFG and CLO_POOL_YEL. -/
def State.modifyPool (s : State) (p : Nat) (l : List (Nat × Bytes)) : Res State := do
  let get (a d : Nat) : Nat := ((l.find? fun e => decide (e.1 = a)).map fun e => beNat e.2).getD d
  let ceil := get 0x100 (s.poolCeil p)
  let yel := get 0x101 (s.rfld .cloPoolYel 0 p 0 24)
  refuseIf (decide (ceil < p) || decide (s.poolCount p < yel)) stBadValue
  return (s.rsetFld .cloPoolCfg 0 p 24 3 ceil).rsetFld .cloPoolYel 0 p 0 24 yel

/-- A shaper's attributes (R243), judged as the command leaves them. -/
def State.judgeShaper (s n : State) (id : Nat) (given : List Nat) : Res Unit := do
  let lv := id / 65536
  let i := id % 65536
  refuseIf ((decide (lv = 0) && given.contains 0x503) || (decide (lv ≠ 1) && given.contains 0x504)) stNotPermitted
  refuseIf (decide (lv = 2) && decide (n.shAttr lv i 0x500 = 0)) stBadValue
  refuseIf (decide (8000 * n.shAttr lv i 0x501 < n.shAttr lv i 0x500 * n.shAttr lv i 0x502)) stBadValue
  refuseIf (given.contains 0x504 && decide (s.legsOfGroup i ≠ [])) stInUse

end Sys2Proof.Machine
end

