-- ==== Sys2Proof/Machine/ObjOps.lean ====
section
/-!
DEFINITION. Creating, modifying and deleting objects (R86 to R88): the checks in order, and what each change does in the
blocks that hold the object's state.
-/

namespace Sys2Proof.Machine

/-- An object type of R86, with its ID range (R6): the shaper's ID holds level and index. -/
def idOk (ty id : Nat) : Bool :=
  match ty with
  | 8 => decide (id < 196608) && decide (id % 65536 < [96, 4096, 32768].getD (id / 65536) 0)
  | _ => decide (id < [0, 32768, 131072, 4096, 1048576, 16384, 4096, 8].getD ty 0)

/-- Judge type, permission and ID of a command on one object. -/
def judgeId (ty id : Nat) (fixedTypes : Bool) : Res Unit := do
  refuseIf (decide (ty = 0 ∨ 8 < ty)) stBadValue
  refuseIf (!fixedTypes && decide (ty = tyPool ∨ ty = tyShaper)) stNotPermitted
  refuseIf (!idOk ty id) stBadValue

/-- The attribute numbers of a command, and the keys of table entries. -/
def givenOf (ty : Nat) (l : List (Nat × Bytes)) : List Nat := l.map (·.1) ++ l.map (attrKey ty)

/-- The rules of an object's type on its attributes as the command leaves them. -/
def State.judge (s n : State) (ty id : Nat) (given : List Nat) (create : Bool) : Res Unit :=
  match ty with
  | 1 => s.judgeLeg n id given create
  | 2 => s.judgeStream n id given create
  | 3 => s.judgeConf n id given
  | 4 => s.judgeSub n id given create
  | 5 => s.judgeOutput n id given create
  | 6 => n.judgeLayout id
  | 8 => s.judgeShaper n id given
  | _ => .ok ()

/-- XP_ROW values of a command go to the fabric. -/
def State.writeXpRows (s : State) (c : Nat) (l : List (Nat × Bytes)) : State :=
  l.foldl (fun s e => if e.1 = 0x607 then s.writeXpRow c e.2 else s) s

/-! ### Creation -/

/-- A leg comes into being: its membership word (R248), its scheduling under the mode's scheme, a fresh policer. -/
def State.legStart (s : State) (l : Nat) : State :=
  let v := s.vtime 1 (s.legGroup l)
  let s1 := (s.writeMember l).setTags 2 l { s := v, f := v, credit := s.creditMode }
  { s1 with rgs := { s1.rgs with pol := nput s1.rgs.pol l (Policer.full (s1.polAttrs l) s1.t) } }

/-- A stream comes into being: REPLAY's default, its Vault context reset (R161), its decode context (R329), its Catalogue
entry (R135). A full
Catalogue refuses it and notes that. -/
def State.streamStart (s n : State) (st : Nat) : Nat × State :=
  let n1 := if (n.attr? tyStream st 0x109).isNone then n.setAttr tyStream st 0x109 [byteOf (b2n (n.srtp st))] else n
  let n1 : State := { n1 with vlt := { n1.vlt with ctx := ndel n1.vlt.ctx st } }
  match (if n1.wantsContext st then n1.decCreate st else .ok n1) with
  | .error e => (e, s)
  | .ok n2 =>
    match n2.catInsert st with
    | some n3 => (stOk, n3)
    | none => (stResource, s.flag .rgsCatStatus 0 0 30)

/-- OBJ_CREATE (R82, R86, R88): the status and the state afterwards. -/
def State.objCreate (s : State) (ty id : Nat) (l : List (Nat × Bytes)) : Nat × State :=
  let given := givenOf ty l
  let n := s.putAttrs ty id l
  let judged : Res Unit := do
    judgeId ty id false
    refuseIf (s.objExists ty id || (decide (ty = tyStream) && (s.carrierOf id).isSome)) stExists
    judgeAttrs ty true l
    s.judge n ty id given true
  match judged with
  | .error e => (e, s)
  | .ok _ =>
    match ty with
    | 1 => (stOk, n.legStart id)
    | 2 => s.streamStart n id
    | 3 => (stOk, n.writeXpRows id l)
    | 4 => (stOk, n.subCreate id)
    | 5 =>
      if n.attr tyOutput id 0x600 0 = 0 then (stOk, n)
      else match n.surfCreate id with
        | .ok n1 => (stOk, n1)
        | .error e => (e, s)
    | _ => (stOk, n)

/-! ### Modification -/

/-- A leg goes to another port and group (R245): S becomes the new group's V, and F with it, so that no tag of the old group
counts in the new one (log 62); the old group's and its own eligibility follow. -/
def State.legMove (s : State) (l old : Nat) : State :=
  let v := s.vtime 1 (s.legGroup l)
  let s1 := s.setTags 2 l { s.tags 2 l with s := v, f := v }
  let p := s1.shAttr 1 old 0x504
  let s2 := (s1.wakeOne 1 old p (s1.groupEligible old p)).wakeLeg l
  if s2.portUp (s2.legPort l) then s2 else s2.drainLeg l

/-- What a modified leg does: a changed POLICE_MODE fills its policer's buckets (R142); another port and group move it. -/
def State.legChange (s n : State) (l : Nat) : State :=
  let n0 := n.writeMember l
  let n1 : State := if (n0.polAttrs l).mode = (s.polAttrs l).mode then n0
    else { n0 with rgs := { n0.rgs with pol := nput n0.rgs.pol l (Policer.full (n0.polAttrs l) n0.t) } }
  if n1.legGroup l = s.legGroup l ∧ n1.legPort l = s.legPort l then n1 else n1.legMove l (s.legGroup l)

/-- What a modified stream does: DELAY resyncs (R325), an emptied cache goes (R233), MEDIA makes and ends contexts (R348)
and audio inputs, ENGINE moves (R346), higher DEC_S or DEC_T ask for a key (R333). -/
def State.streamChange (s n : State) (st : Nat) (given : List Nat) : Res State := do
  let n1 := if n.attr tyStream st 0x601 2 = s.attr tyStream st 0x601 2 then n
    else n.setAudIn st { n.audIn st with resync := true }
  let n2 := if s.media st = 0 ∧ n.media st ≠ 0 then n1.audForget st else n1
  let n3 := if n.attr tyStream st 0x401 0 = 0 then (nkeys (n2.fwdStream st).ring).foldl (fun s k => s.ringDrop st k) n2 else n2
  let had := (s.decCtx? st).isSome
  let n4 ← if n3.wantsContext st && !had then n3.decCreate st
    else if !n3.wantsContext st && had then .ok (n3.decEnd st)
    else .ok n3
  let n5 ← if given.contains 0x700 then n4.decMove st (n4.attr tyStream st 0x700 255) else .ok n4
  let up := decide (s.decS st < n.decS st ∨ s.decT st < n.decT st)
  .ok (if had && n5.wantsContext st && up then n5.decKey st else n5)

/-- What a modified subscription does (R221, R225). -/
def State.subChange (n : State) (i : Nat) (given : List Nat) : State :=
  let n1 := if given.contains 0x104 || given.contains 0x105 then
      n.subTarget i (n.attr tySub i 0x104 2) (n.attr tySub i 0x105 2)
    else n
  if given.contains 0x102 then n1.subSource i (n1.subSrc i) else n1

/-- What a modified output does: BUF_MS cuts the buffer down (R386), ENGINE moves (R398). -/
def State.outputChange (n : State) (o : Nat) (given : List Nat) : Res State :=
  let n1 := if given.contains 0x907 then n.cutBuffer o else n
  if given.contains 0x902 then n1.encMove o (n1.attr tyOutput o 0x902 255) else .ok n1

/-- A shaper's settings act at its next refill (R244). -/
def State.shaperChange (n : State) (id : Nat) : State :=
  n.setShaper (id / 65536) (id % 65536) { n.shaper (id / 65536) (id % 65536) with pending := true }

/-- OBJ_MODIFY (R82, R88). -/
def State.objModify (s : State) (ty id : Nat) (l : List (Nat × Bytes)) : Res State := do
  judgeId ty id true
  refuseIf (!(decide (ty = tyPool ∨ ty = tyShaper) || s.objExists ty id)) stNoObject
  judgeAttrs ty false l
  let given := givenOf ty l
  if ty = tyPool then s.modifyPool id l
  else
    let n := s.putAttrs ty id l
    s.judge n ty id given false
    match ty with
    | 1 => return s.legChange n id
    | 2 => s.streamChange n id given
    | 3 => return n.writeXpRows id l
    | 4 => return n.subChange id given
    | 5 => n.outputChange id given
    | 8 => return n.shaperChange id
    | _ => return n

/-! ### Deletion (R87, R207) -/

/-- Remove an object's entry and its counters. -/
def State.dropObj (s : State) (ty id : Nat) : State :=
  let k := objKey ty id
  { s with objs := ndel s.objs k, stats := s.stats.filter fun e => decide (e.1 / 65536 ≠ k) }

def State.deleteSub (s : State) (i : Nat) : State := (s.subDelete i).dropObj tySub i

/-- The consumer's domain of a stream's internal queue (R204). -/
def State.consumerOf (s : State) (st : Nat) : Nat := if s.media st = 0 then 5 else if s.media st = 2 then 6 else 3

/-- A stream goes, its subscriptions gone before: its Catalogue entry, its context in the Vault, its inputs to the
fabric, to the decoder and to the Forwarder, its queue; packets of it on their way are flushed with it (R207). -/
def State.deleteStream (s : State) (st : Nat) : State :=
  let s1 := ((s.audForget st).decEnd st).fwdForget st
  let s2 := (s1.flushQueue (streamQueue st) (s1.consumerOf st)).catRemove st
  let gone := s2.fwd.rtcp.filter fun r => decide (r.stream = st)
  let late := (s2.rgs.staged.filter fun x => decide (x.stream = st)).length
  let s3 := gone.foldl (fun (s : State) (r : RtcpIn) => s.decRef 3 r.handle)
    { s2.cadd .stkCnt 0 9 late with
      rgs := { s2.rgs with staged := s2.rgs.staged.filter fun x => decide (x.stream ≠ st) }
      vlt := { s2.vlt with ctx := ndel s2.vlt.ctx st }
      fwd := { s2.fwd with rtcp := s2.fwd.rtcp.filter fun r => decide (r.stream ≠ st) } }
  s3.dropObj tyStream st

/-- A leg goes, its subscriptions and streams gone before: it leaves scheduling (R253), its queues are flushed, its key
slots zeroised, its isolation and peer state end. -/
def State.deleteLeg (s : State) (l : Nat) : State :=
  let peer := s.peer? l
  let g := s.legGroup l
  let s1 := s.dropObj tyLeg l
  let s2 : State := { s1 with
    tmg := { s1.tmg with tags := ndel s1.tmg.tags (tmgKey 2 l), member := ndel s1.tmg.member l }
    rgs := { s1.rgs with pol := ndel s1.rgs.pol l }
    sup := { s1.sup with
      hits := ndel s1.sup.hits l, window := ndel s1.sup.window l
      hitWings := s1.sup.hitWings.filter fun e => decide (e.1 ≠ l) } }
  let s3 := ((s2.flushLeg l).zeroiseLeg l).rsetFld .chpLegIso 0 (l / 32) (l % 32) 1 0
  let p := s3.shAttr 1 g 0x504
  (s3.wakeOne 1 g p (s3.groupEligible g p)).casForget l peer

/-- An output goes, its subscriptions gone before. -/
def State.deleteOutput (s : State) (o : Nat) : State :=
  let s1 := if s.attr tyOutput o 0x600 0 = 1 then s.surfDelete o
    else (s.flushQueue (streamQueue (s.attr tyOutput o 0x601 0)) 3).audForgetOut o
  (s1.fwdForget (131072 + o)).dropObj tyOutput o

/-- Is a frame of an output in composition. -/
def State.composing (s : State) (o : Nat) : Bool := s.cmp.frame.any fun f => decide (f.2.output = o)

/-- OBJ_DELETE of an output (R373): its frame in composition finishes, no further frame begins, and the output then ends. -/
def State.endOutput (s : State) (o : Nat) : State :=
  if s.composing o then
    { s with cmp := { s.cmp with
      due := nmapV (fun _ (l : List DueFrame) => l.filter fun d => decide (d.output ≠ o)) s.cmp.due
      ending := s.cmp.ending.filter (· ≠ o) ++ [o] } }
  else s.deleteOutput o

/-- Outputs whose last frame has finished end (R373). -/
def State.endOutputs (s : State) : State :=
  (s.cmp.ending.filter fun o => !s.composing o).foldl (fun s o =>
    State.deleteOutput { s with cmp := { s.cmp with ending := s.cmp.ending.filter (· ≠ o) } } o) s

/-- Does a port's default action name a leg, directly or through a stream, or a stream (R139). -/
def State.defaultNames (s : State) (legs streams : List Nat) : Bool :=
  (List.range 96).any fun p =>
    let v := s.rget .rgsPortDefault 0 p
    (decide (fld v 0 2 = 2) && legs.contains (fld v 2 15)) || (decide (fld v 0 2 = 3) && streams.contains (fld v 2 17))

/-- OBJ_DELETE (R87): the state afterwards and the number of dependants deleted. -/
def State.objDelete (s : State) (ty id : Nat) : Res (State × Nat) := do
  judgeId ty id false
  refuseIf (!s.objExists ty id) stNoObject
  match ty with
  | 1 =>
    let sts := s.legStreams id
    refuseIf (s.defaultNames [id] sts) stInUse
    let subs := (s.idsOf tySub).filter fun i => decide (s.subLeg i = id) || sts.any fun st => s.takes i st
    return ((sts.foldl State.deleteStream (subs.foldl State.deleteSub s)).deleteLeg id, subs.length + sts.length)
  | 2 =>
    refuseIf (s.defaultNames [] [id]) stInUse
    let subs := (s.idsOf tySub).filter fun i => s.takes i id
    return ((subs.foldl State.deleteSub s).deleteStream id, subs.length)
  | 3 =>
    refuseIf ((s.idsOf tyLeg).any fun l => decide (s.legConf l = id)) stInUse
    refuseIf ((s.idsOf tyOutput).any fun o => decide (s.outConf o = id)) stInUse
    return ((s.audForgetConf id).dropObj tyConf id, 0)
  | 4 => return (s.deleteSub id, 0)
  | 5 =>
    let subs := (s.idsOf tySub).filter fun i => s.takes i (131072 + id)
    return ((subs.foldl State.deleteSub s).endOutput id, subs.length)
  | _ =>
    refuseIf ((s.idsOf tyOutput).any fun o => decide (s.attr tyOutput o 0x600 0 = 1 ∧ s.attr tyOutput o 0x800 0 = id)) stInUse
    return (s.dropObj tyLayout id, 0)

/-! ### The Compositor's frames (R361, R362, R370, R373) -/

/-- The due frame that a pipeline takes next: none of a context that is to move, which waits for its new pipeline (R398). -/
def State.nextDue (s : State) (p : Nat) : Option (DueFrame × List DueFrame) :=
  takeFirst (fun (d : DueFrame) => ((s.encCtx? d.output).bind (·.moveTo)).isNone) (ngetD [] s.cmp.due p)

/-- A pipeline in service that composes no frame begins the next due one. -/
def State.frameBegin (s : State) (p : Nat) : State :=
  if nhas s.cmp.frame p ∨ s.rfld .cmpPipeRes 0 p 16 10 = 0 then s
  else
    match s.nextDue p with
    | none => s
    | some (d, r) => s.beginFrame p d r

def execFrameDue (output : Fin 16384) (s : State) : Out :=
  .next (if s.blkUp 3 12 then s.encMoves.endOutputs.frameDue output else s)

def execFrameBegin (pipe : Fin 4) (s : State) : Out :=
  .next (if s.blkUp 3 12 && s.blkUp 3 13 then s.encMoves.endOutputs.frameBegin pipe else s)

def execBlockRowDone (pipe : Fin 4) (s : State) : Out :=
  .next (if s.blkUp 3 12 then (s.nextRow pipe).endOutputs.encMoves else s)

end Sys2Proof.Machine
end

