-- ==== Sys2Proof/Machine/Image.lean ====
section
/-!
DEFINITION. The configuration image: the checks of a copy (R62 to R69), the application of its sections (R66, R70, R76, R159,
R284), the placement of the regions of GDDR7 (R408).
-/

namespace Sys2Proof.Machine

/-! ### The checks of a copy, in the order of R69: a failure is a reason of R61 -/

/-- Step 1: the header (R62). A copy shorter than its header is one whose MAGIC is wrong. -/
def checkHeader (b : Bytes) : Res Unit := do
  let f := leField b
  refuseIf (decide (f 0 4 ≠ 0x47484C58 ∨ f 4 2 ≠ 0x0100 ∨ f 0x20 4 ≠ 0x9615)) 2
  refuseIf (decide (4 ≤ f 0x24 2 ∨ f 0x26 2 ≠ 0) || !allZero (slice b 0x2C 20)) 2
  refuseIf (decide (f 0x28 4 ≠ (crc32c (b.take 0x28)).toNat)) 2
  refuseIf (decide (67108864 < f 8 4)) 6
  refuseIf (decide (f 8 4 < 0x40 + 256 ∨ f 0xC 4 + 256 ≠ f 8 4 ∨ f 0xC 4 % 64 ≠ 0)) 2

/-- Step 3: the key class that the life cycle admits, and the key (R56, R67). -/
def State.checkKey (s : State) (sig : Bytes) : Res Unit := do
  let owner := decide (s.lifeCycle = 1 ∨ s.lifeCycle = 2)
  refuseIf (decide (leField sig 6 2 ≠ b2n owner)) 4
  refuseIf (if owner then decide (s.ownerKey ≠ some (sha384 (slice sig 8 96)))
    else decide (slice sig 8 96 ≠ Config.testKey)) 4

/-- Step 4: the signature (R67) over every byte before SIG_R. Key and signature numbers stand in network byte order, as the
hash of the key reads them (DESIGN CHOICE, log 50). -/
def checkSignature (b sig : Bytes) (off : Nat) : Res Unit := do
  refuseIf (decide (leField sig 0 4 ≠ 0x53494731 ∨ leField sig 4 2 ≠ 1) || !allZero (slice sig 200 56)) 3
  refuseIf (!ecdsaVerify (sha384 (b.take (off + 104))) (beNat (slice sig 8 48)) (beNat (slice sig 56 48))
    (beNat (slice sig 104 48)) (beNat (slice sig 152 48))) 3

/-- What R65 says of a section type: the TARGETs (none: any listed block), whether LIVE may be set, least and greatest
count. -/
structure SectionRule where
  targets : Option (List Nat)
  live : Bool
  least : Nat
  most : Nat

/-- The targets of DSP code: every cluster, or one. -/
def dspTargets : List Nat := 0x2000 :: (List.range 17).map fun n => 0x2100 + 16 * n

/-- The table of R65. -/
def sectionRule : Nat → Option SectionRule
  | 0x01 => some ⟨some [0], false, 1, 1⟩
  | 0x02 => some ⟨some [0x30], true, 0, 1⟩
  | 0x03 => some ⟨some [0], false, 1, 1⟩
  | 0x04 => some ⟨some [0x1030], false, 0, 1⟩
  | 0x10 => some ⟨none, true, 0, 128⟩
  | 0x11 => some ⟨some [0], false, 0, 128⟩
  | 0x20 => some ⟨some dspTargets, true, 1, 128⟩
  | 0x21 => some ⟨some [0], true, 1, 1⟩
  | _ => none

/-- The control-space address of a section target's block. -/
def targetAddr (t : Nat) : Nat := t / 4096 * 0x10000000 + t / 16 % 256 * 0x100000

/-- Does a type allow a target. -/
def SectionRule.admits (r : SectionRule) (t : Nat) : Bool :=
  match r.targets with
  | some l => l.contains t
  | none => mappedAddr (targetAddr t)

/-- Directory entry `i` and the section it names (R63 to R65): `last` is where the section before it ends. Answers where this
one ends, and the section unless it is of a reserved type. -/
def checkSection (b : Bytes) (sigOff last i : Nat) : Res (Nat × Option Section) := do
  let e := 0x40 + 16 * i
  let off := leField b e 4
  let len := leField b (e + 4) 4
  let type := leField b (e + 8) 2
  let target := leField b (e + 10) 2
  refuseIf (decide (leField b (e + 12) 4 ≠ 0 ∨ off < 0x1000 ∨ off % 64 ≠ 0 ∨ off < last ∨ len < 64 ∨ sigOff < off + len)) 2
  let h := slice b off 64
  let plen := leField h 8 4
  let flags := leField h 0x12 2
  refuseIf (decide (leField h 0 4 ≠ 0x53454354 ∨ leField h 4 2 ≠ type ∨ leField h 6 2 ≠ target ∨ target % 16 ≠ 0 ∨
    4 ≤ flags ∨ len ≠ 64 + cdiv plen 64 * 64) || !allZero (slice h 0x16 42)) 2
  let p := slice b (off + 64) plen
  refuseIf (decide (leField h 0xC 4 ≠ (crc32c p).toNat)) 2
  match sectionRule type with
  | none =>
    refuseIf (decide (flags % 2 = 1)) 2
    return (off + len, none)
  | some r =>
    refuseIf (!r.admits target || (decide (2 ≤ flags) && !r.live) || decide (leField h 0x14 2 ≠ 1)) 2
    return (off + len, some ⟨leField b 0x14 4, type, target, leField h 0x10 2, decide (2 ≤ flags), plen, leField h 0xC 4, p⟩)

/-- Step 6: directory, section headers and payload CRCs: the sections and how many were skipped. -/
def checkSections (b : Bytes) (sigOff : Nat) : Res (List Section × Nat) := do
  let n := leField b 6 2
  refuseIf (decide (n = 0 ∨ 128 < n)) 2
  let r ← (List.range n).foldlM (fun (a : Nat × List Section × Nat) i => do
    let x ← checkSection b sigOff a.1 i
    return (match x.2 with
      | some sec => (x.1, a.2.1 ++ [sec], a.2.2)
      | none => (x.1, a.2.1, a.2.2 + 1))) (0, [], 0)
  refuseIf ([0x01, 0x02, 0x03, 0x04, 0x10, 0x11, 0x20, 0x21].any fun t =>
    match sectionRule t with
    | some k => decide (countIf (fun (x : Section) => decide (x.type = t)) r.2.1 < k.least) ||
        decide (k.most < countIf (fun (x : Section) => decide (x.type = t)) r.2.1)
    | none => false) 2
  return r.2

/-- Steps 1 and 3 to 6 of R69 on the bytes of a copy. -/
def State.checkBytes (s : State) (b : Bytes) : Res ImageInfo := do
  checkHeader b
  let off := leField b 0xC 4
  let sig := slice b off 256
  refuseIf (decide (b.length < off + 256)) 1
  s.checkKey sig
  checkSignature b sig off
  refuseIf (decide (leField b 0x10 4 < s.otp.secVersion)) 5
  let r ← checkSections b off
  return ⟨leField b 0x10 4, leField b 0x14 4, leField b 0x24 2, r.2, r.1⟩

/-- Steps 1 to 6 of R69 on a flash copy. -/
def State.checkCopy (s : State) : FlashCopy → Res ImageInfo
  | .error => .error 1
  | .bytes b => s.checkBytes b

/-! ### The content of sections -/

/-- The address in a slot of the CHIP section: none where it is unspecified, loopback or multicast, or an IPv4 slot's first 12
bytes are not 0 (R66). -/
def chipAddr (v6 : Bool) (a : Bytes) : Option Nat :=
  let n := beNat a
  if v6 then if n = 0 ∨ n = 1 ∨ n / 2 ^ 120 = 0xFF then none else some n
  else if n = 0 ∨ 2 ^ 32 ≤ n ∨ n / 2 ^ 24 = 127 ∨ n / 2 ^ 28 = 14 then none else some n

/-- `slots` address slots from an offset on, of which the first `n` are in use (R66). -/
def chipAddrs (p : Bytes) (v6 : Bool) (off slots n : Nat) : Res (List Nat) := do
  refuseIf (!allZero (slice p (off + 16 * n) (16 * (slots - n)))) 7
  (List.range n).mapM fun k =>
    match chipAddr v6 (slice p (off + 16 * k) 16) with
    | some a => .ok a
    | none => .error 7

/-- The CHIP section (R66). R61 gives no reason for a payload that is not 2,208 bytes long: as a value that the section
refuses it takes reason 0x7 (DESIGN CHOICE, log 100). -/
def chipSection (p : Bytes) : Res ChipInfo := do
  let limit := leField p 0 2
  let rec_ := leField p 2 2
  let n (i : Nat) : Nat := byteN p (4 + i)
  refuseIf (decide (p.length ≠ 2208 ∨ 120 < limit ∨ (rec_ ≠ 0 ∧ rec_ < 5) ∨ 100 < rec_)) 7
  refuseIf (decide (4 < n 0 ∨ 4 < n 1 ∨ 64 < n 2 ∨ 64 < n 3) || !allZero (slice p 0x14 12)) 7
  let m4 ← chipAddrs p false 0x20 4 (n 0)
  let m6 ← chipAddrs p true 0x60 4 (n 1)
  let d4 ← chipAddrs p false 0xA0 64 (n 2)
  let d6 ← chipAddrs p true 0x4A0 64 (n 3)
  refuseIf (!(decide (m4 ++ d4).Nodup && decide (m6 ++ d6).Nodup)) 7
  return { linkLimit := if limit = 0 then 10 else limit
           recovery := if rec_ = 0 then 20 else rec_
           reqPorts := (List.range 96).filter fun q => bitN (byteN p (8 + q / 8)) (q % 8)
           mgmt4 := m4, mgmt6 := m6, media4 := d4, media6 := d6 }

/-- One entry of the JCP section's session table (R76). -/
def jcpEntry (e : Bytes) : Res Session := do
  let fam := byteN e 0x18
  let plen := byteN e 0x19
  refuseIf (decide (leField e 0 4 = 0 ∨ 512 ≤ leField e 4 4 ∨ (fam ≠ 4 ∧ fam ≠ 6) ∨ (fam = 4 ∧ 32 < plen) ∨ 128 < plen)) 7
  refuseIf (!allZero (slice e 0x1A 6) || (decide (fam = 4) && !allZero (slice e 8 12))) 7
  return { id := BitVec.ofNat 32 (leField e 0 4), perm := BitVec.ofNat 32 (leField e 4 4)
           srcAddr := beNat (slice e 8 16), family := fam, plen := plen, imageKey := slice e 0x20 32 }

/-- The JCP section (R76): a port or a maximum of 0 selects the default (DEDUCED, log 51). -/
def State.jcpSection (s : State) (p : Bytes) : Res State := do
  let port := leField p 0 2
  let most := leField p 2 2
  let n := leField p 4 2
  refuseIf (decide (n = 0 ∨ 16 < n ∨ p.length ≠ 8 + 64 * n ∨ leField p 6 2 ≠ 0)) 7
  refuseIf (decide (most ≠ 0 ∧ (most < 1280 ∨ 8960 < most))) 7
  let l ← (List.range n).mapM fun k => jcpEntry (slice p (8 + 64 * k) 64)
  refuseIf (!decide (l.map (·.id)).Nodup) 7
  return { s with cur := { s.cur with
    jcpPort := if port = 0 then 47800 else port, maxMsg := if most = 0 then 1400 else most, sessions := l } }

/-- One record of the KEY section (R159). -/
def State.keyRecord (s : State) (r : Bytes) : Res State := do
  refuseIf (decide (32767 < leField r 0 2 ∨ 1 < byteN r 2) || !allZero (slice r 56 8)) 7
  match profileOf (byteN r 3) with
  | none => .error 7
  | some k => return s.installKey (leField r 0 2) (byteN r 2) (byteN r 3) (leField r 4 4) k (slice r 8 k.key) (slice r 40 k.salt)

/-- The KEY section. A payload that is no whole number of records fails the copy (DEDUCED, log 51). -/
def State.keySection (s : State) (p : Bytes) : Res State := do
  refuseIf (decide (p.length % 64 ≠ 0)) 7
  (List.range (p.length / 64)).foldlM (fun s k => s.keyRecord (slice p (64 * k) 64)) s

/-- The records of a REG section as writes of the target block (R65, R70): an offset above its highest register, or with
[31:20] not 0, fails with reason 2; offsets without a register ignore the write (R19). -/
def regRecords (t : Nat) (p : Bytes) : Res (List (RegRef × W32)) := do
  refuseIf (decide (p.length % 8 ≠ 0)) 2
  let l ← (List.range (p.length / 8)).mapM fun k =>
    let off := leField p (8 * k) 4
    let a := targetAddr t + off
    if 0x100000 ≤ off ∨ mappedAddr a = false then (.error 2 : Res (Option (RegRef × W32)))
    else match findReg a with
      | some x => .ok (if (regInfo x.reg).wide ∨ x.high then none else some (x, BitVec.ofNat 32 (leField p (8 * k + 4) 4)))
      | none => .ok none
  return l.filterMap fun e => e

/-- Is the register one whose taps are judged together at the end of the section's writes (R375). -/
def isCoef (r : Reg) : Bool := decide (r = .cmpLcoef ∨ r = .cmpCcoef)

/-- A REG section: each record is a write; a value that the block refuses fails with reason 7 (R70). After LOAD a record that
leaves its register as it stands is no write (DESIGN CHOICE, log 52). -/
def State.regSection (s : State) (t : Nat) (p : Bytes) : Res State := do
  let l ← regRecords t p
  let same (e : RegRef × W32) : Bool :=
    let k := regInfo e.1.reg
    decide (k.wo = 0 ∧ s.rget e.1.reg e.1.unit e.1.item &&& k.rw = e.2 &&& k.rw)
  let l := if s.afterLoad then l.filter fun e => !same e else l
  let r : Res State := do
    let s1 ← (l.filter fun e => !isCoef e.1.reg).foldlM (fun (s : State) e => s.writeWords [e]) s
    s1.writeWords (l.filter fun e => isCoef e.1.reg)
  match r with
  | .ok s1 => .ok s1
  | .error _ => .error 7

/-! ### TLVs (R73, R85) -/

/-- The TLVs of an area: type and value; none where one runs past its end. Padding bytes that are not zero are not looked at
(DESIGN CHOICE, log 100). `fuel` bounds the TLVs. -/
def tlvsOf : Nat → Bytes → Option (List (Nat × Bytes))
  | 0, b => if b = [] then some [] else none
  | n + 1, b =>
    if b = [] then some []
    else
      let len := beField b 2 2
      let whole := 4 + cdiv len 4 * 4
      if b.length < 4 ∨ b.length < whole then none
      else (tlvsOf n (b.drop whole)).map fun r => (beField b 0 2, slice b 4 len) :: r

/-- The attributes of ATTR TLVs: number and value. -/
def attrsOf (l : List (Nat × Bytes)) : List (Nat × Bytes) :=
  (l.filter fun e => decide (e.1 = 0x22)).map fun e => (beField e.2 0 2, e.2.drop 2)

/-- The one value of a TLV type, none where it is missing. -/
def tlvOf (l : List (Nat × Bytes)) (t : Nat) : Option Bytes := (l.find? fun e => decide (e.1 = t)).map (·.2)

/-- Are a command's TLVs of the types and lengths it may carry, each once but ATTR (R85). `spec` gives type, lengths and
whether it is required. -/
def tlvsOk (spec : List (Nat × (Nat → Bool) × Bool)) (l : List (Nat × Bytes)) : Bool :=
  (l.all fun e => spec.any fun k => decide (k.1 = e.1) && k.2.1 e.2.length) &&
    decide ((l.map (·.1)).filter (· ≠ 0x22)).Nodup &&
    spec.all fun k => !k.2.2 || l.any fun e => decide (e.1 = k.1)

/-- The TLVs of OBJ_CREATE and OBJ_MODIFY. -/
def objSpec : List (Nat × (Nat → Bool) × Bool) :=
  [(0x20, (fun n => decide (n = 1)), true), (0x21, (fun n => decide (n = 4)), true), (0x22, (fun n => decide (2 ≤ n)), false)]

/-- An OBJ_CREATE of a list of TLVs: the status and the state afterwards. -/
def State.createFrom (s : State) (l : List (Nat × Bytes)) : Nat × State :=
  if tlvsOk objSpec l then
    s.objCreate (beNat ((tlvOf l 0x20).getD [])) (beNat ((tlvOf l 0x21).getD [])) (attrsOf l)
  else (stBadTlv, s)

/-- The records of an OBJ section: each begins at an OBJ_TYPE TLV (DEDUCED, log 51). -/
def objRecords : List (Nat × Bytes) → List (List (Nat × Bytes))
  | [] => []
  | e :: r =>
    match objRecords r with
    | a :: l => if (a.head?.map (·.1)) = some 0x20 then [e] :: a :: l else (e :: a) :: l
    | [] => [[e]]

/-- An OBJ section (R65, R70): a record that is not carried out fails the copy. -/
def State.objSection (s : State) (p : Bytes) : Res State := do
  match tlvsOf p.length p with
  | none => .error 7
  | some l => (objRecords l).foldlM (fun (s : State) k =>
      let r := s.createFrom k
      if r.1 = stOk then .ok r.2 else .error 7) s

/-- The sections in the order of R70 but for OBJ: CURATOR_CODE, then ascending ORDER, ties by the directory. -/
def ImageInfo.ordered (i : ImageInfo) : List Section :=
  (i.sections.filter fun x => decide (x.type = 0x21)) ++
    (i.sections.filter fun x => decide (x.type ≠ 0x21 ∧ x.type ≠ 0x11)).foldl (fun l x => insertOrder x l) []

/-- Apply one section other than OBJ. Code is loaded with its cluster; of the Curator's, only its place is modelled. -/
def State.applySection (s : State) (x : Section) : Res State :=
  match x.type with
  | 0x01 => (chipSection x.payload).map fun c => { s with cur := { s.cur with chip := c } }
  | 0x02 => .ok { s with cur := { s.cur with ptp := x.payload } }
  | 0x03 => s.jcpSection x.payload
  | 0x04 => s.keySection x.payload
  | 0x10 => s.regSection x.target x.payload
  | 0x20 => if (codeRecords (x.payload.length + 1) x.payload []).isSome then .ok s else .error 7
  | _ => .ok s

/-! ### The regions of GDDR7 (R408) -/

/-- Rounding up to 2 MiB, in MiB. -/
def mib2 (n : Nat) : Nat := cdiv n 2097152 * 2

/-- The sizes of the 18 regions, MiB. -/
def State.regionSizes (s : State) : List Nat :=
  let counts := (List.range 8).map fun p => s.rfld .cloPoolCfg 0 p 0 24
  [256, 64, 64, 128, 1024, 64, mib2 (8 * counts.sum + 16384), mib2 (4096 * s.rfld .stkSpillCfg 0 0 0 24)] ++
    ((List.range 8).map fun p => mib2 (counts.getD p 0 * poolSize p)) ++
    [1024, mib2 (65536 * s.rfld .vdePgPool 0 0 0 20)]

/-- Place the regions one after another from address 0. The last must end within 45 GiB, and the spill region must hold its
reserve (R200). -/
def State.placeRegions (s : State) : Res State :=
  let sum := ((List.range 8).map fun p => s.rfld .cloPoolCfg 0 p 0 24).sum
  let r := (s.regionSizes.zip (List.range 18)).foldl (fun (a : State × Nat) e =>
    ((a.1.rsetFld .mctRegionBase 0 e.2 0 16 a.2).rsetFld .mctRegionSize 0 e.2 0 16 e.1, a.2 + e.1)) (s, 0)
  if 46080 < r.2 ∨ s.rfld .stkSpillCfg 0 0 0 24 < 262144 + cdiv sum 252 + 1024 then .error 7 else .ok r.1

/-- What LOAD readies in the blocks once registers and regions stand: free counts (R208, R351), full buckets, the Catalogue's
seeds (R135). -/
def State.readyBlocks (s : State) : State :=
  let s1 := (List.range 8).foldl (fun s p => s.rsetFld .cloPoolLow 0 p 0 24 (s.rfld .cloPoolCfg 0 p 0 24)) s
  let s2 := (s1.rsetFld .vdePgLow 0 0 0 20 (s1.rfld .vdePgPool 0 0 0 20)).fillBuckets
  let a := s2.draw 32
  let b := a.2.draw 32
  { b.2 with rgs := { b.2.rgs with seed1 := BitVec.ofNat 32 a.1, seed2 := BitVec.ofNat 32 b.1 } }

/-- Step 7 of R69: the application of a whole copy (R70); every cluster is loaded. -/
def State.applyImage (s : State) (i : ImageInfo) : Res State := do
  let s0 : State := { s with cur := { s.cur with running := some i } }
  let s1 ← i.ordered.foldlM State.applySection s0
  let s2 ← s1.placeRegions
  let objs := (i.sections.filter fun x => decide (x.type = 0x11)).foldl (fun l x => insertOrder x l) []
  let s3 ← objs.foldlM (fun (s : State) (x : Section) => s.objSection x.payload) s2.readyBlocks
  return (List.range 17).foldl (fun s cl => s.reload cl cl) s3

end Sys2Proof.Machine
end

