-- ==== Sys2Proof/Machine/Jcp.lean ====
section
/-!
DEFINITION. The Jidon control protocol: the checks of a datagram (R71 to R75), sessions and HELLO (R76 to R78), the sequence
window and the reply cache (R79 to R81), replies that come later, events (R90); the register, object, key and STATS commands
(R84 to R89).
-/

namespace Sys2Proof.Machine

/-! ### Messages -/

/-- The header fields of a JCP message (R72). -/
def jFlags (b : Bytes) : Nat := byteN b 1
def jOpcode (b : Bytes) : Nat := beField b 2 2
def jSession (b : Bytes) : W32 := BitVec.ofNat 32 (beField b 4 4)
def jSeq (b : Bytes) : W32 := BitVec.ofNat 32 (beField b 8 4)
def jLength (b : Bytes) : Nat := beField b 12 2

/-- The TLV area of a message of the right length. -/
def jArea (b : Bytes) : Bytes := slice b 16 (jLength b)

/-- Is the MAC right under a key (R74). -/
def macOk (key b : Bytes) : Bool :=
  decide ((hmacSha256 key (b.take (16 + jLength b))).take 16 = b.drop (16 + jLength b))

/-- The signed 32-bit difference of two sequence numbers (R79). -/
def seqDiff (a b : W32) : Int := (a - b).toInt

/-- Where a command came from, as its reply goes back (R71). -/
def peerOf (d : Datagram) : Peer := ⟨d.port, d.srcMac, d.v6, d.src, d.dst, d.srcPort, d.dstPort⟩

/-- Does a source address lie in a session's prefix (R75, R76). -/
def Session.covers (x : Session) (d : Datagram) : Bool :=
  let bits := if x.family = 6 then 128 else 32
  decide (d.v6 = decide (x.family = 6)) && decide (d.src / 2 ^ (bits - x.plen) = x.srcAddr / 2 ^ (bits - x.plen))

/-- A command's row in the table of operations: its opcode, with the ACTION of IMAGE_APPLY and with which of its TLVs a
MODE_REQ carries; none where the message names no row. -/
def jcpRow (b : Bytes) : Option Nat :=
  let l := (tlvsOf b.length (jArea b)).getD []
  match jOpcode b with
  | 0x31 =>
    match tlvOf l 0x42 with
    | some [a] => if 1 ≤ a.toNat ∧ a.toNat ≤ 7 then some (0x3100 + a.toNat) else none
    | _ => none
  | 0x40 =>
    match tlvOf l 0x50, tlvOf l 0x51 with
    | some _, none => some 0x4000
    | none, some _ => some 0x4001
    | _, _ => none
  | 0x60 => if jFlags b / 2 % 2 = 1 then some 0x60 else none
  | n => if [1, 2, 3, 0x10, 0x11, 0x12, 0x20, 0x30, 0x50].contains n then some n else none

/-! ### Replies -/

/-- The reply to a command under a key and version. -/
def replyMessage (key : Bytes) (version opcode : Nat) (session seq : W32) (status : Nat) (tlvs : Bytes) : Bytes :=
  jcpMessage key version 3 opcode session seq status tlvs

/-- Keep a reply in the cache (R80): while its SEQ is in the window and the epoch is the confirmed one. -/
def Session.keep (x : Session) (key : Bytes) (seq : W32) (reply : Bytes) : Session :=
  if (x.confirmed.map (·.key)) = some key ∧ -256 < seqDiff seq x.highest then
    { x with cache := nput x.cache (seq.toNat % 256) (seq, reply) }
  else x

/-- H moves to a new SEQ; replies 256 or more behind it leave the cache (R79, R80). -/
def Session.advance (x : Session) (seq : W32) : Session :=
  if 0 < seqDiff seq x.highest then
    { x with highest := seq, cache := x.cache.filter fun e => decide (-256 < seqDiff e.2.1 seq) }
  else x

/-- Answer the running commands of session `k` that have an opcode, each under the key it came with (R77, R80). -/
def State.finishRunning (s : State) (k opcode status : Nat) (tlvs : Bytes) : State :=
  match s.cur.sessions[k]? with
  | none => s
  | some x =>
    let out := x.running.filter fun c => decide (c.opcode = opcode)
    let y : Session := out.foldl (fun y c =>
      y.keep c.key c.seq (replyMessage c.key c.version opcode x.id c.seq status tlvs))
      { x with running := x.running.filter fun c => decide (c.opcode ≠ opcode) }
    out.foldl (fun s c => s.sendMgmt c.peer (replyMessage c.key c.version opcode x.id c.seq status tlvs)) (s.setSession k y)

/-- The TLVs of MODE_REQ and IMAGE_APPLY replies. -/
def State.modeTlv (s : State) : Bytes := tlv 0x50 [byteOf (modeCode s.m.mode)]
def State.stageTlv (s : State) : Bytes := tlv 0x44 (beBytes 4 (s.rget .curStage 0 0).toNat)

/-! ### HELLO (R77, R78) -/

/-- The features a version defines. -/
def versionFeatures (v : Nat) : W64 := if v = 0x0101 then 0x1F else 0x0D

/-- The TLVs of HELLO. -/
def helloSpec : List (Nat × (Nat → Bool) × Bool) :=
  [(1, (fun n => decide (n % 2 = 0 ∧ 2 ≤ n ∧ n ≤ 16)), true), (2, (fun n => decide (n = 8)), true),
   (3, (fun n => decide (n = 16)), true), (4, (fun n => decide (n = 2)), true)]

/-- The highest version in both lists. -/
def commonVersion (offer : Bytes) : Option Nat :=
  let l := (List.range (offer.length / 2)).map fun i => beField offer (2 * i) 2
  if l.contains 0x0101 then some 0x0101 else if l.contains 0x0100 then some 0x0100 else none

/-- The traffic key of an epoch (R77). -/
def trafficKey (imageKey nonceC nonceP : Bytes) (id : W32) : Bytes :=
  hmacSha256 imageKey ([0x4A, 0x43, 0x50, 0x20, 0x74, 0x72, 0x61, 0x66, 0x66, 0x69, 0x63] ++ nonceC ++ nonceP ++ beBytes 4 id.toNat)

/-- The first answered HELLO in LINK_UP opens the start-up window (R35; DEDUCED, log 53). -/
def State.openWindow (s : State) : State :=
  if s.m.mode = .linkUp then { s with m := { s.m with windowOpen := true } } else s

/-- A HELLO that has passed the checks of R75. The processor's nonce is fresh (free value); the reply's FEATURES and MAX_MSG
carry what has been negotiated (DESIGN CHOICE, log 100). -/
def State.helloIn (s : State) (k : Nat) (x : Session) (d : Datagram) : State :=
  let b := d.payload
  let seq := jSeq b
  let p := peerOf d
  let refuse (st : Nat) : State := s.sendMgmt p (replyMessage x.imageKey 0x0100 1 x.id seq st [])
  match tlvsOf b.length (jArea b) with
  | none => refuse stBadTlv
  | some l =>
    let val (t : Nat) : Bytes := (tlvOf l t).getD []
    if tlvsOk helloSpec l = false then refuse stBadTlv
    else if beNat (val 4) < 1280 ∨ 8960 < beNat (val 4) then refuse stBadValue
    else
      match x.hello.filter fun h => decide (h.epoch.nonce = val 3) with
      | some h => s.sendMgmt p h.reply
      | none =>
        match commonVersion (val 1) with
        | none => refuse stNoVersion
        | some v =>
          let r := s.drawBytes 16
          let most := min (beNat (val 4)) s.cur.maxMsg
          let feat : W64 := BitVec.ofNat 64 (beNat (val 2)) &&& versionFeatures v
          let reply := replyMessage x.imageKey 0x0100 1 x.id seq stOk
            (tlv 5 (beBytes 2 v) ++ tlv 2 (beBytes 8 feat.toNat) ++ tlv 3 r.1 ++ tlv 4 (beBytes 2 most))
          let ep : Epoch := ⟨val 3, trafficKey x.imageKey (val 3) r.1 x.id, v, feat, most⟩
          ((r.2.setSession k { x with hello := some ⟨ep, reply, seq, p⟩ }).sendMgmt p reply).openWindow

/-- The first valid message under a pending epoch's key confirms it (R77): the old cache goes; events not yet acknowledged are
carried over, numbered from 1 (DESIGN CHOICE, log 54). -/
def State.confirm (s : State) (k : Nat) (x : Session) (h : PendingHello) : State :=
  let y : Session := { x with
    confirmed := some h.epoch, hello := none, highest := h.seq, cache := [], peer := some h.peer, eventSeq := 1
    inFlight := [], queue := x.inFlight.map (·.event) ++ x.queue }
  if y.takesEvents then (s.setSession k y).pump k
  else (s.setSession k { y with queue := [], lost := 0 }).rcount .curEventLost 0 0 0 32 y.queue.length

/-! ### The path of a datagram -/

/-- What carrying out a command gives: a reply with status and TLVs, a reply that comes later, or a reply that is sent before
the command's trigger acts (R84). -/
inductive JcpDone where
  | reply (status : Nat) (tlvs : Bytes) (s : State)
  | later (s : State)
  | first (tlvs : Bytes) (act : State → State)

/-- What a command has to go by: the session's index and entry, the confirmed epoch, its TLVs. -/
structure JcpCmd where
  k : Nat
  x : Session
  ep : Epoch
  tlvs : List (Nat × Bytes)

/-- The value of a TLV, as bytes and as a number. -/
def JcpCmd.val (c : JcpCmd) (t : Nat) : Bytes := (tlvOf c.tlvs t).getD []
def JcpCmd.num (c : JcpCmd) (t : Nat) : Nat := beNat (c.val t)
def JcpCmd.has (c : JcpCmd) (t : Nat) : Bool := (tlvOf c.tlvs t).isSome

/-- May the session do it: a PERM bit, and a feature of the epoch (R76, R78). -/
def JcpCmd.allows (c : JcpCmd) (perm : Nat) (feature : Option Nat) : Res Unit :=
  refuseIf (!c.x.perm.getLsbD perm || !(feature.elim true fun f => c.ep.features.getLsbD f)) stNotPermitted

/-- The frames of a port's management queue leave at once: the reply is on its way before the trigger acts. -/
def State.sendAll (s : State) (p : Nat) : State :=
  let l := (nget s.mgmt p).getD []
  (List.range l.length).foldl (fun s _ =>
    match (nget s.mgmt p).getD [] with
    | f :: rest => s.sendHead p f rest
    | [] => s) s

/-- Drop a message without reply (R75): the counter of its reason. -/
def State.jcpDrop (s : State) (k : Nat) : State := s.rcount .curJcpDrop 0 k 0 32 1

/-- Answer a command: the reply is cached unless BUSY or STALE_SEQ; one too large for the session is replaced by TOO_LARGE, and
the command then has no effect (R82, R83; DEDUCED, log 55). -/
def State.jcpAnswer (s : State) (c : JcpCmd) (d : Datagram) : JcpDone → State
  | .later s1 =>
    match s1.cur.sessions[c.k]? with
    | some y => s1.setSession c.k { y with
        running := y.running ++ [⟨jSeq d.payload, jOpcode d.payload, c.ep.key, c.ep.version, peerOf d⟩] }
    | none => s1
  | .reply status tlvs s1 =>
    let fits := decide (32 + tlvs.length ≤ c.ep.maxMsg)
    let s2 := if fits then s1 else s
    let m := replyMessage c.ep.key c.ep.version (jOpcode d.payload) c.x.id (jSeq d.payload) (if fits then status else stTooLarge)
      (if fits then tlvs else [])
    match s2.cur.sessions[c.k]? with
    | some y => (s2.setSession c.k (y.keep c.ep.key (jSeq d.payload) m)).sendMgmt (peerOf d) m
    | none => s2
  | .first tlvs act =>
    let m := replyMessage c.ep.key c.ep.version (jOpcode d.payload) c.x.id (jSeq d.payload) stOk tlvs
    act ((s.sendMgmt (peerOf d) m).sendAll d.port)

/-- A command in the sequence window (R79 to R81), carried out by `run`. -/
def State.jcpWindow (s : State) (k : Nat) (x : Session) (ep : Epoch) (d : Datagram) (run : State → JcpCmd → JcpDone) : State :=
  let b := d.payload
  let seq := jSeq b
  let diff := seqDiff seq x.highest
  let short (st : Nat) : State := s.sendMgmt (peerOf d) (replyMessage ep.key ep.version (jOpcode b) x.id seq st [])
  let cached := if diff ≤ 0 then (nget x.cache (seq.toNat % 256)).filter fun e => decide (e.1 = seq) else none
  if diff ≤ -256 then short stStaleSeq
  else match cached with
    | some e => s.sendMgmt (peerOf d) e.2
    | none =>
      if diff ≤ 0 ∧ (x.running.any fun c => decide (c.seq = seq ∧ c.key = ep.key)) = true then
        s.setSession k { x with dups := x.dups + 1 }
      else if 64 ≤ x.running.length then short stBusy
      else
        let y := x.advance seq
        let s1 := s.setSession k y
        let cmd (l : List (Nat × Bytes)) : JcpCmd := ⟨k, y, ep, l⟩
        if s1.jcpOn = false then s1.jcpAnswer (cmd []) d (.reply stModeRefused [] s1)
        else match tlvsOf b.length (jArea b) with
          | none => s1.jcpAnswer (cmd []) d (.reply stBadTlv [] s1)
          | some l => s1.jcpAnswer (cmd l) d (run s1 (cmd l))

/-- An acknowledged event leaves its place (R90). -/
def State.ackEvent (s : State) (k : Nat) (seq : W32) : State :=
  match s.cur.sessions[k]? with
  | none => s
  | some x => (s.setSession k { x with inFlight := x.inFlight.filter fun e => decide (e.seq % 4294967296 ≠ seq.toNat) }).pump k

/-- A message under the key of a session's epoch. -/
def State.jcpUnder (s : State) (k : Nat) (ep : Epoch) (d : Datagram) (run : State → JcpCmd → JcpDone) : State :=
  if jFlags d.payload % 2 = 1 then s.jcpDrop 4
  else if ep.maxMsg < d.payload.length then s.jcpDrop 3
  else
    let s1 := match s.cur.sessions[k]? with
      | some x =>
        match x.hello with
        | some h => if h.epoch = ep then s.confirm k x h else s
        | none => s
      | none => s
    match s1.cur.sessions[k]? with
    | none => s1
    | some x => if jcpRow d.payload = some 0x60 then s1.ackEvent k (jSeq d.payload) else s1.jcpWindow k x ep d run

/-- The checks of R75 on a datagram of the management port; their order is the model's (DESIGN CHOICE, log 56). -/
def State.jcpIngress (s : State) (d : Datagram) (run : State → JcpCmd → JcpDone) : State :=
  let b := d.payload
  if s.cur.restarting then s.jcpDrop 7
  else if b.length < 32 then s.jcpDrop 3
  else
    match (List.range s.cur.sessions.length).find? fun k => (s.cur.sessions[k]?).elim false fun x => decide (x.id = jSession b) with
    | none => s.jcpDrop 1
    | some k =>
      match s.cur.sessions[k]? with
      | none => s
      | some x =>
        if x.covers d = false then s.jcpDrop 2
        else if b.length ≠ 32 + jLength b ∨ s.cur.maxMsg < b.length then s.jcpDrop 3
        else if jOpcode b = 1 then
          if macOk x.imageKey b = false then s.jcpDrop 0
          else if jFlags b % 2 = 1 then s.jcpDrop 4
          else s.helloIn k x d
        else
          match (x.confirmed.toList ++ x.hello.toList.map (·.epoch)).find? fun ep => macOk ep.key b with
          | some ep => s.jcpUnder k ep d run
          | none => s.jcpDrop (if x.confirmed.isNone ∧ x.hello.isNone then 5 else 0)

/-- The answer to a message that names no row: a reserved opcode, an IMAGE_APPLY with no or a reserved ACTION, a MODE_REQ
without just one of its TLVs, an EVENT that is no acknowledgement. -/
def State.jcpNoRow (opcode : Nat) (s : State) (c : JcpCmd) : JcpDone :=
  match opcode with
  | 0x31 =>
    match c.allows 4 (some 2) with
    | .error e => .reply e [] s
    | .ok _ => .reply (if (c.val 0x42).length = 1 then stBadValue else stBadTlv) [] s
  | 0x40 => .reply stBadTlv [] s
  | _ => .reply 15 [] s

/-- A JCP datagram as the command of a row: one that is not the row's, that is not addressed to the processor's management
port, or that comes where R36 gives JCP a "no", changes nothing. -/
def State.jcpReceive (s : State) (d : Datagram) (row : Nat) (run : State → JcpCmd → JcpDone) : State :=
  let s1 : State := { s with cur := { s.cur with rx := s.cur.rx.erase d } }
  if s.jcpAddressed d.v6 d.dst d.dstPort && (s.jcpOn || decide (s.m.mode = .linkUp)) then
    match jcpRow d.payload with
    | some r => if r = row then s1.jcpIngress d run else s
    | none => s1.jcpIngress d (State.jcpNoRow (jOpcode d.payload))
  else s

/-- A command that is answered at once: its status, its reply's TLVs and its state. -/
def answered (s : State) (r : Res (Bytes × State)) : JcpDone :=
  match r with
  | .ok (t, s1) => .reply stOk t s1
  | .error e => .reply e [] s

/-! ### Registers (R84) -/

/-- Words of a DATA or MASK value. -/
def wordsOf (b : Bytes) : List W32 := (List.range (b.length / 4)).map fun i => BitVec.ofNat 32 (beField b (4 * i) 4)

/-- READ. -/
def State.jcpRead (s : State) (c : JcpCmd) : JcpDone :=
  answered s (do
    c.allows 0 none
    refuseIf (!tlvsOk [(0x10, (fun n => decide (n = 4)), true), (0x11, (fun n => decide (n = 4)), true)] c.tlvs) stBadTlv
    refuseIf (decide (c.num 0x11 = 0 ∨ 256 < c.num 0x11)) stBadValue
    s.accessOk (c.num 0x10) (c.num 0x11)
    let r := s.readWords (c.num 0x10) (c.num 0x11)
    return (tlv 0x12 (r.1.flatMap fun w => beBytes 4 w.toNat), r.2))

/-- WRITE. -/
def State.jcpWrite (s : State) (c : JcpCmd) : JcpDone :=
  let whole (n : Nat) : Bool := decide (n % 4 = 0 ∧ 4 ≤ n ∧ n ≤ 1024)
  answered s (do
    c.allows 1 (if c.has 0x13 then some 4 else none)
    refuseIf (!tlvsOk [(0x10, (fun n => decide (n = 4)), true), (0x12, whole, true), (0x13, whole, false)] c.tlvs) stBadTlv
    refuseIf (c.has 0x13 && decide ((c.val 0x13).length ≠ (c.val 0x12).length)) stBadValue
    let s1 ← s.writeRun (c.num 0x10) (wordsOf (c.val 0x12)) ((tlvOf c.tlvs 0x13).map wordsOf)
    return ([], s1))

/-! ### Objects and keys (R86 to R89) -/

/-- OBJ_CREATE. -/
def State.jcpCreate (s : State) (c : JcpCmd) : JcpDone :=
  match c.allows 2 none with
  | .error e => .reply e [] s
  | .ok _ => .reply (s.createFrom c.tlvs).1 [] (s.createFrom c.tlvs).2

/-- OBJ_MODIFY. -/
def State.jcpModify (s : State) (c : JcpCmd) : JcpDone :=
  answered s (do
    c.allows 2 none
    refuseIf (!tlvsOk objSpec c.tlvs) stBadTlv
    let s1 ← s.objModify (c.num 0x20) (c.num 0x21) (attrsOf c.tlvs)
    return ([], s1))

/-- OBJ_DELETE. -/
def State.jcpDelete (s : State) (c : JcpCmd) : JcpDone :=
  answered s (do
    c.allows 2 none
    refuseIf (!tlvsOk (objSpec.take 2) c.tlvs) stBadTlv
    let r ← s.objDelete (c.num 0x20) (c.num 0x21)
    return (tlv 0x11 (beBytes 4 r.2), r.1))

/-- The TLVs of KEY_INSTALL. -/
def keySpec : List (Nat × (Nat → Bool) × Bool) :=
  [(0x30, (fun n => decide (n = 2)), true), (0x31, (fun n => decide (n = 1)), true), (0x32, (fun n => decide (n = 1)), true),
   (0x33, (fun n => decide (n = 16 ∨ n = 32)), true), (0x34, (fun n => decide (n = 12 ∨ n = 14)), true),
   (0x35, (fun n => decide (n = 4)), false)]

/-- KEY_INSTALL. -/
def State.jcpKey (s : State) (c : JcpCmd) : JcpDone :=
  answered s (do
    c.allows 3 none
    refuseIf (!tlvsOk keySpec c.tlvs) stBadTlv
    refuseIf (decide (32767 < c.num 0x30 ∨ 1 < c.num 0x31)) stBadValue
    match profileOf (c.num 0x32) with
    | none => .error stBadValue
    | some p =>
      refuseIf (decide ((c.val 0x33).length ≠ p.key ∨ (c.val 0x34).length ≠ p.salt)) stBadValue
      refuseIf (!s.objExists tyLeg (c.num 0x30)) stNoObject
      return ([], s.installKey (c.num 0x30) (c.num 0x31) (c.num 0x32) (c.num 0x35) p (c.val 0x33) (c.val 0x34)))

/-! ### STATS (R84, and the counters of the chapters) -/

/-- `n` counter numbers from one on. -/
def counters (first n : Nat) : List Nat := (List.range n).map (· + first)

/-- The counters of an object. -/
def State.statsOf (s : State) (ty id : Nat) : List Nat :=
  match ty with
  | 1 => counters 0x100 6 ++ counters 0x200 2 ++ counters 0x300 4 ++ counters 0x500 7 ++ counters 0xB00 3
  | 2 => counters 0x100 3 ++ counters 0x200 3 ++ counters 0x300 3 ++ counters 0x400 5 ++ counters 0x600 8 ++
      (if (s.decCtx? id).isSome then counters 0x700 12 else [])
  | 3 => counters 0x600 4
  | 4 => counters 0x400 6
  | 5 => counters 0x600 4 ++ (if s.attr tyOutput id 0x600 0 = 1 then counters 0x800 7 else []) ++
      (if (s.encCtx? id).isSome then counters 0x900 10 else [])
  | 7 => counters 0x100 6
  | 8 => counters 0x500 2
  | _ => []

/-- A counter that reads its current value (R208, R254, R325, R349, R400, R461): 64 bits, signed values in two's complement;
none for one that counts. -/
def State.statNow (s : State) (ty id num : Nat) : Option Nat :=
  let z (v : Int) : Option Nat := some (unsgn 64 v)
  match ty with
  | 1 =>
    if 0x300 ≤ num ∧ num < 0x304 then some (s.queue (classQueue id (num - 0x300))).depth
    else if num = 0x505 then some (s.rfld .tmgPortState 0 (s.legPort id) 0 1)
    else if num = 0xB01 then some (b2n (s.isolated id))
    else none
  | 2 =>
    match num with
    | 0x300 => some (s.queue (streamQueue id)).depth
    | 0x301 => some (s.queue (streamQueue id)).bytes
    | 0x600 => z (s.audIn id).rms
    | 0x601 => z (s.audIn id).peak
    | 0x708 => some ((s.decCtx? id).elim 0 (·.phase))
    | 0x709 => some ((s.decCtx? id).elim 0 (·.lastBad))
    | 0x70A => some (s.heldPages id)
    | 0x70B => some ((s.decCtx? id).elim 0 (·.engine))
    | _ => none
  | 5 =>
    let rc := (s.encCtx? id).elim ({} : RateCtl) fun x => ngetD {} x.rc 0
    match num with
    | 0x600 => z (s.audOut id).rms
    | 0x601 => z (s.audOut id).peak
    | 0x907 => some rc.target
    | 0x908 => some rc.carry
    | 0x909 => some rc.full
    | _ => none
  | 7 =>
    match num with
    | 0x104 => some (s.poolFree id)
    | 0x105 => some (s.rfld .cloPoolLow 0 id 0 24)
    | _ => none
  | 8 => if num = 0x500 then z ((s.shaper (id / 65536) (id % 65536)).tokens / 1024) else none
  | _ => none

/-- The key of an object's counter. -/
def statKey (ty id num : Nat) : Nat := objKey ty id * 65536 + num

/-- The COUNTERS TLV of an object. -/
def State.countersTlv (s : State) (ty id : Nat) : Bytes :=
  tlv 0x62 (beBytes 4 id ++ (s.statsOf ty id).flatMap fun n =>
    beBytes 2 n ++ beBytes 8 ((s.statNow ty id n).getD (ngetD 0 s.stats (statKey ty id n)).toNat))

/-- Clear an object's counters but those that read their current value. -/
def State.clearStats (s : State) (ty id : Nat) : State :=
  { s with stats := (s.statsOf ty id).foldl (fun m n => if (s.statNow ty id n).isSome then m else ndel m (statKey ty id n)) s.stats }

/-- Does an object exist: pools and shapers always do. -/
def State.statsExist (s : State) (ty id : Nat) : Bool :=
  idOk ty id && (decide (ty = tyPool ∨ ty = tyShaper) || s.objExists ty id)

/-- STATS. -/
def State.jcpStats (s : State) (c : JcpCmd) : JcpDone :=
  let ty := c.num 0x20
  let id := c.num 0x21
  answered s (do
    c.allows 7 (if c.has 0x60 then some 1 else none)
    refuseIf (!tlvsOk (objSpec.take 2 ++ [(0x60, (fun n => decide (n = 4)), false), (0x61, (fun n => decide (n = 1)), false)])
      c.tlvs) stBadTlv
    refuseIf (c.has 0x60 && decide (c.num 0x60 = 0 ∨ 256 < c.num 0x60)) stBadValue
    refuseIf (decide (1 < c.num 0x61)) stBadValue
    judgeId ty id true
    let l := ((List.range (if c.has 0x60 then c.num 0x60 else 1)).map (· + id)).filter (s.statsExist ty)
    refuseIf (decide (l = [])) stNoObject
    return (l.flatMap (s.countersTlv ty), if c.num 0x61 = 1 then l.foldl (fun s i => s.clearStats ty i) s else s))

/-! ### The meanings -/

/-- HELLO opens a pending epoch (R77). -/
def execHello (d : Datagram) (s : State) : Out := .next (s.jcpReceive d 1 fun s _ => .later s)

def execRead (d : Datagram) (s : State) : Out := .next (s.jcpReceive d 2 State.jcpRead)

def execWrite (d : Datagram) (s : State) : Out := .next (s.jcpReceive d 3 State.jcpWrite)

def execObjCreate (d : Datagram) (s : State) : Out := .next (s.jcpReceive d 0x10 State.jcpCreate)

def execObjModify (d : Datagram) (s : State) : Out := .next (s.jcpReceive d 0x11 State.jcpModify)

def execObjDelete (d : Datagram) (s : State) : Out := .next (s.jcpReceive d 0x12 State.jcpDelete)

def execKeyInstall (d : Datagram) (s : State) : Out := .next (s.jcpReceive d 0x20 State.jcpKey)

def execStats (d : Datagram) (s : State) : Out := .next (s.jcpReceive d 0x50 State.jcpStats)

/-- The controller acknowledges an event (R90). -/
def execEventAck (d : Datagram) (s : State) : Out := .next (s.jcpReceive d 0x60 fun s _ => .later s)

/-- 100 ms without acknowledgement (R90): sent again ten times, then lost. -/
def execEventResend (session seq : Nat) (s : State) : Out :=
  .next (match s.cur.sessions[session]? with
    | none => s
    | some x =>
      match x.inFlight.find? fun e => decide (e.seq = seq), x.confirmed, x.peer with
      | some e, some ep, some p =>
        let s1 := s.reach (e.sentAt + 100000000)
        if 11 ≤ e.sends then
          ((s1.setSession session { x with inFlight := x.inFlight.filter fun f => decide (f.seq ≠ seq) }).rcount
            .curEventLost 0 0 0 32 1).pump session
        else
          (s1.setSession session { x with inFlight := x.inFlight.map fun f =>
              if f.seq = seq then { f with sends := f.sends + 1, sentAt := s1.t } else f }).sendMgmt p
            (eventMessage x.id ep seq e.event)
      | _, _, _ => s)

end Sys2Proof.Machine
end

