-- ==== Sys2Proof/Machine/Update.lean ====
section
/-!
DEFINITION. The image update in service (R92 to R96), MODE_REQ and LC_TARGET (R39, R56), entry to service (R48).
-/

namespace Sys2Proof.Machine

/-! ### The stage (R92, CUR_STAGE) -/

/-- CUR_STAGE.STATE: 0 EMPTY, 1 LOADING, 2 VERIFYING, 3 VERIFIED, 4 APPLYING, 5 INVALID, 6 PROGRAMMING. -/
def State.stage (s : State) : Nat := s.rfld .curStage 0 0 0 3
def State.setStage (s : State) (n : Nat) : State := s.rsetFld .curStage 0 0 0 3 n

/-- A stage that is being verified, applied or programmed. -/
def State.stageBusy (s : State) : Bool := decide (s.stage = 2 ∨ s.stage = 4 ∨ s.stage = 6)

/-- The owner of the stage: its session's index. -/
def State.stageOwner (s : State) : Option Nat :=
  if s.rfld .curStage 0 0 13 1 = 1 then some (s.rfld .curStage 0 0 9 4) else none

/-- The stage is no longer a verified image. -/
def State.unverify (s : State) : State :=
  ({ s with cur := { s.cur with staged := none } }).rset .curStageId 0 0 0

/-- The TLVs of IMAGE_STAGE. -/
def stageSpec : List (Nat × (Nat → Bool) × Bool) := [(0x40, (fun n => decide (n = 4)), true), (0x41, (fun n => decide (1 ≤ n)), true)]

/-- IMAGE_STAGE (R92): the bytes go into region 1 of GDDR7. -/
def State.jcpStage (s : State) (c : JcpCmd) : JcpDone :=
  answered s (do
    c.allows 4 (some 2)
    refuseIf (!tlvsOk stageSpec c.tlvs) stBadTlv
    refuseIf (decide (67108864 < c.num 0x40 + (c.val 0x41).length)) stBadValue
    refuseIf s.stageBusy stInUse
    refuseIf (s.stageOwner.elim false (· ≠ c.k)) stInUse
    let s1 := (s.gwrite (s.regionBase 1 + c.num 0x40) (c.val 0x41)).unverify.setStage 1
    return ([], (s1.rsetFld .curStage 0 0 9 4 c.k).rsetFld .curStage 0 0 13 1 1))

/-! ### IMAGE_APPLY: verification (R93) -/

/-- The TLVs of IMAGE_APPLY. -/
def applySpec : List (Nat × (Nat → Bool) × Bool) := [(0x42, (fun n => decide (n = 1)), true), (0x43, (fun n => decide (n = 2)), false)]

/-- What every IMAGE_APPLY needs. -/
def JcpCmd.allowsApply (c : JcpCmd) : Res Unit := do
  c.allows 4 (some 2)
  refuseIf (!tlvsOk applySpec c.tlvs) stBadTlv

/-- An action that runs and is answered at its end. -/
def startOp (s : State) (k : Nat) (r : Res State) : JcpDone :=
  match r with
  | .ok s1 => .later { s1 with cur := { s1.cur with imageOp := some k } }
  | .error e => .reply e [] s

/-- The running action is answered (R79, R93). -/
def State.endOp (s : State) (status : Nat) : State :=
  match s.cur.imageOp with
  | some k => ({ s with cur := { s.cur with imageOp := none } }).finishRunning k 0x31 status
      (if status = stOk ∨ status = stImageInvalid then s.stageTlv else [])
  | none => s

/-- VERIFY starts. -/
def State.jcpVerify (s : State) (c : JcpCmd) : JcpDone :=
  startOp s c.k (do
    c.allowsApply
    refuseIf s.stageBusy stInUse
    return s.unverify.setStage 2)

/-- The staged bytes, as long as the header says. -/
def State.stagedBytes (s : State) : Bytes :=
  let n := leField (s.gread (s.regionBase 1) 64) 8 4
  s.gread (s.regionBase 1) (if n ≤ 67108864 then max 64 n else 64)

/-- Steps 1 and 3 to 6 of R69 on the stage; an empty stage holds no header. -/
def State.verifyStage (s : State) : Res ImageInfo := if s.stageOwner.isNone then .error 2 else s.checkBytes s.stagedBytes

/-- Verification ends: VERIFIED, or INVALID with the reason. -/
def execImageVerifyDone (s : State) : Out :=
  .next (if s.stage ≠ 2 then s
    else match s.verifyStage with
      | .ok i => State.endOp ((({ s with cur := { s.cur with staged := some i } }).rset .curStageId 0 0
          (BitVec.ofNat 32 i.buildId)).setStage 3) stOk
      | .error r => ((s.rsetFld .curStage 0 0 4 4 r).setStage 5).endOp stImageInvalid)

/-! ### IMAGE_APPLY: application to blocks (R93 to R96) -/

/-- May a section's type carry LIVE (R65). -/
def Section.mayLive (x : Section) : Bool := (sectionRule x.type).elim false (·.live)

/-- CUR_STAGE.MIXED: running sections of more than one build (R96). -/
def State.setMixed (s : State) : State :=
  s.rsetFld .curStage 0 0 8 1 (match s.cur.running with
    | some i => b2n (i.sections.any fun x => decide (x.build ≠ (i.sections.head?.elim 0 (·.build))))
    | none => 0)

/-- The running image takes the staged sections of a target in place of its own. -/
def State.takeSections (s : State) (i : ImageInfo) (t : Nat) : State :=
  match s.cur.running with
  | none => s
  | some r =>
    let keep := r.sections.filter fun x => decide (x.target ≠ t) || !x.mayLive
    let add := i.sections.filter fun x => decide (x.target = t) && x.mayLive
    State.setMixed { s with cur := { s.cur with running := some { r with sections := keep ++ add } } }

/-- The slots whose clusters a DSP target names. -/
def State.applySlots (s : State) (t : Nat) : List Nat :=
  (List.range 16).filter fun n => decide (s.docMapOf n < 17 ∧ (t = 0x2000 ∨ s.codeOf (s.docMapOf n) = t / 16 % 256 - 16))

/-- What applying a DSP target's sections has to do, in order: each cluster by a swap of its slot, or by a reload where it
stands by. -/
def State.applyItems (s : State) (t : Nat) : List Nat :=
  (s.applySlots t).map (· + 0x10000) ++
    ((List.range 17).filter fun cl => decide ((t = 0x2000 ∨ s.codeOf cl = t / 16 % 256 - 16) ∧ s.standby = some cl)).map
      (· + 0x20000)

/-- Is a target DSP code. -/
def isDsp (t : Nat) : Bool := dspTargets.contains t

/-- Start one item. The Cloakroom, the Stacks and wing controllers, which cannot be reset on their own (R22), take their
registers' new values as writes. -/
def State.applyStart (s : State) (i : ImageInfo) (x : Nat) : Res State :=
  if 0x20000 ≤ x then .ok (s.reloadBlock (x - 0x20000) (s.codeOf (x - 0x20000)))
  else if 0x10000 ≤ x then s.startSwap (x - 0x10000)
  else
    let live := i.ordered.filter fun y => decide (y.target = x) && y.live
    match (live.filter fun y => decide (y.type ≠ 0x20 ∧ y.type ≠ 0x21)).foldlM State.applySection s with
    | .error _ => .error stImageInvalid
    | .ok s1 =>
      let s2 := s1.takeSections i x
      if isDsp x then .ok { s2 with cur := { s2.cur with applying := s2.applyItems x ++ s2.cur.applying } }
      else if live.any fun y => decide (y.type = 0x21) then .ok { s2 with cur := { s2.cur with restarting := true } }
      else .ok (if cannotReset (x / 4096) (x / 16 % 256) then s2 else s2.wipeBlock (x / 4096) (x / 16 % 256))

/-- Has an item ended. -/
def State.applyEnded (s : State) (x : Nat) : Bool :=
  if 0x20000 ≤ x then decide (s.clState (x - 0x20000) ≠ 2)
  else if 0x10000 ≤ x then s.doc.swap.isNone
  else if x = 0 then !s.cur.restarting
  else isDsp x || cannotReset (x / 4096) (x / 16 % 256) || s.blkUp (x / 4096) (x / 16 % 256)

/-- The action ends: the stage is VERIFIED again; after APPLY_ALL the staged image is the running one. -/
def State.applyFinish (s : State) (status : Nat) : State :=
  let s1 : State := { s with cur := { s.cur with applying := [], applyNow := none } }
  let s2 : State := if s1.cur.applyAll && decide (status = stOk) then
      match s1.cur.running, s1.cur.staged with
      | some r, some i =>
        { s1 with cur := { s1.cur with running := some { i with sections :=
            (r.sections.filter (·.mayLive)) ++ i.sections.filter fun x => !x.mayLive } } }
      | _, _ => s1
    else s1
  let s3 := if status = stImageInvalid then s2.rsetFld .curStage 0 0 4 4 7 else s2
  (s3.setMixed.setStage 3).endOp status

/-- Go on with what is to be applied: `fuel` bounds the items started. -/
def State.applyNext : Nat → State → State
  | 0, s => s
  | n + 1, s =>
    if s.stage ≠ 4 then s
    else match s.cur.applyNow with
      | some x =>
        if s.applyEnded x then State.applyNext n { s with cur := { s.cur with applyNow := none } } else s
      | none =>
        match s.cur.applying, s.cur.staged with
        | x :: r, some i =>
          match ({ s with cur := { s.cur with applying := r, applyNow := some x } } : State).applyStart i x with
          | .ok s1 => State.applyNext n s1
          | .error e => s.applyFinish e
        | _, _ => s.applyFinish stOk

/-- Application goes on after an event. -/
def State.applyOn (s : State) : State := State.applyNext (2 * s.cur.applying.length + 1000) s

/-- Does another operation run on a target's block (R58, R93): a swap, a port's reconfiguration, a migration of a video
context, the block's own reset. -/
def State.targetBusy (s : State) (t : Nat) : Bool :=
  let b := t / 16 % 256
  if isDsp t then s.doc.swap.isSome
  else decide (t = 0x1010) && s.atr.reconfig.isSome || (decide (4096 ≤ t) && !s.blkUp (t / 4096) b) ||
    (decide (t / 4096 = 3 ∧ 1 ≤ b ∧ b ≤ 4) && s.decBusy (b - 1)) || (decide (t / 4096 = 3 ∧ 8 ≤ b ∧ b ≤ 11) && s.encBusy (b - 8)) ||
    (decide (t = 0x30C0) && s.ven.ctx.any fun c => c.2.moveTo.isSome)

/-- A DSP target whose clusters need a swap while none stands by. -/
def State.noStandby (s : State) (t : Nat) : Bool := isDsp t && decide (s.applySlots t ≠ [] ∧ s.standby = none)

/-- The stage must be VERIFIED for actions 2, 3, 5 and 6 (the status is the model's: DESIGN CHOICE, log 57). -/
def State.needVerified (s : State) : Res ImageInfo := do
  refuseIf s.stageBusy stInUse
  match s.cur.staged with
  | some i => if s.stage = 3 then .ok i else .error stImageInvalid
  | none => .error stImageInvalid

/-- Begin to apply targets in order. -/
def State.beginApply (s : State) (ts : List Nat) (all : Bool) : State :=
  State.setStage { s with cur := { s.cur with applying := ts, applyNow := none, applyAll := all } } 4

/-- APPLY_BLOCK (R93, R94). A TARGET that no staged section names is answered BAD_VALUE (DESIGN CHOICE, log 57). -/
def State.jcpApplyBlock (s : State) (c : JcpCmd) : JcpDone :=
  startOp s c.k (do
    c.allowsApply
    refuseIf (!c.has 0x43) stBadTlv
    refuseIf (decide (s.m.mode ≠ .maintain)) stModeRefused
    let i ← s.needVerified
    let t := c.num 0x43
    let secs := i.sections.filter fun x => decide (x.target = t)
    refuseIf (decide (secs = [])) stBadValue
    refuseIf (secs.any fun x => !x.live) stNotPermitted
    refuseIf (s.targetBusy t) stInUse
    refuseIf (s.noStandby t) stResource
    return s.beginApply [t] false)

/-- The targets of APPLY_ALL in ascending order, the Curator's last. -/
def applyTargets (i : ImageInfo) : List Nat :=
  let ts := nkeys ((i.sections.filter (·.live)).foldl (fun m x => nput m x.target ()) [])
  ts.filter (· ≠ 0) ++ ts.filter (· = 0)

/-- Sections that cannot be LIVE, as APPLY_ALL compares them: type, target, length and PAYLOAD_CRC. -/
def fixedSections (i : ImageInfo) : List (Nat × Nat × Nat × Nat) :=
  (i.sections.filter fun x => !x.mayLive).map fun x => (x.type, x.target, x.length, x.crc)

/-- Do two images have the same sections that cannot be LIVE, whatever their order in the directory. -/
def sameFixed (a b : ImageInfo) : Bool := decide ((fixedSections a).Perm (fixedSections b))

/-- APPLY_ALL (R93, R94): sections that may be LIVE must be, the others must be those of the running image (DEDUCED, log
58). -/
def State.jcpApplyAll (s : State) (c : JcpCmd) : JcpDone :=
  startOp s c.k (do
    c.allowsApply
    refuseIf (decide (s.m.mode ≠ .maintain)) stModeRefused
    let i ← s.needVerified
    refuseIf (i.sections.any fun x => x.mayLive && !x.live) stNotPermitted
    refuseIf (!(s.cur.running.elim false (sameFixed · i))) stNotPermitted
    refuseIf ((applyTargets i).any s.targetBusy) stInUse
    refuseIf ((applyTargets i).any s.noStandby) stResource
    return s.beginApply (applyTargets i) true)

/-! ### IMAGE_APPLY: ABORT, programming, COMMIT_VERSION (R93, R94) -/

/-- An IMAGE event (R482). -/
def State.imageEvent (s : State) (action : Nat) : State :=
  s.raise 0x0C 0 0 ([byteOf action, 0, 0, 0] ++ beBytes 4 (s.rget .curStage 0 0).toNat)

/-- ABORT: the stage is EMPTY. A running action ends, answered IMAGE_INVALID; a running programming ends with its event
(DESIGN CHOICE, log 57). -/
def State.jcpAbort (s : State) (c : JcpCmd) : JcpDone :=
  answered s (do
    c.allowsApply
    let s1 := ((s.unverify.setStage 0).rsetFld .curStage 0 0 9 4 0).rsetFld .curStage 0 0 13 1 0
    let s2 : State := { s1 with cur := { s1.cur with applying := [], applyNow := none, programming := none } }
    let s3 := s2.endOp stImageInvalid
    let s4 := match s.cur.programming with
      | some (a, _) => s3.imageEvent a
      | none => s3
    return (s4.stageTlv, s4))

/-- The modes of actions 5 to 7. -/
def State.serviceModes (s : State) : Bool := decide (s.m.mode = .service ∨ s.m.mode = .degraded ∨ s.m.mode = .maintain)

/-- PROGRAM_A and PROGRAM_B: the other copy must verify; answered at the start. -/
def State.jcpProgram (action : Nat) (other : FlashCopy) (s : State) (c : JcpCmd) : JcpDone :=
  answered s (do
    c.allowsApply
    refuseIf (!s.serviceModes) stModeRefused
    let _ ← s.needVerified
    match s.checkCopy other with
    | .error _ => .error stInUse
    | .ok _ =>
      let s1 := State.setStage { s with cur := { s.cur with programming := some (action, s.t) } } 6
      return (s1.stageTlv, s1))

/-- Programming ends. A failure leaves the stage INVALID, so that the event tells it (DESIGN CHOICE, log 57). -/
def State.programEnd (s : State) (ok : Bool) : State :=
  match s.cur.programming with
  | none => s
  | some (a, _) =>
    let s1 : State := { s with
      cur := { s.cur with programming := none }
      programmed := if ok then s.programmed ++ [(a - 5, s.stagedBytes)] else s.programmed }
    if ok then (s1.setStage 3).imageEvent a else (s1.unverify.setStage 5).imageEvent a

/-- COMMIT_VERSION. -/
def State.jcpCommit (copyA copyB : FlashCopy) (s : State) (c : JcpCmd) : JcpDone :=
  answered s (do
    c.allowsApply
    refuseIf (!s.serviceModes) stModeRefused
    match s.cur.running, s.checkCopy copyA, s.checkCopy copyB with
    | some i, .ok a, .ok b =>
      refuseIf (decide (a.secVersion < i.secVersion ∨ b.secVersion < i.secVersion)) stNotPermitted
      refuseIf (decide (64 < i.secVersion)) stResource
      return (s.stageTlv, { s with otp := { s.otp with secVersion := max s.otp.secVersion i.secVersion } })
    | _, _, _ => .error stNotPermitted)

/-! ### Modes (R39, R48, R56) -/

/-- A MODE_REQ waits for its transition: all that do are answered. -/
def State.endModeReqs (s : State) : State :=
  (List.range s.cur.sessions.length).foldl (fun s k => s.finishRunning k 0x40 stOk s.modeTlv) s

/-- Has a port link. -/
def State.portHasLink (s : State) (p : Nat) : Bool := decide (s.portState p = 5)

/-- The conditions of R48 for transition 7 or 8. -/
def State.serviceReady (s : State) : Bool :=
  decide (s.m.mode = .linkUp) && s.m.windowOpen &&
    (s.m.limitDone || s.cur.chip.reqPorts.all s.portHasLink) &&
    (s.m.serviceAsked || (s.cur.running.elim false fun i => decide (i.flags % 2 = 1)))

/-- Transition 7 or 8: DEGRADED with a part out or the link-up limit expired (row 8 read literally: DEDUCED, log 59). -/
def State.tryService (s : State) : State :=
  if s.serviceReady then
    (if s.sup.outParts = [] ∧ s.m.limitDone = false then s.enterMode .service 7 0 else s.enterMode .degraded 8 0).endModeReqs
  else s

/-- Operations of R58 that run in MAINTAIN. -/
def State.maintaining (s : State) : Bool :=
  s.doc.swap.isSome || s.atr.reconfig.isSome || decide (s.stage = 4) ||
    (s.vde.ctx.any fun e => e.2.moveTo.isSome) || s.ven.ctx.any fun e => e.2.moveTo.isSome

/-- A test that runs in DIAGNOSTIC: a lane's TEST field is not 0. -/
def State.testing (s : State) : Bool := (List.range 96).any fun l => decide (s.rfld .atrLaneCtl 0 l 8 3 ≠ 0)

/-- A MODE_REQ that takes its transition at once. -/
def State.modeDone (s : State) (m : Mode) (num : Nat) : JcpDone :=
  let s1 := s.enterMode m num 0
  .reply stOk s1.modeTlv s1

/-- MODE_REQ naming a mode (R39). The present mode is answered OK at once, also where it is none of those that a MODE_REQ
may name (DEGRADED, RECOVERY, LINK_UP: DESIGN CHOICE, log 11). -/
def State.modeReq (s : State) (m : Mode) : JcpDone :=
  let inService := decide (s.m.mode = .service ∨ s.m.mode = .degraded)
  if m = s.m.mode then .reply stOk s.modeTlv s
  else match m with
    | .safeStop => .first (tlv 0x50 [byteOf (modeCode .safeStop)]) fun s => s.toSafeStop 0x0F
    | .powerUp => .first (tlv 0x50 [byteOf (modeCode .powerUp)]) fun s => s.toWarmReset 2
    | .maintain => if inService then s.modeDone .maintain 11 else .reply stModeRefused [] s
    | .diagnostic => if inService then s.modeDone .diagnostic 13 else .reply stModeRefused [] s
    | .service =>
      match s.m.mode with
      | .linkUp =>
        let s1 : State := { s with m := { s.m with serviceAsked := true } }
        if s1.serviceReady then .reply stOk s1.tryService.modeTlv s1.tryService else .later s1
      | .maintain => if s.maintaining then .reply stInUse [] s else s.modeDone s.landing 12
      | .diagnostic => if s.testing then .reply stInUse [] s else s.modeDone s.landing 14
      | _ => .reply stModeRefused [] s
    | _ => .reply stModeRefused [] s

/-- MODE_REQ with MODE. -/
def State.jcpMode (s : State) (c : JcpCmd) : JcpDone :=
  match (do
    c.allows 5 none
    refuseIf (!tlvsOk [(0x50, (fun n => decide (n = 1)), true)] c.tlvs) stBadTlv : Res Unit) with
  | .error e => .reply e [] s
  | .ok _ =>
    match modeOf (c.num 0x50) with
    | some m => s.modeReq m
    | none => .reply stModeRefused [] s

/-- MODE_REQ with LC_TARGET (R56): 2 DEPLOYED while the running image carries DEPLOY_PERMIT, 3 RETURNED. -/
def State.jcpLife (s : State) (c : JcpCmd) : JcpDone :=
  match (do
    c.allows 6 (some 3)
    refuseIf (!tlvsOk [(0x51, (fun n => decide (n = 1)), true)] c.tlvs) stBadTlv
    refuseIf (decide (c.num 0x51 ≠ 2 ∧ c.num 0x51 ≠ 3)) stBadValue
    refuseIf (if c.num 0x51 = 2 then
        !(decide (s.lifeCycle = 1) && s.cur.running.elim false fun i => bitN i.flags 1)
      else decide (s.lifeCycle = 0 ∨ s.lifeCycle = 3)) stModeRefused : Res Unit) with
  | .error e => .reply e [] s
  | .ok _ => .first s.modeTlv fun s => s.changeLife (c.num 0x51)

/-! ### The meanings -/

def execImageStage (d : Datagram) (s : State) : Out := .next (s.jcpReceive d 0x30 State.jcpStage)

def execVerify (d : Datagram) (s : State) : Out := .next (s.jcpReceive d 0x3101 State.jcpVerify)

/-- APPLY_BLOCK, carried on as far as no block's reload has to be waited for. -/
def execApplyBlock (d : Datagram) (s : State) : Out := .next (s.jcpReceive d 0x3102 State.jcpApplyBlock).applyOn

def execApplyAll (d : Datagram) (s : State) : Out := .next (s.jcpReceive d 0x3103 State.jcpApplyAll).applyOn

def execAbort (d : Datagram) (s : State) : Out := .next (s.jcpReceive d 0x3104 State.jcpAbort)

def execProgramA (d : Datagram) (other : FlashCopy) (s : State) : Out := .next (s.jcpReceive d 0x3105 (State.jcpProgram 5 other))

def execProgramB (d : Datagram) (other : FlashCopy) (s : State) : Out := .next (s.jcpReceive d 0x3106 (State.jcpProgram 6 other))

/-- Programming completes (R93). -/
def execImageProgramDone (ok : Bool) (s : State) : Out := .next (s.programEnd ok)

/-- 60 s without completion (R94). -/
def execProgramTimeout (s : State) : Out :=
  .next (match s.cur.programming with
    | some (_, at_) => (s.reach (at_ + 60000000000)).programEnd false
    | none => s)

def execCommitVersion (d : Datagram) (copyA copyB : FlashCopy) (s : State) : Out :=
  .next (s.jcpReceive d 0x3107 (State.jcpCommit copyA copyB))

def execModeReq (d : Datagram) (s : State) : Out := .next (s.jcpReceive d 0x4000 State.jcpMode)

def execLcTarget (d : Datagram) (s : State) : Out := .next (s.jcpReceive d 0x4001 State.jcpLife)

/-- The conditions of R48 hold. -/
def execEnterService (s : State) : Out := .next s.tryService

/-- The Curator firmware has restarted (R95): the Curator's core takes items again. -/
def execCuratorFirmwareRestarted (s : State) : Out :=
  .next (State.applyOn (State.assignWaiting { s with cur := { s.cur with restarting := false } }))

/-- A core executes WAIT (R276, R285): a cluster whose cores all have enters service, and with a core's first WAIT an image's
application may go on. -/
def execWait (core : Fin 272) (w : BitVec 26) (ecc : Fin 3) (s : State) : Out :=
  let t := s.dspWait core w ecc
  .next (if (s.core core).entered = false ∧ (t.core core).entered = true then t.applyOn else t)

/-- A reset block finishes its wipe and restore (R15). While its wing restarts it returns with the wing. -/
def execBlockResetDone (wing blk : Nat) (s : State) : Out := .next (s.blockResetDone wing blk).applyOn

/-- All standby cores are in WAIT (R298 step 2): the slot is remapped. -/
def execSwapRemap (s : State) : Out := .next s.swapRemap.applyOn

/-- The source has been reloaded and stands by (R298 step 4). -/
def execSwapSourceReloaded (s : State) : Out := .next s.swapSourceReloaded.applyOn

end Sys2Proof.Machine
end

