-- ==== Sys2Proof/Machine/Boot.lean ====
section
/-!
DEFINITION. The boot sequencer: POWER_UP, WIPE, LOAD, SELF_TEST and the link-up limit (R38, R45 to R52, R404 to R408).
-/

namespace Sys2Proof.Machine

/-- Every listed block of wings 1 to 4. -/
def wingBlockList : List (Nat × Nat) := allBlocks.filter fun e => decide (e.1 ≠ 0)

/-- Every block of the wings shows a STATE (R21). -/
def State.allBlkState (s : State) (st : Nat) : State := wingBlockList.foldl (fun s e => s.setBlkState e.1 e.2 st) s

/-- A boot phase ends by transition `num`, and the next begins with the transition after it running toward `next`, as
CUR_MODE reads at reset for POWER_UP (R35). -/
def State.bootPhase (s : State) (m : Mode) (num : Nat) (next : Option Mode) : State :=
  let s1 := s.enterMode m num 0
  { s1 with m := { s1.m with target := next, num := if next.isSome then num + 1 else num } }

/-! ### POWER_UP (R45, R404 to R406, R476) -/

/-- The rails are up or coming up. -/
def State.railsRun (s : State) : Bool := !s.rails.failed && !s.rails.stopped && decide (s.rails.step ≠ 0)

/-- What training leaves in the memory controller's registers. -/
def State.trained (s : State) (r : PowerUpReport) : State :=
  let fall := decide (r.fail1 ≠ [])
  let s1 := s.rset .mctTrain 0 0 (wordOf [(0, if fall then 2 else 1), (2, b2n fall), (16, r.trainMs % 65536)])
  let s2 := ((r.margins.take 48).zip (List.range 48)).foldl (fun (s : State) e =>
    (s.rsetFld .mctChStatus 0 e.2 4 8 (min 255 e.1.1)).rsetFld .mctChStatus 0 e.2 12 8 (min 255 e.1.2)) s1
  { s2 with mct := { s2.mct with startMargin := ((List.range 48).zip (r.margins.take 48)).map fun e => (e.1, e.2) } }

/-- No rate is common: the failing channels are recorded, SAFE_STOP follows. R458 lists no cause for it (free value, log 60). -/
def State.trainFails (s : State) (l : List Nat) : State :=
  let s1 := l.foldl (fun s c => if c < 48 then s.rsetFld .mctChStatus 0 c 0 2 3 else s) s
  let r := (s1.flag .mctErr 0 0 5).draw 8
  r.2.toSafeStop r.1

/-- POWER_UP completes: rails good, PLLs locked, the address strap sampled, every channel trained; the wipe starts. -/
def execPowerUpDone (report : PowerUpReport) (s : State) : Out :=
  .next (if s.m.mode = .powerUp ∧ s.railsRun = true then
      let s1 : State := { s with pins := { s.pins with strap := report.strap }, rails := { s.rails with step := 6 } }
      let s2 := s1.rset .chpClkLock 0 0 0x1F7F
      if report.fail1 ≠ [] ∧ report.fail2 ≠ [] then
        (s2.rset .mctTrain 0 0 (wordOf [(16, report.trainMs % 65536)])).trainFails report.fail2
      else ((s2.trained report).allBlkState 2).bootPhase .wipe 3 (some .load)
    else s)

/-! ### WIPE (R49 to R52) -/

/-- The wipes complete and the read-back starts. -/
def execWipeDone (ms : Nat) (s : State) : Out :=
  .next (if s.m.mode = .wipe ∧ s.m.readback = false then
      let s1 := s.wiped.rsetFld .curWipeStatus 0 0 8 8 (min 255 ms)
      { s1 with m := { s1.m with readback := true } }
    else s)

/-- The read-back's sample under a seed (R51): one 64-byte burst in every MiB of GDDR7. -/
def gddrSampled (seed burst : Nat) : Bool :=
  decide (Config.wipeSample seed 0 (burst / 16384) % 16384 = burst % 16384)

/-- The read-back's sample under a seed (R51): one 32-bit word in every 4 KiB of SRAM `mem`. -/
def sramSampled (seed : Nat) (word : Nat × Nat) : Bool :=
  decide (Config.wipeSample seed (1 + word.1) (word.2 / 1024) % 1024 = word.2 % 1024)

/-- No sampled burst of GDDR7 is poisoned or holds a byte other than 0, be it in the memory as modelled or one of the bursts
that the wipe left damaged. -/
def State.gddrClean (s : State) (seed : Nat) (damaged : List Nat) : Bool :=
  s.gddr.all (fun e => !gddrSampled seed (e.1 / 64)) && s.poisoned.all (fun b => !gddrSampled seed b) &&
    damaged.all fun b => !gddrSampled seed b

/-- The read-back ends: LOAD, one repeat of the wipe, or SAFE_STOP. `sram` and `gddr` are the words (memory and word) and
bursts that the wipe left non-zero or with an ECC error; those that the sample meets count. The sampler is seeded afresh
(free value). A word that is not zero is a hit of checker 7 (R440). -/
def execReadbackDone (sram : List (Nat × Nat)) (gddr : List Nat) (s : State) : Out :=
  .next (if s.m.mode = .wipe ∧ s.m.readback = true then
      let seed := (s.draw 32).1
      let sramOk := sram.all fun w => !sramSampled seed w
      let gddrOk := s.gddrClean seed gddr
      let s0 : State := { (s.draw 32).2 with m := { s.m with readback := false } }
      if sramOk && gddrOk then
        ((s0.rsetFld .curWipeStatus 0 0 0 1 0).allBlkState 3).bootPhase .load 4 (some .selfTest)
      else
        let s1 := s0.setErr 0 0 7
        if s.m.repeated then
          let s2 := if sramOk then s1 else s1.flag .curWipeStatus 0 0 1
          (if gddrOk then s2 else s2.flag .curWipeStatus 0 0 2).toSafeStop 0x12
        else
          let s2 := s1.flag .curWipeStatus 0 0 3
          { s2 with m := { s2.m with repeated := true } }
    else s)

/-! ### LOAD (R46, R69, R70, R408) -/

/-- Check and apply a copy; a failure leaves nothing of it. -/
def State.loadCopy (s : State) (c : FlashCopy) : Res (ImageInfo × State) := do
  let i ← s.checkCopy c
  let s1 ← s.applyImage i
  return (i, s1)

/-- A copy has failed: its bit and its reason. `k` is 0 for A, 1 for B. -/
def State.copyFails (s : State) (k reason : Nat) : State :=
  (s.flag .curBootStatus 0 0 (2 + k)).rsetFld .curBootStatus 0 0 (4 + 4 * k) 4 reason

/-- A copy is in use: its registers; every block runs, the standby cluster stands by (R21). -/
def State.loaded (s : State) (copy : Nat) (i : ImageInfo) : State :=
  let s1 := ((s.rsetFld .curBootStatus 0 0 0 2 copy).rset .curImageId 0 0 (BitVec.ofNat 32 i.buildId)).rset .curImageSkip 0 0
    (BitVec.ofNat 32 (min 255 i.skipped))
  let s2 := s1.allBlkState 4
  let s3 := match s2.standby with
    | some cl => s2.setBlkState 2 (16 + cl) 6
    | none => s2
  s3.bootPhase .selfTest 5 (some .linkUp)

/-- LOAD ends with copy A, with copy B, or with neither (R46). -/
def execLoadDone (copyA copyB : FlashCopy) (s : State) : Out :=
  .next (if s.m.mode = .load then
      match s.loadCopy copyA with
      | .ok (i, s1) => s1.loaded 1 i
      | .error a =>
        let s1 := s.copyFails 0 a
        match s1.loadCopy copyB with
        | .ok (i, s2) => s2.loaded 2 i
        | .error b => (s1.copyFails 1 b).toSafeStop 0x11
    else s)

/-! ### SELF_TEST (R48) -/

/-- A failed part as the replaceable part it stands for, none where it is irreplaceable (R455). -/
def selfTestPart : Part → Option Part
  | .aes _ | .sha _ | .checker _ | .gddrChannel _ => none
  | .sramRow w b c spare => if spare then some (.sramRow w b c spare) else none
  | .block w b =>
    match blockTrigger w b 0 with
    | .part p _ => some p
    | _ => none
  | p => some p

/-- A part that fails in SELF_TEST and is replaced or recorded. Kind and place of a repaired row's record are not given (free
values, log 61). -/
def State.selfTestOut (s : State) : Part → State
  | .sramRow w b c _ =>
    let k := s.draw 2
    let p := k.2.draw 32
    p.2.cellLog w b c (1 + k.1) p.1
  | p =>
    let s1 := s.takeOut p 0
    if s1.partIsOut (partRecorded p) then s1.flag .curBootStatus 0 0 12 else s1

/-- The end of SELF_TEST without an irreplaceable failure: ports start, the chip watchdog is armed (R45, R450). -/
def State.toLinkUp (s : State) : State :=
  let s1 := s.bootPhase .linkUp 6 none
  State.startAllPorts { s1 with
    m := { s1.m with linkUpAt := s1.t }
    sup := { s1.sup with deadline := some (s1.t + 2000000000) } }

/-- SELF_TEST ends. -/
def execSelftestDone (failed : List Part) (s : State) : Out :=
  .next (if s.m.mode = .selfTest then
      let s1 := (failed.filterMap selfTestPart).foldl State.selfTestOut s
      let codes := failed.filterMap fun p => match p with
        | .checker c => some c
        | _ => none
      if codes ≠ [] then (codes.foldl State.checkerFails s1).toSafeStop 0x06
      else if failed.any fun p => (selfTestPart p).isNone then s1.toSafeStop 0x10
      else s1.toLinkUp
    else s)

/-! ### Bounds (R38, R48) -/

/-- A boot phase overruns its bound. -/
def execBootPhaseTimeout (s : State) : Out :=
  .next (match s.m.mode with
    | .powerUp => if s.railsRun then s.toWarmReset 3 else s
    | .wipe | .load | .selfTest => s.toWarmReset 3
    | _ => s)

/-- The required ports without link, as REQ_PORTS lays them out (R66). -/
def State.missingPorts (s : State) : Bytes :=
  let l := s.cur.chip.reqPorts.filter fun p => !s.portHasLink p
  (List.range 12).map fun i => byteOf (((List.range 8).map fun j => if l.contains (8 * i + j) then 2 ^ j else 0).sum)

/-- The link-up limit has expired: it acts where a session is open, and otherwise from when one is (DEDUCED, log 59). -/
def execLinkUpLimitExpiry (s : State) : Out :=
  .next (if s.m.mode = .linkUp ∧ s.m.limitDone = false then
      let s1 := s.reach (s.m.linkUpAt + s.cur.chip.linkLimit * 1000000000)
      if s1.cur.sessions.any fun x => x.confirmed.isSome then
        let s2 := (State.flag { s1 with m := { s1.m with limitDone := true } } .curBootStatus 0 0 13).raise 7 0 0 s1.missingPorts
        s2.tryService
      else s1
    else s)

end Sys2Proof.Machine
end

