-- ==== Sys2Proof/Machine/Monitors.lean ====
section
/-!
DEFINITION. The monitors: temperature, throttling, voltage, process (R451 to R454).
-/

namespace Sys2Proof.Machine

/-- The monitors sample while the die is powered. -/
def State.monitorsRun (s : State) : Bool := decide (s.m.mode ≠ .off)

/-- An ERROR event of the monitors block. -/
def State.monitorEvent (s : State) : State :=
  s.raise 0x0B 0 0 ([0, 1, 0, 0] ++ beBytes 4 (s.errStatus 0 1).toNat)

/-- A sample of one temperature sensor, in 0.125 °C: the range check, the step check from the second sample on; a failed
sensor is marked and ignored (R451). -/
def State.sampleSensor (s : State) (i : Nat) (v : Int) : State :=
  let x := s.sup.sensors.getD i {}
  let bad := decide (v < -320 ∨ 1200 < v) || match x.last with
    | some w => decide (160 < v - w ∨ 160 < w - v)
    | none => false
  let failed := x.failed || bad
  let crit := if !failed && decide ((s.rfld .chpTempTh 0 0 16 8 : Int) * 8 ≤ v) then x.crit + 1 else 0
  let s1 := s.rset .chpTemp 0 i (BitVec.ofNat 32 (unsgn 12 v + 4096 * b2n failed))
  let s2 : State := { s1 with sup := { s1.sup with sensors := lset s1.sup.sensors i ⟨some v, failed, crit⟩ } }
  if bad && !x.failed then ((s2.rbit .chpMonErr 0 0 2)).monitorEvent else s2

/-- The hottest reading of the working sensors with its sensor, in 0.125 °C. -/
def State.hottest (s : State) : Option (Int × Nat) :=
  ((List.range 32).zip s.sup.sensors).foldl (fun b e =>
    match e.2.last, e.2.failed with
    | some v, false => match b with
      | some (w, _) => if w < v then some (v, e.1) else b
      | none => some (v, e.1)
    | _, _ => b) none

/-- All sensors are sampled (R451, R452, R470). -/
def State.sampleTemps (s : State) (readings : List Int) : State :=
  let s1 := ((List.range 32).zip readings).foldl (fun s e => s.sampleSensor e.1 e.2) s
  let s2 := match s1.hottest with
    | none => s1
    | some (v, i) =>
      let deg := (v / 8).toNat
      let th := s1.rfld .chpTempTh 0 0 8 8
      let hot := decide ((th : Int) * 8 ≤ v)
      let cool := decide (v < ((th : Int) - 5) * 8)
      let a := (s1.rsetFld .chpThrottle 0 0 8 8 deg).rsetFld .chpThrottle 0 0 16 5 i
      let b : State := { a with sup := { a.sup with
        hotSince := if hot then some (a.sup.hotSince.getD a.t) else none
        coolSince := if cool then some (a.sup.coolSince.getD a.t) else none } }
      if (s1.rfld .chpTempTh 0 0 0 8 : Int) * 8 ≤ v then b.flag .chpMonErr 0 0 0 else b
  let s3 := if s2.sup.sensors.any fun x => decide (2 ≤ x.crit) then s2.report (.critical 0x07) else s2
  if 8 ≤ countIf (fun x => x.failed) s3.sup.sensors then s3.report (.critical 0x09) else s3

/-- A change of the throttle level (R452): scaled limits by a LIMITS event, a fault-log entry. -/
def State.setThrottle (s : State) (lv : Nat) : State :=
  let s1 := s.withLimits (fun s => s.rsetFld .chpThrottle 0 0 0 3 lv) []
  s1.logFault 0x0B 0 1 (lv + 256 * s1.rfld .chpThrottle 0 0 8 8 + 65536 * s1.rfld .chpThrottle 0 0 16 5) 0

/-- Nominal voltage of a rail in mV (R468). -/
def railNominal (r : Nat) : Nat :=
  [750, 750, 800, 750, 750, 750, 1050, 900, 1200, 1100, 1800, 1800, 800, 850, 1200, 1200, 1200, 1200, 1200].getD r 0

/-- Is a reading outside a percentage of nominal. -/
def railOff (r mv pct : Nat) : Bool :=
  let n := railNominal r
  decide (n * pct < (max mv n - min mv n) * 100)

/-- The rails that are judged (R453, R468): none until rails are good, not rails 14 to 18 while they are off. Rail 19 is
only reported. -/
def State.railJudged (s : State) (r : Nat) : Bool :=
  decide (s.rails.step = 6 ∧ r ≤ 18) && !(s.rails.gddrOff && decide (14 ≤ r))

/-- A sample of one rail in mV (rail 19 in units of 2 mV). -/
def State.sampleRail (s : State) (r mv : Nat) : State :=
  let old := s.rfld .chpVmon 0 r 16 1
  let s1 := s.rsetFld .chpVmon 0 r 0 16 (min 65535 mv)
  if s1.railJudged r then
    let run := if railOff r mv 6 then ngetD 0 s1.sup.railRun r + 1 else 0
    let s2 : State := { s1 with sup := { s1.sup with railRun := nputD 0 s1.sup.railRun r run } }
    let s3 := if railOff r mv 3 then
        let a := (s2.rbit .chpVmon 0 r 16).rbit .chpMonErr 0 0 3
        if old = 0 then a.monitorEvent.logFault 0x0C 0 1 (r + 65536 * min 65535 mv) 0 else a
      else s2
    if 2 ≤ run then s3.report (.critical 0x08) else s3
  else s1

/-- A count of one process monitor (R454). -/
def State.sampleProcess (s : State) (i n : Nat) : State :=
  let old := s.rfld .chpPmon 0 i 20 1
  let s1 := s.rsetFld .chpPmon 0 i 0 20 (min 1048575 n)
  if n * 100 < 92 * s.otp.baseline.getD i 0 then
    let a := (s1.rbit .chpPmon 0 i 20).rbit .chpMonErr 0 0 4
    if old = 0 then a.monitorEvent.logFault 0x0D 0 1 (i + 4096 * min 1048575 n) 0 else a
  else s1

/-! ### The meanings -/

/-- Readings of sensors 0 to 31 in 0.125 °C. -/
def execTempSample (readings : List Int) (s : State) : Out :=
  .next (if s.monitorsRun then s.sampleTemps readings else s)

/-- 100 ms at or above THROTTLE (R452). -/
def execThrottleRise (s : State) : Out :=
  match s.sup.hotSince with
  | none => .next s
  | some x =>
    let s1 := s.reach (x + 100000000)
    let s2 : State := { s1 with sup := { s1.sup with hotSince := some s1.t } }
    let lv := s2.rfld .chpThrottle 0 0 0 3
    .next (if lv < 4 then (s2.setThrottle (lv + 1)).flag .chpMonErr 0 0 1 else s2)

/-- 1 s below THROTTLE − 5 °C (R452). -/
def execThrottleFall (s : State) : Out :=
  match s.sup.coolSince with
  | none => .next s
  | some x =>
    let s1 := s.reach (x + 1000000000)
    let s2 : State := { s1 with sup := { s1.sup with coolSince := some s1.t } }
    let lv := s2.rfld .chpThrottle 0 0 0 3
    .next (if lv = 0 then s2 else s2.setThrottle (lv - 1))

/-- Readings of rails 0 to 19. -/
def execVoltageSample (readings : List Nat) (s : State) : Out :=
  .next (if s.monitorsRun then ((List.range 20).zip readings).foldl (fun s e => s.sampleRail e.1 e.2) s else s)

/-- Counts of ring oscillators 0 to 11. -/
def execProcessSample (readings : List Nat) (s : State) : Out :=
  .next (if s.monitorsRun then ((List.range 12).zip readings).foldl (fun s e => s.sampleProcess e.1 e.2) s else s)

end Sys2Proof.Machine
end

