-- ==== Sys2Proof/Machine/Dispatch.lean ====
section
/-! DEFINITION. The dispatch: one arm per constructor of Instr, each one direct call of its meaning. -/

namespace Sys2Proof.Machine

def exec (i : Instr) (s : State) : Host.Outcome State Fault Refusal :=
  match i with
  | .offTransition cause => Sys2Proof.Machine.execOffTransition cause s
  | .powerOn vinMv porb => Sys2Proof.Machine.execPowerOn vinMv porb s
  | .railRetry => Sys2Proof.Machine.execRailRetry s
  | .powerUpDone report => Sys2Proof.Machine.execPowerUpDone report s
  | .wipeDone ms => Sys2Proof.Machine.execWipeDone ms s
  | .readbackDone sram gddr => Sys2Proof.Machine.execReadbackDone sram gddr s
  | .loadDone copyA copyB => Sys2Proof.Machine.execLoadDone copyA copyB s
  | .selftestDone failed => Sys2Proof.Machine.execSelftestDone failed s
  | .bootPhaseTimeout => Sys2Proof.Machine.execBootPhaseTimeout s
  | .enterService => Sys2Proof.Machine.execEnterService s
  | .linkUpLimitExpiry => Sys2Proof.Machine.execLinkUpLimitExpiry s
  | .wingRestartDone => Sys2Proof.Machine.execWingRestartDone s
  | .recoveryWindowExpiry => Sys2Proof.Machine.execRecoveryWindowExpiry s
  | .hello d => Sys2Proof.Machine.execHello d s
  | .read d => Sys2Proof.Machine.execRead d s
  | .write d => Sys2Proof.Machine.execWrite d s
  | .registerWrite addr v => Sys2Proof.Machine.execRegisterWrite addr v s
  | .objCreate d => Sys2Proof.Machine.execObjCreate d s
  | .objModify d => Sys2Proof.Machine.execObjModify d s
  | .objDelete d => Sys2Proof.Machine.execObjDelete d s
  | .keyInstall d => Sys2Proof.Machine.execKeyInstall d s
  | .imageStage d => Sys2Proof.Machine.execImageStage d s
  | .verify d => Sys2Proof.Machine.execVerify d s
  | .imageVerifyDone => Sys2Proof.Machine.execImageVerifyDone s
  | .applyBlock d => Sys2Proof.Machine.execApplyBlock d s
  | .applyAll d => Sys2Proof.Machine.execApplyAll d s
  | .abort d => Sys2Proof.Machine.execAbort d s
  | .programA d other => Sys2Proof.Machine.execProgramA d other s
  | .programB d other => Sys2Proof.Machine.execProgramB d other s
  | .imageProgramDone ok => Sys2Proof.Machine.execImageProgramDone ok s
  | .programTimeout => Sys2Proof.Machine.execProgramTimeout s
  | .commitVersion d copyA copyB => Sys2Proof.Machine.execCommitVersion d copyA copyB s
  | .modeReq d => Sys2Proof.Machine.execModeReq d s
  | .lcTarget d => Sys2Proof.Machine.execLcTarget d s
  | .stats d => Sys2Proof.Machine.execStats d s
  | .eventAck d => Sys2Proof.Machine.execEventAck d s
  | .eventResend session seq => Sys2Proof.Machine.execEventResend session seq s
  | .jtagProvision hash => Sys2Proof.Machine.execJtagProvision hash s
  | .jtagReturn msg qx qy r sg => Sys2Proof.Machine.execJtagReturn msg qx qy r sg s
  | .cellTimeout wing blk cell tx => Sys2Proof.Machine.execCellTimeout wing blk cell tx s
  | .blockReset wing v => Sys2Proof.Machine.execBlockReset wing v s
  | .blockResetDone wing blk => Sys2Proof.Machine.execBlockResetDone wing blk s
  | .cdcParityError wing blk queue => Sys2Proof.Machine.execCdcParityError wing blk queue s
  | .pllLossOfLock pll => Sys2Proof.Machine.execPllLossOfLock pll s
  | .clockInputLost input => Sys2Proof.Machine.execClockInputLost input s
  | .chpTbSnap v => Sys2Proof.Machine.execChpTbSnap v s
  | .ptpLoss => Sys2Proof.Machine.execPtpLoss s
  | .ppsInEdge highNs => Sys2Proof.Machine.execPpsInEdge highNs s
  | .ppsOutRise => Sys2Proof.Machine.execPpsOutRise s
  | .ppsOutFall => Sys2Proof.Machine.execPpsOutFall s
  | .counterLowRead addr => Sys2Proof.Machine.execCounterLowRead addr s
  | .portReconfig port cfg adv => Sys2Proof.Machine.execPortReconfig port cfg adv s
  | .atrQuadRate quad v => Sys2Proof.Machine.execAtrQuadRate quad v s
  | .atrLaneTxfir lane v => Sys2Proof.Machine.execAtrLaneTxfir lane v s
  | .laneTest lane v => Sys2Proof.Machine.execLaneTest lane v s
  | .agcRelease lane v => Sys2Proof.Machine.execAgcRelease lane v s
  | .atrCntClr v => Sys2Proof.Machine.execAtrCntClr v s
  | .breakLinkTimerExpiry port => Sys2Proof.Machine.execBreakLinkTimerExpiry port s
  | .anComplete port partner => Sys2Proof.Machine.execAnComplete port partner s
  | .trainingDone port fir rx => Sys2Proof.Machine.execTrainingDone port fir rx s
  | .maxWaitTimerExpiry port => Sys2Proof.Machine.execMaxWaitTimerExpiry port s
  | .receiverLock lock => Sys2Proof.Machine.execReceiverLock lock s
  | .reconfigLockTimeout port => Sys2Proof.Machine.execReconfigLockTimeout port s
  | .blockLock lane rx => Sys2Proof.Machine.execBlockLock lane rx s
  | .blockLockLost lane => Sys2Proof.Machine.execBlockLockLost lane s
  | .linkDown port cause => Sys2Proof.Machine.execLinkDown port cause s
  | .linkFailInhibitExpiry port => Sys2Proof.Machine.execLinkFailInhibitExpiry port s
  | .linkUpHoldExpiry port => Sys2Proof.Machine.execLinkUpHoldExpiry port s
  | .macReceive port frame fec => Sys2Proof.Machine.execMacReceive port frame fec s
  | .registrarParse port ue => Sys2Proof.Machine.execRegistrarParse port ue s
  | .catalogueRewrite stream => Sys2Proof.Machine.execCatalogueRewrite stream s
  | .rgsJcpRate v => Sys2Proof.Machine.execRgsJcpRate v s
  | .rgsPuntRate port v => Sys2Proof.Machine.execRgsPuntRate port v s
  | .rgsCntClrDrops => Sys2Proof.Machine.execRgsCntClrDrops s
  | .rgsCntClrPortGo port => Sys2Proof.Machine.execRgsCntClrPortGo port s
  | .srtpIngress ue => Sys2Proof.Machine.execSrtpIngress ue s
  | .srtpEgress ue => Sys2Proof.Machine.execSrtpEgress ue s
  | .keySlotRewrite slot => Sys2Proof.Machine.execKeySlotRewrite slot s
  | .keySweep => Sys2Proof.Machine.execKeySweep s
  | .katRound aes ghash sha => Sys2Proof.Machine.execKatRound aes ghash sha s
  | .jobSubmit core job => Sys2Proof.Machine.execJobSubmit core job s
  | .cbcEncrypt => Sys2Proof.Machine.execCbcEncrypt s
  | .cbcDecrypt => Sys2Proof.Machine.execCbcDecrypt s
  | .ctr => Sys2Proof.Machine.execCtr s
  | .cfbEncrypt => Sys2Proof.Machine.execCfbEncrypt s
  | .cfbDecrypt => Sys2Proof.Machine.execCfbDecrypt s
  | .gcmEncrypt => Sys2Proof.Machine.execGcmEncrypt s
  | .gcmDecrypt => Sys2Proof.Machine.execGcmDecrypt s
  | .ctxWrite => Sys2Proof.Machine.execCtxWrite s
  | .jobDone => Sys2Proof.Machine.execJobDone s
  | .vltCntClrDrops => Sys2Proof.Machine.execVltCntClrDrops s
  | .vltCntClrJobs => Sys2Proof.Machine.execVltCntClrJobs s
  | .alloc client size yellow wait => Sys2Proof.Machine.execAlloc client size yellow wait s
  | .inc client handle n => Sys2Proof.Machine.execInc client handle n s
  | .dec client handle => Sys2Proof.Machine.execDec client handle s
  | .share client handle mask => Sys2Proof.Machine.execShare client handle mask s
  | .cloPoolCfg pool v => Sys2Proof.Machine.execCloPoolCfg pool v s
  | .cloCntClrCounters => Sys2Proof.Machine.execCloCntClrCounters s
  | .cloCntClrLow => Sys2Proof.Machine.execCloCntClrLow s
  | .enqueue client queue desc => Sys2Proof.Machine.execEnqueue client queue desc s
  | .descriptorExtend queue len complete poison => Sys2Proof.Machine.execDescriptorExtend queue len complete poison s
  | .dequeue queue => Sys2Proof.Machine.execDequeue queue s
  | .slotFill queue => Sys2Proof.Machine.execSlotFill queue s
  | .queueTimeout queue => Sys2Proof.Machine.execQueueTimeout queue s
  | .stkCntClr => Sys2Proof.Machine.execStkCntClr s
  | .fanoutWalk source => Sys2Proof.Machine.execFanoutWalk source s
  | .subCacheFill sub ue => Sys2Proof.Machine.execSubCacheFill sub ue s
  | .rtcpFeedback => Sys2Proof.Machine.execRtcpFeedback s
  | .rtxAge stream => Sys2Proof.Machine.execRtxAge stream s
  | .fwdCntClr => Sys2Proof.Machine.execFwdCntClr s
  | .dequeueDecision port => Sys2Proof.Machine.execDequeueDecision port s
  | .shaperRefill level index => Sys2Proof.Machine.execShaperRefill level index s
  | .tmgCntClr => Sys2Proof.Machine.execTmgCntClr s
  | .nop core w ecc => Sys2Proof.Machine.execNop core w ecc s
  | .add core w ecc => Sys2Proof.Machine.execAdd core w ecc s
  | .sub core w ecc => Sys2Proof.Machine.execSub core w ecc s
  | .adds core w ecc => Sys2Proof.Machine.execAdds core w ecc s
  | .subs core w ecc => Sys2Proof.Machine.execSubs core w ecc s
  | .and core w ecc => Sys2Proof.Machine.execAnd core w ecc s
  | .or core w ecc => Sys2Proof.Machine.execOr core w ecc s
  | .xor core w ecc => Sys2Proof.Machine.execXor core w ecc s
  | .shl core w ecc => Sys2Proof.Machine.execShl core w ecc s
  | .shr core w ecc => Sys2Proof.Machine.execShr core w ecc s
  | .asr core w ecc => Sys2Proof.Machine.execAsr core w ecc s
  | .min core w ecc => Sys2Proof.Machine.execMin core w ecc s
  | .max core w ecc => Sys2Proof.Machine.execMax core w ecc s
  | .abs core w ecc => Sys2Proof.Machine.execAbs core w ecc s
  | .cmp core w ecc => Sys2Proof.Machine.execCmp core w ecc s
  | .mov core w ecc => Sys2Proof.Machine.execMov core w ecc s
  | .pack core w ecc => Sys2Proof.Machine.execPack core w ecc s
  | .addi core w ecc => Sys2Proof.Machine.execAddi core w ecc s
  | .cmpi core w ecc => Sys2Proof.Machine.execCmpi core w ecc s
  | .movs core w ecc => Sys2Proof.Machine.execMovs core w ecc s
  | .ld core w ecc => Sys2Proof.Machine.execLd core w ecc s
  | .ldh core w ecc => Sys2Proof.Machine.execLdh core w ecc s
  | .ldd core w ecc => Sys2Proof.Machine.execLdd core w ecc s
  | .st core w ecc => Sys2Proof.Machine.execSt core w ecc s
  | .sth core w ecc => Sys2Proof.Machine.execSth core w ecc s
  | .std core w ecc => Sys2Proof.Machine.execStd core w ecc s
  | .lda core w ecc => Sys2Proof.Machine.execLda core w ecc s
  | .sta core w ecc => Sys2Proof.Machine.execSta core w ecc s
  | .mac core w ecc => Sys2Proof.Machine.execMac core w ecc s
  | .qmacr core w ecc => Sys2Proof.Machine.execQmacr core w ecc s
  | .qmac core w ecc => Sys2Proof.Machine.execQmac core w ecc s
  | .dmac core w ecc => Sys2Proof.Machine.execDmac core w ecc s
  | .tapmac core w ecc => Sys2Proof.Machine.execTapmac core w ecc s
  | .mova core w ecc => Sys2Proof.Machine.execMova core w ecc s
  | .clra core w ecc => Sys2Proof.Machine.execClra core w ecc s
  | .ldad core w ecc => Sys2Proof.Machine.execLdad core w ecc s
  | .sha core w ecc => Sys2Proof.Machine.execSha core w ecc s
  | .adda core w ecc => Sys2Proof.Machine.execAdda core w ecc s
  | .br core w ecc => Sys2Proof.Machine.execBr core w ecc s
  | .call core w ecc => Sys2Proof.Machine.execCall core w ecc s
  | .ret core w ecc => Sys2Proof.Machine.execRet core w ecc s
  | .reti core w ecc => Sys2Proof.Machine.execReti core w ecc s
  | .jmpr core w ecc => Sys2Proof.Machine.execJmpr core w ecc s
  | .loop core w ecc => Sys2Proof.Machine.execLoop core w ecc s
  | .loopr core w ecc => Sys2Proof.Machine.execLoopr core w ecc s
  | .endl core w ecc => Sys2Proof.Machine.execEndl core w ecc s
  | .wait core w ecc => Sys2Proof.Machine.execWait core w ecc s
  | .trap core w ecc => Sys2Proof.Machine.execTrap core w ecc s
  | .di core w ecc => Sys2Proof.Machine.execDi core w ecc s
  | .ei core w ecc => Sys2Proof.Machine.execEi core w ecc s
  | .pmctlUnlockAll core w ecc => Sys2Proof.Machine.execPmctlUnlockAll core w ecc s
  | .pmctlLock core w ecc => Sys2Proof.Machine.execPmctlLock core w ecc s
  | .pmctlInvalidate core w ecc => Sys2Proof.Machine.execPmctlInvalidate core w ecc s
  | .movi core w imm ecc => Sys2Proof.Machine.execMovi core w imm ecc s
  | .jmpl core w imm ecc => Sys2Proof.Machine.execJmpl core w imm ecc s
  | .calll core w imm ecc => Sys2Proof.Machine.execCalll core w imm ecc s
  | .ldx core w imm ecc => Sys2Proof.Machine.execLdx core w imm ecc s
  | .stx core w imm ecc => Sys2Proof.Machine.execStx core w imm ecc s
  | .lddx core w imm ecc => Sys2Proof.Machine.execLddx core w imm ecc s
  | .stdx core w imm ecc => Sys2Proof.Machine.execStdx core w imm ecc s
  | .doorbell core => Sys2Proof.Machine.execDoorbell core s
  | .resRead core tag => Sys2Proof.Machine.execResRead core tag s
  | .moveGo core desc => Sys2Proof.Machine.execMoveGo core desc s
  | .moveComplete move => Sys2Proof.Machine.execMoveComplete move s
  | .coreItemWatchdog core => Sys2Proof.Machine.execCoreItemWatchdog core s
  | .dspCntClr cluster => Sys2Proof.Machine.execDspCntClr cluster s
  | .itemPost type source flow prio payload => Sys2Proof.Machine.execItemPost type source flow prio payload s
  | .postGo core item => Sys2Proof.Machine.execPostGo core item s
  | .itemDoneOk core => Sys2Proof.Machine.execItemDoneOk core s
  | .itemDoneFailed core => Sys2Proof.Machine.execItemDoneFailed core s
  | .docSwap v => Sys2Proof.Machine.execDocSwap v s
  | .swapRemap => Sys2Proof.Machine.execSwapRemap s
  | .swapDrainDone => Sys2Proof.Machine.execSwapDrainDone s
  | .swapDrainTimeout => Sys2Proof.Machine.execSwapDrainTimeout s
  | .swapSourceReloaded => Sys2Proof.Machine.execSwapSourceReloaded s
  | .docFenceClr v => Sys2Proof.Machine.execDocFenceClr v s
  | .docCntClr => Sys2Proof.Machine.execDocCntClr s
  | .jitterAccept stream => Sys2Proof.Machine.execJitterAccept stream s
  | .audioTick => Sys2Proof.Machine.execAudioTick s
  | .mixPoint conf => Sys2Proof.Machine.execMixPoint conf s
  | .afbCntClr => Sys2Proof.Machine.execAfbCntClr s
  | .peerHelloSend => Sys2Proof.Machine.execPeerHelloSend s
  | .peerHello => Sys2Proof.Machine.execPeerHello s
  | .peerLost device => Sys2Proof.Machine.execPeerLost device s
  | .curCasCntClr => Sys2Proof.Machine.execCurCasCntClr s
  | .assemblePacket stream => Sys2Proof.Machine.execAssemblePacket stream s
  | .auWaitExpiry stream => Sys2Proof.Machine.execAuWaitExpiry stream s
  | .pictureStart engine pic => Sys2Proof.Machine.execPictureStart engine pic s
  | .pictureDone engine result => Sys2Proof.Machine.execPictureDone engine result s
  | .contextMigrate stream => Sys2Proof.Machine.execContextMigrate stream s
  | .vdeCntClr engine => Sys2Proof.Machine.execVdeCntClr engine s
  | .vdePgCntClrCounters => Sys2Proof.Machine.execVdePgCntClrCounters s
  | .vdePgCntClrLow => Sys2Proof.Machine.execVdePgCntClrLow s
  | .frameDue output => Sys2Proof.Machine.execFrameDue output s
  | .frameBegin pipe => Sys2Proof.Machine.execFrameBegin pipe s
  | .blockRowDone pipe => Sys2Proof.Machine.execBlockRowDone pipe s
  | .cmpCoefWrite luma chroma => Sys2Proof.Machine.execCmpCoefWrite luma chroma s
  | .cmpCntClr => Sys2Proof.Machine.execCmpCntClr s
  | .encodeRow engine rows => Sys2Proof.Machine.execEncodeRow engine rows s
  | .packetise output => Sys2Proof.Machine.execPacketise output s
  | .venCntClr engine => Sys2Proof.Machine.execVenCntClr engine s
  | .memoryRead source addr len faults grants => Sys2Proof.Machine.execMemoryRead source addr len faults grants s
  | .memoryWrite source addr data faults grants => Sys2Proof.Machine.execMemoryWrite source addr data faults grants s
  | .refresh channel bank => Sys2Proof.Machine.execRefresh channel bank s
  | .retrainVisit read write => Sys2Proof.Machine.execRetrainVisit read write s
  | .scrubStep channel step => Sys2Proof.Machine.execScrubStep channel step s
  | .devicePowerDown device => Sys2Proof.Machine.execDevicePowerDown device s
  | .mctCntClr => Sys2Proof.Machine.execMctCntClr s
  | .supervisorDecision faults => Sys2Proof.Machine.execSupervisorDecision faults s
  | .chpLegIsoClr v => Sys2Proof.Machine.execChpLegIsoClr v s
  | .selftestRound passed => Sys2Proof.Machine.execSelftestRound passed s
  | .blockWatchdogExpiry wing watch => Sys2Proof.Machine.execBlockWatchdogExpiry wing watch s
  | .heartbeat silent => Sys2Proof.Machine.execHeartbeat silent s
  | .heartbeatMiss wing => Sys2Proof.Machine.execHeartbeatMiss wing s
  | .wdtServicePost => Sys2Proof.Machine.execWdtServicePost s
  | .chpWdtKick v => Sys2Proof.Machine.execChpWdtKick v s
  | .chipWatchdogExpiry => Sys2Proof.Machine.execChipWatchdogExpiry s
  | .tempSample readings => Sys2Proof.Machine.execTempSample readings s
  | .throttleRise => Sys2Proof.Machine.execThrottleRise s
  | .throttleFall => Sys2Proof.Machine.execThrottleFall s
  | .voltageSample readings => Sys2Proof.Machine.execVoltageSample readings s
  | .processSample readings => Sys2Proof.Machine.execProcessSample readings s
  | .i2cRead addr ptr count => Sys2Proof.Machine.execI2cRead addr ptr count s
  | .i2cWrite addr ptr data => Sys2Proof.Machine.execI2cWrite addr ptr data s
  | .bypass => Sys2Proof.Machine.execBypass s
  | .idcode => Sys2Proof.Machine.execIdcode s
  | .samplePreload cells => Sys2Proof.Machine.execSamplePreload cells s
  | .extest => Sys2Proof.Machine.execExtest s
  | .clamp => Sys2Proof.Machine.execClamp s
  | .highz => Sys2Proof.Machine.execHighz s
  | .extestPulse => Sys2Proof.Machine.execExtestPulse s
  | .extestTrain => Sys2Proof.Machine.execExtestTrain s
  | .debugInstruction opcode => Sys2Proof.Machine.execDebugInstruction opcode s
  | .tapReset => Sys2Proof.Machine.execTapReset s
  | .laneReferencePresent k => Sys2Proof.Machine.execLaneReferencePresent k s
  | .curatorFirmwareRestarted => Sys2Proof.Machine.execCuratorFirmwareRestarted s
  | .railStepTimeout rail => Sys2Proof.Machine.execRailStepTimeout rail s

end Sys2Proof.Machine
end

