-- ==== Sys2Proof/Safety.lean ====
section
/-!
DEFINITION. What counts as safe, and the terms that the statements use: the fuse invariant, what stays as it was, what
a sender sees answered.
-/

namespace Sys2Proof.Machine

/-! ### The fuses (R56, R57, R94) -/

/-- What holds of the fuses in every run: the security version counter is at most 64, and a part whose life-cycle state is
RETURNED holds no usable owner key. -/
def State.otpSafe (s : State) : Prop := s.otp.secVersion ≤ 64 ∧ (s.lifeCycle = 3 → s.ownerKey = none)

/-- Fuses of `b` that `a` has blown are blown, and what is written once at manufacture stays. -/
def Otp.onlyForward (a b : Otp) : Prop :=
  a.provisioned &&& b.provisioned = a.provisioned ∧ a.deployed &&& b.deployed = a.deployed ∧
    a.returned &&& b.returned = a.returned ∧ (a.ownerRevoked = true → b.ownerRevoked = true) ∧
    a.secVersion ≤ b.secVersion ∧ a.serial = b.serial ∧ a.baseline = b.baseline

/-- A warm reset now would be the third within 60 s (R43): the fault record's count and the time of the last but one. -/
def State.thirdReset (s : State) : Bool :=
  decide (2 ≤ s.frField 4 4 ∧ (s.ms % 4294967296 + 4294967296 - s.frField 0xC 4) % 4294967296 < 60000)

/-! ### What stays as it was -/

/-- Register words at addresses other than these are those of `s`. -/
def State.regsKept (t s : State) (as : List Nat) : Prop := ∀ a, a ∉ as → nget t.regs a = nget s.regs a

/-- Counters at addresses other than these are those of `s`. -/
def State.ctrsKept (t s : State) (as : List Nat) : Prop := ∀ a, a ∉ as → nget t.ctrs a = nget s.ctrs a

/-- Counters of objects with keys other than these are those of `s`. -/
def State.statsKept (t s : State) (ks : List Nat) : Prop := ∀ k, k ∉ ks → nget t.stats k = nget s.stats k

/-- GDDR7 bytes at addresses outside `n` bytes from `a` on are those of `s`. -/
def State.gddrKept (t s : State) (a n : Nat) : Prop := ∀ x, (x < a ∨ a + n ≤ x) → ngetD 0 t.gddr x = ngetD 0 s.gddr x

/-! ### Memories and tables -/

/-- A byte memory's canonical form: addresses rising, no byte equal to the 0 that an unlisted address reads as (R49). -/
abbrev Memory.wf (m : NMap Byte) : Bool := nwf 0 m

/-- Every memory is in its canonical form, addresses rising and no byte equal to what an unlisted address reads as, and the tables
that a rule reads by the order of their keys have rising keys; the number of every frame store has been given. -/
def State.tablesOk (s : State) : Prop :=
  nwf 0 s.gddr = true ∧ (∀ cl, nwf 0 (s.cmem cl) = true) ∧
    (∀ c, nwf 0 (s.core c).x = true ∧ nwf 0 (s.core c).y = true ∧ nwf 0 (s.core c).post = true ∧ nwf 0 (s.core c).req = true ∧
      nwf 0 (s.core c).move = true) ∧
    nsorted s.vlt.slots = true ∧ (∀ p, nsorted (s.pool p).recs = true) ∧ (∀ st, nsorted (s.fwdStream st).ring = true) ∧
    nsorted s.pgr.stores = true ∧ ∀ y ∈ s.pgr.stores, y.1 < s.pgr.nextId

/-! ### Registers -/

/-- A register whose write has no behaviour of its own (R8): its fields are set by their types. -/
def plainReg : Reg → Bool
  | .chpWingBlkReset | .chpWdtBlk | .curCasCfg | .curCasCntClr | .chpTempTh | .chpLegIsoClr | .chpWdtKick | .chpTbSnap
  | .atrPortCfg | .atrPortAdv | .atrQuadRate | .atrLinkCfg | .atrCntClr | .atrLaneCtl | .atrLaneTxfir | .rgsPortParse
  | .rgsPortDefault | .rgsPuntRate | .rgsJcpRate | .rgsCntClr | .rgsDscpColour | .vltCntClr | .fwdRtxCfg | .fwdCntClr
  | .tmgPortMacHi | .tmgMgmtRate | .tmgCntClr | .docCfg | .docAdmit | .docSet | .docFrange | .docHwitem | .docSwap
  | .docFenceClr | .docCntClr | .afbCntClr | .dspCntClr | .vdeCntClr | .vdePgPool | .vdePgCfg | .vdePgCntClr | .cmpCntClr
  | .cmpLcoef | .cmpCcoef | .venCntClr | .mctCfg | .mctCntClr | .cloPoolCfg | .cloPoolYel | .cloCntClr | .stkQprof0
  | .stkQprof1 | .stkQprof2 | .stkQprof3 | .stkClassProf | .stkSpillCfg | .stkCntClr => false
  | _ => true

/-- What a counter-clearing command clears: the wing and number of its block, the register and its unit, the first counter
and how many. A clear that names a port past 95 names no counter. -/
def clearsOf : Instr → Option (Nat × Nat × Reg × Nat × Nat × Nat)
  | .atrCntClr v => if fld v 0 7 ≤ 95 then some (1, 1, .atrCnt, 0, 16 * fld v 0 7, 16) else none
  | .rgsCntClrDrops => some (1, 2, .rgsDropCnt, 0, 0, 64)
  | .rgsCntClrPortGo p => if p.toNat ≤ 95 then some (1, 2, .rgsPortCnt, 0, 8 * p.toNat, 8) else none
  | .vltCntClrDrops => some (1, 3, .vltDropCnt, 0, 0, 6)
  | .vltCntClrJobs => some (1, 3, .vltJobCnt, 0, 0, 4)
  | .fwdCntClr => some (1, 4, .fwdCnt, 0, 0, 11)
  | .tmgCntClr => some (1, 5, .tmgCnt, 0, 0, 9)
  | .docCntClr => some (2, 1, .docCnt, 0, 0, 12)
  | .afbCntClr => some (2, 2, .afbCnt, 0, 0, 10)
  | .vdeCntClr e => some (3, 1 + e, .vdeCnt, e, 0, 12)
  | .vdePgCntClrCounters => some (3, 13, .vdePgCnt, 0, 0, 6)
  | .venCntClr e => some (3, 8 + e, .venCnt, e, 0, 10)
  | .cmpCntClr => some (3, 12, .cmpCnt, 0, 0, 10)
  | .mctCntClr => some (4, 1, .mctCnt, 0, 0, 10)
  | .cloCntClrCounters => some (4, 2, .cloCnt, 0, 0, 10)
  | .stkCntClr => some (4, 3, .stkCnt, 0, 0, 11)
  | .curCasCntClr => some (0, 1, .curCasCnt, 0, 0, 9)
  | _ => none

/-- Counters at `n` items of a register from one on read 0 and hold no latch; every other counter and latch is as it was;
beyond that only the answer changed. -/
def State.cleared (t s : State) (r : Reg) (u i n : Nat) : Prop :=
  (∀ k < n, t.cget r u (i + k) = 0 ∧ nget t.latches (regAddr r u (i + k)) = none) ∧
    (∀ a, (∀ k < n, a ≠ regAddr r u (i + k)) → nget t.ctrs a = nget s.ctrs a ∧ nget t.latches a = nget s.latches a) ∧
    t = { s with ctrs := t.ctrs, latches := t.latches, answer := ⟨0, []⟩ }

/-! ### Control sessions (R71 to R81) -/

/-- A datagram is a message that the Curator takes as authentic under the confirmed epoch of session `k` (R36, R71 to R77):
addressed to the management port in a mode with JCP, of a row other than HELLO, from the session's prefix, of the right length,
no reply, its MAC right. -/
def State.authentic (s : State) (d : Datagram) (row k : Nat) (x : Session) (ep : Epoch) : Prop :=
  s.jcpAddressed d.v6 d.dst d.dstPort = true ∧ s.jcpOn = true ∧ s.cur.restarting = false ∧ jcpRow d.payload = some row ∧
    row ≠ 1 ∧ 32 ≤ d.payload.length ∧ d.payload.length = 32 + jLength d.payload ∧ d.payload.length ≤ s.cur.maxMsg ∧
    d.payload.length ≤ ep.maxMsg ∧ 1280 ≤ ep.maxMsg ∧ s.cur.sessions[k]? = some x ∧
    (∀ j < k, ∀ y, s.cur.sessions[j]? = some y → y.id ≠ x.id) ∧ x.id = jSession d.payload ∧ x.covers d = true ∧
    x.confirmed = some ep ∧ x.hello = none ∧ macOk ep.key d.payload = true ∧ jFlags d.payload % 2 = 0

/-- An authentic message is a command of a row that the processor takes afresh (R79, R81): ahead of every command before it,
fewer than 64 commands running, its TLVs readable. -/
def State.takesCmd (s : State) (d : Datagram) (row k : Nat) (x : Session) (ep : Epoch) (l : List (Nat × Bytes)) : Prop :=
  s.authentic d row k x ep ∧ row ≠ 0x60 ∧ 0 < seqDiff (jSeq d.payload) x.highest ∧ x.running.length < 64 ∧
    tlvsOf d.payload.length (jArea d.payload) = some l

/-- The state in which such a command is carried out: it is no longer waiting and H is its SEQ. -/
def State.begun (s : State) (d : Datagram) (k : Nat) (x : Session) : State :=
  { s with cur := { s.cur with rx := s.cur.rx.erase d, sessions := lset s.cur.sessions k (x.advance (jSeq d.payload)) } }

/-- What the command is carried out with. -/
def cmdOf (d : Datagram) (k : Nat) (x : Session) (ep : Epoch) (l : List (Nat × Bytes)) : JcpCmd :=
  ⟨k, x.advance (jSeq d.payload), ep, l⟩

/-- The last frame queued for the command's port is its reply with a status and TLVs, authenticated under its epoch. -/
def State.replied (t : State) (d : Datagram) (x : Session) (ep : Epoch) (status : Nat) (tlvs : Bytes) : Prop :=
  ∃ pre : List MgmtFrame, nget t.mgmt d.port =
    some (pre ++ [.message (peerOf d) (replyMessage ep.key ep.version (jOpcode d.payload) x.id (jSeq d.payload) status tlvs)])

/-- A command is answered with a status and TLVs: the reply is the last frame queued for its port, and apart from the sessions
and that queue the state is `u`. -/
def State.answers (t u : State) (d : Datagram) (x : Session) (ep : Epoch) (status : Nat) (tlvs : Bytes) : Prop :=
  t.replied d x ep status tlvs ∧ t = { u with cur := { u.cur with sessions := t.cur.sessions }, mgmt := t.mgmt } ∧
    ∀ p, p ≠ d.port → nget t.mgmt p = nget u.mgmt p

/-- A command is accepted and answered later: its session lists it among the running ones, and apart from the sessions the
state is `u`. -/
def State.accepts (t u : State) (d : Datagram) (k : Nat) (ep : Epoch) : Prop :=
  t = { u with cur := { u.cur with sessions := t.cur.sessions } } ∧
    ∃ y, t.cur.sessions[k]? = some y ∧
      y.running.getLast? = some ⟨jSeq d.payload, jOpcode d.payload, ep.key, ep.version, peerOf d⟩

/-- The commands of JCP, with the datagram each stands for. -/
def datagramOf : Instr → Option Datagram
  | .hello d | .read d | .write d | .objCreate d | .objModify d | .objDelete d | .keyInstall d | .imageStage d | .verify d
  | .applyBlock d | .applyAll d | .abort d | .programA d _ | .programB d _ | .commitVersion d _ _ | .modeReq d | .lcTarget d
  | .stats d | .eventAck d => some d
  | _ => none

/-! ### The DSP cores (R256 to R286) -/

/-- The commands that run an instruction on a core, with the fields of its first word, its second word and the errors in the
words that it fetches, loads, and takes as a multiplier's operands from X and from Y. -/
def dspCmds (k : Fin 272) (w : BitVec 26) (imm : W32) (e err ex ey : Fin 3) : List Instr :=
  [.nop k w e, .add k w e, .sub k w e, .adds k w e, .subs k w e, .and k w e, .or k w e, .xor k w e, .shl k w e, .shr k w e,
    .asr k w e, .min k w e, .max k w e, .abs k w e, .cmp k w e, .mov k w e, .pack k w e, .addi k w e, .cmpi k w e,
    .movs k w e] ++
  [.ld k w ⟨e, err⟩, .ldh k w ⟨e, err⟩, .ldd k w ⟨e, err⟩, .st k w e, .sth k w e, .std k w e, .lda k w ⟨e, err⟩, .sta k w e, .mac k w e, .qmacr k w e,
    .qmac k w ⟨e, ex, ey⟩, .dmac k w ⟨e, ex, ey⟩, .tapmac k w ⟨e, ex, ey⟩, .mova k w e, .clra k w e, .ldad k w e, .sha k w e, .adda k w e] ++
  [.br k w e, .call k w e, .ret k w e, .reti k w e, .jmpr k w e, .loop k w e, .loopr k w e, .endl k w e, .wait k w e,
    .trap k w e, .di k w e, .ei k w e, .pmctlUnlockAll k w e, .pmctlLock k w e, .pmctlInvalidate k w e, .movi k w imm e,
    .jmpl k w imm e, .calll k w imm e, .ldx k w imm ⟨e, err⟩, .stx k w imm e, .lddx k w imm ⟨e, err⟩, .stdx k w imm e]

/-- Core `c` runs, its cluster is up, and at its program counter, in cluster memory, stand the word `w` and, in the 64-bit
forms, `imm` (R257, R259). -/
def State.atWord (s : State) (c : Nat) (w : W32) (imm : Option W32) : Prop :=
  (s.core c).run = 1 ∧ s.blkUp 2 (16 + c / 16) = true ∧ (s.core c).pc.toNat % 4 = 0 ∧
    dspRegion (s.core c).pc.toNat = some 2 ∧ dspRegion ((s.core c).pc.toNat + dspSize w - 4) = some 2 ∧
    s.pmWord c (s.core c).pc.toNat = w ∧ (dspSize w = 8 → imm = some (s.pmWord c ((s.core c).pc.toNat + 4)))

/-- The instruction there is legal, may stand in a delay slot if it stands in one, ends no loop's body where R271 forbids that,
and is not the second slot of a RETI. -/
def State.issues (s : State) (c : Nat) (w : W32) (imm : Option W32) : Prop :=
  s.atWord c w imm ∧ dspLegal w = true ∧
    (∀ b, (s.core c).branch = some b → noSlot w = false ∧ (b.left = 1 → b.reti = false)) ∧
    ((s.core c).branch.isSome = true ∨ isBranch w = true →
      (s.core c).endsLoop ((s.core c).pc + BitVec.ofNat 32 (dspSize w - 4)) = false)

/-- What a list of writes gives a data register. -/
def landed (w : Landing) (r : Nat) : Option W32 := (w.find? fun e => decide (e.1 = r)).map (·.2)

/-- What running an instruction of core `c` leaves alone beyond the core and its cluster's memory. -/
def State.dspKept (t s : State) (c : Nat) : Prop :=
  (∀ k, k ≠ c → t.core k = s.core k) ∧ (∀ k, k ≠ c / 16 → t.cmem k = s.cmem k) ∧
    t.regsKept s [regAddr .dspCoreStatus (c / 16) (c % 16), regAddr .dspEcc (c / 16) 0] ∧
    t.ctrsKept s [regAddr .dspCnt (c / 16) 0, regAddr .dspCnt (c / 16) 4, regAddr .dspCnt (c / 16) 5] ∧
    t = { s with dsp := t.dsp, ctrs := t.ctrs, regs := t.regs, draws := t.draws }

/-- `u` is `s` with an instruction of core `c` fetched (R258, R259): program memory may have been filled, the core stalled, a
corrected error counted. -/
def State.fetched (u s : State) (c : Nat) : Prop :=
  u.core c = { s.core c with pm := (u.core c).pm, cycle := (u.core c).cycle } ∧ (∀ k, u.cmem k = s.cmem k) ∧ u.dspKept s c

/-- An instruction of `size` bytes ran to its end in core `c` (R267 to R270). `y` is the core as the instruction's own effect
leaves it, `w` the data registers it writes now, `l` those its load writes at the end of the next instruction, `m` the cluster
memory after. The earlier instruction's load lands; the program counter goes on unless a branch or a loop leads elsewhere. -/
def State.ran (t s : State) (c size : Nat) (w l : Landing) (y : DspCore) (m : NMap Byte) : Prop :=
  t.core c = { y with
    d := (t.core c).d, load := l, pc := (t.core c).pc, branch := (t.core c).branch, lc := (t.core c).lc,
    sr := (t.core c).sr, cycle := (t.core c).cycle, pm := (t.core c).pm } ∧
  (∀ r, (∀ e ∈ (s.core c).load, e.1 ≠ r) → (t.core c).dreg r = (landed w r).getD ((s.core c).dreg r)) ∧
  (∀ r v, landed w r = none → (∃ e ∈ (s.core c).load, e.1 = r) → (∀ e ∈ (s.core c).load, e.1 = r → e.2 = v) →
    (t.core c).dreg r = v) ∧
  (t.core c).sr &&& 0xFFFFFF3F = y.sr &&& 0xFFFFFF3F ∧
  ((s.core c).branch = none → (t.core c).branch = none ∧
    (y.depth = 0 → (t.core c).pc = (s.core c).pc + BitVec.ofNat 32 size ∧ (t.core c).lc = y.lc ∧ (t.core c).sr = y.sr)) ∧
  t.cmem (c / 16) = m ∧ t.dspKept s c

/-- A branch issued in core `c` (R269): its target is taken after two more instructions, `lr` is LR after. -/
def State.branched (t s : State) (c size : Nat) (target : W32) (taken reti : Bool) (lr : W32) : Prop :=
  t.core c = { s.core c with
    d := (t.core c).d, load := [], lr := lr, pc := (s.core c).pc + BitVec.ofNat 32 size,
    branch := some ⟨target, 2, (s.core c).pc, reti, taken⟩, cycle := (t.core c).cycle, pm := (t.core c).pm } ∧
  (∀ r, (∀ e ∈ (s.core c).load, e.1 ≠ r) → (t.core c).dreg r = (s.core c).dreg r) ∧ t.cmem (c / 16) = s.cmem (c / 16) ∧
  t.dspKept s c

/-- Core `c` took a trap (R280) that a full return stack did not turn into a halt: the address `ret` and SR are saved, IMASK is
set, LDEPTH cleared, the cause and the data address recorded, and the core goes on at TRAP_VEC. An ECC trap may also raise an
ERROR event. -/
def State.trapped (t s : State) (c code soft : Nat) (addr ret : W32) : Prop :=
  t.core c = { s.core c with
    d := (t.core c).d, load := [], sr := setFld (setFld (s.core c).sr 5 1 1) 6 2 0,
    stack := (ret, (s.core c).sr) :: (s.core c).stack, pc := s.dspVec c 8, branch := none, lastTrap := code,
    tcause := BitVec.ofNat 32 (code + 16 * b2n (s.core c).branch.isSome + 65536 * soft), taddr := addr,
    cycle := (t.core c).cycle, pm := (t.core c).pm } ∧
  ((s.core c).load = [] → ∀ r, (t.core c).dreg r = (s.core c).dreg r) ∧ (∀ k, t.cmem k = s.cmem k) ∧
  (∀ k, k ≠ c → t.core k = s.core k) ∧ t.cget .dspCnt (c / 16) 3 = s.cget .dspCnt (c / 16) 3 + 1 ∧
  t.ctrsKept s ([regAddr .dspCnt (c / 16) 0, regAddr .dspCnt (c / 16) 3, regAddr .dspCnt (c / 16) 4] ++
    if code = 5 then [regAddr .rgsDropCnt 0 0x28] else []) ∧
  (code ≠ 5 → t.regsKept s [regAddr .dspCoreStatus (c / 16) (c % 16), regAddr .dspEcc (c / 16) 0] ∧
    t = { s with dsp := t.dsp, ctrs := t.ctrs, regs := t.regs, draws := t.draws, doc := { s.doc with trapped := t.doc.trapped } })

/-- The result of an instruction of OP 0x02 with flags, by FN (R273): its value, carry and overflow. What a relation does not
name is a free value (log 35). -/
def aluRule (fn : Nat) (a b v : W32) (cy ov : Bool) : Prop :=
  match fn with
  | 0x00 => v = a + b ∧ cy = decide (2 ^ 32 ≤ a.toNat + b.toNat) ∧ ov = decide (a.toInt + b.toInt ≠ v.toInt)
  | 0x01 => v = a - b ∧ cy = decide (b.toNat ≤ a.toNat) ∧ ov = decide (a.toInt - b.toInt ≠ v.toInt)
  | 0x02 => v.toInt = max (-2147483648) (min 2147483647 (a.toInt + b.toInt)) ∧ cy = decide (2 ^ 32 ≤ a.toNat + b.toNat) ∧
      ov = decide (a.toInt + b.toInt ≠ v.toInt)
  | 0x03 => v.toInt = max (-2147483648) (min 2147483647 (a.toInt - b.toInt)) ∧ cy = decide (b.toNat ≤ a.toNat) ∧
      ov = decide (a.toInt - b.toInt ≠ v.toInt)
  | 0x04 => v = a &&& b ∧ ov = false
  | 0x05 => v = a ||| b ∧ ov = false
  | 0x06 => v = a ^^^ b ∧ ov = false
  | 0x07 => v.toNat = a.toNat * 2 ^ (b.toNat % 32) % 2 ^ 32
  | 0x08 => v.toNat = a.toNat / 2 ^ (b.toNat % 32) ∧ ov = false
  | 0x09 => v.toInt = a.toInt / 2 ^ (b.toNat % 32) ∧ ov = false
  | 0x0A => v.toInt = min a.toInt b.toInt ∧ ov = false
  | 0x0B => v.toInt = max a.toInt b.toInt ∧ ov = false
  | _ => a ≠ 0x80000000 → v.toNat = a.toInt.natAbs ∧ ov = false

/-- `y` is the core `x` with accumulators given new values, which wrap modulo 2^72; one out of range sets its AV (R266). -/
def DspCore.accs (y x : DspCore) (vs : List (Nat × Int)) : Prop :=
  y = { x with a := y.a, sr := y.sr } ∧ (∀ e ∈ vs, y.areg e.1 = BitVec.ofInt 72 e.2) ∧
    (∀ r, (∀ e ∈ vs, e.1 ≠ r) → y.areg r = x.areg r) ∧
    ∀ b, y.sr.getLsbD b = (x.sr.getLsbD b ||
      vs.any fun e => decide (b = 8 + e.1) && decide (¬ (-(2 ^ 71 : Int) ≤ e.2 ∧ e.2 < (2 ^ 71 : Int))))

/-- What an accumulator takes for a product of `a` and `b` in `w` bits (R264). -/
def DspCore.macOf (x : DspCore) (n w : Nat) (a b : Int) (sub clr : Bool) : Int :=
  (if clr then 0 else (x.areg n).toInt) +
    (if sub then -1 else 1) * (if x.sr.getLsbD 4 then min (2 ^ (w - 1) - 1) (2 * a * b) else a * b)

end Sys2Proof.Machine
end

