-- ==== Sys2Proof/WellFormed.lean ====
section
/-!
DEFINITION. Well-formedness: what the operands of a command must satisfy for it to be one of the specification's operations or events. A meaning
answers for any operands; a sender sends well-formed ones.
-/

namespace Sys2Proof

open Machine

/-- A received UDP datagram (R71): a port of the part, a 6-byte MAC address, addresses of its family, 16-bit ports, a
payload that fits one datagram. -/
def Datagram.wf (d : Datagram) : Bool :=
  decide (d.port < 96 ∧ d.srcMac.length = 6 ∧ d.src < (if d.v6 then 2 ^ 128 else 2 ^ 32) ∧
    d.dst < (if d.v6 then 2 ^ 128 else 2 ^ 32) ∧ d.srcPort < 65536 ∧ d.dstPort < 65536 ∧ d.payload.length < 65536)

/-- A cause of OFF (R38): a PORB low lasts at least its shortest measured length; a voltage is any. -/
def OffCause.wf : OffCause → Bool
  | .vin _ => true
  | .porbLow ns => decide (0 < ns)

/-- A power-up report (R402 to R406): channels of the 48, a channel that failed at rate 2 failed at rate 1, one pair of
margins per channel. -/
def PowerUpReport.wf (r : PowerUpReport) : Bool :=
  decide (r.margins.length = 48) && r.fail1.all (fun c => decide (c < 48)) && r.fail2.all fun c => decide (c ∈ r.fail1)

/-- A flash copy (R477): at most 64 MiB. -/
def FlashCopy.wf : FlashCopy → Bool
  | .error => true
  | .bytes b => decide (b.length ≤ 67108864)

/-- Is a block listed (R21): a chip-level block or a block of a wing. -/
def isBlock (wing blk : Nat) : Bool := decide (blk ∈ wingBlocks wing)

/-- Is a block listed, the wing controllers among them (R21). -/
def isHardware (wing blk : Nat) : Bool := isBlock wing blk || decide (1 ≤ wing ∧ wing ≤ 4 ∧ blk = 0)

/-- What a failed item belongs to exists (R6). -/
def ItemFlow.wf : ItemFlow → Bool
  | .stream n => decide (n < 131072)
  | .sub n => decide (n < 1048576)
  | .flow n => decide (n < 131072)
  | .untied => true

/-- A part that exists (R455). -/
def Part.wf : Part → Bool
  | .cluster n => decide (n < 17)
  | .decode n => decide (n < 4)
  | .encode n => decide (n < 4)
  | .pipeline n => decide (n < 4)
  | .aes n => decide (n < 32)
  | .sha n => decide (n < 8)
  | .quad n => decide (n < 24)
  | .sramRow w b c _ => isBlock w b && decide (c < 4096)
  | .checker code => decide (code < 8)
  | .block w b => isBlock w b
  | .gddrChannel n => decide (n < 48)

/-- A trigger (R456): a cause is a code of R458. -/
def Trigger.wf : Trigger → Bool
  | .part p cause => p.wf && decide (cause < 32)
  | .wing w cause => decide (1 ≤ w ∧ w ≤ 3 ∧ cause < 32)
  | .south cause => decide (cause < 32)
  | .chip cause => decide (cause < 32)
  | .checkerFailed code => decide (code < 8)
  | .critical cause => decide (cause < 32)
  | .memoryRate => true
  | .watchdog => true
  | .lockstep => true

/-- A clock input (R474): one of four lane reference pairs, or SYSREF_25M. -/
def ClockInput.wf : ClockInput → Bool
  | .lref k => decide (k < 4)
  | .sysref => true

/-- A client of the Cloakroom (R181, R186): a hardware domain, or one of 272 cores with one of its eight tags. -/
def Machine.Client.wf : Machine.Client → Bool
  | .hw _ => true
  | .core c t => decide (c < 272 ∧ t < 8)

/-- A descriptor (R195): the widths of its fields. -/
def Machine.Desc.wf (d : Machine.Desc) : Bool :=
  decide (d.offset < 2 ^ 22 ∧ d.len < 2 ^ 23 ∧ d.ctag < 2 ^ 16 ∧ d.conf < 2 ^ 16 ∧ d.kind < 16)

/-- A picture's header facts (R327): a picture has an area. -/
def PicHead.wf (p : PicHead) : Bool := decide (0 < p.width ∧ 0 < p.height)

/-- A picture's result (R337): a page holds at most 16 KiB of motion data. -/
def PicDone.wf (p : PicDone) : Bool := p.motion.all fun b => decide (b.length ≤ 16384)

/-- Are a command's operands those of one of the specification's operations or events. -/
def Instr.wf (i : Instr) : Bool :=
  match i with
  | .offTransition cause => cause.wf
  | .powerOn vinMv _ => decide (vinMv < 65536 * 16)
  | .powerUpDone report => report.wf
  | .loadDone copyA copyB => copyA.wf && copyB.wf
  | .selftestDone failed => failed.all Part.wf
  | .hello d => d.wf
  | .read d => d.wf
  | .write d => d.wf
  | .objCreate d => d.wf
  | .objModify d => d.wf
  | .objDelete d => d.wf
  | .keyInstall d => d.wf
  | .imageStage d => d.wf
  | .verify d => d.wf
  | .applyBlock d => d.wf
  | .applyAll d => d.wf
  | .abort d => d.wf
  | .programA d other => d.wf && other.wf
  | .programB d other => d.wf && other.wf
  | .commitVersion d copyA copyB => d.wf && copyA.wf && copyB.wf
  | .modeReq d => d.wf
  | .lcTarget d => d.wf
  | .stats d => d.wf
  | .eventAck d => d.wf
  | .jtagProvision hash => decide (hash.length = 48)
  | .jtagReturn _ qx qy r sg => decide (qx < 2 ^ 384 ∧ qy < 2 ^ 384 ∧ r < 2 ^ 384 ∧ sg < 2 ^ 384)
  | .cellTimeout wing blk cell tx => isHardware wing blk && decide (cell < 4096) && tx.item.wf
  | .blockResetDone wing blk => isBlock wing blk
  | .cdcParityError wing blk q => isHardware wing blk && decide (q.cell < 4096)
  | .clockInputLost input => input.wf
  | .trainingDone _ fir rx => decide (fir.length ≤ 8 ∧ rx.precode.length ≤ 8 ∧ rx.ctle.length ≤ 8)
  | .receiverLock lock => decide (lock.ctle.length ≤ 8)
  | .macReceive _ frame _ => decide (frame.length < 65536)
  | .registrarParse _ ue => ue.all fun k => decide (k < 131072)
  | .jobSubmit c job => if c.val = 272 then decide (job.desc.length = 64) else job.desc.isEmpty
  | .alloc client _ _ _ => client.wf
  | .inc client _ n => client.wf && decide (0 < n)
  | .dec client _ => client.wf
  | .share client _ _ => client.wf
  | .enqueue client _ desc => client.wf && desc.wf
  | .descriptorExtend _ len _ _ => decide (len < 2 ^ 22 + 1)
  | .moveGo _ desc => decide (desc.length = 20)
  | .itemPost type _ _ _ payload => decide (1 ≤ type ∧ type ≤ 8 ∧ payload.length ≤ 52)
  | .postGo _ item => decide (item.length = 64)
  | .pictureStart _ pic => pic.wf
  | .pictureDone _ result => result.wf
  | .encodeRow _ rows => decide (rows.length ≤ 3)
  | .memoryRead _ addr len _ _ => decide (addr + len ≤ 2 ^ 36)
  | .memoryWrite _ addr data _ _ => decide (addr + data.length ≤ 2 ^ 36)
  | .supervisorDecision faults => faults.all Trigger.wf
  | .blockWatchdogExpiry wing watch => isHardware wing watch.blk
  | .heartbeatMiss wing => decide (1 ≤ wing.val)
  | .tempSample readings => decide (readings.length = 32)
  | .voltageSample readings => decide (readings.length = 20)
  | .processSample readings => decide (readings.length = 12)
  | .i2cRead addr _ _ => decide (addr < 128)
  | .i2cWrite addr _ _ => decide (addr < 128)
  | .railStepTimeout rail => decide (rail < 19)
  | .railRetry | .wipeDone _ | .readbackDone _ _ | .bootPhaseTimeout | .enterService | .linkUpLimitExpiry | .wingRestartDone
  | .recoveryWindowExpiry | .registerWrite _ _ | .imageVerifyDone | .imageProgramDone _ | .programTimeout | .eventResend _ _
  | .blockReset _ _ | .pllLossOfLock _ | .chpTbSnap _ | .ptpLoss | .ppsInEdge _ | .ppsOutRise | .ppsOutFall
  | .counterLowRead _ | .portReconfig _ _ _ | .atrQuadRate _ _ | .atrLaneTxfir _ _ | .laneTest _ _ | .agcRelease _ _
  | .atrCntClr _ | .breakLinkTimerExpiry _ | .anComplete _ _ | .maxWaitTimerExpiry _ | .reconfigLockTimeout _
  | .blockLock _ _ | .blockLockLost _ | .linkDown _ _ | .linkFailInhibitExpiry _ | .linkUpHoldExpiry _ | .catalogueRewrite _
  | .rgsJcpRate _ | .rgsPuntRate _ _ | .rgsCntClrDrops | .rgsCntClrPortGo _ | .srtpIngress _ | .srtpEgress _
  | .keySlotRewrite _ | .keySweep | .katRound _ _ _ | .cbcEncrypt | .cbcDecrypt | .ctr | .cfbEncrypt | .cfbDecrypt
  | .gcmEncrypt | .gcmDecrypt | .ctxWrite | .jobDone | .vltCntClrDrops | .vltCntClrJobs | .cloPoolCfg _ _
  | .cloCntClrCounters | .cloCntClrLow | .dequeue _ | .slotFill _ | .queueTimeout _ | .stkCntClr | .fanoutWalk _
  | .subCacheFill _ _ | .rtcpFeedback | .rtxAge _ | .fwdCntClr | .dequeueDecision _ | .shaperRefill _ _ | .tmgCntClr
  | .nop _ _ _ | .add _ _ _ | .sub _ _ _ | .adds _ _ _ | .subs _ _ _ | .and _ _ _ | .or _ _ _ | .xor _ _ _ | .shl _ _ _
  | .shr _ _ _ | .asr _ _ _ | .min _ _ _ | .max _ _ _ | .abs _ _ _ | .cmp _ _ _ | .mov _ _ _ | .pack _ _ _ | .addi _ _ _
  | .cmpi _ _ _ | .movs _ _ _ | .ld _ _ _ | .ldh _ _ _ | .ldd _ _ _ | .st _ _ _ | .sth _ _ _ | .std _ _ _
  | .lda _ _ _ | .sta _ _ _ | .mac _ _ _ | .qmacr _ _ _ | .qmac _ _ _ | .dmac _ _ _ | .tapmac _ _ _
  | .mova _ _ _ | .clra _ _ _ | .ldad _ _ _ | .sha _ _ _ | .adda _ _ _ | .br _ _ _ | .call _ _ _ | .ret _ _ _ | .reti _ _ _
  | .jmpr _ _ _ | .loop _ _ _ | .loopr _ _ _ | .endl _ _ _ | .wait _ _ _ | .trap _ _ _ | .di _ _ _ | .ei _ _ _
  | .pmctlUnlockAll _ _ _ | .pmctlLock _ _ _ | .pmctlInvalidate _ _ _ | .movi _ _ _ _ | .jmpl _ _ _ _ | .calll _ _ _ _
  | .ldx _ _ _ _ | .stx _ _ _ _ | .lddx _ _ _ _ | .stdx _ _ _ _ | .doorbell _ | .resRead _ _ | .moveComplete _
  | .coreItemWatchdog _ | .dspCntClr _ | .itemDoneOk _ | .itemDoneFailed _ | .docSwap _ | .swapRemap | .swapDrainDone
  | .swapDrainTimeout | .swapSourceReloaded | .docFenceClr _ | .docCntClr | .jitterAccept _ | .audioTick | .mixPoint _
  | .afbCntClr | .peerHelloSend | .peerHello | .peerLost _ | .curCasCntClr | .assemblePacket _ | .auWaitExpiry _
  | .contextMigrate _ | .vdeCntClr _ | .vdePgCntClrCounters | .vdePgCntClrLow | .frameDue _ | .frameBegin _ | .blockRowDone _
  | .cmpCoefWrite _ _ | .cmpCntClr | .packetise _ | .venCntClr _ | .refresh _ _ | .retrainVisit _ _ | .scrubStep _ _
  | .devicePowerDown _ | .mctCntClr | .chpLegIsoClr _ | .selftestRound _ | .heartbeat _ | .wdtServicePost | .chpWdtKick _
  | .chipWatchdogExpiry | .throttleRise | .throttleFall | .bypass | .idcode | .samplePreload _ | .extest | .clamp | .highz
  | .extestPulse | .extestTrain | .debugInstruction _ | .tapReset | .laneReferencePresent _ | .curatorFirmwareRestarted => true

end Sys2Proof
end

