-- ==== Sys2Proof/Certificates/Slice0/Obligations.lean ====
section
/-!
DEFINITION. The statements about the model, each a proposition; the provers prove them.
-/

open Sys2Proof Sys2Proof.Machine

/-- A step carries out the command at the front of the queue. For every command c, every rest of the queue and every
state, a step with c at the front of the queue is exec of c on the state with the queue's rest. With an empty queue
one North packet clock cycle passes: nothing changes but the timebase, which advances by its 32.32 increment (the
tick on an empty queue is the model's choice, log 5). -/
def Obligations.StepCarriesOutFront : Prop :=
  ∀ (s : State) (c : Instr) (rest : List Instr),
    step { s with pending := c :: rest } = exec c { s with pending := rest } ∧
    ∃ t, step { s with pending := [] } = .next t ∧ t = { s with pending := [], time := t.time } ∧
      t.time.t.toNat * 2 ^ 32 + t.time.frac.toNat =
        (s.time.t.toNat * 2 ^ 32 + s.time.frac.toNat + s.time.inc.toNat) % 2 ^ 96

/-- What the machine holds right after power-on reset. Right after power-on reset no command waits, the mode is POWER_UP
with the transition to WIPE running (CUR_MODE reads mode 1, a transition running, target 2), the timebase is 0 with a
nominal increment of 1 ns, no fuse is blown, the security version is 0 and no owner key hash is held (OTP of a blank
part: log 70), no object, key slot, session, GDDR7 byte or DSP core's content exists, the fault record holds only its
layout version words, no register and no counter holds anything but its reset value, and egress is not permitted. -/
def Obligations.ResetState : Prop :=
  State.reset.pending = [] ∧ State.reset.m.mode = .powerUp ∧ State.reset.m.target = some .wipe ∧
    fld State.reset.curMode 0 4 = 1 ∧ fld State.reset.curMode 8 1 = 1 ∧ fld State.reset.curMode 12 4 = 2 ∧
    State.reset.t = 0 ∧ State.reset.time.inc = 0x100000000 ∧ State.reset.lifeCycle = 0 ∧ State.reset.ownerKey = none ∧
    State.reset.otp.provisioned = 0 ∧ State.reset.otp.deployed = 0 ∧ State.reset.otp.returned = 0 ∧
    State.reset.otp.ownerHash = none ∧ State.reset.otp.secVersion = 0 ∧
    State.reset.objs = [] ∧ State.reset.vlt.slots = [] ∧ State.reset.cur.sessions = [] ∧ State.reset.gddr = [] ∧
    State.reset.dsp = [] ∧ State.reset.frec = [(0, 1), (2, 1)] ∧ State.reset.egressOn = false ∧
    (∀ r u i, State.reset.rget r u i = regReset r u i) ∧ ∀ r u i, State.reset.cget r u i = 0

/-- No command stops the machine. For every command and every state, exec answers a next state: no command of the table
faults or is refused by the model. The processor's own errors are answered, counted, dropped or lead to SAFE_STOP. -/
def Obligations.EveryCommandAnswers : Prop :=
  ∀ (c : Instr) (s : State), ∃ t, exec c s = .next t

/-- No command touches the queue of waiting commands. For every command, operands and state, the queue of waiting
commands after exec is the queue before it. So every command put into the queue is carried out, in order, exactly
once. -/
def Obligations.QueueUntouched : Prop :=
  ∀ (c : Instr) (s t : State), exec c s = .next t → t.pending = s.pending

/-- The invariants hold right after reset. At reset the security version counter is at most 64, a RETURNED part would
hold no usable owner key, and every memory and table is in its canonical form, no frame store yet numbered. -/
def Obligations.InvariantsAtReset : Prop :=
  State.reset.otpSafe ∧ State.reset.tablesOk

/-- Every step keeps the fuse invariant. From every state whose security version counter is at most 64 and which holds
no usable owner key if its life-cycle state is RETURNED, every step leads to such a state, whatever the command and
its operands. -/
def Obligations.StepKeepsFusesSafe : Prop :=
  ∀ s t : State, s.otpSafe → step s = .next t → t.otpSafe

/-- Every step keeps the memories and tables canonical. From every state whose GDDR7, cluster and core memories list
rising addresses and no byte equal to what an unlisted address reads as, whose key slots, buffer records and
retransmission rings list rising keys, and whose frame stores have numbers already given, every step leads to such a
state, whatever the command and its operands. So equal contents are equal data. -/
def Obligations.StepKeepsTables : Prop :=
  ∀ s t : State, s.tablesOk → step s = .next t → t.tablesOk

/-- The life cycle and the security version only move forward. In every step, a blown fuse of the three life-cycle
groups stays blown, a revoked owner key stays revoked, the life-cycle state does not go back, the security version
does not decrease, and the serial number and the baselines of the process monitors stay as they are. -/
def Obligations.LifeCycleOnlyForward : Prop :=
  ∀ s t : State, step s = .next t → s.otp.onlyForward t.otp ∧ s.lifeCycle ≤ t.lifeCycle

/-- SAFE_STOP is left only through OFF. In SAFE_STOP every command, whatever its operands, leads to a state in SAFE_STOP
or in OFF, and to OFF only the command that stands for PORB low or for the loss of input power. -/
def Obligations.SafeStopLeftOnlyByOff : Prop :=
  ∀ (c : Instr) (s t : State), s.m.mode = .safeStop → exec c s = .next t →
    t.m.mode = .safeStop ∨ (t.m.mode = .off ∧ ∃ cause, c = .offTransition cause)

/-- OFF is left only by POWER_ON. In OFF every command but POWER_ON leaves the mode OFF, and POWER_ON leaves it OFF or
leads to POWER_UP. -/
def Obligations.OffLeftOnlyByPowerOn : Prop :=
  ∀ (c : Instr) (s t : State), s.m.mode = .off → exec c s = .next t →
    t.m.mode = .off ∨ (t.m.mode = .powerUp ∧ ∃ mv porb, c = .powerOn mv porb)

/-- OFF_TRANSITION loses all state but OTP, POWER_ON starts POWER_UP, failed rails are retried. OFF_TRANSITION outside
OFF, with an input below 8.2 V or at least 84 V or PORB low for at least 10 µs, answers OFF with every piece of
state at its power-on value but the fuses, the flash and what has left the module. POWER_ON in OFF with PORB high
and 9 V to below 78 V answers POWER_UP on its way to WIPE, again with only the fuses, the flash and what has left
the module kept. A rail of a step not yet complete that has not come up in POWER_UP stops the sequence: before three
retries the retry is awaited, after three the converter stays off; RAIL_RETRY after a failed step starts step 1
again and counts the retry. Nothing else changes. (That the three are retries, so that the fourth failure stops for
good, is the model's reading, log 71.) -/
def Obligations.OffAndPowerOn : Prop :=
  (∀ (s : State) (cause : OffCause), s.m.mode ≠ .off →
    (match cause with
      | .vin mv => mv < 8200 ∨ 84000 ≤ mv
      | .porbLow ns => 10000 ≤ ns) →
    ∃ t, exec (.offTransition cause) s = .next t ∧ t.m.mode = .off ∧ t.m.prev = s.m.mode ∧ t.m.num = 1 ∧
      t.m.target = none ∧ t.rails.step = 0 ∧ t.pins.ppsOut = false ∧
      t = { State.reset with
        pending := s.pending, draws := s.draws, otp := s.otp, wire := s.wire, programmed := s.programmed, pins := t.pins
        rails := t.rails, m := t.m }) ∧
  (∀ (s : State) (mv : Nat), s.m.mode = .off → 9000 ≤ mv → mv < 78000 →
    ∃ t, exec (.powerOn mv true) s = .next t ∧ t.m = State.reset.m ∧ t.pins.vinMv = mv ∧ t.pins.porb = true ∧
      t = { State.reset with
        pending := s.pending, draws := s.draws, otp := s.otp, wire := s.wire, programmed := s.programmed, pins := t.pins }) ∧
  (∀ (s : State) (rail : Nat),
    (s.m.mode = .powerUp → s.rails.failed = false → s.rails.stopped = false → 0 < s.rails.step → s.rails.step ≤ railStep rail →
      exec (.railStepTimeout rail) s = .next { s with rails :=
        if s.rails.retries = 3 then { s.rails with step := 0, stopped := true } else { s.rails with step := 0, failed := true } }) ∧
    (s.rails.failed = true →
      exec .railRetry s = .next { s with rails := { s.rails with step := 1, failed := false, retries := s.rails.retries + 1 } }))

/-- POWER_UP leads to WIPE, and the wipe's read-back to LOAD. With the rails up or coming up in POWER_UP, POWER_UP_DONE
with a report that names no channel failing at rate 1, or none failing at rate 2, enters WIPE with the transition to
LOAD running (number 4), the reported strap latched, rails good and CHP_CLK_LOCK reading 0x1F7F; nothing changes but
the mode, the pins, the rails, registers and the memory controller. WIPE_DONE in WIPE before the read-back leaves the
objects, the key slots, the GDDR7, the DSP cores and the Curator's tables as at reset, its time in CUR_WIPE_STATUS, and
starts the read-back; the fuses, the time and the fault record stay. READBACK_DONE in the read-back samples under a fresh
seed. Where the sample meets no damaged SRAM word, no damaged or poisoned burst of GDDR7 and no byte of it that is not 0,
it enters LOAD with the transition to SELF_TEST running. Otherwise the read-back is over: the first time the wipe is
repeated in WIPE and CUR_WIPE_STATUS.REPEATED is set, the second time it leads to SAFE_STOP. The fuses stay. -/
def Obligations.BootToWipe : Prop :=
  ∀ s : State,
    (∀ report : PowerUpReport, s.m.mode = .powerUp → s.railsRun = true → (report.fail1 = [] ∨ report.fail2 = []) →
      ∃ t, exec (.powerUpDone report) s = .next t ∧
        t.m = { s.m with mode := .wipe, prev := .powerUp, target := some .load, num := 4 } ∧
        t.pins = { s.pins with strap := report.strap } ∧ t.rails = { s.rails with step := 6 } ∧
        t.rget .chpClkLock 0 0 = 0x1F7F ∧
        t = { s with m := t.m, pins := t.pins, rails := t.rails, regs := t.regs, mct := t.mct }) ∧
    (∀ ms : Nat, s.m.mode = .wipe → s.m.readback = false →
      ∃ t, exec (.wipeDone ms) s = .next t ∧ t.m = { s.m with readback := true } ∧
        t.rfld .curWipeStatus 0 0 8 8 = min 255 ms ∧ t.objs = [] ∧ t.vlt.slots = [] ∧ t.gddr = [] ∧ t.dsp = [] ∧
        t.cur = State.reset.cur ∧ t.otp = s.otp ∧ t.time = s.time ∧ t.frec = s.frec) ∧
    (∀ (sram : List (Nat × Nat)) (gddr : List Nat), s.m.mode = .wipe → s.m.readback = true →
      ∃ t, exec (.readbackDone sram gddr) s = .next t ∧ t.otp = s.otp ∧
        let seed := (s.draw 32).1
        if (∀ w ∈ sram, sramSampled seed w = false) ∧ (∀ e ∈ s.gddr, gddrSampled seed (e.1 / 64) = false) ∧
            (∀ b ∈ s.poisoned, gddrSampled seed b = false) ∧ ∀ b ∈ gddr, gddrSampled seed b = false then
          t.m = { s.m with mode := .load, prev := .wipe, target := some .selfTest, num := 5, readback := false } ∧
            t = { s with m := t.m, regs := t.regs, draws := t.draws }
        else if s.m.repeated then t.m.mode = .safeStop
        else t.m = { s.m with readback := false, repeated := true } ∧ t.rfld .curWipeStatus 0 0 3 1 = 1)

/-- LOAD leads to SELF_TEST, and SELF_TEST to LINK_UP. LOAD_DONE in LOAD with a copy A that checks and applies, or a
copy B after a failed A, enters SELF_TEST toward LINK_UP with that copy named in CUR_BOOT_STATUS and its build in
CUR_IMAGE_ID; with no good copy it leads to SAFE_STOP. SELFTEST_DONE with no checker and no irreplaceable part among
the failed enters LINK_UP with the chip watchdog armed for 2 s; with one among them it leads to SAFE_STOP. -/
def Obligations.LoadAndSelfTest : Prop :=
  ∀ (s : State) (copyA copyB : FlashCopy) (failed : List Part),
    (s.m.mode = .load →
      ∃ t, exec (.loadDone copyA copyB) s = .next t ∧
        match s.loadCopy copyA with
        | .ok (i, _) => t.m.mode = .selfTest ∧ t.m.target = some .linkUp ∧ t.rfld .curBootStatus 0 0 0 2 = 1 ∧
            t.rget .curImageId 0 0 = BitVec.ofNat 32 i.buildId
        | .error a =>
          match (s.copyFails 0 a).loadCopy copyB with
          | .ok (i, _) => t.m.mode = .selfTest ∧ t.m.target = some .linkUp ∧ t.rfld .curBootStatus 0 0 0 2 = 2 ∧
              t.rget .curImageId 0 0 = BitVec.ofNat 32 i.buildId
          | .error _ => t.m.mode = .safeStop) ∧
    (s.m.mode = .selfTest →
      ∃ t, exec (.selftestDone failed) s = .next t ∧
        if failed.all fun p => (selfTestPart p).isSome then
          t.m.mode = .linkUp ∧ t.m.linkUpAt = t.t ∧ t.sup.deadline = some (t.t + 2000000000) ∧ t.otp = s.otp
        else t.m.mode = .safeStop)

/-- A boot phase that overruns and the chip watchdog take a warm reset. BOOT_PHASE_TIMEOUT in WIPE, LOAD or SELF_TEST, and in
POWER_UP with the rails up or coming up, with no trigger reported that leads to SAFE_STOP, and CHIP_WATCHDOG_EXPIRY of
an armed watchdog outside OFF and SAFE_STOP with no trigger reported, are a warm reset: in POWER_UP toward WIPE, the
cause's bit (3 for the phase, 1 for the watchdog) and the count of warm resets stand in CUR_RESET_CAUSE, every register
but this one, CHP_CLK_LOCK and the blocks' RESETS reads its reset value, and every table, buffer, queue, key and counter
is as at reset; the fuses, the pins, the rails, the time, the management targets, the fault record, the record of what
has left the module and the memory controller are not lost. Where it would be the third warm reset within 60 s, it is
SAFE_STOP. With a trigger reported that leads to SAFE_STOP, both are SAFE_STOP (R40). -/
def Obligations.WarmResets : Prop :=
  let after (s t : State) (bit : Nat) : Prop :=
    if s.thirdReset then t.m.mode = .safeStop ∧ t.otp = s.otp
    else t.rget .curResetCause 0 0 = BitVec.ofNat 32 (2 ^ bit + 256 * min 255 (min 0xFFFFFFFF (s.frField 4 4 + 1))) ∧
      (∀ a, a ≠ regAddr .curResetCause 0 0 → a ≠ regAddr .chpClkLock 0 0 →
        (∀ u < 4, ∀ b < 256, a ≠ regAddr .chpWingBlkState u b) → nget t.regs a = none) ∧
      t = { State.reset with
        m := { mode := .powerUp, prev := s.m.mode, target := some .wipe, num := 3 }
        otp := s.otp, rails := s.rails, i2c := s.i2c, tap := s.tap, programmed := s.programmed, pending := s.pending
        answer := s.answer, draws := t.draws, regs := t.regs, pins := t.pins, time := t.time, frec := t.frec
        wire := t.wire, mct := t.mct }
  ∀ s : State,
    ((s.m.mode = .wipe ∨ s.m.mode = .load ∨ s.m.mode = .selfTest ∨ (s.m.mode = .powerUp ∧ s.railsRun = true)) →
      ∃ t, exec .bootPhaseTimeout s = .next t ∧
        if s.stopAmong s.sup.reported = none then after s t 3 else t.m.mode = .safeStop ∧ t.otp = s.otp) ∧
    (∀ d, s.sup.deadline = some d → s.m.mode ≠ .off → s.m.mode ≠ .safeStop →
      ∃ t, exec .chipWatchdogExpiry s = .next t ∧
        (s.sup.reported = [] → after (s.reach d) t 1) ∧
        ((s.reach d).stopAmong s.sup.reported ≠ none → t.m.mode = .safeStop ∧ t.otp = s.otp))

/-- LINK_UP is left for SERVICE or DEGRADED when the conditions hold. In LINK_UP, with the start-up window open, every
required port with link or the link-up limit past, and SERVICE asked for or the running image's auto-service flag set,
ENTER_SERVICE completes transition 7 into SERVICE, or transition 8 into DEGRADED where a part is out of service or the
limit is past (the model's reading of row 8, log 59); without these conditions it changes nothing. LINK_UP_LIMIT_EXPIRY
before the limit is past, with a session open, is ENTER_SERVICE in the state in which the limit is past and LINK_TIMEOUT
is set; with no session open it changes nothing but the time. The objects, the keys and the fuses stay. -/
def Obligations.ServiceEntry : Prop :=
  ∀ s : State, s.m.mode = .linkUp →
    (∃ t, exec .enterService s = .next t ∧
      if s.m.windowOpen = true ∧ (s.m.limitDone = true ∨ ∀ p ∈ s.cur.chip.reqPorts, s.portState p = 5) ∧
          (s.m.serviceAsked = true ∨ ∃ i, s.cur.running = some i ∧ i.flags % 2 = 1) then
        t.m.target = none ∧ t.m.prev = .linkUp ∧
          (if s.sup.outParts = [] ∧ s.m.limitDone = false then t.m.mode = .service ∧ t.m.num = 7
           else t.m.mode = .degraded ∧ t.m.num = 8) ∧
          t = { s with m := t.m, cur := t.cur, mgmt := t.mgmt, regs := t.regs }
      else t = s) ∧
    (s.m.limitDone = false →
      ∃ t u : State, exec .linkUpLimitExpiry s = .next t ∧
        if s.cur.sessions.any fun x => x.confirmed.isSome then
          exec .enterService u = .next t ∧ u.m = { s.m with limitDone := true } ∧ u.rfld .curBootStatus 0 0 13 1 = 1 ∧
            u = { s with m := u.m, cur := u.cur, mgmt := u.mgmt, regs := u.regs, time := u.time } ∧
            t = { s with m := t.m, cur := t.cur, mgmt := t.mgmt, regs := t.regs, time := t.time }
        else t = { s with time := t.time })

/-- A restarted wing starts the recovery window, whose end leaves RECOVERY. WING_RESTART_DONE in RECOVERY of a wing under
restart, of East only once every DSP cluster has been loaded or is out of service, ends the restart, starts the recovery
window at the present time and notes the restart's duration in µs; the fuses and the key slots stay.
RECOVERY_WINDOW_EXPIRY in RECOVERY, with the window running, completes transition 16 into SERVICE, or into DEGRADED with
a part out of service, no earlier than the window's end, with the wing and the time noted; beyond that it changes
nothing but the mode, sessions, management queues, registers, the time and the fault record. -/
def Obligations.RecoveryEnds : Prop :=
  ∀ s : State, s.m.mode = .recovery →
    (∀ w at_, s.m.restarting = some (w, at_) →
      (w ≠ 2 ∨ ∀ cl < 17, s.partIsOut (.cluster cl) = true ∨ s.clusterEntered cl = true) →
      ∃ t, exec .wingRestartDone s = .next t ∧ t.m.restarting = none ∧ t.m.windowFrom = some s.t ∧
        t.m.restartUs = (s.t - at_) / 1000 ∧ t.otp = s.otp ∧ t.vlt.slots = s.vlt.slots) ∧
    (∀ x, s.m.windowFrom = some x →
      ∃ t, exec .recoveryWindowExpiry s = .next t ∧
        t.m.mode = (if s.sup.outParts = [] then .service else .degraded) ∧ t.m.prev = .recovery ∧ t.m.num = 16 ∧
        t.m.windowFrom = none ∧ (x + s.cur.chip.recovery * 100000000 < 2 ^ 64 → x + s.cur.chip.recovery * 100000000 ≤ t.t) ∧
        nget t.m.recovered s.m.recoveryWing = some t.t ∧
        t = { s with m := t.m, cur := t.cur, mgmt := t.mgmt, regs := t.regs, time := t.time, frec := t.frec })

/-- The supervisor's decision on one trigger. SUPERVISOR_DECISION on a single trigger, with nothing else reported, outside
OFF and SAFE_STOP, decides as follows and keeps the fuses. A failure of South or of a chip-level block, a critical
temperature or voltage, a failed checker, the memory rate, a lockstep mismatch, and a second failure of a wing (in
RECOVERY, or within 60 s after its own RECOVERY ended) lead to SAFE_STOP. A failure of North, East or West in POWER_UP,
WIPE, LOAD and LINK_UP is a warm reset, which as the third within 60 s is SAFE_STOP. In SERVICE, DEGRADED, MAINTAIN
and DIAGNOSTIC it leads to RECOVERY of that wing by transition 15. A replaceable part's failure in LINK_UP, SERVICE,
DEGRADED, MAINTAIN, DIAGNOSTIC and RECOVERY takes the part out of service: the mode stays, but from SERVICE it may be
DEGRADED by transition 9. -/
def Obligations.SupervisorDecides : Prop :=
  ∀ (s : State) (tr : Trigger), s.sup.reported = [] → s.m.mode ≠ .off → s.m.mode ≠ .safeStop →
    ∃ t, exec (.supervisorDecision [tr]) s = .next t ∧ t.otp = s.otp ∧
      match tr with
      | .south _ | .chip _ | .critical _ | .checkerFailed _ | .memoryRate | .lockstep => t.m.mode = .safeStop
      | .watchdog => if s.thirdReset then t.m.mode = .safeStop else t.m.mode = .powerUp ∧ t.m.target = some .wipe
      | .wing w _ =>
        if w = 4 then t.m.mode = .safeStop
        else
          match s.m.mode with
          | .powerUp | .wipe | .load | .linkUp =>
            if s.thirdReset then t.m.mode = .safeStop else t.m.mode = .powerUp ∧ t.m.target = some .wipe
          | .service | .degraded | .maintain | .diagnostic =>
            if ∃ x, nget s.m.recovered w = some x ∧ s.t < x + 60000000000 then t.m.mode = .safeStop
            else t.m.mode = .recovery ∧ t.m.recoveryWing = w ∧ t.m.num = 15 ∧ t.m.windowFrom = none
          | _ => t.m.mode = .safeStop
      | .part p _ => partReplaceable p = true →
        match s.m.mode with
        | .powerUp | .wipe | .load | .selfTest => t = s
        | .service => t.m.mode = .service ∨ (t.m.mode = .degraded ∧ t.m.num = 9)
        | m => t.m.mode = m

/-- A checker test round and a block watchdog's expiry. SELFTEST_ROUND in a mode in which the checkers run comes at least 5 ms
after the round before it and counts in ROUNDS; for every checker that passed its injected bad input the bit of FAILED
is set and its failure reported to the supervisor. BLOCK_WATCHDOG_EXPIRY of a wing's block other than a DSP cluster that is
in service (or of the wing controller), holds accepted work and has completed nothing since `since` comes at least
CHP_WDT_BLK.MS after that: it sets the block's WDT bit, logs the expiry and leaves it unhandled. Then the failure of a
block that cannot be reset on its own is reported under cause 2, that of a block reset less than 1 s before under cause 1,
and any other block is reset; the failure of a replaceable part is reported under cause 2 as well. -/
def Obligations.CheckersAndBlockWatchdogs : Prop :=
  (∀ (s : State) (passed : List (Fin 8)), s.checkersRun = true →
    ∃ t, exec (.selftestRound passed) s = .next t ∧
      (∀ x, nget s.sup.rounds 1 = some x → x + 5000000 < 2 ^ 64 → x + 5000000 ≤ t.t) ∧
      t.rfld .chpSelftest 0 0 16 16 = (s.rfld .chpSelftest 0 0 16 16 + 1) % 65536 ∧
      (∀ c ∈ passed, c ≠ 0 → t.rfld .chpSelftest 0 0 c.val 1 = 1 ∧ Trigger.checkerFailed c.val ∈ t.sup.reported) ∧
      (passed = [] → t.regsKept s [regAddr .chpSelftest 0 0] ∧ t.sup = { s.sup with rounds := t.sup.rounds } ∧
        t = { s with regs := t.regs, sup := t.sup, time := t.time }) ∧ t.otp = s.otp ∧ t.m = s.m) ∧
  (∀ (s : State) (w b since : Nat), blockPresent w b = true → 1 ≤ w → (w ≠ 2 ∨ b < 16) → (b = 0 ∨ s.blkUp w b = true) →
    s.holdsWork w b = true → since ≤ s.t →
    ∃ u t : State, exec (.blockWatchdogExpiry w ⟨b, since⟩) s = .next t ∧ fld (u.errRaw w b) 5 1 = 1 ∧
      (let d := since + 1000000 * s.rfld .chpWdtBlk (w - 1) b 0 7; d < 2 ^ 64 → d ≤ u.t) ∧
      u.sup = { s.sup with wdtOpen := s.sup.wdtOpen ++ [256 * w + b] } ∧
      u = { s with regs := u.regs, cur := u.cur, mgmt := u.mgmt, frec := u.frec, sup := u.sup, time := u.time } ∧
      let v := if cannotReset w b then u.report (blockTrigger w b 2)
        else if ∃ x, nget s.sup.resetAt (256 * w + b) = some x ∧ u.t < x + 1000000000 then u.report (blockTrigger w b 1)
        else u.resetBlock w b
      t = if (w = 3 ∧ 1 ≤ b ∧ b ≤ 4) ∨ (w = 3 ∧ 8 ≤ b ∧ b ≤ 11) then v.report (blockTrigger w b 2) else v)

/-- Heartbeats and the chip watchdog's kicks. HEARTBEAT outside OFF and SAFE_STOP, at least 100 ms after the one before it,
counts the heartbeat of every wing that answers and leaves one awaited from every wing that is silent or has an unhandled
watchdog expiry. HEARTBEAT_MISS of a heartbeat awaited from a wing of 1 to 4 comes at least 100 ms after it was sent, sets
HB_MISS and reports the wing's failure under cause 3. WDT_SERVICE_POST while the watchdog is armed, at least 500 ms after
the one before it, makes a fresh value the current TOKEN and posts item 8 with TOKEN and DEADLINE in ms. CHP_WDT_KICK with
the current TOKEN restarts an armed watchdog at 2 s; any other value only counts in BAD_KICKS, which saturates at 255. -/
def Obligations.HeartbeatsAndChipWatchdog : Prop :=
  ∀ s : State,
    (∀ silent : List (Fin 5), s.m.mode ≠ .off → s.m.mode ≠ .safeStop →
      ∃ t, exec (.heartbeat silent) s = .next t ∧ t = { s with regs := t.regs, sup := t.sup, time := t.time } ∧
        (∀ x, nget s.sup.rounds 2 = some x → x + 100000000 < 2 ^ 64 → x + 100000000 ≤ t.t) ∧
        ∀ w : Nat, 1 ≤ w → w ≤ 4 →
          if (s.sup.wdtOpen.any fun x => decide (x / 256 = w)) || silent.any fun f => decide (f.val = w) then
            (nget t.sup.heartbeat w).isSome = true ∧ t.rget .chpWingHb (w - 1) 0 = s.rget .chpWingHb (w - 1) 0
          else nget t.sup.heartbeat w = none ∧
            t.rfld .chpWingHb (w - 1) 0 0 16 = (s.rfld .chpWingHb (w - 1) 0 0 16 + 1) % 65536) ∧
    (∀ (w : Fin 5) (at_ : Nat), w ≠ 0 → nget s.sup.heartbeat w = some at_ →
      ∃ t, exec (.heartbeatMiss w) s = .next t ∧ t.rfld .chpWingHb (w.val - 1) 0 16 1 = 1 ∧
        (at_ + 100000000 < 2 ^ 64 → at_ + 100000000 ≤ t.t) ∧
        nget t.sup.heartbeat w = none ∧ (t.sup.reported = s.sup.reported ++ [if w.val = 4 then .south 3 else .wing w.val 3]) ∧
        t.regsKept s [regAddr .chpWingHb (w.val - 1) 0] ∧ t = { s with regs := t.regs, sup := t.sup, time := t.time }) ∧
    (∀ d, s.sup.deadline = some d →
      ∃ (token : W32) (u : State), exec .wdtServicePost s = .next
          (u.hwPost 8 0 none none (leBytes 4 token.toNat ++ leBytes 4 (d / 1000000))) ∧
        (∀ x, nget s.sup.rounds 4 = some x → x + 500000000 < 2 ^ 64 → x + 500000000 ≤ u.t) ∧
        u.sup = { s.sup with token := some token, rounds := u.sup.rounds } ∧
        u = { s with draws := s.draws + 1, sup := u.sup, time := u.time }) ∧
    (∀ v : W32, ∃ t, exec (.chpWdtKick v) s = .next t ∧
      if s.sup.deadline ≠ none ∧ s.sup.token = some v then
        t = { s with answer := ⟨0, []⟩, sup := { s.sup with deadline := some (s.t + 2000000000) } }
      else t = { s with answer := ⟨0, []⟩, regs := t.regs } ∧ t.regsKept s [regAddr .chpWdtStatus 0 0] ∧
        t.rfld .chpWdtStatus 0 0 8 8 = min 255 (s.rfld .chpWdtStatus 0 0 8 8 + 1))

/-- A lost PLL or clock input. PLL_LOSS_OF_LOCK of a locked PLL clears its bit in CHP_CLK_LOCK and sets its bit in
CHP_CLK_LOL, then puts the blocks of its wing into reset (STATE 1) with what they lose, and reports the failure to
the supervisor (of the chip level, of South, or of its wing). CLOCK_INPUT_LOST of SYSREF_25M clears its bit, sets
its CHP_CLK_LOL bit and reports a chip-level fault; of a lane reference pair whose bit is set it clears the pair's bit and
sets its CHP_CLK_LOL bit, and then each enabled port under that pair, in ascending order, sets REFCLK_LOST and loses its
lanes' clock: an up link is dropped and starts again, in hold-off the lanes unlock and the hold ends, in training the
lanes unlock, and negotiation returns from STATE 2 to STATE 1. LANE_REFERENCE_PRESENT outside OFF sets the pair's bit. -/
def Obligations.ClocksLost : Prop :=
  ∀ s : State,
    (∀ p : Fin 7, s.rfld .chpClkLock 0 0 p 1 ≠ 0 →
      ∃ u : State, u.rfld .chpClkLock 0 0 p 1 = 0 ∧ u.rfld .chpClkLol 0 0 p 1 = 1 ∧
        u.regsKept s [regAddr .chpClkLock 0 0, regAddr .chpClkLol 0 0, regAddr .curEventLost 0 0] ∧
        u = { s with regs := u.regs, cur := u.cur, mgmt := u.mgmt } ∧
        exec (.pllLossOfLock p) s = .next (State.report
          ((wingBlocks (pllWing p)).foldl (fun v b => if pllWing p = 0 then v else
            (v.blockLoses (pllWing p) b).setBlkState (pllWing p) b 1) u)
          (match pllWing p with
          | 0 => .chip 4
          | 4 => .south 4
          | n => .wing n 4))) ∧
    (s.rfld .chpClkLock 0 0 12 1 ≠ 0 →
      ∃ t, exec (.clockInputLost .sysref) s = .next t ∧ t.rfld .chpClkLock 0 0 12 1 = 0 ∧ t.rfld .chpClkLol 0 0 12 1 = 1 ∧
        t.sup.reported = s.sup.reported ++ [.chip 0x0D] ∧
        t.regsKept s [regAddr .chpClkLock 0 0, regAddr .chpClkLol 0 0, regAddr .curEventLost 0 0] ∧
        t = { s with regs := t.regs, cur := t.cur, mgmt := t.mgmt, sup := t.sup }) ∧
    (∀ k : Fin 4, s.rfld .chpClkLock 0 0 (8 + k) 1 ≠ 0 →
      ∃ u : State, u.rfld .chpClkLock 0 0 (8 + k) 1 = 0 ∧ u.rfld .chpClkLol 0 0 (8 + k) 1 = 1 ∧
        u.regsKept s [regAddr .chpClkLock 0 0, regAddr .chpClkLol 0 0, regAddr .curEventLost 0 0] ∧
        u = { s with regs := u.regs, cur := u.cur, mgmt := u.mgmt } ∧
        exec (.clockInputLost (.lref k)) s = .next ((u.pairPorts k).foldl (fun v p =>
          let x := v.flag .atrPortErr 0 p 6
          let lost := (x.unlock p (x.portLanes p)).releaseAgc (x.portLanes p)
          if x.portState p = 5 then (x.dropLink p).againAfterLoss p
          else if x.portState p = 4 then lost.setPort p { lost.port p with holdFrom := none }
          else if x.portState p = 3 then lost
          else if x.portState p = 2 then x.setPortState p 1
          else x) u)) ∧
    (∀ k : Fin 4, s.m.mode ≠ .off →
      ∃ t, exec (.laneReferencePresent k) s = .next t ∧ t.rfld .chpClkLock 0 0 (8 + k) 1 = 1 ∧
        t.regsKept s [regAddr .chpClkLock 0 0] ∧ t = { s with regs := t.regs })

/-- The timebase snapshot, PTP loss and the PPS pins. A write of 1 to SNAP captures both words of the timebase together;
other values change nothing. PTP_LOSS takes a locked timebase to holdover with its increment kept, and changes nothing
else. Outside OFF and POWER_UP an accepted PPS_IN_EDGE (high for at least 100 ns, more than 500 ms after the last) is
stamped with the time, and with no PTP section changes nothing else; any other edge changes nothing. PPS_OUT_RISE while
the output is low, in a mode in which it pulses, raises it at a whole second at most 1 s ahead; PPS_OUT_FALL lowers it no
earlier than 100 ms after it rose. (That an edge exactly 500 ms after the last is ignored is the model's choice, log 84.) -/
def Obligations.TimebaseAndPps : Prop :=
  ∀ s : State,
    (∀ v : W32, ∃ t, exec (.chpTbSnap v) s = .next t ∧
      (if fld v 0 1 = 1 then t.rget .chpTbLo 0 0 = s.time.t.setWidth 32 ∧ t.rget .chpTbHi 0 0 = (s.time.t >>> 32).setWidth 32
       else t.regs = s.regs) ∧
      t.regsKept s [regAddr .chpTbLo 0 0, regAddr .chpTbHi 0 0] ∧ t = { s with regs := t.regs, answer := ⟨0, []⟩ }) ∧
    (∃ t, exec .ptpLoss s = .next t ∧
      t.rfld .chpTbState 0 0 0 2 = (if s.rfld .chpTbState 0 0 0 2 = 1 then 2 else s.rfld .chpTbState 0 0 0 2) ∧
      t.regsKept s [regAddr .chpTbState 0 0] ∧ t = { s with regs := t.regs }) ∧
    (∀ ns : Nat, s.m.mode ≠ .off → s.m.mode ≠ .powerUp →
      ∃ t, exec (.ppsInEdge ns) s = .next t ∧
        (if 100 ≤ ns ∧ (∀ x, s.time.ppsIn = some x → x + 500000000 < s.t) then t.time.ppsIn = some s.t ∧ t.time.t = s.time.t ∧
            (s.cur.ptp = [] → t = { s with time := t.time }) else t = s)) ∧
    (s.ppsOn = true → s.pins.ppsOut = false →
      ∃ t, exec .ppsOutRise s = .next t ∧ t.pins.ppsOut = true ∧ t.time.ppsRise = some t.t ∧
        (s.t < 2 ^ 63 → t.t % 1000000000 = 0 ∧ s.t ≤ t.t ∧ t.t ≤ s.t + 1000000000) ∧ t = { s with pins := t.pins, time := t.time }) ∧
    (∀ x, s.pins.ppsOut = true → s.time.ppsRise = some x →
      ∃ t, exec .ppsOutFall s = .next t ∧ t.pins.ppsOut = false ∧ (x < 2 ^ 63 → x + 100000000 ≤ t.t) ∧
        t = { s with pins := t.pins, time := t.time })

/-- The monitors' samples and the throttle level. Outside OFF, TEMP_SAMPLE of 32 readings leaves each sensor's reading in
CHP_TEMP with its failed bit set where the sensor had failed before, is out of range or moved by more than 20 °C since its
last sample, and clear otherwise; VOLTAGE_SAMPLE of 20 readings leaves each rail's reading in CHP_VMON with WARN set where
a judged rail is off by more than 3 %; PROCESS_SAMPLE of 12 counts leaves each in CHP_PMON with DRIFT set where it is more
than 8 % below the baseline. None of the three changes the mode or the fuses. THROTTLE_RISE while the hottest reading is at
or above THROTTLE comes at least 100 ms after it got there, or after the last rise, and raises the throttle level by 1 up
to 4; THROTTLE_FALL while it is below THROTTLE − 5 °C comes at least 1 s after it got there, or after the last fall, and
lowers the level by 1 down to 0. Neither changes the mode, the fuses, the objects or the Vault. -/
def Obligations.MonitorsSample : Prop :=
  ∀ s : State,
    (∀ l : List Int, s.m.mode ≠ .off → l.length = 32 →
      ∃ t, exec (.tempSample l) s = .next t ∧ t.otp = s.otp ∧ t.m = s.m ∧ ∀ i < 32, ∀ v, l[i]? = some v →
        t.rfld .chpTemp 0 i 0 12 = unsgn 12 v ∧
        t.rfld .chpTemp 0 i 12 1 = b2n ((s.sup.sensors.getD i {}).failed || decide (v < -320 ∨ 1200 < v) ||
          match (s.sup.sensors.getD i {}).last with
          | some w => decide (160 < v - w ∨ 160 < w - v)
          | none => false)) ∧
    (∀ l : List Nat, s.m.mode ≠ .off → l.length = 20 →
      ∃ t, exec (.voltageSample l) s = .next t ∧ t.otp = s.otp ∧ t.m = s.m ∧ ∀ i < 20, ∀ v, l[i]? = some v →
        t.rfld .chpVmon 0 i 0 16 = min 65535 v ∧ (s.railJudged i = true → railOff i v 3 = true → t.rfld .chpVmon 0 i 16 1 = 1)) ∧
    (∀ l : List Nat, s.m.mode ≠ .off → l.length = 12 →
      ∃ t, exec (.processSample l) s = .next t ∧ t.otp = s.otp ∧ t.m = s.m ∧ ∀ i < 12, ∀ n, l[i]? = some n →
        t.rfld .chpPmon 0 i 0 20 = min 1048575 n ∧
        (n * 100 < 92 * s.otp.baseline.getD i 0 → t.rfld .chpPmon 0 i 20 1 = 1)) ∧
    (∀ x, s.sup.hotSince = some x →
      ∃ t, exec .throttleRise s = .next t ∧ (x + 100000000 < 2 ^ 64 → x + 100000000 ≤ t.t) ∧ t.sup.hotSince = some t.t ∧
        t.rfld .chpThrottle 0 0 0 3 =
          (if s.rfld .chpThrottle 0 0 0 3 < 4 then s.rfld .chpThrottle 0 0 0 3 + 1 else s.rfld .chpThrottle 0 0 0 3) ∧
        t.otp = s.otp ∧ t.m = s.m ∧ t.objs = s.objs ∧ t.vlt = s.vlt) ∧
    (∀ x, s.sup.coolSince = some x →
      ∃ t, exec .throttleFall s = .next t ∧ (x + 1000000000 < 2 ^ 64 → x + 1000000000 ≤ t.t) ∧ t.sup.coolSince = some t.t ∧
        t.rfld .chpThrottle 0 0 0 3 = s.rfld .chpThrottle 0 0 0 3 - 1 ∧
        t.otp = s.otp ∧ t.m = s.m ∧ t.objs = s.objs ∧ t.vlt = s.vlt)

/-- A counter clear sets just its counters to 0, together. Each of the seventeen commands that clear a group of counters
(of a port, of the Registrar's drops, of the Vault, the Forwarder, the traffic manager, the Docent, the audio
fabric, an engine, the pager, the Compositor, the memory controller, the Cloakroom, the Stacks, the Curator), with
its block in service, answers a state in which exactly the counters it names read 0 and hold no latched word, and
nothing else but the answer changed; with its block in reset or being wiped it is answered 4 (block unavailable) and
changes nothing. -/
def Obligations.CounterClears : Prop :=
  ∀ (s : State) (c : Instr) (w b : Nat) (r : Reg) (u i n : Nat), clearsOf c = some (w, b, r, u, i, n) →
    ∃ t, exec c s = .next t ∧
      if s.blkUp w b then t.cleared s r u i n else t = { s with answer := ⟨4, []⟩ }

/-- The other clears: a port past 95, a cluster, the low marks, an isolation, a fence. With their block in service,
ATR_CNT_CLR and RGS_CNT_CLR_PORT_GO naming a port past 95 are answered 9 (bad value) and change nothing, DSP_CNT_CLR
clears its cluster's 8 counters and its CORRECTED count, CLO_CNT_CLR_LOW sets each pool's low mark to its free count,
VDE_PG_CNT_CLR_LOW the pager's to its free pages, and DOC_FENCE_CLR removes the fence of just the flow it names.
CHP_LEG_ISO_CLR of an isolated leg ends just its isolation and clears its hit history; beyond that it changes the fault
record and the supervisor's record alone. -/
def Obligations.OtherClears : Prop :=
  ∀ s : State,
    (∀ v : W32, s.blkUp 1 1 = true → 95 < fld v 0 7 → exec (.atrCntClr v) s = .next { s with answer := ⟨9, []⟩ }) ∧
    (∀ p : BitVec 7, s.blkUp 1 2 = true → 95 < p.toNat → exec (.rgsCntClrPortGo p) s = .next { s with answer := ⟨9, []⟩ }) ∧
    (∀ cl : Fin 17, s.blkUp 2 (16 + cl) = true →
      ∃ t, exec (.dspCntClr cl) s = .next t ∧ (∀ k < 8, t.cget .dspCnt cl k = 0) ∧ t.rfld .dspEcc cl 0 0 16 = 0 ∧
        t.regsKept s [regAddr .dspEcc cl 0] ∧
        (∀ a, (∀ k < 8, a ≠ regAddr .dspCnt cl k) → nget t.ctrs a = nget s.ctrs a) ∧
        t = { s with regs := t.regs, ctrs := t.ctrs, latches := t.latches, answer := ⟨0, []⟩ }) ∧
    (s.blkUp 4 2 = true →
      ∃ t, exec .cloCntClrLow s = .next t ∧ (∀ p < 8, t.rfld .cloPoolLow 0 p 0 24 = s.poolFree p % 2 ^ 24) ∧
        t.regsKept s ((List.range 8).map (regAddr .cloPoolLow 0)) ∧ t = { s with regs := t.regs, answer := ⟨0, []⟩ }) ∧
    (s.blkUp 3 13 = true →
      ∃ t, exec .vdePgCntClrLow s = .next t ∧ t.rfld .vdePgLow 0 0 0 20 = s.pgFree % 2 ^ 20 ∧
        t.regsKept s [regAddr .vdePgLow 0 0] ∧ t = { s with regs := t.regs, answer := ⟨0, []⟩ }) ∧
    (∀ v : W32, s.isolated (fld v 0 15) = true →
      ∃ t, exec (.chpLegIsoClr v) s = .next t ∧ t.isolated (fld v 0 15) = false ∧
        (∀ l, l ≠ fld v 0 15 → t.isolated l = s.isolated l ∧ nget t.sup.hits l = nget s.sup.hits l) ∧
        nget t.sup.hits (fld v 0 15) = none ∧ t.regsKept s [regAddr .chpLegIso 0 (fld v 0 15 / 32)] ∧
        t = { s with regs := t.regs, frec := t.frec, sup := t.sup, answer := ⟨0, []⟩ }) ∧
    (∀ v : W32, s.blkUp 2 1 = true →
      ∃ t, exec (.docFenceClr v) s = .next t ∧ (∀ f, f ∈ t.doc.fenced ↔ f ∈ s.doc.fenced ∧ f ≠ fld v 0 17) ∧
        t = { s with doc := { s.doc with fenced := t.doc.fenced }, answer := ⟨0, []⟩ })

/-- A register write sets fields by their types; a counter's low word latches its high word. REGISTER_WRITE to a
register without behaviour of its own, in a block in service, sets its RW bits to the value, clears RW1C bits
written with 1, and leaves every other bit and every other register as it was. An address that is not mapped is
answered 3 and changes nothing. COUNTER_LOW_READ of a 64-bit counter's low word answers its low 32 bits and latches
its high 32 bits; a read of the high word answers a held latch and consumes it, and with none held the current high
word. No access changes anything else. -/
def Obligations.RegisterAccess : Prop :=
  ∀ (s : State) (a v : W32),
    (mappedAddr a.toNat = false → exec (.registerWrite a v) s = .next { s with answer := ⟨3, []⟩ } ∧
      exec (.counterLowRead a) s = .next { s with answer := ⟨3, []⟩ }) ∧
    (mappedAddr a.toNat = true → s.blkUp (addrWing a.toNat) (addrBlk a.toNat) = true →
      (∀ r u i, findReg a.toNat = some ⟨r, u, i, false⟩ → (regInfo r).wide = false → plainReg r = true →
        ∃ t, exec (.registerWrite a v) s = .next t ∧ t.regsKept s [regAddr r u i] ∧
          t = { s with regs := t.regs, answer := ⟨0, []⟩ } ∧
          ∀ j < 32, (t.rget r u i).getLsbD j =
            if (regInfo r).rw.getLsbD j then v.getLsbD j
            else if (regInfo r).rw1c.getLsbD j && v.getLsbD j then false
            else (s.rget r u i).getLsbD j) ∧
      (∀ r u i, findReg a.toNat = some ⟨r, u, i, false⟩ → (regInfo r).wide = true →
        exec (.counterLowRead a) s = .next { s with
          answer := ⟨0, [(s.cget r u i).setWidth 32]⟩
          latches := nput s.latches (regAddr r u i) ((s.cget r u i >>> 32).setWidth 32) }) ∧
      (∀ r u i, findReg a.toNat = some ⟨r, u, i, true⟩ → (regInfo r).wide = true →
        exec (.counterLowRead a) s = .next (match nget s.latches (regAddr r u i) with
          | some w => { s with answer := ⟨0, [w]⟩, latches := ndel s.latches (regAddr r u i) }
          | none => { s with answer := ⟨0, [(s.cget r u i >>> 32).setWidth 32]⟩ })))

/-- Accesses to a block in reset or being wiped are refused and not queued. While a mapped address lies in a block that
is in reset or being wiped, REGISTER_WRITE and COUNTER_LOW_READ of it are answered 4 and change nothing else; a JCP
READ and a JCP WRITE of words in it, taken from a session with the permission and with well-formed TLVs, are replied
with status 4, and no register, counter or latch changes, then or later through a queue: beyond the session's
window, the reply and the received datagram the state is as it was. -/
def Obligations.BlockUnavailable : Prop :=
  ∀ s : State,
    (∀ a v : W32, mappedAddr a.toNat = true → s.blkUp (addrWing a.toNat) (addrBlk a.toNat) = false →
      exec (.registerWrite a v) s = .next { s with answer := ⟨4, []⟩ } ∧
      exec (.counterLowRead a) s = .next { s with answer := ⟨4, []⟩ }) ∧
    (∀ (d : Datagram) (k : Nat) (x : Session) (ep : Epoch) (ra rn : Bytes) (a n : Nat),
      s.takesCmd d 2 k x ep [(0x10, ra), (0x11, rn)] → x.perm.getLsbD 0 = true → ra.length = 4 → rn.length = 4 →
      a = beNat ra → n = beNat rn → 1 ≤ n → n ≤ 256 → mappedAddr a = true → mappedAddr (a + 4 * (n - 1)) = true →
      a / 0x100000 = (a + 4 * (n - 1)) / 0x100000 → s.blkUp (addrWing a) (addrBlk a) = false →
      ∃ t, exec (.read d) s = .next t ∧ t.replied d x ep 4 [] ∧ t = { s with cur := t.cur, mgmt := t.mgmt }) ∧
    (∀ (d : Datagram) (k : Nat) (x : Session) (ep : Epoch) (wa wd : Bytes) (a : Nat),
      s.takesCmd d 3 k x ep [(0x10, wa), (0x12, wd)] → x.perm.getLsbD 1 = true → wa.length = 4 → wd.length % 4 = 0 →
      4 ≤ wd.length → wd.length ≤ 1024 → a = beNat wa → mappedAddr a = true → mappedAddr (a + (wd.length - 4)) = true →
      a / 0x100000 = (a + (wd.length - 4)) / 0x100000 → s.blkUp (addrWing a) (addrBlk a) = false →
      ∃ t, exec (.write d) s = .next t ∧ t.replied d x ep 4 [] ∧ t = { s with cur := t.cur, mgmt := t.mgmt })

/-- The I2C target returns words whole and takes nothing but a pointer. I2C_READ to the target's address, from a pointer
written with it or from an aligned pointer where it stands, returns as many bytes as are read; byte k is that of the
register word its pointer names, the pointer running on modulo 8192; nothing but the target's own pointer, latch and
record changes. I2C_WRITE sets the pointer, and data bytes after it are not acknowledged and change nothing. While
the target is off, or for another address, neither changes anything. -/
def Obligations.ManagementTarget : Prop :=
  ∀ (s : State) (addr : Nat),
    (s.i2cOn = true → addr = 0x50 + s.pins.strap.toNat →
      (∀ (ptr : Option (BitVec 13)) (n : Nat), (ptr = none → s.i2c.ptr.toNat % 4 = 0) →
        ∃ t, exec (.i2cRead addr ptr n) s = .next t ∧ t = { s with i2c := t.i2c } ∧
          t.i2c.ptr = ptr.getD s.i2c.ptr + BitVec.ofNat 13 n ∧ t.i2c.readData.length = n ∧
          ∀ k < n, ∀ q, q = ((ptr.getD s.i2c.ptr).toNat + k) % 8192 →
            t.i2c.readData[k]? = some (byteOf (fld (s.i2cWord (q / 4 * 4)) (8 * (q % 4)) 8))) ∧
      (∀ (ptr : BitVec 13) (data : Bytes), ∃ t, exec (.i2cWrite addr ptr data) s = .next t ∧ t = { s with i2c := t.i2c } ∧
        t.i2c.ptr = ptr ∧ t.i2c.latchAt = none ∧ t.i2c.acked = decide (data = []))) ∧
    (s.i2cOn = false ∨ addr ≠ 0x50 + s.pins.strap.toNat →
      ∀ ptr n q data, exec (.i2cRead addr ptr n) s = .next s ∧ exec (.i2cWrite addr q data) s = .next s)

/-- The TAP: which instruction takes force; provisioning and return over JTAG. While the part is powered, BYPASS, IDCODE
and SAMPLE/PRELOAD take force in every mode; EXTEST, CLAMP, HIGHZ, EXTEST_PULSE and EXTEST_TRAIN take force in
SAFE_STOP alone and are BYPASS elsewhere; a debug code takes force outside DEPLOYED alone and is BYPASS there. IDCODE and
TAP_RESET put the identification code into the data register, SAMPLE/PRELOAD the shifted-in cells into the boundary cells;
these leave the boundary cells as they were otherwise. None changes anything outside the TAP but the count of free values
drawn. Outside OFF and SAFE_STOP (the model's choice, log 19), JTAG_PROVISION of a BLANK part with a 48-byte hash stores
the hash, blows the first group and leaves the part PROVISIONED; JTAG_RETURN of a PROVISIONED or DEPLOYED part with a
message signed by the owner's key (any message: log 86) leaves it RETURNED with no usable owner key. Both zeroise the key
table and take a warm reset, which as the third within 60 s, or with a trigger reported that leads to SAFE_STOP, is
SAFE_STOP. -/
def Obligations.TestAccessPort : Prop :=
  (∀ s : State, s.m.mode ≠ .off →
    (∀ c op, (c, op) ∈ [(Instr.bypass, (0xFF : BitVec 8)), (.idcode, 0x01), (.extest, 0x00), (.clamp, 0x03), (.highz, 0x04),
        (.extestPulse, 0x05), (.extestTrain, 0x06)] →
      ∃ t, exec c s = .next t ∧ t = { s with tap := t.tap } ∧ t.tap.cells = s.tap.cells ∧
        t.tap.ir = (if op = 0xFF ∨ op = 0x01 ∨ s.m.mode = .safeStop then op else 0xFF) ∧
        t.tap.dr = if c = .idcode then 0x19615757 else 0) ∧
    (∀ op : BitVec 8, 0x80 ≤ op.toNat → op.toNat ≤ 0xFE →
      ∃ t, exec (.debugInstruction op) s = .next t ∧ t = { s with tap := t.tap } ∧ t.tap.dr = 0 ∧
        t.tap.cells = s.tap.cells ∧ t.tap.ir = if s.lifeCycle = 2 then 0xFF else op) ∧
    (∀ cells, ∃ t, exec (.samplePreload cells) s = .next t ∧ t = { s with tap := t.tap, draws := t.draws } ∧ t.tap.ir = 0x02 ∧
      t.tap.cells = cells ∧ t.tap.captured.length = cells.length) ∧
    (∃ t, exec .tapReset s = .next t ∧ t = { s with tap := t.tap } ∧ t.tap.ir = 0x01 ∧ t.tap.dr = 0x19615757 ∧
      t.tap.cells = s.tap.cells)) ∧
  (∀ s : State, s.m.mode ≠ .off → s.m.mode ≠ .safeStop →
    (∀ hash : Bytes, s.lifeCycle = 0 → hash.length = 48 →
      ∃ t, exec (.jtagProvision hash) s = .next t ∧ t.lifeCycle = 1 ∧
        t.otp = { s.otp with ownerHash := some hash, provisioned := 7 } ∧ t.vlt.slots = [] ∧
        if s.thirdReset ∨ s.stopAmong s.sup.reported ≠ none then t.m.mode = .safeStop
        else t.m.mode = .powerUp ∧ t.m.target = some .wipe) ∧
    (∀ (msg : Bytes) (qx qy r sg : Nat), (s.lifeCycle = 1 ∨ s.lifeCycle = 2) →
      s.ownerKey = some (sha384 (beBytes 48 qx ++ beBytes 48 qy)) → ecdsaVerify (sha384 msg) qx qy r sg = true →
      ∃ t, exec (.jtagReturn msg qx qy r sg) s = .next t ∧ t.lifeCycle = 3 ∧ t.ownerKey = none ∧
        t.otp = { s.otp with returned := 7, ownerRevoked := true } ∧ t.vlt.slots = [] ∧
        if s.thirdReset ∨ s.stopAmong s.sup.reported ≠ none then t.m.mode = .safeStop
        else t.m.mode = .powerUp ∧ t.m.target = some .wipe))

/-- Cell timeouts, queue parity errors and block resets. CELL_TIMEOUT in a block or wing controller, of a transaction granted
at `granted`, comes at least 10 µs after the grant, sets the block's TIMEOUT bit and, with the four cell records free,
records the cell, the kind 3 and a count of 1; then the item whose transaction it was fails (R11): a subscription, a stream
or a flow is fenced and the block's FENCE bit is set, a stream's oldest staged packet is dropped under 0x26, and where the
error is tied to no item the wing contains it. CDC_PARITY_ERROR sets the block's PARITY bit and the wing's bit of
CHP_CDC_ERR, the items of the queue are dropped as poisoned, and the wing contains it. To contain is to report the failure
of a block that cannot be reset (under a cause that is a free value, log 85), to report under cause 1 a block reset less
than 1 s before, and to reset any other. BLOCK_RESET is judged in the order of R22: bad value, mode, listed; a reset that is
accepted logs the block's error status, wipes the block and applies its reset (STATE 1), counts the reset and sets the RESET
bit. BLOCK_RESET_DONE of a block whose reset runs (of a cluster once its cores have executed WAIT), its wing not under
restart, with no part out of service and no image being applied, puts it back into STATE 4, the standby cluster into 6; it
leaves the mode and the fuses, and for a block other than a cluster changes registers, reports and events alone. -/
def Obligations.ErrorsAndResets : Prop :=
  let contained (u t : State) (w b : Nat) : Prop :=
    if cannotReset w b then
      ∃ cause : Nat, t = State.report { u with draws := u.draws + 1 } (blockTrigger w b cause)
    else if ∃ x, nget u.sup.resetAt (256 * w + b) = some x ∧ u.t < x + 1000000000 then t = u.report (blockTrigger w b 1)
    else t = u.resetBlock w b
  ∀ s : State,
    (∀ (w b c p granted : Nat) (item : ItemFlow), blockPresent w b = true → granted ≤ s.t →
      ∃ u t : State, exec (.cellTimeout w b c ⟨p, granted, item⟩) s = .next t ∧ fld (u.errRaw w b) 2 1 = 1 ∧
        (granted + 10000 < 2 ^ 64 → granted + 10000 ≤ u.t) ∧
        u = { s with regs := u.regs, cur := u.cur, mgmt := u.mgmt, time := u.time } ∧
        (1 ≤ w → (∀ i < 4, s.rfld .chpCellLog (w - 1) (4 * b + i) 31 1 = 0) →
          u.rget .chpCellLog (w - 1) (4 * b) = BitVec.ofNat 32 (c % 4096 + 3 * 0x1000 + 0x10000 + 0x80000000) ∧
          u.rget .chpCellWhere (w - 1) (4 * b) = BitVec.ofNat 32 p) ∧
        match item with
        | .sub n => t = (u.fenceSub n).setErr w b 4
        | .flow f => t = (u.fenceFlow f 0).setErr w b 4
        | .stream n => ∃ v : State, v = (u.fenceStream n).setErr w b 4 ∧ t =
            (match takeFirst (fun q => decide (q.stream = n)) v.rgs.staged with
            | some (_, r) => State.drop { v with rgs := { v.rgs with staged := r } } 0x26
            | none => v)
        | .untied => contained u t w b) ∧
    (∀ w b c items : Nat, blockPresent w b = true → w ≤ 4 →
      ∃ u t : State, exec (.cdcParityError w b ⟨c, items⟩) s = .next t ∧ fld (u.errRaw w b) 3 1 = 1 ∧ u.rfld .chpCdcErr 0 0 w 1 = 1 ∧
        u = { s with regs := u.regs, cur := u.cur, mgmt := u.mgmt } ∧
        contained ((List.range items).foldl (fun v _ => (v.drop 0x28).setErr w b 1) u) t w b) ∧
    (∀ (f : Fin 4) (v : W32) (w b : Nat), w = f.val + 1 → b = fld v 0 8 →
      ∃ t, exec (.blockReset f v) s = .next t ∧
        if b = 0 ∨ (w = 4 ∧ (b = 2 ∨ b = 3)) then t = { s with answer := ⟨9, []⟩ }
        else if (s.m.mode ≠ .maintain ∧ s.m.mode ≠ .diagnostic ∧ s.m.mode ≠ .recovery) ∨ blockListed w b = false then
          t = { s with answer := ⟨2, []⟩ }
        else
          ∃ u : State, u = (s.logFault 0x04 w b (s.errStatus w b).toNat 0).blockLoses w b ∧ t.answer = ⟨0, []⟩ ∧
            t.blkState w b = 1 ∧ fld (t.errRaw w b) 6 1 = 1 ∧
            t.rfld .chpWingBlkState (w - 1) b 8 8 = min 255 (u.rfld .chpWingBlkState (w - 1) b 8 8 + 1) ∧
            nget t.sup.resetAt (256 * w + b) = some s.t ∧
            t = { u with regs := t.regs, sup := t.sup, cur := t.cur, mgmt := t.mgmt, answer := ⟨0, []⟩ }) ∧
    (∀ w b : Nat, s.resetRuns w b = true → s.m.restarting.map (·.1) ≠ some w → s.sup.outParts = [] → s.stage ≠ 4 →
      ∃ t, exec (.blockResetDone w b) s = .next t ∧ t.m = s.m ∧ t.otp = s.otp ∧ 256 * w + b ∉ t.sup.wdtOpen ∧
        t.blkState w b = (if w = 2 ∧ 16 ≤ b ∧ t.standby = some (b - 16) then 6 else 4) ∧
        (w ≠ 2 ∨ b < 16 → t = { s with regs := t.regs, sup := t.sup, cur := t.cur, mgmt := t.mgmt }))

/-- JCP READ and WRITE of registers. A READ that the processor takes afresh, of COUNT mapped words of one block in
service, from a session with the permission, is answered OK with the words as they read in one pass, low words of counters
latching their high words; nothing else changes. A WRITE that it takes afresh, of 1 to 256 words without a mask, from a
session with the permission, is answered with the outcome of writing its words in one pass: OK where every word is
written (and the session still exists), or the status of the first that is refused with nothing written. A WRITE of one word
to a register without write behaviour of its own, in a block in service, is answered OK: the register's RW bits hold the
value, its RW1C bits written with 1 are clear, and its other bits, every other register and the rest of the machine stay. -/
def Obligations.JcpRegisters : Prop :=
  ∀ (s : State) (d : Datagram) (k : Nat) (x : Session) (ep : Epoch),
    (∀ (ra rn : Bytes) (a n : Nat), s.takesCmd d 2 k x ep [(0x10, ra), (0x11, rn)] → x.perm.getLsbD 0 = true →
      ra.length = 4 → rn.length = 4 → a = beNat ra → n = beNat rn → 1 ≤ n → n ≤ 256 → mappedAddr a = true →
      mappedAddr (a + 4 * (n - 1)) = true → a / 0x100000 = (a + 4 * (n - 1)) / 0x100000 →
      s.blkUp (addrWing a) (addrBlk a) = true →
      ∃ t, exec (.read d) s = .next t ∧
        t.answers ((s.begun d k x).readWords a n).2 d x ep 0
          (tlv 0x12 (((s.begun d k x).readWords a n).1.flatMap fun w => beBytes 4 w.toNat)) ∧
        t = { s with cur := t.cur, mgmt := t.mgmt, latches := t.latches }) ∧
    (∀ wa wd : Bytes, s.takesCmd d 3 k x ep [(0x10, wa), (0x12, wd)] → x.perm.getLsbD 1 = true → wa.length = 4 →
      wd.length % 4 = 0 → 4 ≤ wd.length → wd.length ≤ 1024 →
      (match (s.begun d k x).writeRun (beNat wa) (wordsOf wd) none with
      | .ok u => (u.cur.sessions[k]?).isSome = true → ∃ t, exec (.write d) s = .next t ∧ t.answers u d x ep 0 []
      | .error e => ∃ t, exec (.write d) s = .next t ∧ t.answers (s.begun d k x) d x ep e []) ∧
      (∀ (a : Nat) (r : Reg) (u i : Nat) (v : W32), a = beNat wa → v = BitVec.ofNat 32 (beNat wd) → wd.length = 4 →
        mappedAddr a = true → s.blkUp (addrWing a) (addrBlk a) = true → findReg a = some ⟨r, u, i, false⟩ →
        (regInfo r).wide = false → plainReg r = true →
        ∃ t, exec (.write d) s = .next t ∧ t.replied d x ep 0 [] ∧ t.regsKept s [regAddr r u i] ∧
          t = { s with cur := t.cur, mgmt := t.mgmt, regs := t.regs } ∧
          ∀ j < 32, (t.rget r u i).getLsbD j =
            if (regInfo r).rw.getLsbD j then v.getLsbD j
            else if (regInfo r).rw1c.getLsbD j && v.getLsbD j then false
            else (s.rget r u i).getLsbD j))

/-- OBJ_CREATE, OBJ_MODIFY and OBJ_DELETE. A well-formed OBJ_CREATE that the processor takes afresh from a session with
the permission is answered with the outcome of the creation: OK, and the object, which did not exist, exists; or a
status, and the objects are as they were. One of a conference with no attribute, whose ID is below 4,096 and free and
whose audio fits the limits, is answered OK, and nothing else changes. OBJ_MODIFY is answered OK with the change carried
out, or with a status and nothing changed. One of a port shaper's RATE, at most 400,000,000 kb/s and at most what BURST
and REFILL carry, is answered OK: RATE holds the value and waits for the shaper's next refill. OBJ_DELETE is answered OK
with the number of dependants deleted, and the object no longer exists (an output whose frame is in composition ends with
that frame); or with a status and nothing changed. One of a subscription that exists is answered OK with 0. -/
def Obligations.JcpObjects : Prop :=
  ∀ (s : State) (d : Datagram) (k : Nat) (x : Session) (ep : Epoch) (l : List (Nat × Bytes)) (ty id : Nat),
    x.perm.getLsbD 2 = true → ty = beNat ((tlvOf l 0x20).getD []) → id = beNat ((tlvOf l 0x21).getD []) →
    (∀ (st : Nat) (u : State), s.takesCmd d 0x10 k x ep l → tlvsOk objSpec l = true →
      (s.begun d k x).objCreate ty id (attrsOf l) = (st, u) → (u.cur.sessions[k]?).isSome = true →
      ∃ t, exec (.objCreate d) s = .next t ∧ t.answers u d x ep st [] ∧
        if st = 0 then s.objExists ty id = false ∧ t.objExists ty id = true else t.objs = s.objs) ∧
    (∀ b : Bytes, s.takesCmd d 0x10 k x ep [(0x20, [3]), (0x21, b)] → b.length = 4 → beNat b < 4096 →
      s.objExists tyConf (beNat b) = false → s.audioFits (s.putAttrs tyConf (beNat b) []) = true →
      ∃ t, exec (.objCreate d) s = .next t ∧ t.replied d x ep 0 [] ∧ t.objExists tyConf (beNat b) = true ∧
        t = { s with cur := t.cur, mgmt := t.mgmt, objs := nput s.objs (objKey tyConf (beNat b)) [] }) ∧
    (s.takesCmd d 0x11 k x ep l → tlvsOk objSpec l = true →
      match (s.begun d k x).objModify ty id (attrsOf l) with
      | .ok u => (u.cur.sessions[k]?).isSome = true → ∃ t, exec (.objModify d) s = .next t ∧ t.answers u d x ep 0 [] ∧
          (ty ≤ 6 → s.objExists ty id = true)
      | .error e => ∃ t, exec (.objModify d) s = .next t ∧ t.answers (s.begun d k x) d x ep e []) ∧
    (∀ (b r : Bytes) (p : Nat), s.takesCmd d 0x11 k x ep [(0x20, [8]), (0x21, b), (0x22, beBytes 2 0x500 ++ r)] →
      b.length = 4 → p = beNat b → p < 96 → r.length = 4 → beNat r ≤ 400000000 →
      beNat r * s.shAttr 0 p 0x502 ≤ 8000 * s.shAttr 0 p 0x501 →
      ∃ t, exec (.objModify d) s = .next t ∧ t.replied d x ep 0 [] ∧ t.shAttr 0 p 0x500 = beNat r ∧
        t.shaper 0 p = { s.shaper 0 p with pending := true } ∧
        t = { s with cur := t.cur, mgmt := t.mgmt, objs := t.objs, tmg := t.tmg }) ∧
    (s.takesCmd d 0x12 k x ep l → tlvsOk (objSpec.take 2) l = true →
      match (s.begun d k x).objDelete ty id with
      | .ok (u, n) => (u.cur.sessions[k]?).isSome = true →
          ∃ t, exec (.objDelete d) s = .next t ∧ t.answers u d x ep 0 (tlv 0x11 (beBytes 4 n)) ∧
            s.objExists ty id = true ∧ (ty ≠ tyOutput ∨ s.composing id = false → t.objExists ty id = false)
      | .error e => ∃ t, exec (.objDelete d) s = .next t ∧ t.answers (s.begun d k x) d x ep e []) ∧
    (∀ b : Bytes, s.takesCmd d 0x12 k x ep [(0x20, [4]), (0x21, b)] → b.length = 4 → beNat b < 1048576 →
      s.objExists tySub (beNat b) = true →
      ∃ t, exec (.objDelete d) s = .next t ∧ t.replied d x ep 0 (tlv 0x11 (beBytes 4 0)) ∧
        t.objExists tySub (beNat b) = false ∧ (∀ j, j ≠ objKey tySub (beNat b) → nget t.objs j = nget s.objs j) ∧
        t = { s with cur := t.cur, mgmt := t.mgmt, objs := t.objs, stats := t.stats, fwd := t.fwd })

/-- KEY_INSTALL and STATS. A KEY_INSTALL that the processor takes afresh, of a profile's key and salt into a slot of an
existing leg, from a session with the permission, is answered OK; the slot then holds the derived keys with their
check code and passes the check for that leg under that profile; every other slot, object and register is as it was.
A STATS of one existing object is answered OK with its counters; with CLEAR 1 its counting counters then read 0,
else nothing changes. -/
def Obligations.JcpKeysAndStats : Prop :=
  ∀ (s : State) (d : Datagram) (k : Nat) (x : Session) (ep : Epoch),
    (∀ (bl bs bp key salt : Bytes) (p : Profile) (leg slot : Nat),
      s.takesCmd d 0x20 k x ep [(0x30, bl), (0x31, bs), (0x32, bp), (0x33, key), (0x34, salt)] → x.perm.getLsbD 3 = true →
      bl.length = 2 → bs.length = 1 → bp.length = 1 → leg = beNat bl → slot = beNat bs → leg < 32768 → slot < 2 →
      profileOf (beNat bp) = some p → key.length = p.key → salt.length = p.salt → s.objExists tyLeg leg = true →
      ∃ t, exec (.keyInstall d) s = .next t ∧ t.answers ((s.begun d k x).installKey leg slot (beNat bp) 0 p key salt) d x ep 0 [] ∧
        judgeSlot (t.slot (2 * leg + slot)) leg = .ok p ∧ (∀ i, i ≠ 2 * leg + slot → t.slot i = s.slot i) ∧
        t = { s with cur := t.cur, mgmt := t.mgmt, vlt := t.vlt }) ∧
    (∀ (bt bi bc : Bytes) (ty id : Nat),
      s.takesCmd d 0x50 k x ep [(0x20, bt), (0x21, bi), (0x61, bc)] → x.perm.getLsbD 7 = true → bt.length = 1 → bi.length = 4 →
      bc.length = 1 → ty = beNat bt → id = beNat bi → beNat bc ≤ 1 → 1 ≤ ty → ty ≤ 8 → s.statsExist ty id = true →
      32 + (s.countersTlv ty id).length ≤ ep.maxMsg →
      ∃ t, exec (.stats d) s = .next t ∧ t.replied d x ep 0 ((s.begun d k x).countersTlv ty id) ∧
        t = { s with cur := t.cur, mgmt := t.mgmt, stats := t.stats } ∧
        (beNat bc = 0 → t.stats = s.stats) ∧
        (beNat bc = 1 → (∀ n ∈ s.statsOf ty id, s.statNow ty id n = none → ngetD 0 t.stats (statKey ty id n) = 0) ∧
          ∀ key, (∀ n ∈ s.statsOf ty id, key ≠ statKey ty id n) → nget t.stats key = nget s.stats key))

/-- HELLO opens a pending epoch; events are acknowledged and resent. In a mode with JCP or in LINK_UP, a HELLO to the
management port of a session known by its ID and prefix and without a pending epoch, of the right length, under its image
key, with version list, features, nonce and a MAX_MSG from 1280 to 8960, and with a common version, opens a pending epoch
with the controller's nonce, a fresh one of the processor (16 free bytes, log 1), the traffic key of both, the highest
common version, the common features and the smaller MAX_MSG. It is answered under the image key with these version,
features, nonce and MAX_MSG (that they are the negotiated ones is the model's choice, log 100), and in LINK_UP opens the
start-up window (log 53); nothing else changes. An authentic EVENT_ACK takes just the event that it names out of flight;
beyond the sessions and management queues nothing changes. EVENT_RESEND of an event in flight of a session with an epoch
and a peer sends its message again and counts it where it has been sent fewer than eleven times; after eleven it is given up
and counted in CUR_EVENT_LOST. -/
def Obligations.HelloAndEvents : Prop :=
  ∀ (s : State) (k : Nat) (x : Session),
    (∀ (d : Datagram) (offer feat nonce most : Bytes) (v : Nat),
      s.jcpAddressed d.v6 d.dst d.dstPort = true → (s.jcpOn = true ∨ s.m.mode = .linkUp) → s.cur.restarting = false →
      jcpRow d.payload = some 1 → 32 ≤ d.payload.length → d.payload.length = 32 + jLength d.payload → d.payload.length ≤ s.cur.maxMsg →
      s.cur.sessions[k]? = some x → (∀ j < k, ∀ y, s.cur.sessions[j]? = some y → y.id ≠ x.id) → x.id = jSession d.payload →
      x.covers d = true → macOk x.imageKey d.payload = true → jFlags d.payload % 2 = 0 → x.hello = none →
      tlvsOf d.payload.length (jArea d.payload) = some [(1, offer), (2, feat), (3, nonce), (4, most)] → offer.length % 2 = 0 →
      2 ≤ offer.length → offer.length ≤ 16 → feat.length = 8 → nonce.length = 16 → most.length = 2 → 1280 ≤ beNat most →
      beNat most ≤ 8960 → commonVersion offer = some v →
      ∃ (t : State) (own reply : Bytes) (m : Nat), exec (.hello d) s = .next t ∧ own.length = 16 ∧ m = min (beNat most) s.cur.maxMsg ∧
        reply = replyMessage x.imageKey 0x0100 1 x.id (jSeq d.payload) 0 (tlv 5 (beBytes 2 v) ++
          tlv 2 (beBytes 8 (BitVec.ofNat 64 (beNat feat) &&& versionFeatures v).toNat) ++ tlv 3 own ++ tlv 4 (beBytes 2 m)) ∧
        nget t.mgmt d.port = some ((nget s.mgmt d.port).getD [] ++ [.message (peerOf d) reply]) ∧
        t.cur.sessions = lset s.cur.sessions k { x with hello := some ⟨⟨nonce, trafficKey x.imageKey nonce own x.id, v,
          BitVec.ofNat 64 (beNat feat) &&& versionFeatures v, m⟩, reply, jSeq d.payload, peerOf d⟩ } ∧
        t.m = (if s.m.mode = .linkUp then { s.m with windowOpen := true } else s.m) ∧
        t = { s with cur := { s.cur with rx := s.cur.rx.erase d, sessions := t.cur.sessions }, mgmt := t.mgmt, m := t.m, draws := t.draws }) ∧
    (∀ (d : Datagram) (ep : Epoch), s.authentic d 0x60 k x ep →
      ∃ (t : State) (y : Session), exec (.eventAck d) s = .next t ∧ t.cur.sessions[k]? = some y ∧
        (∀ e ∈ x.inFlight, e.seq % 2 ^ 32 ≠ (jSeq d.payload).toNat → e ∈ y.inFlight) ∧
        (∀ e ∈ y.inFlight, e.seq < x.eventSeq → e ∈ x.inFlight ∧ e.seq % 2 ^ 32 ≠ (jSeq d.payload).toNat) ∧
        t = { s with cur := t.cur, mgmt := t.mgmt }) ∧
    (∀ (e : InFlight) (ep : Epoch) (p : Peer) (n : Nat), s.cur.sessions[k]? = some x → (x.inFlight.find? fun f => decide (f.seq = n)) = some e →
      x.confirmed = some ep → x.peer = some p →
      ∃ t, exec (.eventResend k n) s = .next t ∧ t = { s with cur := t.cur, mgmt := t.mgmt, regs := t.regs, time := t.time } ∧
        if e.sends < 11 then
          nget t.mgmt p.port = some ((nget s.mgmt p.port).getD [] ++ [.message p (eventMessage x.id ep n e.event)]) ∧ t.regs = s.regs ∧
            ∃ y, t.cur.sessions[k]? = some y ∧ y.inFlight = x.inFlight.map fun f =>
              if f.seq = n then { f with sends := f.sends + 1, sentAt := t.t } else f
        else t.rget .curEventLost 0 0 = setFld (s.rget .curEventLost 0 0) 0 32 (min (2 ^ 32 - 1) (s.rfld .curEventLost 0 0 0 32 + 1)) ∧
          (n < x.eventSeq → ∀ y, t.cur.sessions[k]? = some y → ∀ f ∈ y.inFlight, f.seq ≠ n))

/-- A message with a wrong MAC changes nothing but a drop counter. A JCP datagram of any command that names a session
from its prefix with the right length, and whose MAC is right neither under the session's image key nor under its
epochs' keys, changes nothing but its own removal from the waiting datagrams and the drop counter of its reason (no
epoch yet, else a bad MAC): no object, key, register else, image, fuse or mode, and it is not answered. (No
IMAGE_APPLY is being carried on.) -/
def Obligations.UnauthenticDropped : Prop :=
  ∀ (s : State) (c : Instr) (d : Datagram) (k : Nat) (x : Session),
    datagramOf c = some d → s.stage ≠ 4 → s.cur.restarting = false → s.cur.sessions[k]? = some x →
    (∀ j < k, ∀ y, s.cur.sessions[j]? = some y → y.id ≠ x.id) → x.id = jSession d.payload → x.covers d = true →
    32 ≤ d.payload.length → d.payload.length = 32 + jLength d.payload → d.payload.length ≤ s.cur.maxMsg →
    macOk x.imageKey d.payload = false → (∀ ep, x.confirmed = some ep → macOk ep.key d.payload = false) →
    (∀ h, x.hello = some h → macOk h.epoch.key d.payload = false) →
    ∃ t, exec c s = .next t ∧
      (t = s ∨ (t.regsKept s [regAddr .curJcpDrop 0 0, regAddr .curJcpDrop 0 5] ∧
        t = { s with cur := { s.cur with rx := s.cur.rx.erase d }, regs := t.regs }))

/-- IMAGE_STAGE, VERIFY and ABORT. An IMAGE_STAGE that the processor takes afresh, with at least one byte, within the 64 MiB
stage area, from one of 16 sessions, with the permission and the feature, with the stage neither busy nor another session's
(GDDR7 in the order of its addresses), is answered OK: the bytes stand in the stage area and no other byte of GDDR7
changed, the stage is LOADING and the session's, no staged image is verified. VERIFY of a stage that is not busy is accepted
and answered later: the stage is VERIFYING. IMAGE_VERIFY_DONE of a stage in VERIFYING leaves it VERIFIED with the build's
identity, or INVALID with the reason. ABORT, with no action and no programming running, empties the stage, whichever state
it was in. -/
def Obligations.ImageStaging : Prop :=
  ∀ (s : State) (d : Datagram) (k : Nat) (x : Session) (ep : Epoch), x.perm.getLsbD 4 = true → ep.features.getLsbD 2 = true →
    (∀ bo data : Bytes, s.takesCmd d 0x30 k x ep [(0x40, bo), (0x41, data)] → bo.length = 4 → data ≠ [] →
      beNat bo + data.length ≤ 67108864 → s.stageBusy = false → (s.stageOwner = none ∨ s.stageOwner = some k) → k < 16 →
      nsorted s.gddr = true → ∃ t, exec (.imageStage d) s = .next t ∧ t.replied d x ep 0 [] ∧ t.stage = 1 ∧ t.stageOwner = some k ∧
        t.gread (s.regionBase 1 + beNat bo) data.length = data ∧ t.gddrKept s (s.regionBase 1 + beNat bo) data.length ∧
        t.cur.staged = none ∧ t.rget .curStageId 0 0 = 0 ∧ t.regsKept s [regAddr .curStage 0 0, regAddr .curStageId 0 0] ∧
        t = { s with cur := t.cur, mgmt := t.mgmt, regs := t.regs, gddr := t.gddr, poisoned := t.poisoned }) ∧
    (s.takesCmd d 0x3101 k x ep [(0x42, [1])] → s.stageBusy = false →
      ∃ t, exec (.verify d) s = .next t ∧ t.stage = 2 ∧ t.cur.imageOp = some k ∧ t.cur.staged = none ∧ t.mgmt = s.mgmt ∧
        (∃ y, t.cur.sessions[k]? = some y ∧ y.running = x.running ++ [⟨jSeq d.payload, 0x31, ep.key, ep.version, peerOf d⟩]) ∧
        t = { s with cur := t.cur, regs := t.regs }) ∧
    (s.stage = 2 →
      ∃ t, exec .imageVerifyDone s = .next t ∧ t.cur.imageOp = none ∧
        t = { s with cur := t.cur, mgmt := t.mgmt, regs := t.regs } ∧
        match s.verifyStage with
        | .ok i => t.stage = 3 ∧ t.cur.staged = some i ∧ t.rget .curStageId 0 0 = BitVec.ofNat 32 i.buildId
        | .error r => t.stage = 5 ∧ t.rfld .curStage 0 0 4 4 = r % 16) ∧
    (s.takesCmd d 0x3104 k x ep [(0x42, [4])] → s.cur.imageOp = none → s.cur.programming = none →
      ∃ t, exec (.abort d) s = .next t ∧ t.stage = 0 ∧ t.stageOwner = none ∧ t.cur.staged = none ∧ t.cur.applying = [] ∧
        t.replied d x ep 0 (tlv 0x44 (beBytes 4 (t.rget .curStage 0 0).toNat)) ∧
        t = { s with cur := t.cur, mgmt := t.mgmt, regs := t.regs })

/-- APPLY_BLOCK and APPLY_ALL start with the targets to apply. In MAINTAIN with a VERIFIED stage, an APPLY_BLOCK that
the processor takes afresh from a session with the permission and the feature, whose target has sections in the staged
image, all LIVE, whose block is free and, for DSP code, has a standby where one is needed, is accepted: the stage is
APPLYING with that one target to do, and application is carried on as far as it needs no other event. An APPLY_ALL of an
image whose sections that may be LIVE all are, whose others are those of the running image in any order, and whose targets
are all free with a standby where one is needed, has all LIVE targets to do in ascending order, the Curator's last.
CURATOR_FIRMWARE_RESTARTED lets JCP be taken again, gives the Curator's core its waiting items, and carries an application
on, if one runs. -/
def Obligations.ImageApplication : Prop :=
  ∀ (s : State),
    (∀ (d : Datagram) (k : Nat) (x : Session) (ep : Epoch) (i : ImageInfo), x.perm.getLsbD 4 = true → ep.features.getLsbD 2 = true →
      s.m.mode = .maintain → s.stage = 3 → s.cur.staged = some i →
      (∀ bt : Bytes, s.takesCmd d 0x3102 k x ep [(0x42, [2]), (0x43, bt)] → bt.length = 2 →
        (∃ y ∈ i.sections, y.target = beNat bt) → (∀ y ∈ i.sections, y.target = beNat bt → y.live = true) →
        s.targetBusy (beNat bt) = false → s.noStandby (beNat bt) = false →
        ∃ u : State, exec (.applyBlock d) s = .next u.applyOn ∧ u.accepts { s with cur := u.cur, regs := u.regs } d k ep ∧ u.stage = 4 ∧
          u.cur.applying = [beNat bt] ∧ u.cur.applyNow = none ∧ u.cur.applyAll = false ∧ u.cur.imageOp = some k ∧ u.cur.staged = some i ∧
          u.regsKept s [regAddr .curStage 0 0]) ∧
      (s.takesCmd d 0x3103 k x ep [(0x42, [3])] → (∀ y ∈ i.sections, y.mayLive = true → y.live = true) →
        (∃ r, s.cur.running = some r ∧ sameFixed r i = true) → (∀ y ∈ applyTargets i, s.targetBusy y = false ∧ s.noStandby y = false) →
        ∃ u : State, exec (.applyAll d) s = .next u.applyOn ∧ u.accepts { s with cur := u.cur, regs := u.regs } d k ep ∧ u.stage = 4 ∧
          u.cur.applying = applyTargets i ∧ u.cur.applyNow = none ∧ u.cur.applyAll = true ∧ u.cur.imageOp = some k ∧
          u.cur.staged = some i ∧ u.regsKept s [regAddr .curStage 0 0])) ∧
    (∃ u : State, u = State.assignWaiting { s with cur := { s.cur with restarting := false } } ∧
      exec .curatorFirmwareRestarted s = .next u.applyOn ∧ u.cur.restarting = false ∧ (s.stage ≠ 4 → u.applyOn = u))

/-- Programming a flash copy and committing the version. In SERVICE, DEGRADED or MAINTAIN with a VERIFIED stage and the
other copy checked, PROGRAM_A and PROGRAM_B of a session with the permission and the feature, taken afresh, are answered OK
at their start: the stage is PROGRAMMING. IMAGE_PROGRAM_DONE ends it: on success the staged bytes are recorded as
programmed into that copy (flash itself is outside the part) and the stage is VERIFIED; on failure nothing is programmed
and the stage is INVALID (the model's choice, log 57). PROGRAM_TIMEOUT ends it as a failure, 60 s after its start at the
earliest. COMMIT_VERSION, with both copies at or above the running image's security version and that at most 64, raises the
fuse counter to it and never lowers it. -/
def Obligations.ImageProgramming : Prop :=
  ∀ (s : State),
    (∀ (d : Datagram) (k : Nat) (x : Session) (ep : Epoch), x.perm.getLsbD 4 = true → ep.features.getLsbD 2 = true → s.serviceModes = true →
      (∀ (other : FlashCopy) (i j : ImageInfo) (c : Instr) (a : Nat), s.stage = 3 → s.cur.staged = some i →
        (s.begun d k x).checkCopy other = .ok j → (c = .programA d other ∧ a = 5 ∨ c = .programB d other ∧ a = 6) →
        s.takesCmd d (0x3100 + a) k x ep [(0x42, [byteOf a])] →
        ∃ t, exec c s = .next t ∧ t.stage = 6 ∧ t.cur.programming = some (a, s.t) ∧
          t.replied d x ep 0 (tlv 0x44 (beBytes 4 (t.rget .curStage 0 0).toNat)) ∧ t.regsKept s [regAddr .curStage 0 0] ∧
          t = { s with cur := t.cur, mgmt := t.mgmt, regs := t.regs }) ∧
      (∀ (copyA copyB : FlashCopy) (i a b : ImageInfo), s.cur.running = some i → (s.begun d k x).checkCopy copyA = .ok a →
        (s.begun d k x).checkCopy copyB = .ok b → i.secVersion ≤ a.secVersion → i.secVersion ≤ b.secVersion → i.secVersion ≤ 64 →
        s.takesCmd d 0x3107 k x ep [(0x42, [7])] →
        ∃ t, exec (.commitVersion d copyA copyB) s = .next t ∧
          t.otp = { s.otp with secVersion := max s.otp.secVersion i.secVersion } ∧
          t.replied d x ep 0 (tlv 0x44 (beBytes 4 (s.rget .curStage 0 0).toNat)) ∧
          t = { s with otp := t.otp, cur := t.cur, mgmt := t.mgmt })) ∧
    (∀ a at_ : Nat, s.cur.programming = some (a, at_) →
      (∀ ok : Bool, ∃ t, exec (.imageProgramDone ok) s = .next t ∧ t.cur.programming = none ∧ t.stage = (if ok then 3 else 5) ∧
        t.programmed = (if ok then s.programmed ++ [(a - 5, s.stagedBytes)] else s.programmed) ∧
        t = { s with cur := t.cur, mgmt := t.mgmt, regs := t.regs, programmed := t.programmed }) ∧
      ∃ t, exec .programTimeout s = .next t ∧ t.cur.programming = none ∧ t.stage = 5 ∧ t.programmed = s.programmed ∧
        (at_ + 60000000000 < 2 ^ 64 → at_ + 60000000000 ≤ t.t) ∧
        t = { s with cur := t.cur, mgmt := t.mgmt, regs := t.regs, time := t.time })

/-- MODE_REQ and LC_TARGET. A MODE_REQ that the processor takes afresh from a session with the permission, naming a mode
other than the present one: MAINTAIN or DIAGNOSTIC in SERVICE or DEGRADED leads there at once; SERVICE in MAINTAIN with no
operation running, or in DIAGNOSTIC with no test running, leads to SERVICE, or to DEGRADED with a part out; in both cases
the reply with the new mode is queued. SAFE_STOP leads to SAFE_STOP with cause 0x0F and an empty key table, POWER_UP to a
warm reset, which is SAFE_STOP where it is the third within 60 s or a reported failure that leads there waits. An LC_TARGET
that the life cycle allows, of a session with the permission and the feature, moves the part to DEPLOYED or RETURNED, with
the key table zeroised and a warm reset or such a SAFE_STOP; RETURNED leaves no owner key. -/
def Obligations.ModeRequests : Prop :=
  ∀ (s : State) (d : Datagram) (k : Nat) (x : Session) (ep : Epoch),
    (∀ (m : Mode), x.perm.getLsbD 5 = true → s.takesCmd d 0x4000 k x ep [(0x50, [byteOf (modeCode m)])] → s.m.mode ≠ m →
      (((m = .maintain ∨ m = .diagnostic) ∧ (s.m.mode = .service ∨ s.m.mode = .degraded)) →
        ∃ t, exec (.modeReq d) s = .next t ∧ t.m.mode = m ∧ t.m.prev = s.m.mode ∧ t.m.target = none ∧
          t.m.num = (if m = .maintain then 11 else 13) ∧ t.replied d x ep 0 (tlv 0x50 [byteOf (modeCode m)]) ∧ t.otp = s.otp ∧
          t.objs = s.objs ∧ t.vlt = s.vlt ∧ t.gddr = s.gddr) ∧
      (m = .service → (s.m.mode = .maintain ∧ s.maintaining = false ∨ s.m.mode = .diagnostic ∧ s.testing = false) →
        ∃ t, exec (.modeReq d) s = .next t ∧ t.m.mode = s.landing ∧ t.m.prev = s.m.mode ∧
          t.m.num = (if s.m.mode = .maintain then 12 else 14) ∧ t.replied d x ep 0 (tlv 0x50 [byteOf (modeCode s.landing)]) ∧
          t.otp = s.otp ∧ t.objs = s.objs ∧ t.vlt = s.vlt ∧ t.gddr = s.gddr) ∧
      (m = .safeStop → ∃ t, exec (.modeReq d) s = .next t ∧ t.m.mode = .safeStop ∧ t.otp = s.otp ∧ t.vlt.slots = [] ∧
        t.rfld .chpSupStatus 0 0 8 8 = 0x0F) ∧
      (m = .powerUp → ∃ t, exec (.modeReq d) s = .next t ∧ t.otp = s.otp ∧
        if s.thirdReset ∨ s.stopAmong s.sup.reported ≠ none then t.m.mode = .safeStop
        else t.m.mode = .powerUp ∧ t.m.target = some .wipe ∧ t.m.prev = s.m.mode)) ∧
    (∀ (n : Nat), x.perm.getLsbD 6 = true → ep.features.getLsbD 3 = true → s.takesCmd d 0x4001 k x ep [(0x51, [byteOf n])] →
      (n = 2 ∧ s.lifeCycle = 1 ∧ (∃ i, s.cur.running = some i ∧ bitN i.flags 1 = true) ∨ n = 3 ∧ (s.lifeCycle = 1 ∨ s.lifeCycle = 2)) →
      ∃ t, exec (.lcTarget d) s = .next t ∧ t.lifeCycle = n ∧ t.vlt.slots = [] ∧ (n = 3 → t.ownerKey = none) ∧
        if s.thirdReset ∨ s.stopAmong s.sup.reported ≠ none then t.m.mode = .safeStop else t.m.mode = .powerUp ∧ t.m.target = some .wipe)

/-- Writes that configure ports, quads and lanes. With the Atrium in service: in MAINTAIN a port reconfiguration that
R101 allows takes the new words over (an up port's link goes down, flagged and counted) and leaves the port in STATE 1 with
AN set, 3 in a fixed mode, 0 disabled, the one running reconfiguration noted unless disabled. A quad whose lanes no
enabled port uses takes its new rate in MAINTAIN. A FIR write in MAINTAIN or DIAGNOSTIC, within its bounds, of a
lane whose port does not negotiate is stored. In DIAGNOSTIC, with the lane's inversion as it stands, a lane test that the
lane's rate allows puts the lane's port into STATE 7 (an up link goes down, flagged and counted), clearing the port's last
one restarts it, and AGC_RELEASE releases the AGC of a lane that is under no test. -/
def Obligations.PortConfiguration : Prop :=
  ∀ s : State, s.blkUp 1 1 = true →
    (∀ (p : Fin 96) (cfg adv : Option W32) (c a : W32), s.m.mode = .maintain → (cfg.isSome = true ∨ adv.isSome = true) →
      c = cfg.getD (s.portCfg p) &&& (regInfo .atrPortCfg).rw → a = adv.getD (s.portAdv p) &&& (regInfo .atrPortAdv).rw →
      s.judgePort p c a = .ok () →
      ∃ t, exec (.portReconfig p cfg adv) s = .next t ∧ t.answer = ⟨0, []⟩ ∧ t.portCfg p = c ∧ t.portAdv p = a ∧
        t.portState p = (if cfgEnable c then (if cfgAn c then 1 else 3) else 0) ∧
        (cfgEnable c = true → t.atr.reconfig = some (p.val, if cfgAn c then none else some t.t)) ∧
        (s.portState p = 5 → t.rfld .atrPortErr 0 p 0 1 = 1 ∧ t.cget .atrCnt 0 (16 * p + 13) = s.cget .atrCnt 0 (16 * p + 13) + 1) ∧
        (s.portState p ≠ 5 → t = { s with regs := t.regs, atr := t.atr, answer := ⟨0, []⟩ })) ∧
    (∀ (q : Fin 24) (v : W32), s.m.mode = .maintain → (∀ i < 4, s.laneOwner (4 * q + i) = none) →
      ∃ t, exec (.atrQuadRate q v) s = .next t ∧ t.rfld .atrQuadRate 0 q 0 2 = fld v 0 2 ∧ t.regsKept s [regAddr .atrQuadRate 0 q] ∧
        t = { s with regs := t.regs, answer := ⟨0, []⟩ }) ∧
    (∀ (l : Fin 96) (v : W32), (s.m.mode = .maintain ∨ s.m.mode = .diagnostic) → (∀ p, s.laneOwner l = some p → cfgAn (s.portCfg p) = false) →
      firSum v ≤ 64 → fld v 12 7 ≤ 64 →
      ∃ t, exec (.atrLaneTxfir l v) s = .next t ∧ t.rget .atrLaneTxfir 0 l = v &&& (regInfo .atrLaneTxfir).rw ∧
        t.regsKept s [regAddr .atrLaneTxfir 0 l] ∧ t = { s with regs := t.regs, answer := ⟨0, []⟩ }) ∧
    (∀ (l : Fin 96) (v : W32) (p : Nat), s.m.mode = .diagnostic → s.laneOwner l = some p → fld v 0 2 = s.rfld .atrLaneCtl 0 l 0 2 →
      fld v 3 1 = 0 → fld v 8 3 ≠ 7 → (fld v 8 3 = 4 ∨ fld v 8 3 = 5 → s.laneRate l = 3) →
      ∃ t, exec (.laneTest l v) s = .next t ∧ t.answer = ⟨0, []⟩ ∧
        (fld v 8 3 ≠ 0 → t.portState p = 7 ∧ (s.portState p = 5 → t.rfld .atrPortErr 0 p 0 1 = 1 ∧
          t.cget .atrCnt 0 (16 * p + 13) = s.cget .atrCnt 0 (16 * p + 13) + 1)) ∧
        (s.portState p ≠ 5 → t.rget .atrLaneCtl 0 l = v &&& (regInfo .atrLaneCtl).rw ∧
          t = { s with regs := t.regs, atr := t.atr, answer := ⟨0, []⟩ }) ∧
        (fld v 8 3 = 0 → s.portState p = 7 → (∀ i ∈ s.portLanes p, i ≠ l.val → s.rfld .atrLaneCtl 0 i 8 3 = 0) →
          t.portState p = if cfgAn (s.portCfg p) then 1 else 3)) ∧
    (∀ (l : Fin 96) (v : W32), s.m.mode = .diagnostic → (∀ p, s.laneOwner l = some p → s.portState p ≠ 7) →
      fld v 0 2 = s.rfld .atrLaneCtl 0 l 0 2 → fld v 3 1 = 1 → fld v 8 3 = 0 →
      ∃ t, exec (.agcRelease l v) s = .next t ∧ t.rfld .atrLaneRxstat 0 l 3 1 = 0 ∧
        t.rget .atrLaneCtl 0 l = v &&& (regInfo .atrLaneCtl).rw ∧ t.regsKept s [regAddr .atrLaneCtl 0 l, regAddr .atrLaneRxstat 0 l] ∧ t = { s with regs := t.regs, answer := ⟨0, []⟩ })

/-- Break-link, auto-negotiation and training. With the port's reference present and its quad in service,
BREAK_LINK_TIMER_EXPIRY leads from STATE 1 or 6 to AN (2), from 6 counting a restart, and Clause 73 offers the abilities
that survive the masking, with the FEC bits F0 0, F1 0, F2 1, F3 0. AN_COMPLETE in AN resolves the highest-rate ability
common with the partner into MODE and FEC and leads to training (3), with none common sets NO_COMMON and leads to 6, and
where Clause 73 restarts its arbitration leads back to break-link (1). TRAINING_DONE of a negotiating port in training, its
lanes able to run, puts the trained coefficients, those that R112 holds at 0 being 0, and the precoding in use and makes the
port ready. MAX_WAIT_TIMER_EXPIRY sets TRAIN_FAIL, counts a restart and leads back to break-link. -/
def Obligations.PortNegotiation : Prop :=
  ∀ (s : State) (p : Fin 96),
    ((s.portState p = 1 ∨ s.portState p = 6) → s.laneOk (cfgBase (s.portCfg p)) = true →
      ∃ t, exec (.breakLinkTimerExpiry p) s = .next t ∧ t.portState p = 2 ∧ t.regsKept s [regAddr .atrPortStatus 0 p] ∧
        (∃ offer : BitVec 11, (t.port p).offered = some (offer, 4) ∧
          ∀ i < 11, (offer.getLsbD i = true ↔ i ∈ s.surviving (s.portCfg p) (s.portAdv p))) ∧
        (∀ q, q ≠ p.val → t.port q = s.port q) ∧
        t = { s with regs := t.regs, ctrs := t.ctrs, atr := { s.atr with ports := t.atr.ports } } ∧
        t.ctrsKept s [regAddr .atrCnt 0 (16 * p + 14)] ∧
        t.cget .atrCnt 0 (16 * p + 14) = s.cget .atrCnt 0 (16 * p + 14) + (if s.portState p = 6 then 1 else 0)) ∧
    (∀ (partner : Option (BitVec 11)) (best : Option Nat), s.portState p = 2 →
      best = bestAbility ((s.surviving (s.portCfg p) (s.portAdv p)).filter fun i => (partner.getD 0).getLsbD i) →
      ∃ t, exec (.anComplete p partner) s = .next t ∧ t.otp = s.otp ∧ t.m = s.m ∧
        if partner = none then t.portState p = 1 ∧ t.regsKept s [regAddr .atrPortStatus 0 p] ∧ t = { s with regs := t.regs }
        else match best with
        | some i => t.portState p = 3 ∧ t.rfld .atrPortStatus 0 p 4 4 = abilityMode i ∧
            t.rfld .atrPortStatus 0 p 8 2 = resolvedFec (abilityMode i) ∧ (t.port p).ready = false ∧
            t = { s with regs := t.regs, atr := t.atr }
        | none => t.portState p = 6 ∧ t.rfld .atrPortErr 0 p 1 1 = 1) ∧
    (s.portState p = 3 → cfgAn (s.portCfg p) = true → (s.port p).ready = false →
      (∀ (fir : List W32) (precode : List Bool) (ctle : List Nat), (s.usedLanes p).all s.laneOk = true →
        ∃ t, exec (.trainingDone p fir ⟨precode, ctle⟩) s = .next t ∧ (t.port p).ready = true ∧ (t.port p).precode = precode ∧
          (∀ (i l : Nat) (w : W32), (s.usedLanes p)[i]? = some l → fir[i]? = some w →
            t.rget .atrLaneTxfir 0 l = trainedFir (decide (s.laneRate (cfgBase (s.portCfg p)) ≤ 2)) (s.rget .atrLaneTxfir 0 l) w ∧
              fld (trainedFir (decide (s.laneRate (cfgBase (s.portCfg p)) ≤ 2)) 0 w) 25 6 = 0 ∧
              (s.laneRate (cfgBase (s.portCfg p)) ≤ 2 →
                fld (trainedFir (decide (s.laneRate (cfgBase (s.portCfg p)) ≤ 2)) 0 w) 0 6 = 0)) ∧
          t = { s with regs := t.regs, atr := t.atr }) ∧
      ∃ t, exec (.maxWaitTimerExpiry p) s = .next t ∧ t.portState p = 1 ∧ t.rfld .atrPortErr 0 p 2 1 = 1 ∧
        t.cget .atrCnt 0 (16 * p + 14) = s.cget .atrCnt 0 (16 * p + 14) + 1 ∧ (t.port p).ready = false ∧
        t = { s with regs := t.regs, ctrs := t.ctrs, atr := t.atr, cur := t.cur, mgmt := t.mgmt })

/-- Receivers lock, lanes gain and lose block lock. RECEIVER_LOCK of a fixed-mode port that is adapting, all its lanes able
to run, marks its lanes' receivers and makes the port ready. RECONFIG_LOCK_TIMEOUT of the port under
reconfiguration, still not ready, completes the reconfiguration, at least 200 ms after adaptation began, and counts
the miss. BLOCK_LOCK of a lane in use, able to run, of a starting or up port that does not train records what the receiver
settled on, with the AGC frozen, and the LOCKED bit; a frozen AGC keeps its gain, a frozen DFE its tap. BLOCK_LOCK_LOST of a
locked lane clears its lock and releases its AGC. -/
def Obligations.LaneLock : Prop :=
  ∀ (s : State),
    (∀ (p : Fin 96) (ctle : List Nat), s.portState p = 3 → cfgAn (s.portCfg p) = false → (s.portLanes p).all s.laneOk = true →
      ∃ t, exec (.receiverLock ⟨p, ctle⟩) s = .next t ∧ (t.port p).ready = true ∧ (∀ l ∈ s.usedLanes p, t.rfld .atrLaneRxstat 0 l 0 2 = 3) ∧
        t = { s with regs := t.regs, atr := t.atr }) ∧
    (∀ (p : Fin 96) (since : Nat), s.atr.reconfig = some (p.val, some since) → s.portState p = 3 → (s.port p).ready = false →
      ∃ t, exec (.reconfigLockTimeout p) s = .next t ∧ t.atr.reconfig = none ∧ (since + 200000000 < 2 ^ 64 → since + 200000000 ≤ t.t) ∧
        t.cget .atrCnt 0 (16 * p + 14) = s.cget .atrCnt 0 (16 * p + 14) + 1 ∧ t.ctrsKept s [regAddr .atrCnt 0 (16 * p + 14)] ∧
        t = { s with ctrs := t.ctrs, time := t.time, atr := { s.atr with reconfig := none } }) ∧
    (∀ (l : Fin 96) (rx : LaneRx) (p : Nat), s.laneOwner l = some p → l.val ∈ s.usedLanes p → 3 ≤ s.portState p → s.portState p ≤ 5 →
      s.laneOk l = true → (cfgAn (s.portCfg p) = true → (s.port p).ready = true) →
      ∃ t, exec (.blockLock l rx) s = .next t ∧ t.rfld .atrLaneRxstat 0 l 0 4 = 15 ∧
        t.rfld .atrLaneRxstat 0 l 4 8 = (if s.rfld .atrLaneRxstat 0 l 3 1 = 1 then s.rfld .atrLaneRxstat 0 l 4 8 else rx.gain.toNat) ∧
        t.rfld .atrLaneRxstat 0 l 12 8 = (if s.rfld .atrLaneCtl 0 l 2 1 = 1 then s.rfld .atrLaneRxstat 0 l 12 8 else rx.tap1.toNat) ∧
        t.rfld .atrLaneRxstat 0 l 20 8 = rx.eye.toNat ∧
        t.rfld .atrPortStatus 0 p (16 + (l.val - cfgBase (s.portCfg p))) 1 = 1 ∧
        t.regsKept s [regAddr .atrLaneRxstat 0 l, regAddr .atrPortStatus 0 p] ∧ t = { s with regs := t.regs, atr := t.atr }) ∧
    (∀ l : Fin 96, s.rfld .atrLaneRxstat 0 l 2 1 = 1 →
      ∃ t, exec (.blockLockLost l) s = .next t ∧ t.rfld .atrLaneRxstat 0 l 2 1 = 0 ∧ t.rfld .atrLaneRxstat 0 l 3 1 = 0 ∧
        (∀ p, s.laneOwner l = some p → s.portState p = 4 → (t.port p).holdFrom = none) ∧ t = { s with regs := t.regs, atr := t.atr })

/-- A link comes up and goes down. LINK_DOWN of an up port sets LINK_DOWN, counts it in counter 13, tells the traffic
manager, which drains the port's legs, raises the event, and starts the port again (STATE 1 with AN set, 3 in a fixed mode);
a HI_BER cause is flagged and counted too. In hold-off it ends the hold, a HI_BER cause flagged and counted as well.
LINK_FAIL_INHIBIT_EXPIRY in hold-off without link status leads a negotiating port back to break-link. LINK_UP_HOLD_EXPIRY
in hold-off with the status true since HOLD_MS brings the link up (STATE 5), at least HOLD_MS after it turned true, ends the
port's reconfiguration and tells the traffic manager. -/
def Obligations.LinkUpAndDown : Prop :=
  ∀ (s : State) (p : Fin 96),
    (∀ cause : LinkLoss, s.portState p = 5 →
      ∃ u t : State, u.rfld .atrPortErr 0 p 0 1 = 1 ∧ u.cget .atrCnt 0 (16 * p + 13) = s.cget .atrCnt 0 (16 * p + 13) + 1 ∧
        u.rfld .tmgPortState 0 p 0 1 = 1 ∧ (cause = .hiBer → u.rfld .atrPortErr 0 p 3 1 = 1 ∧
          u.cget .atrCnt 0 (16 * p + 12) = s.cget .atrCnt 0 (16 * p + 12) + 1) ∧
        u = { s with regs := u.regs, ctrs := u.ctrs, cur := u.cur, mgmt := u.mgmt } ∧
        t = ((u.drainPort p).raise 5 0 0 [byteOf p]).againAfterLoss p ∧ exec (.linkDown p cause) s = .next t ∧
        t.portState p = (if cfgAn (s.portCfg p) then 1 else 3)) ∧
    (∀ cause : LinkLoss, s.portState p = 4 →
      ∃ t, exec (.linkDown p cause) s = .next t ∧ t.atr = (s.setPort p { s.port p with holdFrom := none }).atr ∧
        (cause ≠ .hiBer → t = { s with atr := t.atr }) ∧
        (cause = .hiBer → t.rfld .atrPortErr 0 p 3 1 = 1 ∧ t.cget .atrCnt 0 (16 * p + 12) = s.cget .atrCnt 0 (16 * p + 12) + 1)) ∧
    (s.portState p = 4 → cfgAn (s.portCfg p) = true → (s.port p).holdFrom = none →
      ∃ t, exec (.linkFailInhibitExpiry p) s = .next t ∧ t.portState p = 1 ∧ (t.port p).ready = false ∧
        t = { s with regs := t.regs, atr := t.atr }) ∧
    (∀ h : Nat, s.portState p = 4 → (s.port p).holdFrom = some h →
      ∃ t, exec (.linkUpHoldExpiry p) s = .next t ∧ t.portState p = 5 ∧ t.rfld .tmgPortState 0 p 0 1 = 0 ∧
        (h + 2 ^ 31 < 2 ^ 64 → h + s.rfld .atrLinkCfg 0 0 0 10 * 1000000 ≤ t.t) ∧
        (∀ x, s.atr.reconfig = some (p.val, x) → t.atr.reconfig = none) ∧ t.otp = s.otp ∧ t.m = s.m ∧ t.objs = s.objs)

/-- The receive MAC, the parser and the Catalogue's rewrite. MAC_RECEIVE at an up port counts the FEC codewords, and
takes a frame of 64 octets or more, not longer than allowed, with a right FCS, that fits the FIFO share and is no
flow control frame, into the FIFO with its stamp, counted with its length; a frame with a wrong FCS or an
uncorrectable codeword is dropped with reason 1 and counted. While the Atrium is out of service a frame is dropped with
reason 4, as one that finds the FIFO full (the model's reading, log 89). REGISTRAR_PARSE, with the Registrar in service and
room in the staging memory, takes the oldest frame of the FIFO through the parser; a datagram addressed to JCP, with a token
in the bucket, joins the Curator's; a frame whose parse fails is dropped with its reason and changes nothing but counters.
CATALOGUE_REWRITE ends the read error of just that entry. -/
def Obligations.FramesReceived : Prop :=
  ∀ (s : State) (p : Fin 96),
    (∀ (frame : Bytes) (fec : FecReport), s.portState p = 5 → s.blkUp 1 1 = true →
      ∃ t, exec (.macReceive p frame fec) s = .next t ∧
        t.cget .atrCnt 0 (16 * p + 9) = s.cget .atrCnt 0 (16 * p + 9) + BitVec.ofNat 64 fec.corrected ∧
        t.cget .atrCnt 0 (16 * p + 10) = s.cget .atrCnt 0 (16 * p + 10) + BitVec.ofNat 64 fec.uncorrectable ∧
        ((fec.uncorrectable > 0 ∨ frame.drop (frame.length - 4) ≠ leBytes 4 (crc32 (frame.take (frame.length - 4))).toNat) →
          t.cget .rgsDropCnt 0 1 = s.cget .rgsDropCnt 0 1 + 1 ∧ t.cget .atrCnt 0 (16 * p + 4) = s.cget .atrCnt 0 (16 * p + 4) + 1 ∧
          t.atr = s.atr) ∧
        (fec.uncorrectable = 0 → frame.drop (frame.length - 4) = leBytes 4 (crc32 (frame.take (frame.length - 4))).toNat →
          64 ≤ frame.length → frame.length ≤ s.rfld .atrLinkCfg 0 0 16 14 → beField frame 12 2 ≠ 0x8808 →
          ((s.port p).fifo.map (·.bytes.length)).sum + frame.length ≤ s.fifoShare p →
          (t.port p).fifo = (s.port p).fifo ++ [⟨frame, s.t⟩] ∧ t.cget .atrCnt 0 (16 * p) = s.cget .atrCnt 0 (16 * p) + 1 ∧
          t.cget .atrCnt 0 (16 * p + 1) = s.cget .atrCnt 0 (16 * p + 1) + BitVec.ofNat 64 frame.length ∧
          t = { s with ctrs := t.ctrs, atr := t.atr })) ∧
    (∀ (frame : Bytes) (fec : FecReport), s.portState p = 5 → s.blkUp 1 1 = false →
      ∃ t, exec (.macReceive p frame fec) s = .next t ∧ t.cget .rgsDropCnt 0 4 = s.cget .rgsDropCnt 0 4 + 1 ∧
        t.cget .atrCnt 0 (16 * p + 7) = s.cget .atrCnt 0 (16 * p + 7) + 1 ∧ t.rfld .atrPortErr 0 p 5 1 = 1 ∧ t.atr = s.atr) ∧
    (∀ (ue : List Nat) (f : RxFrame) (rest : List RxFrame), (s.port p).fifo = f :: rest → s.blkUp 1 2 = true →
      s.stagingCells + cdiv f.bytes.length 256 ≤ 32768 →
      ∃ u : State, (u.port p).fifo = rest ∧ u = { s with atr := u.atr, rgs := { s.rgs with ue := u.rgs.ue } } ∧
        exec (.registrarParse p ue) s = .next (u.frameIn p f) ∧
        (∀ (inner outer : Layer) (off len : Nat), parseFrame (s.parseCfg p) (f.bytes.take (f.bytes.length - 4)) = .udp inner outer off len →
          s.jcpAddressed inner.v6 inner.dst inner.dstPort = true →
          1000000 ≤ (s.rgs.jcp.credit s.t (s.rfld .rgsJcpRate 0 0 0 16) (s.rfld .rgsJcpRate 0 0 16 12)).level →
          (u.frameIn p f).cur.rx = s.cur.rx ++ [⟨p, slice f.bytes 6 6, inner.v6, inner.src, inner.dst, inner.srcPort, inner.dstPort,
            slice (f.bytes.take (f.bytes.length - 4)) off len⟩] ∧
          u.frameIn p f = { u with ctrs := (u.frameIn p f).ctrs, rgs := (u.frameIn p f).rgs, cur := (u.frameIn p f).cur }) ∧
        ∀ c, parseFrame (s.parseCfg p) (f.bytes.take (f.bytes.length - 4)) = .fail c none → c < 64 →
          (u.frameIn p f).cget .rgsDropCnt 0 c = s.cget .rgsDropCnt 0 c + 1 ∧
          (u.frameIn p f).cget .rgsPortCnt 0 (8 * p + 4) = s.cget .rgsPortCnt 0 (8 * p + 4) + 1 ∧
          u.frameIn p f = { u with ctrs := (u.frameIn p f).ctrs }) ∧
    (∀ st : Fin 131072, ∃ t, exec (.catalogueRewrite st) s = .next t ∧ (∀ x, x ∈ t.rgs.ue ↔ x ∈ s.rgs.ue ∧ x ≠ st.val) ∧
      t = { s with rgs := { s.rgs with ue := t.rgs.ue } })

/-- Writes of the buckets' rates, a pool, scaler coefficients, and the start of a swap. With its block in service:
RGS_JCP_RATE with a rate and a burst above 0 stores them, and the bucket keeps what it has gathered, cut down to a
smaller burst; RGS_PUNT_RATE with a burst above 0 does the same for one port. CLO_POOL_CFG that keeps COUNT, or comes
in LOAD, with a ceiling no lower than the pool stores COUNT and CEIL; one that changes COUNT after LOAD is refused.
CMP_COEF_WRITE in MAINTAIN either changes nothing, answered BAD_VALUE, or leaves every touched phase with the sum 64 and
touches no other coefficient; a write of one luma coefficient that keeps the sum is stored. DOC_SWAP in MAINTAIN with a
standby and no swap running starts the standby's reload. -/
def Obligations.RateRegisters : Prop :=
  ∀ s : State,
    (∀ v : W32, s.blkUp 1 2 = true → fld v 0 16 ≠ 0 → fld v 16 12 ≠ 0 →
      ∃ t, exec (.rgsJcpRate v) s = .next t ∧ t.rfld .rgsJcpRate 0 0 0 16 = fld v 0 16 ∧ t.rfld .rgsJcpRate 0 0 16 12 = fld v 16 12 ∧
        t.rgs.jcp.level ≤ fld v 16 12 * 1000000 ∧ t.rgs.jcp.at_ = s.t ∧ t.regsKept s [regAddr .rgsJcpRate 0 0] ∧
        t = { s with regs := t.regs, rgs := { s.rgs with jcp := t.rgs.jcp }, answer := ⟨0, []⟩ }) ∧
    (∀ (p : Fin 96) (v : W32), s.blkUp 1 2 = true → fld v 16 12 ≠ 0 →
      ∃ t, exec (.rgsPuntRate p v) s = .next t ∧ t.rfld .rgsPuntRate 0 p 0 16 = fld v 0 16 ∧ t.rfld .rgsPuntRate 0 p 16 12 = fld v 16 12 ∧
        (ngetD {} t.rgs.punt p).level = min (s.puntNow p).level (fld v 16 12 * 1000000) ∧
        (∀ q, q ≠ p.val → nget t.rgs.punt q = nget s.rgs.punt q) ∧ t.regsKept s [regAddr .rgsPuntRate 0 p] ∧
        t = { s with regs := t.regs, rgs := { s.rgs with punt := t.rgs.punt }, answer := ⟨0, []⟩ }) ∧
    (∀ (q : Fin 8) (v : W32), s.blkUp 4 2 = true →
      (s.afterLoad = true → fld v 0 24 ≠ s.poolCount q → exec (.cloPoolCfg q v) s = .next { s with answer := ⟨2, []⟩ }) ∧
      ((s.afterLoad = true → fld v 0 24 = s.poolCount q) → q.val ≤ fld v 24 3 →
        ∃ t, exec (.cloPoolCfg q v) s = .next t ∧ t.rfld .cloPoolCfg 0 q 0 24 = fld v 0 24 ∧ t.rfld .cloPoolCfg 0 q 24 3 = fld v 24 3 ∧
          t.regsKept s [regAddr .cloPoolCfg 0 q] ∧ t = { s with regs := t.regs, answer := ⟨0, []⟩ })) ∧
    (∀ (luma : List (Fin 128 × W32)) (chroma : List (Fin 64 × W32)), s.blkUp 3 12 = true → s.m.mode = .maintain →
      ∃ t, exec (.cmpCoefWrite luma chroma) s = .next t ∧
        (t = { s with answer := ⟨9, []⟩ } ∨
          ((∀ e ∈ luma, t.phaseOk true e.1 = true) ∧ (∀ e ∈ chroma, t.phaseOk false e.1 = true) ∧
            t.regsKept s (luma.map (fun e => regAddr .cmpLcoef 0 e.1) ++ chroma.map fun e => regAddr .cmpCcoef 0 e.1) ∧
            t = { s with regs := t.regs, answer := ⟨0, []⟩ })) ∧
        ∀ e, luma = [e] → chroma = [] → (s.rset .cmpLcoef 0 e.1 e.2).phaseOk true e.1 = true →
          t = { s.rset .cmpLcoef 0 e.1 e.2 with answer := ⟨0, []⟩ }) ∧
    (∀ (v : W32) (tgt : Nat), s.blkUp 2 1 = true → s.m.mode = .maintain → s.doc.swap = none → s.standby = some tgt →
      ∃ t, exec (.docSwap v) s = .next t ∧ t.answer = ⟨0, []⟩ ∧ t.doc.swap = some (fld v 0 4, s.docMapOf (fld v 0 4), tgt, false) ∧
        t.phase = 1 ∧ t.rfld .docSwapStatus 0 0 2 4 = fld v 0 4 ∧ t.clState tgt = 2 ∧ t.blkState 2 (16 + tgt) = 3 ∧ t.m = s.m ∧
        t.otp = s.otp)

/-- SRTP in and out, and what a slot must be. SRTP_INGRESS with the Vault in service takes the oldest staged packet.
Where the leg's receive slot holds no key, empty as after zeroising or retired, the packet is dropped for want of a key and
counted, and where, with a long enough packet that the replay window lets pass, the tag does not match it is dropped and
counted; it is stored nowhere. Where slot, length, replay window, tag, padding and compound are right, the plain packet is
stored, and with REPLAY its index is taken in the replay window, so that the same index does not pass again. SRTP_EGRESS
takes the oldest copy and, with a usable transmit slot, admits it to its class queue encrypted and tagged, and a copy that
waited for egress credit enters. A packet or copy whose pipelines are all fenced waits. KEY_SLOT_REWRITE ends the read error
of just that slot. -/
def Obligations.SecureMedia : Prop :=
  ∀ s : State,
    (∀ (x : Staged) (rest : List Staged) (b : Bytes) (n roc seq index head tag : Nat) (high : Option Nat) (win : BitVec 128),
      s.rgs.staged = x :: rest → s.blkUp 1 3 = true → 2 * x.leg ∉ s.vlt.ue → b = slice x.frame x.off x.len → n = b.length →
      (judgeSlot (s.slot (2 * x.leg)) x.leg = .error 0x43 →
        ∃ t, exec (.srtpIngress false) s = .next t ∧ t.cget .vltDropCnt 0 3 = s.cget .vltDropCnt 0 3 + 1 ∧
          t = { s with rgs := { s.rgs with staged := rest }, ctrs := t.ctrs, stats := t.stats }) ∧
      (∀ p : Profile, judgeSlot (s.slot (2 * x.leg)) x.leg = .ok p → seq = beField b 2 2 →
        roc = (if 0x8000 ≤ seq then (s.ctx x.stream).rocHigh else (s.ctx x.stream).rocLow).toNat →
        tag = (if x.rtcp then p.rtcpTag else p.rtpTag) → head = (if x.rtcp then 8 else if n < 12 then 12 else rtpHeaderLen b) →
        index = (if x.rtcp then beField b (if p.aead then n - 4 else n - 4 - tag) 4 % 2147483648 else roc * 65536 + seq) →
        high = (if x.rtcp then (s.ctx x.stream).rtcpHigh else (s.ctx x.stream).rtpHigh) →
        win = (if x.rtcp then (s.ctx x.stream).rtcpWin else (s.ctx x.stream).rtpWin) →
        head + tag + (if x.rtcp then 4 else 0) ≤ n → (x.replay = true → replayOk high win index = true) →
        (s.pipesFor p = false → exec (.srtpIngress false) s = .next s) ∧
        (s.pipesFor p = true → unprotect (s.slot (2 * x.leg)) p x.rtcp b index = none →
          ∃ t, exec (.srtpIngress false) s = .next t ∧ t.cget .vltDropCnt 0 0 = s.cget .vltDropCnt 0 0 + 1 ∧
            t = { s with rgs := { s.rgs with staged := rest }, ctrs := t.ctrs, stats := t.stats }) ∧
        (∀ plain : Bytes, s.pipesFor p = true → unprotect (s.slot (2 * x.leg)) p x.rtcp b index = some plain →
          (x.rtcp = false → byteN plain 0 / 32 % 2 = 1 → 1 ≤ byteN plain (plain.length - 1) ∧
            byteN plain (plain.length - 1) ≤ plain.length - head) → (x.rtcp = true → compoundOk plain.length plain = true) →
          ∃ u v : State, v = { s with rgs := { s.rgs with staged := rest }, vlt := v.vlt } ∧ v.vlt.slots = s.vlt.slots ∧
            u = ((if x.rtcp then v else v.rocNotice x.stream seq).cinc .vltJobCnt 0 0).sinc tyStream x.stream 0x200 ∧
            exec (.srtpIngress false) s =
              .next (u.store { x with frame := x.frame.take x.off ++ plain, len := plain.length }) ∧
            (∀ st, st ≠ x.stream → v.ctx st = s.ctx st) ∧
            (x.replay = true → if x.rtcp then replayOk (v.ctx x.stream).rtcpHigh (v.ctx x.stream).rtcpWin index = false
              else replayOk (v.ctx x.stream).rtpHigh (v.ctx x.stream).rtpWin index = false)))) ∧
    (∀ (c : CopyJob) (rest : List CopyJob) (p : Profile) (index : Nat), s.vlt.copies = c :: rest → s.blkUp 1 3 = true →
      2 * c.leg + 1 ∉ s.vlt.ue → judgeSlot (s.slot (2 * c.leg + 1)) c.leg = .ok p →
      index = (if c.rtcp then c.index else c.index * 65536 + beField c.desc.cells 2 2) →
      (s.pipesFor p = false → exec (.srtpEgress false) s = .next s) ∧
      (s.pipesFor p = true →
        ∃ (u : State) (out : Bytes), out = protect (s.slot (2 * c.leg + 1)) p c.rtcp c.desc.cells index ∧
          u.cget .vltJobCnt 0 1 = s.cget .vltJobCnt 0 1 + 1 ∧ u.ctrsKept s [regAddr .vltJobCnt 0 1] ∧
          u = { s with
            vlt := { s.vlt with copies := rest ++ s.fwd.waitCopies.take (512 - rest.length) }
            fwd := { s.fwd with waitCopies := s.fwd.waitCopies.drop (512 - rest.length) }, ctrs := u.ctrs } ∧
          exec (.srtpEgress false) s =
            .next (u.admitCopy c.leg c.cls 3 { c.desc with cells := out, len := out.length, ctag := appliedTag c.leg }))) ∧
    (∀ i : Fin 65536, ∃ t, exec (.keySlotRewrite i) s = .next t ∧ (∀ x, x ∈ t.vlt.ue ↔ x ∈ s.vlt.ue ∧ x ≠ i.val) ∧
      t = { s with vlt := { s.vlt with ue := t.vlt.ue } })

/-- Expired slots are retired; a wrong known answer fences its pipeline. KEY_SWEEP comes at least 2 s after the sweep before
it and retires just the active slots with an EXPIRY whose second has passed: STATE 2, all key fields zeroised, check code
right; every other slot stays. KAT_ROUND with the Vault in service comes at least 1 ms after the round before it, counts the
round, fences each pipeline whose answer mismatches in its status register and reports it to the supervisor; with no
mismatch nothing but the count and the round's time changes. -/
def Obligations.KeySweepAndKnownAnswers : Prop :=
  ∀ s : State,
    (∃ t, exec .keySweep s = .next t ∧
      t = { s with vlt := t.vlt, cur := t.cur, mgmt := t.mgmt, regs := t.regs, time := t.time, sup := { s.sup with rounds := t.sup.rounds } } ∧
      t.vlt = { s.vlt with slots := t.vlt.slots, ue := t.vlt.ue, expires := t.vlt.expires } ∧ t.regsKept s [regAddr .curEventLost 0 0] ∧
      (∀ x, nget s.sup.rounds 3 = some x → x + 2000000000 < 2 ^ 64 → x + 2000000000 ≤ t.t) ∧ nget t.sup.rounds 3 = some t.t ∧
      ∀ i, if byteN (s.slot i) 0 % 8 = 1 ∧ leField (s.slot i) 4 4 ≠ 0 ∧ ∃ e ∈ s.vlt.expires, e.1 = i ∧ e.2 ≤ t.t / 1000000000 then
          t.slot i = retireSlot (s.slot i) ∧ i ∉ t.vlt.ue
        else t.slot i = s.slot i ∧ (i ∈ t.vlt.ue ↔ i ∈ s.vlt.ue)) ∧
    (∀ (aes ghash : List (Fin 32)) (sha : List (Fin 8)), s.blkUp 1 3 = true → ∃ t, exec (.katRound aes ghash sha) s = .next t ∧
      t = { s with regs := t.regs, cur := t.cur, mgmt := t.mgmt, sup := t.sup, time := t.time } ∧
      (∀ x, nget s.sup.rounds 0 = some x → x + 1000000 < 2 ^ 64 → x + 1000000 ≤ t.t) ∧
      t.rfld .vltKatStatus 0 0 16 16 = (s.rfld .vltKatStatus 0 0 16 16 + 1) % 65536 ∧
      (∀ i, i ∈ aes ∨ i ∈ ghash → t.rfld .vltAesStatus 0 0 i 1 = 1 ∧
        (s.rfld .vltAesStatus 0 0 i 1 = 0 → Trigger.part (.aes i) 0x05 ∈ t.sup.reported)) ∧
      (∀ i ∈ sha, t.rfld .vltShaStatus 0 0 i 1 = 1 ∧ (s.rfld .vltShaStatus 0 0 i 1 = 0 → Trigger.part (.sha i) 0x05 ∈ t.sup.reported)) ∧
      (∀ i : Fin 32, i ∉ aes → i ∉ ghash → t.rfld .vltAesStatus 0 0 i 1 = s.rfld .vltAesStatus 0 0 i 1) ∧
      (aes = [] → ghash = [] → sha = [] →
        t = { s with regs := t.regs, sup := { s.sup with rounds := t.sup.rounds }, time := t.time } ∧
          t.regsKept s [regAddr .vltKatStatus 0 0]))

/-- General jobs: submission, each operation, completion. JOB_SUBMIT by a core with fewer than 8 queued jobs queues the
job and lets queued jobs go in flight; a DSP core counts it, a Curator core's descriptor is laid into its port's memory. With
8 it is refused, which a DSP core's status flags. Each of the seven cipher operations and CTX_WRITE runs the first job in
flight of its mode to its end: a job that fails its checks gets their code and changes nothing; a cipher job that passes
waits while every AES pipeline is fenced; with poisoned source data it ends with status 9, with a tag that does not match
with 8; otherwise it leaves its output at its destination and nowhere else, with status 0. CTX_WRITE writes both ROC fields
of the stream and clears NOTIFIED. JOB_DONE writes the oldest ended job's STATUS into its descriptor, advances the core's
JOB_DONE and counts the outcome, and then posts the completion item if asked for. -/
def Obligations.VaultJobs : Prop :=
  ∀ s : State,
    (∀ (c : Fin 273) (a : W32) (desc : Bytes),
      (countIf (fun j => decide (j.core = c.val) && decide (j.stage = 0)) s.vlt.jobs < 8 →
        ∃ t, exec (.jobSubmit c ⟨a, desc⟩) s = .next t ∧
          t.vlt.jobs.map (fun j => (j.core, j.addr)) = s.vlt.jobs.map (fun j => (j.core, j.addr)) ++ [(c.val, a.toNat)] ∧
          (c.val < 272 → t.cget .dspCnt (c / 16) 6 = s.cget .dspCnt (c / 16) 6 + 1 ∧
            t = { s with ctrs := t.ctrs, vlt := { s.vlt with jobs := t.vlt.jobs } }) ∧
          (c.val = 272 → memRead (t.cmem 17) (a.toNat % 1048576) 64 = fitTo 64 desc ∧
            (∀ k, k ≠ 17 → t.cmem k = s.cmem k) ∧ (∀ k, t.core k = s.core k) ∧
            t = { s with dsp := t.dsp, vlt := { s.vlt with jobs := t.vlt.jobs } })) ∧
      (8 ≤ countIf (fun j => decide (j.core = c.val) && decide (j.stage = 0)) s.vlt.jobs →
        ∃ t, exec (.jobSubmit c ⟨a, desc⟩) s = .next t ∧ t.vlt = s.vlt ∧
          (c.val < 272 → t.rfld .dspCoreStatus (c / 16) (c % 16) 13 1 = 1 ∧ t = { s with regs := t.regs, cur := t.cur, mgmt := t.mgmt }) ∧
          (c.val = 272 → t = { s with dsp := t.dsp }))) ∧
    (∀ (c : Instr) (mode : Nat) (j : VaultJob), (c, mode) ∈ [(Instr.cbcEncrypt, 1), (.cbcDecrypt, 2), (.ctr, 3), (.cfbEncrypt, 4),
        (.cfbDecrypt, 5), (.gcmEncrypt, 6), (.gcmDecrypt, 7), (.ctxWrite, 15)] →
      s.vlt.jobs.find? (fun j => decide (j.stage = 1) && decide (jfld (s.jobDesc j) 0 4 = mode)) = some j →
      (s.judgeJob j = 0 → mode ≠ 15 → s.aesUp = false → exec c s = .next s) ∧
      ((s.judgeJob j = 0 → mode ≠ 15 → s.aesUp = true) → ∃ (t : State) (b : Bytes), exec c s = .next t ∧ b = s.jobDesc j ∧
        (∃ pre post, s.vlt.jobs = pre ++ j :: post ∧ ∃ st, t.vlt.jobs = pre ++ { j with stage := 2, status := st } :: post ∧
          (s.judgeJob j ≠ 0 → st = s.judgeJob j ∧ t = { s with vlt := { s.vlt with jobs := t.vlt.jobs } }) ∧
          (s.judgeJob j = 0 → mode = 15 → st = 0 ∧ (t.ctx (jfld b 64 17)).rocHigh = BitVec.ofNat 32 (jfld b 96 32) ∧
            (t.ctx (jfld b 64 17)).rocLow = BitVec.ofNat 32 (jfld b 128 32) ∧ (t.ctx (jfld b 64 17)).notified = false ∧
            (∀ x, x ≠ jfld b 64 17 → t.ctx x = s.ctx x) ∧ t = { s with vlt := { s.vlt with jobs := t.vlt.jobs, ctx := t.vlt.ctx } }) ∧
          (s.judgeJob j = 0 → mode ≠ 15 → ∀ (srcA dstA kbA keyLen len aad tag : Nat) (all : Bytes) (out : Option Bytes),
            len = jfld b 16 14 → aad = jfld b 32 14 → tag = jfld b 8 5 → keyLen = (if jfld b 4 1 = 1 then 32 else 16) →
            srcA = s.bufAddr (BitVec.ofNat 32 (jfld b 64 32)) + jfld b 96 22 →
            dstA = s.bufAddr (BitVec.ofNat 32 (jfld b 128 32)) + jfld b 160 22 →
            kbA = s.bufAddr (BitVec.ofNat 32 (jfld b 192 32)) + jfld b 224 22 →
            all = s.gread srcA (aad + len + (if mode = 7 then tag else 0)) →
            out = jobOutput mode tag (aesKeys (s.gread kbA keyLen)) (slice b 32 16) (all.take aad) (slice all aad len) (all.drop (aad + len)) →
            (s.gpoison srcA all.length = true → st = 9) ∧
            (s.gpoison srcA all.length = false → s.gpoison kbA keyLen = false → out = none → st = 8) ∧
            ∀ o, s.gpoison srcA all.length = false → s.gpoison kbA keyLen = false → nsorted s.gddr = true → out = some o →
              st = 0 ∧ t.gread dstA o.length = o ∧ t.gddrKept s dstA o.length ∧
              t = { s with vlt := { s.vlt with jobs := t.vlt.jobs }, gddr := t.gddr, poisoned := t.poisoned })))) ∧
    (∀ (j : VaultJob) (rest : List VaultJob), takeFirst s.jobEnded s.vlt.jobs = some (j, rest) → j.core < 273 →
      ∃ (u : State) (status : Nat), status = (if j.stage = 2 then j.status else 1) ∧
        memRead (u.cmem (j.core / 16)) (j.addr % 1048576 + 56) 1 = [byteOf status] ∧
        (u.core j.core).jobDone = (s.core j.core).jobDone + 1 ∧
        u.cget .vltJobCnt 0 (if status = 0 then 2 else 3) = s.cget .vltJobCnt 0 (if status = 0 then 2 else 3) + 1 ∧
        u = { s with vlt := { s.vlt with jobs := u.vlt.jobs }, dsp := u.dsp, ctrs := u.ctrs } ∧
        exec .jobDone s = .next (if jfld (s.jobDesc j) 5 1 = 1 then
          u.hwPost 7 2 (some (jfld (s.jobDesc j) 384 17)) (some (jfld (s.jobDesc j) 401 6)) (leBytes 4 j.addr ++ [byteOf status])
          else u))

/-- Buffers are allocated, counted, shared and freed. ALLOC of a size from 1 to 4 MiB by a client with room for a
request, with a pool from the size's start pool up to the ceiling having a free buffer, every buffer of that pool lying in
its region, grants the last freed buffer of the first such pool, or one never used, in the client's own domain with a count
of 1 and the default share mask. INC of a valid handle adds to the count, SHARE by the owner widens the mask, DEC takes one
from the count; a DEC that brings it to zero frees the buffer: it is no longer allocated, its generation is advanced, it is
the next to be allocated, and every request on the old handle then fails check 4. (For these three: the count stands in the
record, and no held, stalled or over-credit request waits.) -/
def Obligations.Buffers : Prop :=
  ∀ (s : State) (cl : Client), s.outstanding cl.domain < 256 → (match cl with
      | .hw _ => True
      | .core c _ => c < 272) →
    (∀ (size p q : Nat) (w : Bool), 1 ≤ size → size ≤ 4194304 → s.startPool size = some p → s.firstFree p (s.poolCeil p) = some q →
      (∀ i ∈ (s.pool q).freed, i < s.poolCount q) → (∀ h : W32, hPool h = q → hIndex h < s.poolCount q → s.addrOk h = true) →
      ∃ (t : State) (h : W32) (g : BitVec 5) (i : Nat), exec (.alloc cl size false w) s = .next t ∧ t.clo.reply = some (cl, 0, h) ∧
        g = (ngetD {} (s.pool q).recs i).gen ∧ h = mkHandle q g.toNat i ∧
        t.bufRec h = ⟨1, g, BitVec.ofNat 5 cl.domain, false, true, s.rget .cloShareDef 0 cl.domain &&& 0x07FFFFFF⟩ ∧
        (∀ a r, (s.pool q).freed = a :: r → i = a ∧ (t.pool q).freed = r) ∧
        ((s.pool q).freed = [] → nsorted (s.pool q).recs = true → nget (s.pool q).recs i = none) ∧
        t.cget .cloCnt 0 0 = s.cget .cloCnt 0 0 + 1 ∧ (∀ x, x ≠ q → t.pool x = s.pool x) ∧
        t = { s with clo := t.clo, ctrs := t.ctrs, stats := t.stats, regs := t.regs, dsp := t.dsp, draws := t.draws }) ∧
    (∀ (h : W32) (n : Nat), s.clo.stalled = [] → s.clo.held = [] → s.clo.beyond = [] → (s.bufRec h).ext = false →
      (s.handleFault cl.domain 0 h = none → 1 ≤ n → (s.bufRec h).count.toNat + n ≤ 65535 →
        ∃ t, exec (.inc cl h n) s = .next t ∧ t.clo.reply = some (cl, 0, 0) ∧
          t.bufRec h = { s.bufRec h with count := (s.bufRec h).count + BitVec.ofNat 16 n } ∧
          t.cget .cloCnt 0 2 = s.cget .cloCnt 0 2 + 1 ∧ t = { s with clo := t.clo, ctrs := t.ctrs, dsp := t.dsp }) ∧
      (s.handleFault cl.domain 1 h = none →
        ∃ t, exec (.dec cl h) s = .next t ∧ t.clo.reply = some (cl, 0, 0) ∧ t.cget .cloCnt 0 3 = s.cget .cloCnt 0 3 + 1 ∧
          t = { s with clo := t.clo, ctrs := t.ctrs, dsp := t.dsp } ∧
          if (s.bufRec h).count = 1 then
            t.bufRec h = { s.bufRec h with count := 0, alloc := false, gen := (s.bufRec h).gen + 1 } ∧
            (t.pool (hPool h)).freed = hIndex h :: (s.pool (hPool h)).freed ∧ (∀ d req, t.handleFault d req h = some 5)
          else t.bufRec h = { s.bufRec h with count := (s.bufRec h).count - 1 }) ∧
      (∀ mask : W32, s.handleFault cl.domain 2 h = none →
        ∃ t, exec (.share cl h mask) s = .next t ∧ t.clo.reply = some (cl, 0, 0) ∧
          t.bufRec h = { s.bufRec h with share := (s.bufRec h).share ||| mask } ∧ t = { s with clo := t.clo, dsp := t.dsp }))

/-- A queue gives its descriptors in the order they came. ENQUEUE of a descriptor that no check refuses, by a hardware
producer with no enqueue waiting on the queue, puts it on an internal queue behind all others, and on a class queue hands it
to the traffic manager's admission; one that must wait (code 0x11) waits behind the others. On a port's management queue it
puts a frame whose buffer belongs to domain 0 (the queue's number is the model's choice, log 90). DEQUEUE of a queue whose
first descriptor is complete takes just that one; of an empty queue it only fills its slot. DESCRIPTOR_EXTEND lengthens the
incomplete descriptor within its buffer or completes it, and the enqueues that waited go on. SLOT_FILL gives a queue
without one a resident slot. QUEUE_TIMEOUT of a non-empty queue with a timer, no earlier than TIMEOUT after the timer's
start, rings the doorbell, re-arms and counts, and posts the item unless one is outstanding. Every other queue stays as it
was. -/
def Obligations.QueuesInOrder : Prop :=
  ∀ (s : State) (q : Fin 262144) (q' : Fin 262240), q'.val = q.val →
    (∀ (d : Fin 32) (x : Desc), d ≠ 0 →
      (131072 ≤ q.val → s.waitingEnqs q = [] → s.enqueueFault q d x = none →
        ∃ t, exec (.enqueue (.hw d) q' x) s = .next t ∧ (t.queue q).all = (s.queue q).all ++ [x] ∧
          (∀ r, r ≠ q.val → t.queue r = s.queue r) ∧ t.cget .stkCnt 0 0 = s.cget .stkCnt 0 0 + 1 ∧
          t = { s with stk := t.stk, ctrs := t.ctrs }) ∧
      (q.val < 131072 → s.waitingEnqs q = [] → s.enqueueFault q d x = none →
        exec (.enqueue (.hw d) q' x) s = .next (s.admitCopy (q / 4) (q % 4) d x)) ∧
      (s.enqueueFault q d x = some 0x11 →
        exec (.enqueue (.hw d) q' x) s = .next { s with stk := { s.stk with waiting := s.stk.waiting ++ [(.hw d, q.val, x)] } }) ∧
      (∀ (p : Nat) (m : Fin 262240), p < 96 → m.val = 262144 + p → s.handleFault d 0 x.handle = none → (s.bufRec x.handle).owner = 0 →
        x.offset + x.len ≤ bufSize x.handle →
        ∃ t, exec (.enqueue (.hw d) m x) s = .next t ∧ t = { s with mgmt := t.mgmt } ∧
          nget t.mgmt p = some ((nget s.mgmt p).getD [] ++ [.built x.handle x.offset x.len (decide (x.info % 2 = 1))]) ∧
          ∀ r, r ≠ p → nget t.mgmt r = nget s.mgmt r)) ∧
    (∀ x : Desc, (s.queue q).first = some x → x.complete = true →
      ∃ t, exec (.dequeue q) s = .next t ∧ (s.queue q).all = x :: (t.queue q).all ∧ (∀ r, r ≠ q.val → t.queue r = s.queue r) ∧
        t.cget .stkCnt 0 1 = s.cget .stkCnt 0 1 + 1 ∧ t = { s with stk := t.stk, ctrs := t.ctrs }) ∧
    ((s.queue q).depth = 0 → exec (.dequeue q) s = .next (s.slotFill q)) ∧
    (∀ (x : Desc) (len : Nat) (complete poison : Bool), (s.queue q).tail.find? (fun d => !d.complete) = some x → x.len ≤ len →
      x.offset + len ≤ bufSize x.handle →
      ∃ u : State, exec (.descriptorExtend q len complete poison) s = .next (State.serveEnqs u.stk.waiting.length u) ∧
        (u.queue q).all = (s.queue q).head ++ (s.queue q).ahead ++ (s.queue q).mid ++ (s.queue q).tail.map (fun e => if e.complete then e else
          { x with len := len, complete := complete, poison := x.poison || (poison && complete) }) ∧
        (∀ r, r ≠ q.val → u.queue r = s.queue r) ∧ u = { s with stk := { s.stk with queues := u.stk.queues } } ∧
        (s.stk.waiting = [] → State.serveEnqs u.stk.waiting.length u = u)) ∧
    (s.stk.slots.contains q.val = false → (s.stk.slots.length < 32768 ∨ ∃ v ∈ s.stk.slots, (s.queue v).incomplete = false) →
      ∃ t, exec (.slotFill q) s = .next t ∧ t.stk.slots.getLast? = some q.val ∧ t.cget .stkCnt 0 2 = s.cget .stkCnt 0 2 + 1 ∧
        (s.stk.slots.length < 32768 → t.stk.slots = s.stk.slots ++ [q.val]) ∧
        (32768 ≤ s.stk.slots.length → t.stk.slots.length = s.stk.slots.length ∧ t.cget .stkCnt 0 3 = s.cget .stkCnt 0 3 + 1) ∧
        t = { s with stk := { s.stk with slots := t.stk.slots }, ctrs := t.ctrs }) ∧
    ((s.queue q).depth ≠ 0 → s.timeoutUs q ≠ 0 →
      ∃ u : State, (u.queue q).all = (s.queue q).all ∧ (u.queue q).bell = true ∧ (u.queue q).itemOut = true ∧ (u.queue q).timer = u.t ∧
        ((s.queue q).timer + 1000 * s.timeoutUs q < 2 ^ 64 → (s.queue q).timer + 1000 * s.timeoutUs q ≤ u.t) ∧
        u.cget .stkCnt 0 6 = s.cget .stkCnt 0 6 + 1 ∧ (∀ r, r ≠ q.val → u.queue r = s.queue r) ∧
        u = { s with stk := u.stk, ctrs := u.ctrs, stats := u.stats, time := u.time } ∧
        exec (.queueTimeout q) s = .next (if (s.queue q).itemOut then u
          else u.hwPost 6 9 (if q.val < 131072 then none else some (q.val - 131072)) none (leBytes 4 q ++ leBytes 4 (s.queue q).depth)))

/-- What leaves a port first, and a shaper's refill. DEQUEUE_DECISION at a port that may send, with a management frame
waiting, tokens in its bucket, and egress on or in LINK_UP, sends exactly that frame: a JCP message in headers whose DSCP and
TTL are free values (log 1), a frame built whole as its buffer's bytes, stamped as it begins where it is marked, its buffer
then released; it leaves the queue and stands last on the wire, behind what the port's buffer holds, counted. A frame built
whole that is poisoned is dropped instead. With none waiting the groups are served. At a port that may not send, no frame
leaves and only the shapers that hold one back are counted. SHAPER_REFILL adds tokens for the whole microseconds elapsed at
the shaper's rate up to its burst, then installs a pending change, and acts no earlier than one interval after the last
refill. -/
def Obligations.PortScheduling : Prop :=
  ∀ s : State,
    (∀ (p : Fin 96) (f : MgmtFrame) (rest : List MgmtFrame) (from_ : Nat) (until_ : Bytes → Nat), s.portSends p = true →
      nget s.mgmt p = some (f :: rest) → 0 ≤ s.mgmtTokens p → (s.egressOn = true ∨ s.m.mode = .linkUp) →
      from_ = max s.t (ngetD 0 s.tmg.txFree p) → (∀ b, until_ b = from_ + cdiv ((b.length + 4) * 8) (s.portRate p)) →
      (∀ (peer : Peer) (payload : Bytes), f = .message peer payload →
        ∃ (t : State) (dscp ttl : Nat) (b : Bytes), exec (.dequeueDecision p) s = .next t ∧ dscp < 64 ∧ ttl < 256 ∧
          b = buildFrame ⟨peer.mac, s.portMac p, 0, peer.v6, dscp, beBytes (if peer.v6 then 16 else 4) peer.own,
            beBytes (if peer.v6 then 16 else 4) peer.remote, peer.ownPort, peer.remotePort, ttl⟩ payload ∧
          t.wire = s.wire ++ [⟨p.val, b, false, from_, until_ b, none⟩] ∧
          (nget t.mgmt p).getD [] = rest ∧ (∀ r, r ≠ p.val → nget t.mgmt r = nget s.mgmt r) ∧
          t.cget .tmgCnt 0 0 = s.cget .tmgCnt 0 0 + 1 ∧ t.cget .tmgCnt 0 6 = s.cget .tmgCnt 0 6 + 1 ∧
          t = { s with wire := t.wire, mgmt := t.mgmt, tmg := t.tmg, ctrs := t.ctrs, stats := t.stats, draws := t.draws }) ∧
      (∀ (h : W32) (off len : Nat) (ptp : Bool) (b : Bytes), f = .built h off len ptp → b = s.gread (s.bufAddr h + off) len →
        ∃ u : State, exec (.dequeueDecision p) s = .next (u.decRef 0 h) ∧
          (nget u.mgmt p).getD [] = rest ∧ (∀ r, r ≠ p.val → nget u.mgmt r = nget s.mgmt r) ∧
          if s.gpoison (s.bufAddr h + off) len then u.wire = s.wire
          else u.wire = s.wire ++ [⟨p.val, b ++ zeros (60 - b.length), false, from_, until_ (b ++ zeros (60 - b.length)),
              if ptp then some from_ else none⟩] ∧
            u.cget .tmgCnt 0 0 = s.cget .tmgCnt 0 0 + 1 ∧ u.cget .tmgCnt 0 6 = s.cget .tmgCnt 0 6 + 1 ∧
            u = { s with wire := u.wire, mgmt := u.mgmt, tmg := u.tmg, ctrs := u.ctrs, stats := u.stats })) ∧
    (∀ p : Fin 96, s.portSends p = true → (nget s.mgmt p).getD [] = [] → exec (.dequeueDecision p) s = .next ((s.portHeld p).serveGroups p)) ∧
    (∀ p : Fin 96, (s.portSends p = false → exec (.dequeueDecision p) s = .next (s.portHeld p)) ∧
      s.portHeld p = { s with stats := (s.portHeld p).stats }) ∧
    (∀ (lv : Fin 3) (i : Fin 32768) (x y : Shaper), i.val < [96, 4096, 32768].getD lv.val 0 → x = s.shaper lv i →
      ∃ (t : State) (us : Nat), exec (.shaperRefill lv i) s = .next t ∧ us = (t.t - x.last) / 1000 ∧
        (x.last + 1000 * x.refill < 2 ^ 64 → x.last + 1000 * x.refill ≤ t.t) ∧
        (y = { x with
          tokens := min (1024 * (x.burst : Int)) (x.tokens + ((s.shRate lv i x * us * 16 + x.rem) / 125 : Nat))
          rem := (s.shRate lv i x * us * 16 + x.rem) % 125
          last := x.last + 1000 * us } →
          t.shaper lv i = if x.pending then
            { y with
              pending := false, rate := s.shAttr lv i 0x500, burst := s.shAttr lv i 0x501, refill := s.shAttr lv i 0x502
              weight := s.shAttr lv i 0x503, port := s.shAttr lv i 0x504
              tokens := min y.tokens (1024 * (s.shAttr lv i 0x501 : Int)) }
          else y) ∧
        t = { s with tmg := t.tmg, time := t.time, ctrs := t.ctrs })

/-- The DSP core's arithmetic, moves and special registers. An instruction of OP 0x02 that stands legally at a running
core's program counter gives Dd the result of its FN on Da and Db and sets Z, N, C and V by it (a flag or value that
the rule leaves open is a free value, log 35); CMP and CMPI set the flags of a difference and write no register;
MOV, PACK, ADDI and MOVI write Dd and no flag; MOVS reads a special register into Dd or writes one from it; NOP does
nothing. No other register, accumulator or memory byte changes, and the earlier instruction's load lands. A special
register reads back what was written (SR and RSR in their 12 bits) and no other changes. -/
def Obligations.DspArithmetic : Prop :=
  ∀ (k : Fin 272) (w : BitVec 26) (imm : W32) (e : Fin 3) (s : State) (c : Nat) (x : DspCore) (a b : W32) (m : NMap Byte),
    c = k.val → x = s.core c → a = x.dreg (fRa w) → b = x.dreg (fRb w) → m = s.cmem (c / 16) → e.val ≠ 2 →
    (∀ i ∈ [(Instr.add k w e, 0x00), (.sub k w e, 0x01), (.adds k w e, 0x02), (.subs k w e, 0x03), (.and k w e, 0x04), (.or k w e, 0x05),
        (.xor k w e, 0x06), (.shl k w e, 0x07), (.shr k w e, 0x08), (.asr k w e, 0x09), (.min k w e, 0x0A), (.max k w e, 0x0B),
        (.abs k w e, 0x0C)], s.issues c (dspWordFn 0x02 i.2 w) none →
      ∃ (t : State) (v : W32) (cy ov : Bool), exec i.1 s = .next t ∧ aluRule i.2 a b v cy ov ∧
        t.ran s c 4 [(fRd w, v)] [] (x.flags (decide (v = 0)) v.msb cy ov) m) ∧
    (s.issues c (dspWordFn 0x02 0x0D w) none → ∃ t, exec (.cmp k w e) s = .next t ∧ t.ran s c 4 [] []
      (x.flags (decide (a = b)) (a - b).msb (decide (b.toNat ≤ a.toNat)) (decide (a.toInt - b.toInt ≠ (a - b).toInt))) m) ∧
    (s.issues c (dspWordFn 0x02 0x0E w) none → ∃ t, exec (.mov k w e) s = .next t ∧ t.ran s c 4 [(fRd w, a)] [] x m) ∧
    (s.issues c (dspWordFn 0x02 0x0F w) none → ∃ t v, exec (.pack k w e) s = .next t ∧ t.ran s c 4 [(fRd w, v)] [] x m ∧
      v.toNat = b.toNat % 65536 * 65536 + a.toNat % 65536) ∧
    (s.issues c (dspWord 0x03 w) none → ∃ t, exec (.addi k w e) s = .next t ∧
      t.ran s c 4 [(fRd w, a + (w.extractLsb' 0 18).signExtend 32)] [] x m) ∧
    (∀ i : W32, i = (w.extractLsb' 0 18).signExtend 32 → s.issues c (dspWord 0x04 w) none →
      ∃ t, exec (.cmpi k w e) s = .next t ∧ t.ran s c 4 [] []
        (x.flags (decide (a = i)) (a - i).msb (decide (i.toNat ≤ a.toNat)) (decide (a.toInt - i.toInt ≠ (a - i).toInt))) m) ∧
    (s.issues c (dspWord 0x30 w) (some imm) → ∃ t, exec (.movi k w imm e) s = .next t ∧ t.ran s c 8 [(fRd w, imm)] [] x m) ∧
    (s.issues c (dspWord 0x01 w) none → ∃ t, exec (.nop k w e) s = .next t ∧ t.ran s c 4 [] [] x m ∧
      t.rfld .dspEcc (c / 16) 0 0 16 = min 65535 (s.rfld .dspEcc (c / 16) 0 0 16 + e.val)) ∧
    (∀ n : Nat, n = dspFld w 16 6 → s.issues c (dspWord 0x05 w) none →
      (dspFld w 15 1 = 0 → n ≠ 42 → (n = 2 ∨ n = 3 → x.stack ≠ []) →
        ∃ t, exec (.movs k w e) s = .next t ∧ t.ran s c 4 [(fRd w, (s.readSpecial c n).1)] [] x m) ∧
      (dspFld w 15 1 = 0 → n = 2 ∨ n = 3 → x.stack = [] →
        ∃ t v, exec (.movs k w e) s = .next t ∧ t.ran s c 4 [(fRd w, v)] [] x m) ∧
      (dspFld w 15 1 = 0 → n = 42 → ∃ (t : State) (cy : W64), exec (.movs k w e) s = .next t ∧
        t.ran s c 4 [(fRd w, cy.setWidth 32)] [] { x with cycleHi := (cy >>> (32 : Nat)).setWidth 32 } m ∧ (t.core c).cycle = cy + 1) ∧
      (dspFld w 15 1 = 1 → (28 ≤ n ∧ n ≤ 31 → (x.dreg (fRd w)).toNat % 8 = 0) → (32 ≤ n → (x.dreg (fRd w)).toNat % 2 = 0) →
        ∃ t, exec (.movs k w e) s = .next t ∧ t.ran s c 4 [] [] (x.writeSpecial n (x.dreg (fRd w))) m)) ∧
    (∀ (n : Nat) (v : W32) (u : State), specialOk n true = true → (n = 2 ∨ n = 3 → x.stack ≠ []) → u = s.setCore c (x.writeSpecial n v) →
      (u.readSpecial c n).1 = (if n = 0 ∨ n = 3 then v &&& 0xFFF else v) ∧
      ∀ j, j ≠ n → specialOk j false = true → (j = 2 ∨ j = 3 → x.stack ≠ []) → (u.readSpecial c j).1 = (s.readSpecial c j).1) ∧
    (s.readSpecial c 44).1.toNat = c % 16 + 16 * (c / 16)

/-- The DSP core's loads and stores. A load that stands legally at a running core's program counter, its address
aligned, not past a circular range and in X, Y or cluster memory, reads the bytes there: they land in Dd, or the
pair, at the end of the next instruction (LDH sign-extended); LDA fills the accumulator. A store writes exactly its
bytes there. The pointer moves by MOD, circularly where R263 says. In port space a 32- or 64-bit form acts on the
port's word instead. A misaligned address traps with MISALIGN, one outside the map (or a 16-bit or 16-byte access to
port space) with BAD_ADDR, a load of data with a double-bit error with ECC, each with the address in TADDR, when the
return stack has room. -/
def Obligations.DspMemory : Prop :=
  ∀ (k : Fin 272) (w : BitVec 26) (imm : W32) (e err : Fin 3) (s : State) (c n : Nat) (x : DspCore) (m : NMap Byte) (ptr : Nat → Nat × W32) (y : Nat → DspCore),
    c = k.val → e.val ≠ 2 → x = s.core c → n = dspFld w 19 3 → m = s.cmem (c / 16) → (∀ z, ptr z = x.pointer n (dspFld w 16 3) z) →
    (∀ z, y z = x.setP n (ptr z).2) →
    (∀ (i : Instr) (wd : W32) (im : Option W32) (len size a : Nat) (z : DspCore) (bad : Bool),
      (i, wd, im, len, size, a, z, bad) ∈ [(Instr.ld k w ⟨e, err⟩, dspWord 0x08 w, none, 4, 4, (ptr 4).1, y 4, x.misaligned n (ptr 4).1 4),
        (.ldh k w ⟨e, err⟩, dspWord 0x09 w, none, 4, 2, (ptr 2).1, y 2, x.misaligned n (ptr 2).1 2),
        (.ldd k w ⟨e, err⟩, dspWord 0x0A w, none, 4, 8, (ptr 8).1, y 8, x.misaligned n (ptr 8).1 8),
        (.lda k w ⟨e, err⟩, dspWord 0x0E w, none, 4, 16, (ptr 16).1, y 16, x.misaligned n (ptr 16).1 16),
        (.ldx k w imm ⟨e, err⟩, dspWord 0x33 w, some imm, 8, 4, imm.toNat, x, decide (imm.toNat % 4 ≠ 0)),
        (.lddx k w imm ⟨e, err⟩, dspWord 0x35 w, some imm, 8, 8, imm.toNat, x, decide (imm.toNat % 8 ≠ 0))] → s.issues c wd im →
      (bad = true → x.stack.length < 4 → ∃ t, exec i s = .next t ∧
        t.trapped s c 2 0 (BitVec.ofNat 32 a) ((x.branch.map (·.from_)).getD x.pc)) ∧
      (bad = false → dspRegion a = none ∨ (dspRegion a = some 3 ∧ size ≠ 4 ∧ size ≠ 8) → x.stack.length < 4 →
        ∃ t, exec i s = .next t ∧ t.trapped s c 3 0 (BitVec.ofNat 32 a) ((x.branch.map (·.from_)).getD x.pc)) ∧
      (bad = false → dspRegion a = some 0 ∨ dspRegion a = some 1 ∨ dspRegion a = some 2 → err.val = 2 → x.stack.length < 4 →
        ∃ t, exec i s = .next t ∧ t.trapped s c 5 0 (BitVec.ofNat 32 a) ((x.branch.map (·.from_)).getD x.pc)) ∧
      (∀ v : Nat, bad = false → dspRegion a = some 0 ∨ dspRegion a = some 1 ∨ dspRegion a = some 2 → err.val ≠ 2 →
        v = leNat (s.localRead c a size) → ∃ t, exec i s = .next t ∧ t.ran s c len []
          (if size = 2 then [(fRd w, (BitVec.ofNat 16 v).signExtend 32)] else if size = 4 then [(fRd w, BitVec.ofNat 32 v)]
            else if size = 8 then [(fRd w, BitVec.ofNat 32 (v % 2 ^ 32)), (fRd w + 1, BitVec.ofNat 32 (v / 2 ^ 32))] else [])
          (if size = 16 then z.setA (dspFld w 22 2) (BitVec.ofNat 72 v) else z) m) ∧
      (bad = false → dspRegion a = some 3 → size = 4 ∨ size = 8 →
        ∃ u v : State, u.fetched s c ∧ v = (u.portLoad c (a - 0x800000) size).2 ∧
          exec i s = .next ((State.dspEnd c len { s := if len = 4 then v.setPtr c n (ptr size).2 else v, load := loadLanding (fRd w) size false (u.portLoad c (a - 0x800000) size).1 }).syncCore c))) ∧
    (∀ (i : Instr) (wd : W32) (im : Option W32) (len size a v : Nat) (z : DspCore) (bad : Bool),
      (i, wd, im, len, size, a, v, z, bad) ∈ [
        (Instr.st k w e, dspWord 0x0B w, none, 4, 4, (ptr 4).1, (x.dreg (fRd w)).toNat, y 4, x.misaligned n (ptr 4).1 4),
        (.sth k w e, dspWord 0x0C w, none, 4, 2, (ptr 2).1, (x.dreg (fRd w)).toNat, y 2, x.misaligned n (ptr 2).1 2),
        (.std k w e, dspWord 0x0D w, none, 4, 8, (ptr 8).1, (x.dreg (fRd w + 1) ++ x.dreg (fRd w)).toNat, y 8, x.misaligned n (ptr 8).1 8),
        (.sta k w e, dspWord 0x0F w, none, 4, 16, (ptr 16).1, ((x.areg (dspFld w 22 2)).signExtend 128).toNat, y 16,
          x.misaligned n (ptr 16).1 16),
        (.stx k w imm e, dspWord 0x34 w, some imm, 8, 4, imm.toNat, (x.dreg (fRd w)).toNat, x, decide (imm.toNat % 4 ≠ 0)),
        (.stdx k w imm e, dspWord 0x36 w, some imm, 8, 8, imm.toNat, (x.dreg (fRd w + 1) ++ x.dreg (fRd w)).toNat, x,
          decide (imm.toNat % 8 ≠ 0))] → s.issues c wd im →
      (bad = true → x.stack.length < 4 → ∃ t, exec i s = .next t ∧
        t.trapped s c 2 0 (BitVec.ofNat 32 a) ((x.branch.map (·.from_)).getD x.pc)) ∧
      (bad = false → dspRegion a = none ∨ (dspRegion a = some 3 ∧ size ≠ 4 ∧ size ≠ 8) → x.stack.length < 4 →
        ∃ t, exec i s = .next t ∧ t.trapped s c 3 0 (BitVec.ofNat 32 a) ((x.branch.map (·.from_)).getD x.pc)) ∧
      (bad = false → dspRegion a = some 0 → ∃ t, exec i s = .next t ∧
        t.ran s c len [] [] { z with x := memWrite x.x a (leBytes size v) } m) ∧
      (bad = false → dspRegion a = some 1 → ∃ t, exec i s = .next t ∧
        t.ran s c len [] [] { z with y := memWrite x.y (a - 0x20000) (leBytes size v) } m) ∧
      (bad = false → dspRegion a = some 2 → ∃ t, exec i s = .next t ∧
        t.ran s c len [] [] z (memWrite m (a - 0x100000) (leBytes size v))) ∧
      (bad = false → dspRegion a = some 3 → size = 4 ∨ size = 8 → ∃ u v' : State, u.fetched s c ∧ v' = u.portStore c (a - 0x800000) size v ∧
          exec i s = .next ((State.dspEnd c len { s := if len = 4 then v'.setPtr c n (ptr size).2 else v' }).syncCore c))) ∧
    (∀ (q j z : Nat) (d : Int), q < 8 → j ≤ 6 → d = (if j = 0 then 0 else if j = 5 then (z : Int) else if j = 6 then -(z : Int) else (ngetD 0 x.m (j - 1)).toInt) →
      (x.pointer q j z).2 = BitVec.ofInt 32 (if x.circular q = true then ((ngetD 0 x.b q).toNat : Int) +
          ((x.preg q).toNat - (ngetD 0 x.b q).toNat + d) % ((ngetD 0 x.l q).toNat : Int) else (x.preg q).toNat + d) ∧
      (x.pointer q j z).1 = (if j = 6 then (x.pointer q j z).2 else x.preg q).toNat) ∧
    (∀ (mm : NMap Byte) (a j : Nat) (b : Bytes), nsorted mm = true →
      ngetD 0 (memWrite mm a b) j = if a ≤ j ∧ j < a + b.length then byteAt b (j - a) else ngetD 0 mm j)

/-- The DSP core's MAC family and accumulators. MAC, QMACR, QMAC, DMAC and TAPMAC, standing legally at a running core's
program counter, add to their accumulators, subtract with SUB, or replace with CLR, the signed products of R265,
shifted left by 1 and limited with FRAC; an accumulator that leaves its range wraps and sets AV. The Q forms read X
memory at PX and Y memory at PY and move both pointers; TAPMAC also writes its sample one place older. A misaligned
operand, one in the wrong memory, or one with a double-bit error traps instead, with that operand's address. MOVA rounds, shifts, saturates and writes Dd; CLRA, LDAD, SHA and
ADDA give an accumulator its new value. Nothing else changes. -/
def Obligations.DspMultiply : Prop :=
  ∀ (k : Fin 272) (w : BitVec 26) (e ex ey : Fin 3) (s : State) (c : Nat) (x : DspCore) (a b : W32) (m : NMap Byte),
    c = k.val → x = s.core c → a = x.dreg (fRa w) → b = x.dreg (fRb w) → m = s.cmem (c / 16) → e.val ≠ 2 →
    (s.issues c (dspWord 0x10 w) none → ∃ (t : State) (y : DspCore), exec (.mac k w e) s = .next t ∧ t.ran s c 4 [] [] y m ∧
      y.accs x [(dspFld w 4 2, x.macOf (dspFld w 4 2) 32 (a.extractLsb' (if w.getLsbD 7 then 16 else 0) 16).toInt
        (b.extractLsb' (if w.getLsbD 6 then 16 else 0) 16).toInt (w.getLsbD 3) (w.getLsbD 2))]) ∧
    (s.issues c (dspWord 0x12 w) none → ∃ (t : State) (y : DspCore), exec (.qmacr k w e) s = .next t ∧ t.ran s c 4 [] [] y m ∧
      y.accs x ((List.range 4).map fun j => (j, x.macOf j 32 (a.extractLsb' (if w.getLsbD 7 then 16 else 0) 16).toInt
        ((x.dreg (fRb w + 1) ++ b).extractLsb' (16 * j) 16).toInt (w.getLsbD 3) (w.getLsbD 2)))) ∧
    (∀ (px py size : Nat) (p q : Nat × W32) (f : Int) (g : Nat → Nat → Int), px = dspFld w 21 3 → py = dspFld w 15 3 →
      p = x.pointer px (dspFld w 18 3) 2 → q = x.pointer py (dspFld w 12 3) size → f = sgn 16 (leNat (memRead x.x p.1 2)) →
      (∀ z j, g z j = sgn z (leNat (memRead x.y (q.1 - 0x20000) size) / 2 ^ (z * j))) →
      (x.misaligned px p.1 2 = false → x.misaligned py q.1 size = false → dspRegion p.1 = some 0 → dspRegion q.1 = some 1 →
        ex.val ≠ 2 → ey.val ≠ 2 →
        (size = 8 → s.issues c (dspWord 0x11 w) none → ∃ (t : State) (y : DspCore), exec (.qmac k w ⟨e, ex, ey⟩) s = .next t ∧
          t.ran s c 4 [] [] ((y.setP px p.2).setP py q.2) m ∧
          y.accs x ((List.range 4).map fun j => (j, x.macOf j 32 f (g 16 j) (w.getLsbD 11) (w.getLsbD 10)))) ∧
        (size = 8 → s.issues c (dspWord 0x13 w) none → ∃ (t : State) (y : DspCore), exec (.dmac k w ⟨e, ex, ey⟩) s = .next t ∧
          t.ran s c 4 [] [] ((y.setP px p.2).setP py q.2) m ∧
          y.accs x ((List.range 2).map fun j => (dspFld w 24 2 + j, x.macOf (dspFld w 24 2 + j) 48 f (g 32 j) (w.getLsbD 11) (w.getLsbD 10)))) ∧
        (∀ old : Nat, size = 2 → s.issues c (dspWord 0x14 w) none →
          old = ((if dspFld w 18 3 = 6 then x.setP px p.2 else x).moved px 2).toNat → dspRegion old = some 0 →
          ∃ (t : State) (y : DspCore), exec (.tapmac k w ⟨e, ex, ey⟩) s = .next t ∧
            t.ran s c 4 [] [] (({ y with x := memWrite x.x old (memRead x.x p.1 2) }.setP px p.2).setP py q.2) m ∧
            y.accs x [(dspFld w 24 2, x.macOf (dspFld w 24 2) 32 f (g 16 0) (w.getLsbD 11) (w.getLsbD 10))])) ∧
      (∀ i ∈ [(Instr.qmac k w ⟨e, ex, ey⟩, 0x11, 8), (.dmac k w ⟨e, ex, ey⟩, 0x13, 8), (.tapmac k w ⟨e, ex, ey⟩, 0x14, 2)], size = i.2.2 →
        s.issues c (dspWord i.2.1 w) none → x.stack.length < 4 →
        (x.misaligned px p.1 2 = true → ∃ t, exec i.1 s = .next t ∧
          t.trapped s c 2 0 (BitVec.ofNat 32 p.1) ((x.branch.map (·.from_)).getD x.pc)) ∧
        (x.misaligned px p.1 2 = false → x.misaligned py q.1 size = true → ∃ t, exec i.1 s = .next t ∧
          t.trapped s c 2 0 (BitVec.ofNat 32 q.1) ((x.branch.map (·.from_)).getD x.pc)) ∧
        (x.misaligned px p.1 2 = false → x.misaligned py q.1 size = false → dspRegion p.1 ≠ some 0 → ∃ t, exec i.1 s = .next t ∧
          t.trapped s c 3 0 (BitVec.ofNat 32 p.1) ((x.branch.map (·.from_)).getD x.pc)) ∧
        (x.misaligned px p.1 2 = false → x.misaligned py q.1 size = false → dspRegion p.1 = some 0 → dspRegion q.1 ≠ some 1 →
          ∃ t, exec i.1 s = .next t ∧ t.trapped s c 3 0 (BitVec.ofNat 32 q.1) ((x.branch.map (·.from_)).getD x.pc)) ∧
        (x.misaligned px p.1 2 = false → x.misaligned py q.1 size = false → dspRegion p.1 = some 0 → dspRegion q.1 = some 1 →
          ex.val = 2 ∨ ey.val = 2 → ∃ t, exec i.1 s = .next t ∧ t.trapped s c 5 0 (BitVec.ofNat 32 (if ex.val = 2 then p.1 else q.1))
            ((x.branch.map (·.from_)).getD x.pc)))) ∧
    (∀ (sh : Nat) (z u v : Int) (n : Nat), s.issues c (dspWord 0x15 w) none → sh = dspFld w 14 6 → n = (if w.getLsbD 11 then 16 else 32) →
      z = (x.areg (dspFld w 20 2)).toInt → u = (z + if w.getLsbD 13 = true ∧ 0 < sh then 2 ^ (sh - 1) else 0) / 2 ^ sh →
      v = (if w.getLsbD 12 then max (-(2 ^ (n - 1) : Int)) (min (2 ^ (n - 1) - 1) u) else (BitVec.ofInt n u).toInt) →
      ∃ t, exec (.mova k w e) s = .next t ∧ t.ran s c 4 [(fRd w, BitVec.ofInt 32 v)] []
        (if w.getLsbD 12 = true ∧ v ≠ u then { x with sr := x.sr ||| 8 } else x) m) ∧
    (∀ i ∈ [(Instr.clra k w e, 0, (0 : Int)), (.ldad k w e, 1, a.toInt),
        (.sha k w e, 2, if (b.extractLsb' 0 7).toInt < 0 then (x.areg (dspFld w 4 2)).toInt / 2 ^ (-(b.extractLsb' 0 7).toInt).toNat
          else (x.areg (dspFld w 4 2)).toInt * 2 ^ (b.extractLsb' 0 7).toInt.toNat),
        (.adda k w e, 3, (x.areg (dspFld w 4 2)).toInt + (x.areg (a.toNat % 4)).toInt)], s.issues c (dspWordFn 0x16 i.2.1 w) none →
      ∃ (t : State) (y : DspCore), exec i.1 s = .next t ∧ t.ran s c 4 [] [] y m ∧ y.accs x [(dspFld w 4 2, i.2.2)])

/-- The DSP core's branches, loops, traps and program memory. A branch standing legally at a running core's program
counter is pending for two delay slots with its target, taken as its condition says; a taken CALL and a CALLL set LR
past the slots. RETI in its second slot pops the return stack. LOOP and LOOPR open a level, skip the body for a
count of 0, and trap with LOOP_ERR at depth 3 or on a clash of LE; the last instruction of a body goes back or
closes the level, ENDL closes it. DI and EI write IMASK, TRAP traps with its code, WAIT stops the core, which a raised
doorbell starts again at once (with a non-empty return stack it is illegal), and PMCTL unlocks, locks or invalidates program-memory lines. An illegal word, a
program counter that is misaligned or outside cluster memory, a fetch's double-bit error, a branch in a slot or at a
loop's end traps; where the return stack is full the core halts. A core that does not run, or whose cluster has no clock, carries
out nothing. -/
def Obligations.DspControl : Prop :=
  ∀ (k : Fin 272) (w : BitVec 26) (imm : W32) (e err ex ey : Fin 3) (s : State) (c : Nat) (x : DspCore) (m : NMap Byte) (ret : W32),
    c = k.val → x = s.core c → m = s.cmem (c / 16) → ret = (x.branch.map (·.from_)).getD x.pc →
    (e.val ≠ 2 →
      (∀ i ∈ [(Instr.br k w e, 0x20, x.pc + 4 * (w.extractLsb' 0 22).signExtend 32, false, false),
          (.call k w e, 0x21, x.pc + 4 * (w.extractLsb' 0 22).signExtend 32, true, false), (.ret k w e, 0x22, x.lr, false, false),
          (.reti k w e, 0x23, x.pc, false, true), (.jmpr k w e, 0x24, x.dreg (fRa w), false, false)], s.issues c (dspWord i.2.1 w) none →
        ∃ t, exec i.1 s = .next t ∧ t.branched s c 4 i.2.2.1 (x.cond (fRd w)) (i.2.2.2.2 && x.cond (fRd w))
          (if i.2.2.2.1 && x.cond (fRd w) then (s.dspFetch c x.pc.toNat 4).afterSlots c (x.pc + 4) else x.lr)) ∧
      (s.issues c (dspWord 0x31 w) (some imm) → ∃ t, exec (.jmpl k w imm e) s = .next t ∧ t.branched s c 8 imm true false x.lr) ∧
      (s.issues c (dspWord 0x32 w) (some imm) → ∃ t, exec (.calll k w imm e) s = .next t ∧
        t.branched s c 8 imm true false ((s.dspFetch c x.pc.toNat 8).afterSlots c (x.pc + 8))) ∧
      (∀ (cnt le : W32) (i : Instr) (op : Nat), (i, op, cnt) ∈ [(Instr.loop k w e, 0x28, (w.extractLsb' 0 16).setWidth 32),
          (.loopr k w e, 0x29, x.dreg (dspFld w 12 4))] → s.issues c (dspWord op w) none → le = x.pc + BitVec.ofNat 32 (4 * dspFld w 16 10) →
        (x.depth = 3 → x.stack.length < 4 → ∃ t, exec i s = .next t ∧ t.trapped s c 4 0 0 ret) ∧
        (x.depth < 3 → cnt ≠ 0 → x.endsLoop le = true → x.stack.length < 4 → ∃ t, exec i s = .next t ∧ t.trapped s c 4 0 0 ret) ∧
        (x.depth < 3 → cnt ≠ 0 → x.endsLoop le = false → ∃ t, exec i s = .next t ∧ t.dspKept s c ∧ t.core c = { x with
          ls := nputD 0 x.ls x.depth (x.pc + 4), le := nputD 0 x.le x.depth le, lc := nputD 0 x.lc x.depth cnt,
          sr := setFld x.sr 6 2 (x.depth + 1), pc := x.pc + 4, d := (t.core c).d, load := [], cycle := (t.core c).cycle, pm := (t.core c).pm }) ∧
        (x.depth < 3 → x.endsLoop x.pc = false → cnt = 0 → ∃ t, exec i s = .next t ∧ t.dspKept s c ∧ t.core c = { x with
          pc := le + 4, d := (t.core c).d, load := [], cycle := (t.core c).cycle, pm := (t.core c).pm })) ∧
      (∀ l : Nat, s.issues c (dspWord 0x01 w) none → x.branch = none → x.depth = l + 1 → ngetD 0 x.le l = x.pc →
        ∃ t, exec (.nop k w e) s = .next t ∧ (if 1 < (ngetD 0 x.lc l).toNat then
          (t.core c).pc = ngetD 0 x.ls l ∧ ngetD 0 (t.core c).lc l = ngetD 0 x.lc l - 1 ∧ (t.core c).depth = l + 1
          else (t.core c).pc = x.pc + 4 ∧ (t.core c).depth = l)) ∧
      (∀ (b : Branch) (pc sr : W32) (r : List (W32 × W32)), s.issues c (dspWord 0x01 w) none ∨
          (s.atWord c (dspWord 0x01 w) none ∧ dspLegal (dspWord 0x01 w) = true ∧ x.endsLoop x.pc = false) →
        x.branch = some b → b.left = 1 → x.depth = 0 → (b.reti = true → x.stack = (pc, sr) :: r) → ∃ t, exec (.nop k w e) s = .next t ∧ (t.core c).branch = none ∧
          (if b.reti then (t.core c).pc = pc ∧ (t.core c).sr = sr ∧ (t.core c).stack = r
            else (t.core c).pc = (if b.taken then b.target else x.pc + 4) ∧ (t.core c).sr = x.sr ∧ (t.core c).stack = x.stack)) ∧
      (s.issues c (dspWord 0x2A w) none → ∃ t, exec (.endl k w e) s = .next t ∧ t.ran s c 4 [] [] { x with sr := setFld x.sr 6 2 (x.depth - 1) } m) ∧
      (s.issues c (setFld (dspWord 0x2E w) 0 1 0) none → ∃ t, exec (.di k w e) s = .next t ∧ t.ran s c 4 [] [] { x with sr := x.sr ||| 0x20 } m) ∧
      (s.issues c (setFld (dspWord 0x2E w) 0 1 1) none → ∃ t, exec (.ei k w e) s = .next t ∧ t.ran s c 4 [] [] { x with sr := x.sr &&& ~~~0x20 } m) ∧
      (s.issues c (dspWord 0x2D w) none → x.endsLoop x.pc = false → x.stack.length < 4 → ∃ t, exec (.trap k w e) s = .next t ∧
        t.trapped s c 7 (dspFld w 0 16) 0 ((x.branch.map (·.from_)).getD (x.pc + 4))) ∧
      (s.issues c (dspWord 0x2C w) none → x.endsLoop x.pc = false →
        (x.stack = [] → ∃ u v z : State, v = u.coreEntered (c / 16) ∧ z = (if v.doorbell c then v.startCore c else v).syncCore c ∧
          exec (.wait k w e) s = .next (if x.entered then z else z.applyOn) ∧ u.dspKept s c ∧
          u.core c = { x with run := 0, entered := true, pc := x.pc + 4, d := (u.core c).d, load := [], cycle := (u.core c).cycle, pm := (u.core c).pm }) ∧
        (x.stack ≠ [] → x.stack.length < 4 → ∃ t, exec (.wait k w e) s = .next t ∧ t.trapped s c 1 0 0 ret)) ∧
      (∀ p : List PmLine, p = ((s.dspFetch c x.pc.toNat 4).core c).pm →
        (s.issues c (setFld (dspWord 0x2F w) 0 2 0) none → ∃ t, exec (.pmctlUnlockAll k w e) s = .next t ∧ t.ran s c 4 [] [] x m ∧
          (t.core c).pm = p.map fun l => { l with locked := false }) ∧
        (s.issues c (setFld (dspWord 0x2F w) 0 2 2) none → ∃ t, exec (.pmctlInvalidate k w e) s = .next t ∧ t.ran s c 4 [] [] x m ∧
          (t.core c).pm = p.filter (·.locked))) ∧
      (∀ (p : List PmLine) (a : Nat), a = (x.preg (dspFld w 19 3)).toNat → s.issues c (setFld (dspWord 0x2F w) 0 2 1) none →
        (dspRegion a = some 2 → p = (((s.dspFetch c x.pc.toNat 4).dspFetch c a 4).core c).pm → ∃ t, exec (.pmctlLock k w e) s = .next t ∧
          t.ran s c 4 [] [] x m ∧ (∀ l ∈ (t.core c).pm, l.line ≠ a / 64 → l ∈ p) ∧ (∃ l ∈ (t.core c).pm, l.line = a / 64) ∧
          (countIf (fun l => decide (l.line % 256 = a / 64 % 256) && l.locked && decide (l.line ≠ a / 64)) p < 3 →
            ∀ l ∈ (t.core c).pm, l.line = a / 64 → l.locked = true)) ∧
        (dspRegion a ≠ some 2 → x.stack.length < 4 → ∃ t, exec (.pmctlLock k w e) s = .next t ∧ t.trapped s c 3 0 (BitVec.ofNat 32 a) ret))) ∧
    (∀ i ∈ dspCmds k w imm e err ex ey,
      (x.run ≠ 1 ∨ s.clusterRuns (c / 16) = false → exec i s = .next s) ∧
      (x.run = 1 → s.clusterRuns (c / 16) = true → x.stack.length < 4 →
        (dspRegion x.pc.toNat ≠ some 2 → ∃ t, exec i s = .next t ∧ t.trapped s c 3 0 0 ret) ∧
        (dspRegion x.pc.toNat = some 2 → x.pc.toNat % 4 ≠ 0 → ∃ t, exec i s = .next t ∧ t.trapped s c 2 0 0 ret)) ∧
      (∀ (wd : W32) (im : Option W32), s.atWord c wd im → dspLegal wd = false → x.stack.length < 4 →
        ∃ t, exec i s = .next t ∧ t.trapped s c 1 0 0 ret)) ∧
    (∀ i ∈ [(Instr.br k w e, 0x20), (.call k w e, 0x21), (.ret k w e, 0x22), (.reti k w e, 0x23), (.jmpr k w e, 0x24), (.loop k w e, 0x28),
        (.loopr k w e, 0x29), (.endl k w e, 0x2A), (.wait k w e, 0x2C)], s.atWord c (dspWord i.2 w) none → dspLegal (dspWord i.2 w) = true →
      e.val ≠ 2 → x.stack.length < 4 →
      (x.branch ≠ none → ∃ t, exec i.1 s = .next t ∧ t.trapped s c 1 0 0 ret) ∧
      (x.branch = none → i.2 < 0x28 → x.endsLoop x.pc = true → ∃ t, exec i.1 s = .next t ∧ t.trapped s c 4 0 0 ret)) ∧
    (s.atWord c (dspWord 0x01 w) none → dspLegal (dspWord 0x01 w) = true → e.val = 2 →
      (x.stack.length < 4 → ∃ t, exec (.nop k w e) s = .next t ∧ t.trapped s c 5 0 0 ret) ∧
      (4 ≤ x.stack.length → ∃ u : State, exec (.nop k w e) s = .next (u.haltCore c) ∧ (u.core c).lastTrap = 5 ∧
        (u.core c).stack = x.stack ∧ ∀ j, j ≠ c → u.core j = s.core j)) ∧
    (∀ z n cy v : Bool, z = x.sr.getLsbD 0 → n = x.sr.getLsbD 1 → cy = x.sr.getLsbD 2 → v = x.sr.getLsbD 3 →
      (List.range 11).map x.cond = [true, z, !z, n != v, n == v, z || n != v, !(z || n != v), !cy, cy, v, !v])

/-- A walk takes one packet and decides a copy for each subscription. FANOUT_WALK first lets feedback that waited for a
buffer leave; then, unless all 512 walk slots are held, it takes the next packet of a source off its queue (or an output's
packetiser) and walks it: a poisoned packet is dropped, one of an output without layers that nobody subscribes is counted and
released. An entry at its targets on a device leg passes a newer packet of its layers with its own sequence number and
timestamp, drops one above them and closes the gap, and passes a late one only within 1,024 numbers and after its drop mark; a
waiting change upwards is made at a readable key picture. SUB_CACHE_FILL brings an entry into the cache, and fences it on a
double-bit error. RTCP_FEEDBACK acts on a compound's PLI or NACK for the subscription it names and drops a poisoned one.
RTX_AGE drops the oldest cached packet no earlier than 1 s after it was cached. -/
def Obligations.FanOut : Prop :=
  ∀ s : State,
    (∀ (src : Fin 147456), s.blkUp 1 4 = false → exec (.fanoutWalk src) s = .next s) ∧
    (∀ (src : Fin 147456) (d : Desc) (r : List Desc) (w : State), s.blkUp 1 4 = true → w = s.flushOutbox →
      (512 ≤ w.walksHeld → exec (.fanoutWalk src) s = .next w) ∧
      (w.walksHeld < 512 → 131072 ≤ src.val → ngetD [] w.fwd.outPkts (src - 131072) = d :: r →
        ∃ u : State, exec (.fanoutWalk src) s = .next (u.walk src d) ∧
          ngetD [] u.fwd.outPkts (src - 131072) = r ∧ (∀ k, k ≠ src.val - 131072 → ngetD [] u.fwd.outPkts k = ngetD [] w.fwd.outPkts k) ∧
          u = { w with fwd := { w.fwd with outPkts := u.fwd.outPkts } }) ∧
      (w.walksHeld < 512 → src.val < 131072 → w.media src = 1 ∨ w.media src = 4 → (w.queue (streamQueue src)).bell = true →
        (w.queue (streamQueue src)).first = some d → d.complete = true → ∃ u : State, exec (.fanoutWalk src) s = .next (u.walk src d) ∧
          (w.queue (streamQueue src)).all = d :: (u.queue (streamQueue src)).all ∧ (∀ k, k ≠ streamQueue src → u.queue k = w.queue k) ∧
          u = { w with stk := u.stk, ctrs := u.ctrs }) ∧
      (w.walksHeld < 512 → src.val < 131072 → w.media src = 3 → (w.queue (streamQueue src)).bell = true →
        (w.queue (streamQueue src)).first = some d → d.complete = true → ∃ u v : State, exec (.fanoutWalk src) s = .next (v.walk src d) ∧
          (w.queue (streamQueue src)).all = d :: (u.queue (streamQueue src)).all ∧ u = { w with stk := u.stk, ctrs := u.ctrs } ∧
          ngetD [] v.fwd.toDec src = ngetD [] (u.incRef 3 d.handle 1).fwd.toDec src ++ [d] ∧
          v = { u.incRef 3 d.handle 1 with fwd := { (u.incRef 3 d.handle 1).fwd with toDec := v.fwd.toDec } })) ∧
    (∀ (src : Nat) (d : Desc), (d.poison = true ∨ s.gpoison (s.bufAddr d.handle + d.offset) d.len = true →
        s.walk src d = (s.metPoison 1 4).decRef 3 d.handle (if srcIsOutput src then .untied else .stream src)) ∧
      (d.poison = false → s.gpoison (s.bufAddr d.handle + d.offset) d.len = false → 131072 ≤ src → s.srcSyntax src = 0 →
        ngetD {} s.fwd.lists src = {} → (s.fwdStream src).keyHeld = false → ∃ t : State, s.walk src d = t.decRef 3 d.handle ∧
          t.cget .fwdCnt 0 0 = s.cget .fwdCnt 0 0 + 1 ∧ t.cget .fwdCnt 0 2 = s.cget .fwdCnt 0 2 + 1 ∧
          t = { s with fwd := { s.fwd with streams := t.fwd.streams }, ctrs := t.ctrs })) ∧
    (∀ (id : Nat) (p : WalkPkt) (e : Sub) (o : W16) (gap : Nat), nget s.fwd.subs id = some e → e.fenced = false → e.source = p.src →
      s.peer? (s.subLeg id) = none → o = p.seq - e.seqOffset → gap = (p.seq - e.highestIn).toNat →
      (e.pend = 0 → 1 ≤ gap → gap ≤ 32767 → p.takenAt e.curS e.curT = true →
        ∃ (t : State) (x : Sub), s.judgeEntry id p = (t, some ⟨id, o, x.rocOut, p.ts + e.tsOffset, e.curS⟩) ∧ nget t.fwd.subs id = some x ∧
          x = { e with highestIn := p.seq, lastOut := o, lastTsOut := p.ts + e.tsOffset, lastArr := p.arr, started := true
                       rocOut := if e.started = true ∧ o.toNat < e.lastOut.toNat then e.rocOut + 1 else e.rocOut }) ∧
      (e.pend = 0 → 1 ≤ gap → gap ≤ 32767 → p.takenAt e.curS e.curT = false →
        ∃ t : State, s.judgeEntry id p = (t, none) ∧
          nget t.fwd.subs id = some { e with highestIn := p.seq, seqOffset := e.seqOffset + 1, dropMark := p.seq }) ∧
      (e.pend = 0 → gap = 0 ∨ 32768 ≤ gap → ∃ t : State, nget t.fwd.subs id = some e ∧ s.judgeEntry id p = (t,
        if (e.highestIn - p.seq).toNat ≤ 1024 ∧ newer p.seq e.dropMark = true ∧ p.takenAt e.curS e.curT = true then
          some ⟨id, o, if e.lastOut.toNat < o.toNat then e.rocOut - 1 else e.rocOut, p.ts + e.tsOffset, e.curS⟩ else none)) ∧
      (e.pend = 1 ∨ e.pend = 2 → e.started = true → e.curS < e.tgtS → e.tgtS < 3 → p.info.key = true → p.info.unreadable = false →
        ∃ (t : State) (r : Option Decided) (x : Sub), s.judgeEntry id p = (t, r) ∧ nget t.fwd.subs id = some x ∧ x.curS = e.tgtS ∧
          x.curT = e.tgtT ∧ x.pend = 0 ∧ x.switchIn = p.seq)) ∧
    (∀ (sub : Fin 1048576), (sub.val ∈ s.fwd.cache → ∀ ue, exec (.subCacheFill sub ue) s = .next s) ∧
      (sub.val ∉ s.fwd.cache → ∃ t, exec (.subCacheFill sub false) s = .next t ∧ t.fwd.cache.getLast? = some sub.val ∧
        t.fwd.cache.length = min (s.fwd.cache.length + 1) (max 65536 s.fwd.cache.length) ∧ t.cget .fwdCnt 0 3 = s.cget .fwdCnt 0 3 + 1 ∧
        t = { s with fwd := { s.fwd with cache := t.fwd.cache }, ctrs := t.ctrs }) ∧
      (∀ e, sub.val ∉ s.fwd.cache → nget s.fwd.subs sub = some e → ∃ t, exec (.subCacheFill sub true) s = .next t ∧
        nget t.fwd.subs sub = some { e with fenced := true } ∧ ∀ k, k ≠ sub.val → nget t.fwd.subs k = nget s.fwd.subs k)) ∧
    (∀ (x : RtcpIn) (rest : List RtcpIn) (b : Bytes) (u : State), s.fwd.rtcp = x :: rest → s.blkUp 1 4 = true →
      u = State.flushOutbox { s with fwd := { s.fwd with rtcp := rest } } → b = u.gread (u.bufAddr x.handle + x.offset) x.len →
      (u.gpoison (u.bufAddr x.handle + x.offset) x.len = true →
        exec .rtcpFeedback s = .next ((u.metPoison 1 4).decRef 3 x.handle (.stream x.stream))) ∧
      (u.gpoison (u.bufAddr x.handle + x.offset) x.len = false →
        (∀ id e, b.length = 12 → beField b 0 4 = 0x81CE0002 → u.subOf x.leg (beField b 8 4) = some id → nget u.fwd.subs id = some e →
          exec .rtcpFeedback s = .next ((u.keyRequest e.source).decRef 3 x.handle (.stream x.stream))) ∧
        (b.length = 12 → beField b 0 4 = 0x81CE0002 → u.subOf x.leg (beField b 8 4) = none →
          exec .rtcpFeedback s = .next ((u.cinc .fwdCnt 0 8).decRef 3 x.handle (.stream x.stream))) ∧
        (∀ id, b.length = 16 → beField b 0 4 = 0x81CD0003 → u.subOf x.leg (beField b 8 4) = some id →
          exec .rtcpFeedback s = .next (((nackList (b.drop 12)).foldl (fun s o => s.retransmit id o) u).decRef 3 x.handle (.stream x.stream)))) ∧
      (s.fwd.outbox = [] → u = { s with fwd := { s.fwd with rtcp := rest } })) ∧
    (∀ (src : Nat), src < 131072 → s.attr tyStream src 0x402 0 ≠ 2 → (s.fwdStream src).keyFree s.t = false →
      (s.keyRequest src).cget .fwdCnt 0 6 = s.cget .fwdCnt 0 6 + 1 ∧ ((s.keyRequest src).fwdStream src).keyHeld = true) ∧
    (∀ (st : Fin 131072) (ring : NMap RingEntry), ring = (s.fwdStream st).ring → ring ≠ [] → nsorted ring = true →
      ∃ (v : State) (k : Nat) (e : RingEntry), exec (.rtxAge st) s = .next (v.decRef 3 e.handle) ∧ nget ring k = some e ∧
        (∀ y ∈ ring, e.at_ ≤ y.2.at_) ∧ (v.fwdStream st).ring = ndel ring k ∧ (e.at_ + 1000000000 < 2 ^ 64 → e.at_ + 1000000000 ≤ v.t) ∧
        v = { s with fwd := v.fwd, time := v.time })

/-- The Docent's items, doorbells and swaps, and a core's moves. A raised doorbell starts a waiting core at
DOORBELL_VEC, or pre-empts a running one whose IMASK is clear and that has no slot pending, and binds the head of
the ready list; otherwise nothing happens. An accepted item of a busy flow waits last behind it; on a fenced flow it
is discarded and counted; at 65,536 items a hardware producer is stalled. A firmware post answers BAD_ITEM, FENCED
or BUSY and leaves nothing, or OK. DONE ends the running item: the core goes back to the item it pre-empted, the flow's next
item becomes active, and with FAILED or from a trap the flow is fenced; the audio fabric is told of its own items. RES_READ
clears DONE, MOVE_GO takes up to four moves, MOVE_COMPLETE copies just the bytes named, or counts a failure, a move of
poisoned data among them (the model's reading, log 96). The item watchdog halts the core no earlier than its limit. A swap
remaps the slot when the standby is ready, reloads the source when it is drained or 20 ms after the remap, and ends with the
source as standby; where an image is being applied, that goes on then. -/
def Obligations.Docent : Prop :=
  ∀ s : State,
    (∀ (k : Fin 273) (c : Nat) (x : DspCore) (it : Item) (r : List Item), c = k.val → x = s.core c →
      (s.doorbell c = false → exec (.doorbell k) s = .next s) ∧
      (s.doorbell c = true → s.readyOf c = it :: r → c < 272 → s.blkUp 2 (16 + c / 16) = true →
        (x.run = 0 ∨ (x.run = 1 ∧ x.srFld 5 1 = 0 ∧ x.branch = none ∧ x.stack.length < 4) → ∃ t, exec (.doorbell k) s = .next t ∧
          (x.run = 0 → t.core c = { x with run := 1, pc := s.dspVec c 4 }) ∧
          (x.run = 1 → t.core c = { x with
            d := (t.core c).d, load := [], stack := (x.pc, x.sr) :: x.stack, sr := setFld (setFld x.sr 5 1 1) 6 2 0, pc := s.dspVec c 4 } ∧
            (x.load = [] → (t.core c).d = x.d) ∧ t.cget .dspCnt (c / 16) 2 = s.cget .dspCnt (c / 16) 2 + 1) ∧
          (∀ j, j ≠ c → t.core j = s.core j) ∧ nget t.doc.running c = some it ∧ t.readyOf c = r ∧
          t.preOf c = (nget s.doc.running c).toList ++ s.preOf c ∧ nget t.doc.lastCore it.flow = some c ∧
          nget t.doc.started c = some s.t ∧ t.cget .dspCnt (c / 16) 1 = s.cget .dspCnt (c / 16) 1 + 1 ∧
          t = { s with
            dsp := t.dsp, ctrs := t.ctrs, regs := t.regs
            doc := { s.doc with
              running := t.doc.running, ready := t.doc.ready, pre := t.doc.pre, lastCore := t.doc.lastCore, started := t.doc.started
              ran := t.doc.ran } }) ∧
        (x.run = 2 ∨ (x.run = 1 ∧ (x.srFld 5 1 = 1 ∨ x.branch ≠ none ∨ 4 ≤ x.stack.length)) → exec (.doorbell k) s = .next s)) ∧
      (s.doorbell c = true → s.readyOf c = it :: r → c = 272 → ∃ t, exec (.doorbell k) s = .next t ∧ nget t.doc.running c = some it ∧ t.readyOf c = r ∧
        t.dsp = s.dsp ∧ t.regs = s.regs)) ∧
    (∀ (type : Nat) (source : Fin 32) (flow prio f p : Nat) (payload : Bytes) (h : W32) (b it : Item), 1 ≤ type → type ≤ 8 →
      h = s.rget .docHwitem 0 (type - 1) →
      f = (if type = 5 ∨ type = 8 ∨ (type = 6 ∧ 131072 ≤ flow) then fld h 6 17 else flow % 131072) →
      p = (if type = 7 then prio % 64 else fld h 0 6) →
      b = { flow := f, prio := p, type := type, source := source, payload := fitTo 52 payload } →
      it = { b with stamp := BitVec.ofNat 32 s.us, age := s.doc.accepted } →
      (f ∈ s.doc.fenced → exec (.itemPost type source flow prio payload) s = .next (s.discardItem b) ∧
        (type ≠ 2 → type ≠ 3 → s.discardItem b = s.cinc .docCnt 0 8)) ∧
      (f ∉ s.doc.fenced → 65536 ≤ s.itemCount → ∃ t, exec (.itemPost type source flow prio payload) s = .next t ∧
        t.doc = { s.doc with blocked := s.doc.blocked ++ [b] } ∧ t.rfld .docStatus 0 0 18 1 = 1 ∧ t.cget .docCnt 0 9 = s.cget .docCnt 0 9 + 1) ∧
      (f ∉ s.doc.fenced → s.itemCount < 65536 → nhas s.doc.active f = true → ∃ t, exec (.itemPost type source flow prio payload) s = .next t ∧
        t.waitingOf f = s.waitingOf f ++ [it] ∧ t.cget .docCnt 0 0 = s.cget .docCnt 0 0 + 1 ∧
        t = { s with ctrs := t.ctrs, doc := { s.doc with waiting := t.doc.waiting, accepted := s.doc.accepted + 1 } }) ∧
      (f ∉ s.doc.fenced → s.itemCount < 65536 → nhas s.doc.active f = false → ∃ u : State,
        exec (.itemPost type source flow prio payload) s = .next (u.activate it) ∧
        u = { s with ctrs := u.ctrs, doc := { s.doc with accepted := s.doc.accepted + 1 } } ∧ u.cget .docCnt 0 0 = s.cget .docCnt 0 0 + 1)) ∧
    (∀ (k : Fin 273) (item : Bytes) (c f p ty lim : Nat), c = k.val → item.length = 64 → f = leField item 0 4 % 131072 →
      p = leField item 0 4 / 131072 % 64 → ty = leField item 0 4 / 16777216 % 256 →
      lim = s.itemCount + s.rfld .docAdmit 0 0 0 16 + (63 - p) * s.rfld .docAdmit 0 0 16 12 →
      ∃ t : State, exec (.postGo k item) s = .next t ∧
        (ty < 0x40 → (t.core c).postRes = 0x80000002 ∧ t = { s with dsp := t.dsp, ctrs := t.ctrs }) ∧
        (0x40 ≤ ty → f ∈ s.doc.fenced → (t.core c).postRes = 0x80000003 ∧ t = { s with dsp := t.dsp }) ∧
        (0x40 ≤ ty → f ∉ s.doc.fenced → 65536 ≤ lim → (t.core c).postRes = 0x80000001 ∧ t = { s with dsp := t.dsp, ctrs := t.ctrs } ∧
          t.cget .docCnt 0 6 = s.cget .docCnt 0 6 + 1) ∧
        (0x40 ≤ ty → f ∉ s.doc.fenced → lim < 65536 → (t.core c).postRes = 0x80000000 ∧
          (nhas s.doc.active f = true → (∀ j, j ≠ c → t.core j = s.core j) ∧
            t.waitingOf f = s.waitingOf f ++ [{
              flow := f, prio := p, type := ty, source := coreDomain c, stamp := BitVec.ofNat 32 s.us, payload := item.drop 12
              age := s.doc.accepted }] ∧
            t = { s with dsp := t.dsp, ctrs := t.ctrs, doc := { s.doc with waiting := t.doc.waiting, accepted := s.doc.accepted + 1 } }))) ∧
    (∀ (k : Fin 273) (c : Nat) (it : Item), c = k.val → nget s.doc.running c = some it →
      (it.type ≠ 2 → it.type ≠ 3 →
        (c ∉ s.doc.trapped → s.waitingOf it.flow = [] → s.doc.blocked = [] → ∃ t, exec (.itemDoneOk k) s = .next t ∧
          nget t.doc.running c = (s.preOf c).head? ∧ t.preOf c = (s.preOf c).drop 1 ∧ nhas t.doc.active it.flow = false ∧
          t.cget .docCnt 0 1 = s.cget .docCnt 0 1 + 1 ∧ nget t.doc.lastFlow c = some it.flow ∧ t = { s with ctrs := t.ctrs, doc := t.doc }) ∧
        (∀ w r, c ∉ s.doc.trapped → s.waitingOf it.flow = w :: r → ∃ u : State, exec (.itemDoneOk k) s = .next ((u.activate w).unblock) ∧
          u.waitingOf it.flow = r ∧ nget u.doc.running c = (s.preOf c).head? ∧ u = { s with ctrs := u.ctrs, doc := u.doc }) ∧
        (s.doc.blocked = [] → (∀ w ∈ s.waitingOf it.flow, w.type ≠ 2 ∧ w.type ≠ 3) → ∃ t, exec (.itemDoneFailed k) s = .next t ∧
          it.flow ∈ t.doc.fenced ∧ t.waitingOf it.flow = [] ∧ nget t.doc.running c = (s.preOf c).head? ∧ nhas t.doc.active it.flow = false ∧
          t.cget .docCnt 0 2 = s.cget .docCnt 0 2 + 1 ∧
          t.rget .docFenceLast 0 0 = BitVec.ofNat 32 (it.flow + if s.doc.trapped.contains c then 131072 else 0) ∧ t.dsp = s.dsp)) ∧
      (it.type = 2 ∨ it.type = 3 → c ∉ s.doc.trapped → ∃ v : State,
        exec (.itemDoneOk k) s = .next (((v.audioEnded it).cinc .docCnt 0 1).endActive it.flow) ∧
        nget v.doc.running c = (s.preOf c).head? ∧ v.preOf c = (s.preOf c).drop 1 ∧ v = { s with doc := v.doc })) ∧
    (∀ (k : Fin 272) (tag : Fin 8) (v : W64), v = ngetD 0 (s.core k).res tag → ∃ t, exec (.resRead k tag) s = .next t ∧
      t.answer = ⟨0, [v.setWidth 32, (v >>> (32 : Nat)).setWidth 32]⟩ ∧ ngetD 0 (t.core k).res tag = v &&& ~~~1 ∧
      (∀ j, j ≠ tag.val → ngetD 0 (t.core k).res j = ngetD 0 (s.core k).res j) ∧ t = { s with dsp := t.dsp, answer := t.answer }) ∧
    (∀ (k : Fin 272) (desc : Bytes), desc.length = 20 → ∃ t, exec (.moveGo k desc) s = .next t ∧
      ((s.core k).moves.length < 4 → (t.core k).moves = (s.core k).moves ++ [(⟨decide (byteN desc 0 % 2 = 1), BitVec.ofNat 32 (leField desc 4 4),
        leField desc 8 4, leField desc 12 4, leField desc 16 4, decide (byteN desc 0 < 2)⟩ : MoveJob)] ∧ t = { s with dsp := t.dsp }) ∧
      (4 ≤ (s.core k).moves.length → (t.core k).moves = (s.core k).moves ∧ t.rfld .dspCoreStatus (k / 16) (k % 16) 14 1 = 1)) ∧
    (∀ (k : Fin 272) (err : Fin 3) (j : MoveJob) (rest : List MoveJob) (c a : Nat) (ok poison : Bool), c = k.val →
      (s.core c).moves = j :: rest → a = s.bufAddr j.handle + j.offset → nsorted s.gddr = true →
      (ok = true ↔ s.handleFault (10 + c / 16) 0 j.handle = none ∧ j.offset + j.len ≤ bufSize j.handle ∧ 1 ≤ j.len ∧ j.len ≤ 65536 ∧
        localRangeOk j.local_ j.len = true ∧ j.dirOk = true) →
      poison = (if j.toBuffer then decide (err.val = 2) else s.gpoison a j.len) →
      ∃ t, exec (.moveComplete ⟨k, err⟩) s = .next t ∧ (t.core c).moves = rest ∧ (t.core c).moveDone = (s.core c).moveDone + 1 ∧
        (ok = true → poison = false → (t.core c).moveFail = (s.core c).moveFail ∧
          (j.toBuffer = true → t.gread a j.len = s.localRead c j.local_ j.len ∧ t.gddrKept s a j.len ∧ ∀ x n, t.localRead c x n = s.localRead c x n) ∧
          (j.toBuffer = false → dspRegion j.local_ = some 0 → (t.core c).x = memWrite (s.core c).x j.local_ (s.gread a j.len) ∧
            (t.core c).y = (s.core c).y ∧ t.cmem (c / 16) = s.cmem (c / 16) ∧ t.gddr = s.gddr) ∧
          (j.toBuffer = false → dspRegion j.local_ = some 1 → (t.core c).y = memWrite (s.core c).y (j.local_ - 0x20000) (s.gread a j.len) ∧
            (t.core c).x = (s.core c).x ∧ t.cmem (c / 16) = s.cmem (c / 16) ∧ t.gddr = s.gddr) ∧
          (j.toBuffer = false → dspRegion j.local_ = some 2 → t.cmem (c / 16) = memWrite (s.cmem (c / 16)) (j.local_ - 0x100000) (s.gread a j.len) ∧
            (t.core c).x = (s.core c).x ∧ (t.core c).y = (s.core c).y ∧ t.gddr = s.gddr)) ∧
        (ok = false ∨ poison = true → (t.core c).moveFail = (s.core c).moveFail + 1 ∧ t.gddr = s.gddr ∧
          (∀ x n, t.localRead c x n = s.localRead c x n) ∧ t.rfld .dspCoreStatus (c / 16) (c % 16) 14 1 = 1) ∧
        (ok = true → poison = true → t.cget .rgsDropCnt 0 0x28 = s.cget .rgsDropCnt 0 0x28 + 1)) ∧
    (∀ (k : Fin 272) (d : Nat), d = ngetD 0 s.doc.started k + 1000000 * s.rfld .chpWdtBlk 1 (16 + k / 16) 0 7 →
      (nhas s.doc.running k = true → (s.core k).run = 1 → s.blkUp 2 (16 + k / 16) = true → ∃ u : State,
        exec (.coreItemWatchdog k) s = .next (u.haltCore k) ∧ u = { s with time := u.time } ∧ (d < 2 ^ 64 → d ≤ u.t)) ∧
      (nhas s.doc.running k = false ∨ (s.core k).run ≠ 1 ∨ s.blkUp 2 (16 + k / 16) = false → exec (.coreItemWatchdog k) s = .next s)) ∧
    (s.stage ≠ 4 → s.applyOn = s) ∧
    (∀ (slot src tgt : Nat) (sup : Bool), s.doc.swap = some (slot, src, tgt, sup) → slot < 16 → tgt < 17 →
      (s.phase ≠ 1 ∨ s.clusterEntered tgt = false → exec .swapRemap s = .next s.applyOn) ∧
      (s.phase = 1 → s.clusterEntered tgt = true → ∃ u : State, u.docMapOf slot = tgt ∧ u.standby = none ∧ u.clState tgt = 0 ∧
        u.blkState 2 (16 + tgt) = 4 ∧ u = { s with regs := u.regs, cur := u.cur, mgmt := u.mgmt } ∧
        (sup = true ∨ 17 ≤ src → ∃ v : State, exec .swapRemap s = .next (v.nextSwap.assignWaiting).applyOn ∧ v.phase = 0 ∧
          v.cget .docCnt 0 11 = s.cget .docCnt 0 11 + 1 ∧ v = { u with regs := v.regs, ctrs := v.ctrs, doc := { s.doc with swap := none } }) ∧
        (sup = false → src < 17 → src ≠ tgt → ∃ v : State,
          exec .swapRemap s = .next ((v.reassign ((List.range 16).map (· + 16 * src))).assignWaiting).applyOn ∧
          v.phase = 2 ∧ v.clState src = 1 ∧ v = { u with regs := v.regs, doc := { s.doc with remapAt := s.t } })) ∧
      (s.phase = 2 → src < 17 → s.clusterBusy src = false → ∃ t, exec .swapDrainDone s = .next t ∧ t.phase = 3 ∧ t.clState src = 2 ∧
        t.blkState 2 (16 + src) = 3 ∧
        (∀ c, c < 16 → (t.core (16 * src + c)).run = 1 ∧ (t.core (16 * src + c)).x = [] ∧ (t.core (16 * src + c)).stack = [] ∧
          (t.core (16 * src + c)).entered = false ∧ (t.core (16 * src + c)).pc = t.dspVec (16 * src) 0) ∧
        t = { s with
          regs := t.regs, dsp := t.dsp
          doc := { s.doc with code := nput s.doc.code src tgt, trapped := s.doc.trapped.filter fun c => decide (c / 16 ≠ src) } }) ∧
      (s.phase ≠ 2 ∨ s.clusterBusy src = true → exec .swapDrainDone s = .next s) ∧
      (s.phase = 2 → s.clusterBusy src = true → ∃ v : State, (∀ c, c < 16 → nget v.doc.running (16 * src + c) = none ∧ v.preOf (16 * src + c) = []) ∧
        (s.doc.remapAt + 20000000 < 2 ^ 64 → s.doc.remapAt + 20000000 ≤ v.t) ∧
        exec .swapDrainTimeout s = .next ((v.flagEvent .docSwapStatus 0 0 6).reloadSource src tgt)) ∧
      (s.phase = 3 → s.clusterEntered src = true → src < 17 → ∃ v : State, exec .swapSourceReloaded s = .next v.nextSwap.applyOn ∧
        v.clState src = 3 ∧ v.standby = some src ∧ v.blkState 2 (16 + src) = 6 ∧
        v.phase = 0 ∧ v.cget .docCnt 0 11 = s.cget .docCnt 0 11 + 1 ∧
        v = { s with regs := v.regs, ctrs := v.ctrs, doc := { s.doc with swap := none } } ∧ (s.doc.waitSwap = [] → v.nextSwap = v)))

/-- The jitter buffer, talker entry, the mix, and the peers of a cascade. JITTER_ACCEPT, after the fabric's waiting
tasks, takes the next complete packet of an audio stream: in order and on time it is buffered for the ticks its
timestamp covers; wholly late, or of a duration that is no whole number of ticks, it is counted and released; a poisoned
one is counted, reported and released. An input that has spoken for two ticks enters the lowest free slot; with none
free it displaces the weakest occupant after four ticks of 6 dB more. AUDIO_TICK selects the next tick in order.
MIX_POINT closes a conference's selected tick; each mix-minus variant plus its slot is the bus. A frame whose decode
ended in time with the tick's tag in both places gives its samples; one that ended late, or without the tag, is silent,
counted and flagged. PEER_HELLO_SEND offers a HELLO to each peer device no earlier than 500 ms after the last;
PEER_HELLO takes the next one up and negotiates what both sides can do; PEER_LOST declares a peer lost no earlier than
2 s after its last refresh, and raises the event. -/
def Obligations.AudioAndPeers : Prop :=
  ∀ (s w : State), w = s.flushTasks →
    (∀ (st : Fin 131072) (x : AudIn) (n : Nat), x = w.audIn st → n = x.taken.length →
      (s.blkUp 2 2 = false ∨ s.media st ≠ 0 ∨ s.objExists tyStream st = false ∨ (s.queue (streamQueue st)).bell = false →
        exec (.jitterAccept st) s = .next s) ∧
      (s.blkUp 2 2 = true → s.media st = 0 → s.objExists tyStream st = true → (s.queue (streamQueue st)).bell = true →
        ((w.queue (streamQueue st)).all.length ≤ n → exec (.jitterAccept st) s = .next w) ∧
        (∀ (d : Desc) (b body : Bytes) (a : Nat), (w.queue (streamQueue st)).all[n]? = some d → a = w.bufAddr d.handle + d.offset → b = w.gread a d.len →
          (d.complete = false → exec (.jitterAccept st) s = .next w) ∧
          (d.complete = true → d.poison = true ∨ w.gpoison a d.len = true → exec (.jitterAccept st) s =
            .next (((w.setAudIn st { x with taken := x.taken ++ [(d.handle, false)] }).metPoison 2 2).audRelease st d.handle)) ∧
          (d.complete = true → d.poison = false → w.gpoison a d.len = false → w.peerSsrc st = none → byteN b 0 / 32 % 2 = 0 →
            body = slice b (rtpHeaderLen b) (d.len - rtpHeaderLen b) →
            (audDuration (w.attr tyStream st 0x600 0) body = none → ∃ u : State, exec (.jitterAccept st) s = .next (u.audRelease st d.handle) ∧
              u.cget .afbCnt 0 9 = w.cget .afbCnt 0 9 + 1 ∧ u.audIn st = { x with taken := x.taken ++ [(d.handle, false)] } ∧
              u = { w with afb := { w.afb with ins := u.afb.ins }, ctrs := u.ctrs, stats := u.stats }) ∧
            (∀ (dur tpt next : Nat) (an : W32 × Nat) (first : Int), audDuration (w.attr tyStream st 0x600 0) body = some dur →
              tpt = (if w.attr tyStream st 0x600 0 = 0 then 480 else 80) → next = w.afb.last.elim 0 (· + 1) → x.resync = false → x.streak < 2 →
              an = x.anchor.getD (BitVec.ofNat 32 (beField b 4 4), d.stamp / 10000000 + w.attr tyStream st 0x601 2) →
              first = an.2 + (BitVec.ofNat 32 (beField b 4 4) - an.1).toInt / tpt →
              (next ≤ first → first ≤ w.t / 10000000 + 16 → (∀ k < dur, ∀ p ∈ x.pkts, first.toNat + k ∉ p.claims) →
                ∃ t, exec (.jitterAccept st) s = .next t ∧ t.audIn st = { x with
                    taken := x.taken ++ [(d.handle, false)], anchor := some an, streak := 0
                    pkts := x.pkts ++ [⟨d.handle, d.offset + rtpHeaderLen b, d.len - rtpHeaderLen b, first.toNat, dur, (List.range dur).map (· + first.toNat),
                      if d.info < 256 then some d.info else none, d.tbh.elim 0 (·.2.2)⟩] } ∧
                  (∀ j, j ≠ st.val → t.audIn j = w.audIn j) ∧ t = { w with afb := { w.afb with ins := t.afb.ins } }) ∧
              (first + dur ≤ next → ∃ u : State, exec (.jitterAccept st) s = .next (u.audRelease st d.handle) ∧
                u.cget .afbCnt 0 9 = w.cget .afbCnt 0 9 + 1 ∧
                u.audIn st = { x with taken := x.taken ++ [(d.handle, false)], anchor := some an, streak := x.streak + 1 } ∧
                u = { w with afb := { w.afb with ins := u.afb.ins }, ctrs := u.ctrs, stats := u.stats })))))) ∧
    (∀ (c : Nat) (lv : Nat → Int × Bool) (x : AudConf) (p bc k : Nat), x = s.audConf c →
      (x.pending = some (p, 1, bc) → x.freeSlot = some k → ((s.selEntry c lv).audConf c).slots = lset x.slots k (some p) ∧
        ((s.selEntry c lv).audConf c).pending = none ∧ ((s.selEntry c lv).audIn p).phase = 2 ∧
        (s.selEntry c lv).cget .afbCnt 0 6 = s.cget .afbCnt 0 6 + 1) ∧
      (x.pending = some (p, 0, bc) → ((s.selEntry c lv).audConf c).slots = x.slots ∧ ∃ b, ((s.selEntry c lv).audConf c).pending = some (p, 1, b)) ∧
      (∀ w cnt : Nat, x.pending = some (p, cnt, bc) → 1 ≤ cnt → x.freeSlot = none → s.weakest c lv = some (k, w) →
        (3 ≤ bc → (lv w).1 + 60 ≤ (lv p).1 → p ≠ w → ((s.selEntry c lv).audConf c).slots = lset x.slots k (some p) ∧ ((s.selEntry c lv).audIn w).phase = 4 ∧
          ((s.selEntry c lv).audConf c).leaving = x.leaving ++ [(k, w, s.slotEntry w)]) ∧
        (bc < 3 ∨ (lv p).1 < (lv w).1 + 60 → ((s.selEntry c lv).audConf c).slots = x.slots))) ∧
    (s.blkUp 2 2 = false → exec .audioTick s = .next s ∧ ∀ c, exec (.mixPoint c) s = .next s) ∧
    (s.blkUp 2 2 = true →
      (∀ k : Nat, k = w.afb.last.elim (cdiv w.t 10000000) (· + 1) → ∃ t, exec .audioTick s = .next t ∧ t.afb.last = some k ∧
        t.rget .afbTick 0 0 = BitVec.ofNat 32 k ∧
        (w.idsOf tyConf = [] → w.afb.ins = [] → t.cget .afbCnt 0 0 = w.cget .afbCnt 0 0 + 1 ∧ (10000000 * k < 2 ^ 64 → 10000000 * k ≤ t.t) ∧
          t = { w with afb := { w.afb with last := some k }, regs := t.regs, ctrs := t.ctrs, time := t.time })) ∧
      (∀ c : Fin 4096, (w.audConf c).tick = none → exec (.mixPoint c) s = .next w) ∧
      (∀ (c : Fin 4096) (k : Nat), (w.audConf c).tick = some k → ∃ t, exec (.mixPoint c) s = .next t ∧ (t.audConf c).tick = none ∧ (t.audConf c).frames = [])) ∧
    (∀ (slots : List (List Int)) (i j : Nat), (∀ l ∈ slots, l.length = 480) → i < slots.length → j < 480 →
      ∃ bus v x : List Int, (variantsOf slots)[0]? = some bus ∧ (variantsOf slots)[i + 1]? = some v ∧ slots[i]? = some x ∧
        (bus.getD j 0 - (v.getD j 0 + x.getD j 0)) % 2 ^ 32 = 0 ∧ (bus.getD j 0 - (slots.map (·.getD j 0)).sum) % 2 ^ 32 = 0) ∧
    (∀ (c k at_ : Nat) (f : AudFrame) (h : W32) (at' : Nat), f.handle = some h → f.done = some at' →
      (at_ < at' → (s.frameSamples c k at_ f).1 = (noSound, false) ∧ (s.frameSamples c k at_ f).2 = (s.decodeLate f.stream).decRef 5 h) ∧
      (at' ≤ at_ → s.gpoison (s.bufAddr h) 1984 = true → (s.frameSamples c k at_ f).1.1 = noSound ∧ (s.frameSamples c k at_ f).2 = (s.metPoison 2 2).decRef 5 h) ∧
      (at' ≤ at_ → s.gpoison (s.bufAddr h) 1984 = false →
        (s.gread (s.bufAddr h) 4 = leBytes 4 (tagWord c k) → s.gread (s.bufAddr h + 4) 4 = leBytes 4 (tagWord c k) →
          (s.frameSamples c k at_ f).1.1 = samples32 (s.gread (s.bufAddr h + 64) 1920) ∧ (s.frameSamples c k at_ f).2 = s.decRef 5 h) ∧
        (s.gread (s.bufAddr h) 4 ≠ leBytes 4 (tagWord c k) ∨ s.gread (s.bufAddr h + 4) 4 ≠ leBytes 4 (tagWord c k) →
          (s.frameSamples c k at_ f).1.1 = noSound ∧ ∃ u : State, u.cget .afbCnt 0 5 = s.cget .afbCnt 0 5 + 1 ∧ u.rfld .afbErr 0 0 2 1 = 1 ∧
            (s.frameSamples c k at_ f).2 = (if u.objExists tyLeg f.leg then u.checkerHit 4 f.leg else u).decRef 5 h))) ∧
    (s.cascadeOn = false → exec .peerHelloSend s = .next s) ∧
    (s.cascadeOn = true → ∃ u : State, exec .peerHelloSend s = .next (s.peerLegs.foldl (fun s e => s.sendHello e.1 e.2) u) ∧ u.cas.helloAt = some u.t ∧
      (∀ a, s.cas.helloAt = some a → a + 500000000 < 2 ^ 64 → a + 500000000 ≤ u.t) ∧ u = { s with cas := { s.cas with helloAt := u.cas.helloAt }, time := u.time }) ∧
    (∀ (d l : Nat), (s.peerState d = 0 → d < 1024 → (s.sendHello d l).peerState d = 1) ∧
      (s.vlt.copies.length < 512 → s.fwd.waitCopies = [] → (s.sendHello d l).vlt.copies = s.vlt.copies ∨
        ∃ (x : Desc) (roc : Nat), (s.sendHello d l).vlt.copies = s.vlt.copies ++ [⟨l, 3, x, false, roc⟩] ∧ x.cells.length = 28 ∧
          x.cells.drop 12 = s.helloOffer ∧ beField x.cells 8 4 = 0xFFFF ∧ x.tbh = some (1, false, b2n (s.peerDev d).held))) ∧
    (s.cas.hellos = [] → exec .peerHello s = .next s) ∧
    (∀ (l d : Nat) (p : Bytes) (seen : Bool) (r : List (Nat × Bytes × Bool)), s.cas.hellos = (l, p, seen) :: r → s.peer? l = some d → p.length = 16 → d < 1024 →
      ∃ t, exec .peerHello s = .next t ∧ t.cas.hellos = r ∧ t.regsKept s [regAddr .curCasPeer 0 d] ∧ t = { s with cas := t.cas, regs := t.regs } ∧
        (byteN p 0 % 2 = 0 → t.peerState d = 4 ∧ (t.peerDev d).held = false) ∧
        (byteN p 0 % 2 = 1 → (t.peerDev d).held = true ∧
          (seen = true ∨ (s.peerDev d).seen = true → t.peerState d = 2) ∧
          (seen = false → (s.peerDev d).seen = false →
            t.peerState d = if s.peerState d = 2 ∨ s.peerState d = 3 then s.peerState d else 1) ∧
          t.rfld .curCasPeer 0 d 16 14 = min (beField p 6 2) (s.rfld .curCasCfg 0 0 16 14) % 16384 ∧ t.rfld .curCasPeer 0 d 4 2 = min 2 (byteN p 3) ∧
          t.rfld .curCasPeer 0 d 6 2 = min 2 (byteN p 4) ∧ t.rfld .curCasPeer 0 d 8 3 = byteN p 2 % 8)) ∧
    (∀ d : Fin 1024, (s.peerState d ≠ 2 → s.peerState d ≠ 4 → s.peerState d ≠ 1 ∨ (s.peerDev d).held = false → exec (.peerLost d) s = .next s) ∧
      (s.peerState d = 2 ∨ s.peerState d = 4 ∨ s.peerState d = 1 ∧ (s.peerDev d).held = true →
        ∃ u : State, exec (.peerLost d) s = .next (u.raise 0x0D 0 0 (beBytes 2 d)) ∧ u.peerState d = 3 ∧
        (u.peerDev d).held = false ∧ u.cget .curCasCnt 0 6 = s.cget .curCasCnt 0 6 + 1 ∧ u.regsKept s [regAddr .curCasPeer 0 d] ∧
        ((s.peerDev d).refreshed + 2100000000 < 2 ^ 64 → (s.peerDev d).refreshed + 2000000000 ≤ u.t) ∧
        u = { s with cas := u.cas, regs := u.regs, ctrs := u.ctrs, time := u.time, draws := u.draws }))

/-- Access units, pictures and contexts of the decode engines. ASSEMBLE_PACKET releases a poisoned packet as dropped and
one of a closed access unit as late, counts a picture of a stopped context as not decoded, and stores a complete H.264
access unit in one packet whole in a buffer, where it waits for the engine. AU_WAIT_EXPIRY closes the oldest open unit
no earlier than AU_WAIT after its first packet, damaged if it misses a packet. PICTURE_START gives the engine's next
context a frame store and puts its oldest unit into the engine, or counts a picture that cannot be decoded, or outputs
the slot that the unit shows. PICTURE_DONE takes the engine's oldest picture out, records its outcome in its store and
moves its context's state by it; a poisoned picture is not decoded; a context that ends with its picture is gone.
CONTEXT_MIGRATE moves a context with no picture in an engine to the engine it is to go to. Each does nothing where
nothing waits. -/
def Obligations.VideoDecoding : Prop :=
  ∀ s : State,
    (∀ (st : Fin 131072), s.decCtx? st = none → exec (.assemblePacket st) s = .next s ∧ exec (.auWaitExpiry st) s = .next s ∧
      exec (.contextMigrate st) s = .next s) ∧
    (∀ (st : Fin 131072) (x : DecCtx), s.decCtx? st = some x →
      (s.blkUp 3 (1 + x.engine) = false ∨ (s.media st ≠ 3 ∧ (s.queue (streamQueue st)).bell = false) ∨ (s.media st = 3 ∧ ngetD [] s.fwd.toDec st = []) →
        exec (.assemblePacket st) s = .next s) ∧
      (∀ (d : Desc) (u v : State) (b : Bytes) (a : Nat) (ts : W32) (seq : W16), s.blkUp 3 (1 + x.engine) = true →
        (s.media st ≠ 3 ∧ (s.queue (streamQueue st)).bell = true ∧ s.dequeue (streamQueue st) = some (d, u) ∨
          ∃ r, s.media st = 3 ∧ ngetD [] s.fwd.toDec st = d :: r ∧ u = { s with fwd := { s.fwd with toDec := nputD [] s.fwd.toDec st r } }) →
        a = u.bufAddr d.handle + d.offset → b = u.gread a d.len → ts = BitVec.ofNat 32 (beField b 4 4) → seq = BitVec.ofNat 16 (beField b 2 2) →
        v = u.setFwdStream st { u.fwdStream st with ssrc := BitVec.ofNat 32 (beField b 8 4) } →
        (d.poison = true ∨ u.gpoison a d.len = true → exec (.assemblePacket st) s =
          .next ((u.metPoison 3 (1 + x.engine)).decRef 6 d.handle (.stream st))) ∧
        (d.poison = false → u.gpoison a d.len = false →
          (x.phase = 3 → ts ∉ x.closed → exec (.assemblePacket st) s =
            .next ((((v.setDecCtx st { x with closed := addClosed ts x.closed }).stoppedPic st x.engine).decRef 6 d.handle (.stream st)).flushHeldKey st)) ∧
          (x.phase ≠ 3 → (∀ n ∈ x.opened, n.ts ≠ ts) → ts ∈ x.closed → exec (.assemblePacket st) s =
            .next (((v.sinc tyStream st 0x704).decRef 6 d.handle (.stream st)).flushHeldKey st)) ∧
          (∀ (pay : Bytes) (h : W32) (g : State), x.phase ≠ 3 → pay = rtpPayload b → s.syntaxOf st = 1 → 1 ≤ byteN pay 0 % 32 → byteN pay 0 % 32 ≤ 23 →
            byteN pay 0 % 32 ≠ 14 → byteN pay 0 % 32 ≠ 20 → 1 ≤ pay.length → pay.length ≤ 16384 → pay.length ≤ s.attr tyStream st 0x707 2097152 →
            128 ≤ byteN b 1 → x.opened = [] → x.waiting = [] → x.next = none → ts ∉ x.closed → x.spare = [] → v.hwAlloc 6 st 16384 = (.ok h, g) →
            nsorted g.gddr = true →
            ∃ (w : State) (y : DecCtx) (n : AccessUnit), exec (.assemblePacket st) s = .next ((w.decRef 6 d.handle (.stream st)).flushHeldKey st) ∧
              w.decCtx? st = some y ∧ y.opened = [] ∧ y.waiting = [n] ∧ y.next = some (seq + 1) ∧ y.closed = addClosed ts x.closed ∧ y.phase = x.phase ∧
              n.ts = ts ∧ n.got = [seq] ∧ n.damaged = false ∧ n.key = decide (byteN pay 0 % 32 = 5) ∧ n.chain = [h] ∧ n.len = pay.length ∧
              w.gread (w.bufAddr h) pay.length = pay ∧ w.cget .vdeCnt x.engine 8 = g.cget .vdeCnt x.engine 8 + 1))) ∧
      (x.opened = [] → exec (.auWaitExpiry st) s = .next s) ∧
      (∀ (n : AccessUnit) (first : W16) (k wait : Nat), x.opened = [n] → x.waiting.length < 8 → first = x.expected n →
        k = n.got.foldl (fun a g => max a (runLen first g)) 0 → wait = n.openedAt + s.attr tyStream st 0x708 20 * 1000000 →
        ∃ (t : State) (v : AccessUnit), exec (.auWaitExpiry st) s = .next t ∧
          t.decCtx? st = some { x with
            opened := [], waiting := x.waiting ++ [v], next := some (first + BitVec.ofNat 16 k), closed := addClosed n.ts x.closed } ∧
          v = { n with damaged := n.damaged || n.marker.isNone || !hasRun n first k, closedAt := t.t } ∧ (wait < 2 ^ 64 → wait ≤ t.t) ∧
          t.cget .vdeCnt x.engine 8 = s.cget .vdeCnt x.engine 8 + 1 ∧ t = { s with vde := t.vde, time := t.time, ctrs := t.ctrs, stats := t.stats }) ∧
      (x.moveTo = none ∨ s.inEngine st = true → exec (.contextMigrate st) s = .next s) ∧
      (∀ e, x.moveTo = some e → s.inEngine st = false → ∃ t, exec (.contextMigrate st) s = .next t ∧
        t.decCtx? st = some { x with engine := e, moveTo := none } ∧ (∀ j, j ≠ st.val → t.decCtx? j = s.decCtx? j) ∧
        (e ≠ x.engine → e < 4 → x.engine < 4 → t.cget .vdeCnt e 9 = s.cget .vdeCnt e 9 + 1 ∧ t.cget .vdeCnt x.engine 10 = s.cget .vdeCnt x.engine 10 + 1) ∧
        t = { s with vde := t.vde, ctrs := t.ctrs })) ∧
    (∀ (e : Fin 4) (p : PicHead), s.blkUp 3 (1 + e) = false ∨ s.blkUp 3 13 = false ∨ 2 ≤ (s.decPipe e).length ∨ s.rfld .vdeRes e 0 16 12 = 0 ∨
        s.nextContext e = none → exec (.pictureStart e p) s = .next s) ∧
    (∀ (e : Fin 4) (p : PicHead) (st : Nat) (x : DecCtx) (n : AccessUnit) (r : List AccessUnit), s.blkUp 3 (1 + e) = true → s.blkUp 3 13 = true →
      (s.decPipe e).length < 2 → s.rfld .vdeRes e 0 16 12 ≠ 0 → s.nextContext e = some (st, x) → s.decCtx? st = some x → x.waiting = n :: r →
      p.more = false → p.prior = 0 → p.ops = [] →
      (∀ (k id : Nat), p.showExisting = some k → n.key = false → nget x.refs k = some id → ∃ w : State,
        exec (.pictureStart e p) s = .next ((w.present st id).freeUnit n) ∧ w.decPipe e = s.decPipe e ∧ w = { s with vde := w.vde, pgr := w.pgr } ∧
        w.decCtx? st = some { x with waiting := r, refs := p.sets.foldl (fun m j => nput m j id) x.refs }) ∧
      (p.showExisting = none →
        (s.chainPoison n = true → n.key = false → ∃ w : State,
          exec (.pictureStart e p) s = .next (((w.metPoison 3 (1 + e)).notDecoded st e 10 n).loseSlots st p.sets) ∧
          w.decCtx? st = some { x with waiting := r } ∧ w.decPipe e = s.decPipe e) ∧
        (s.chainPoison n = false → n.key = false → x.phase = 0 → ∃ w : State, exec (.pictureStart e p) s = .next ((w.notDecoded st e 8 n).loseSlots st p.sets) ∧
          w.decCtx? st = some { x with waiting := r } ∧ w.decPipe e = s.decPipe e) ∧
        (∀ m : DecCtx, m = { x with waiting := r, refs := if n.key then [] else x.refs, prevFrame := if n.key then none else x.prevFrame } →
          s.chainPoison n = false → n.key = false ∨ s.pgr.stores = [] → x.phase ≠ 0 ∨ n.key = true → m.missing (s.syntaxOf st) p = 0 →
          picSupported (s.syntaxOf st) p = true → p.width ≤ s.maxW st → p.height ≤ s.maxH st → (p.depth = 10 → s.maxDepth10 st = true) →
          (s.storesOf st).length < s.pgStores → storePages p.width p.height (decide (p.depth = 10)) ≤ s.pgAvail st →
          ∃ (t : State) (id : Nat) (y : Store), exec (.pictureStart e p) s = .next t ∧
            t.decPipe e = s.decPipe e ++ [{
              stream := st, store := id, head := p, subst := 0, key := n.key
              unit_ := { n with lenErr := n.lenErr || (p.extents.any fun q => decide (n.len < q.1 + q.2)) ||
                (decide (s.syntaxOf st = 3) && s.obuSizeBad n) } }] ∧
            t.decCtx? st = some m ∧ t.store? id = some y ∧ y.owner = st ∧ y.width = p.width ∧ y.height = p.height ∧
            y.depth10 = decide (p.depth = 10) ∧ y.mono = decide (p.chroma = 0) ∧ y.busy = true ∧ y.key = n.key ∧
            y.pages.length = storePages p.width p.height (decide (p.depth = 10)) ∧
            t.rget .vdeCurrent e 0 = BitVec.ofNat 32 (st + 2147483648) ∧ t.cget .vdeCnt e 2 = s.cget .vdeCnt e 2 + 1))) ∧
    (∀ (e : Fin 4) (r : PicDone), s.blkUp 3 (1 + e) = false ∨ s.blkUp 3 13 = false ∨ s.decPipe e = [] → exec (.pictureDone e r) s = .next s) ∧
    (∀ (e : Fin 4) (r : PicDone) (q : EnginePic) (rest : List EnginePic), s.blkUp 3 (1 + e) = true → s.blkUp 3 13 = true → s.decPipe e = q :: rest →
      (∀ owner, q.ends = some owner → ∃ t, exec (.pictureDone e r) s = .next t ∧ t.decPipe e = rest ∧ nget t.vde.ending owner = none ∧
        (∀ b ∈ t.pgr.blocks, b.1 ≠ owner) ∧ t.vde.ctx = s.vde.ctx) ∧
      (q.ends = none → r.poisoned = true → ∃ w : State,
        exec (.pictureDone e r) s = .next ((((w.metPoison 3 (1 + e)).dropStore q.store).notDecoded q.stream e 10 q.unit_).loseSlots q.stream q.head.sets) ∧
        w.decPipe e = rest ∧ w = { s with vde := w.vde, regs := w.regs }) ∧
      (∀ (x : DecCtx) (y : Store) (out : Nat), q.ends = none → r.poisoned = false → s.decCtx? q.stream = some x → s.store? q.store = some y →
        out = max (max (if r.syntaxBad then 4 else 0) (if q.unit_.lenErr then 3 else 0)) (max (if q.unit_.damaged then 2 else 0) (if 0 < q.subst then 1 else 0)) →
        ∃ (w : State) (z : DecCtx), exec (.pictureDone e r) s = .next (w.freeUnit q.unit_) ∧ w.decPipe e = rest ∧
          w.decCtx? q.stream = some z ∧ z.phase = nextPhase x.phase out q.key ∧ w.cget .vdeCnt e 0 = s.cget .vdeCnt e 0 + 1 ∧
          (∀ v, nsorted s.pgr.stores = true → w.store? q.store = some v →
            v.busy = false ∧ v.outcome = out ∧ v.taint = decide (z.phase = 2) ∧ v.pages = y.pages) ∧
          (q.head.sets ≠ [] → y.owner = q.stream → ∃ v, w.store? q.store = some v ∧ v.ref = true))) ∧
    (∀ (ph out : Nat) (key : Bool), nextPhase 3 out key = 3 ∧ (ph ≠ 3 → nextPhase ph 0 true = 1) ∧ (ph ≠ 3 → nextPhase ph 5 key = 0 ∧ nextPhase ph 8 key = 0) ∧
      (out ≠ 0 → out ≠ 5 → out ≠ 8 → nextPhase 1 out key = 2) ∧ nextPhase 2 0 false = 2)

/-- Frames fall due, are composed in block rows, coded and packetised. FRAME_DUE, once outputs and contexts that waited for
their frame boundary have ended and moved, puts the surface's next frame behind its pipeline no earlier than it is due,
or skips it while one is open. FRAME_BEGIN takes the pipeline's next due frame; each layer placed shows a held store of
the output's own conference, in ascending Z. BLOCK_ROW_DONE delivers the next block row, which the encode engine takes
up in order while it has room, and goes on, or ends the frame: the surface shows the store. A full row buffer stalls it;
a poisoned source ends the frame with a marked row. A layer at ALPHA 255 covers what lies under it and at 0 leaves it.
ENCODE_ROW codes the rows that the engine's oldest block row makes ready, or keeps its lines until a coding row is
whole; no block lets a frame pass its cap. PACKETISE passes an audio packet on whole, drops a poisoned one, and sends
the last coded unit of an H.264 frame that fits as one RTP packet with the marker. Each does nothing where nothing
waits. -/
def Obligations.ComposingAndEncoding : Prop :=
  ∀ (s w : State), w = s.encMoves.endOutputs →
    (∀ o : Fin 16384, (s.blkUp 3 12 = false → exec (.frameDue o) s = .next s) ∧
      (s.blkUp 3 12 = true → w.surf? o = none ∨ o.val ∈ w.cmp.ending → exec (.frameDue o) s = .next w)) ∧
    (∀ (o : Fin 16384) (x : Surface) (at_ : Nat), s.blkUp 3 12 = true → w.surf? o = some x → o.val ∉ w.cmp.ending → at_ = w.dueAt o x.next →
      (w.frameOpen o = false → (nget w.ven.ctx o).elim false (·.stopped) = false → ∃ (t : State) (d : DueFrame), exec (.frameDue o) s = .next t ∧
        d = ⟨o, x.next, at_, w.shownAt (w.outConf o) at_⟩ ∧ t.surf? o = some { x with next := x.next + 1 } ∧
        ngetD [] t.cmp.due (w.pipeOf o) = insertDue d (ngetD [] w.cmp.due (w.pipeOf o)) ∧ (at_ < 2 ^ 64 → at_ ≤ t.t) ∧
        (∀ p, p ≠ w.pipeOf o → nget t.cmp.due p = nget w.cmp.due p) ∧ t = { w with cmp := { w.cmp with surf := t.cmp.surf, due := t.cmp.due }, time := t.time }) ∧
      (w.frameOpen o = true → ∃ t, exec (.frameDue o) s = .next t ∧ t.surf? o = some { x with next := x.next + 1 } ∧ t.cmp.due = w.cmp.due ∧
        t.cget .cmpCnt 0 1 = w.cget .cmpCnt 0 1 + 1 ∧ t.rfld .cmpErr 0 0 3 1 = 1)) ∧
    (∀ p : Fin 4, (s.blkUp 3 12 = false ∨ s.blkUp 3 13 = false → exec (.frameBegin p) s = .next s) ∧
      (s.blkUp 3 12 = true → s.blkUp 3 13 = true → nhas w.cmp.frame p = true ∨ w.rfld .cmpPipeRes 0 p 16 10 = 0 ∨ w.nextDue p = none →
        exec (.frameBegin p) s = .next w)) ∧
    (∀ (p : Fin 4) (d : DueFrame) (r : List DueFrame) (m : W16), s.blkUp 3 12 = true → s.blkUp 3 13 = true → nhas w.cmp.frame p = false →
      w.rfld .cmpPipeRes 0 p 16 10 ≠ 0 → w.nextDue p = some (d, r) → m = ngetD 0 w.cmp.member d.output → (∀ y ∈ w.pgr.stores, y.1 < w.pgr.nextId) →
      ∃ (t : State) (f : CFrame), exec (.frameBegin p) s = .next t ∧
        nget t.cmp.frame p = some f ∧ ngetD [] t.cmp.due p = r ∧ f.output = d.output ∧ f.n = d.n ∧ f.due = d.due ∧ f.row = 0 ∧
        f.layers.Pairwise (fun a b => a.z ≤ b.z) ∧ (memberOk m = false → f.layers = []) ∧
        (∀ l ∈ f.layers, l.store ∈ f.held ∧ (∃ y, w.store? l.store = some y ∧ y.conf = 4095 - m.toNat % 4096) ∧ ∃ y, t.store? l.store = some y ∧ 1 ≤ y.holds)) ∧
    (∀ p : Fin 4, (s.blkUp 3 12 = false → exec (.blockRowDone p) s = .next s) ∧
      (s.blkUp 3 12 = true → nget s.cmp.frame p = none → exec (.blockRowDone p) s = .next s.endOutputs.encMoves)) ∧
    (∀ (p : Fin 4) (f : CFrame) (y0 h : Nat) (q : List BlockRow), s.blkUp 3 12 = true → nget s.cmp.frame p = some f → y0 = f.row * f.rowH → h = min f.rowH (f.h - y0) →
      q = ngetD [] s.cmp.rows p → ∃ u : State, exec (.blockRowDone p) s = .next u.endOutputs.encMoves ∧
      (f.sink = false → 2 ≤ q.length → ∃ k : Nat, u.cget .cmpCnt 0 8 = s.cget .cmpCnt 0 8 + BitVec.ofNat 64 k ∧
        u = { s with ctrs := u.ctrs, draws := u.draws }) ∧
      (f.sink = true ∨ q.length < 2 → s.bandPoison f y0 h = true → nget u.cmp.frame p = none ∧ u.rfld .cmpErr 0 0 4 1 = 1 ∧
        ngetD [] u.ven.rows p ++ ngetD [] u.cmp.rows p = ngetD [] s.ven.rows p ++ q ++
          if f.sink then [] else [⟨f.output, f.n, f.due, f.row, true, true, [], [], [], []⟩]) ∧
      (∀ b : BlockRow, f.sink = true ∨ q.length < 2 → s.bandPoison f y0 h = false → b = ⟨f.output, f.n, f.due, f.row, decide (f.h ≤ y0 + h), false,
          (List.range h).flatMap fun i => s.surfRow f none (y0 + i), (List.range (h / 2)).flatMap fun i => s.surfRow f (some false) (y0 / 2 + i),
          (List.range (h / 2)).flatMap fun i => s.surfRow f (some true) (y0 / 2 + i), f.layers.map fun l => (l.index, l.x0, l.y0, l.dw, l.dh)⟩ →
        ngetD [] u.ven.rows p ++ ngetD [] u.cmp.rows p = ngetD [] s.ven.rows p ++ q ++ (if f.sink then [] else [b]) ∧
        (y0 + h < f.h → nget u.cmp.frame p = some { f with row := f.row + 1 } ∧
          u = { s with cmp := u.cmp, ven := u.ven, regs := u.regs, gddr := u.gddr, poisoned := u.poisoned }) ∧
        (∀ (i : Nat) (x : Surface) (y : Store), f.h ≤ y0 + h → f.store = some i → s.surf? f.output = some x → s.store? i = some y → nget u.cmp.frame p = none ∧
          u.surf? f.output = some { x with last := some i } ∧ u.cget .cmpCnt 0 0 = s.cget .cmpCnt 0 0 + 1 ∧
          ∃ z, u.store? i = some z ∧ z.presented = true ∧ z.busy = false ∧ z.taint = f.taint))) ∧
    (∀ top under : Nat, top ≤ 1023 → under ≤ 1023 → blend 255 top under = top ∧ blend 0 top under = under) ∧
    (∀ (e : Fin 4) (g : List EncRow), (s.blkUp 3 (8 + e) = false ∨ s.blkUp 3 13 = false → exec (.encodeRow e g) s = .next s) ∧
      (s.blkUp 3 (8 + e) = true → s.blkUp 3 13 = true → ngetD [] s.ven.rows e = [] → ∃ t, exec (.encodeRow e g) s = .next t ∧
        ngetD [] t.ven.rows e ++ ngetD [] t.cmp.rows e = ngetD [] s.cmp.rows e ∧ (∀ j, j ≠ e.val → nget t.ven.rows j = nget s.ven.rows j) ∧
        t = { s with cmp := { s.cmp with rows := t.cmp.rows }, ven := { s.ven with rows := t.ven.rows }, regs := t.regs })) ∧
    (∀ (e : Fin 4) (g : List EncRow) (b : BlockRow) (rest : List BlockRow), s.blkUp 3 (8 + e) = true → s.blkUp 3 13 = true → ngetD [] s.ven.rows e = b :: rest →
      (nget s.ven.ctx b.output = none →
        exec (.encodeRow e g) s = .next (State.feed 2 { s with ven := { s.ven with rows := nputD [] s.ven.rows e rest } } e).encMoves) ∧
      (∀ (fr : EngineFrame) (x : EncCtx), nget s.ven.ctx b.output = some x → nget s.ven.frame e = some fr → fr.output = b.output → fr.n = b.n → b.poison = false →
        (fr.dropped = true → ∃ u : State,
          exec (.encodeRow e g) s = .next (State.feed 2 { u with ven := { u.ven with rows := nputD [] s.ven.rows e rest } } e).encMoves ∧
          nget u.ven.frame e = (if b.last then none else some { fr with row := fr.row + 1 }) ∧ u = { s with ven := { s.ven with frame := u.ven.frame } }) ∧
        (∀ (f f0 : LayerFrame) (side : Nat), fr.dropped = false → fr.key = true ∨ s.refsPoison x = false → fr.layers = [f] → s.slayers b.output = 1 →
          f.enqueued = false → s.ctBytes (s.carrierQueue b.output) = 0 → b.last = false → f0 = f.takeRows (b.luma, b.cb, b.cr) →
          side = s.blockSide b.output * s.layerW b.output 0 →
          (f0.luma.length < side → ∃ u : State,
            exec (.encodeRow e g) s = .next (State.feed 2 { u with ven := { u.ven with rows := nputD [] s.ven.rows e rest } } e).encMoves ∧
            nget u.ven.frame e = some { fr with layers := [f0], row := fr.row + 1 } ∧ u = { s with ven := { s.ven with frame := u.ven.frame } }) ∧
          (∀ (r : EncRow) (us : List CodedUnit), side ≤ f0.luma.length → g = [r] → us = (s.codeRow fr 0 f0 r b.rects).2 → ∃ u : State,
            exec (.encodeRow e g) s = .next (State.feed 2 { u with ven := { u.ven with rows := nputD [] s.ven.rows e rest } } e).encMoves ∧
            nget u.ven.frame e = some { fr with layers := [(s.codeRow fr 0 f0 r b.rects).1.dropRows side], row := fr.row + 1 } ∧
            u = { s with ven := u.ven, gddr := u.gddr, poisoned := u.poisoned } ∧
            (∀ n : Nat, n = (us.flatMap (·.bytes)).length → f.store = none → s.hasBits b.output f.handle = true → f.spent + n ≤ bufSize f.handle →
              nsorted s.gddr = true → u.gread (s.bufAddr f.handle + f.spent) n = us.flatMap (·.bytes) ∧
              u.gddrKept s (s.bufAddr f.handle + f.spent) n))))) ∧
    (∀ (q after_ : Nat) (f : LayerFrame) (acc : Bytes) (b : Bytes × Bytes), 1 ≤ f.left → f.spent + 2 * f.left + 32 * after_ ≤ f.cap →
      (codeBlock q after_ (f, acc) b).1.spent + 2 * (codeBlock q after_ (f, acc) b).1.left + 32 * after_ ≤ f.cap ∧
      (codeBlock q after_ (f, acc) b).1.left = f.left - 1 ∧ (codeBlock q after_ (f, acc) b).1.cap = f.cap) ∧
    (∀ (o : Fin 16384) (qn : Nat), qn = s.carrierQueue o → s.objExists tyOutput o = false ∨ (s.queue qn).bell = false ∨ (s.queue qn).first = none →
      exec (.packetise o) s = .next s) ∧
    (∀ (o : Fin 16384) (qn e : Nat) (d : Desc), qn = s.carrierQueue o → e = s.packetEngine o →
      (s.blkUp 3 (8 + e) = false → exec (.packetise o) s = .next s) ∧
      (s.blkUp 3 (8 + e) = true → s.objExists tyOutput o = true → (s.queue qn).bell = true → (s.queue qn).first = some d →
        (d.kind = 0 → d.complete = true → ∃ t, exec (.packetise o) s = .next t ∧ (s.queue qn).all = d :: (t.queue qn).all ∧
          ngetD [] t.fwd.outPkts o = ngetD [] s.fwd.outPkts o ++ [d] ∧
          t = { s with stk := t.stk, ctrs := t.ctrs, fwd := { s.fwd with outPkts := t.fwd.outPkts } }) ∧
        (d.kind ≠ 0 → d.poison = true ∨ s.gpoison (s.bufAddr d.handle) d.len = true →
          exec (.packetise o) s = .next (if d.complete then ((s.metPoison 3 (8 + e)).hwAllocDrop 7 (packetWork o)).endBits o qn d.handle else s)) ∧
        (∀ (x : EncCtx) (f : FrameBits) (u : CodedUnit) (h : W32) (g : State) (pkt : Bytes), d.kind ≠ 0 → d.poison = false →
          s.gpoison (s.bufAddr d.handle) d.len = false → d.complete = true → nget s.ven.ctx o = some x →
          x.bits.find? (fun b => decide (b.handle = d.handle)) = some f → f.units.drop f.unit_ = [u] → u.params = false → f.pos = 0 → 1 ≤ u.bytes.length →
          u.bytes.length ≤ f.limit → s.vcodec o = 1 →
          pkt = [0x80, byteOf (128 + f.pt)] ++ beBytes 2 x.seq ++ beBytes 4 (f.due * 9 / 100000) ++ zeros 4 ++ u.bytes →
          s.hwAlloc 7 (packetWork o) pkt.length = (.ok h, g) → nsorted g.gddr = true →
          ∃ (v : State) (y : Desc), exec (.packetise o) s = .next (v.endBits o qn d.handle) ∧
            ngetD [] v.fwd.outPkts o = ngetD [] g.fwd.outPkts o ++ [y] ∧ y.handle = h ∧ y.len = pkt.length ∧ v.gread (v.bufAddr h) pkt.length = pkt ∧
            (nget v.ven.ctx o).map (·.seq) = some (x.seq + 1) ∧ v.cget .venCnt x.engine 8 = g.cget .venCnt x.engine 8 + 1)))

/-- Requests to GDDR7, refresh, retraining, scrub and power-down. A request of a source without the right, or above
region 17, is refused: an error with poisoned data, logged, memory unchanged. A request waits in its channel's queue, or
outside it while 32 are there, until the channel grants it. A channel grants one that 16 younger ones have passed first,
bulk after three latency requests, latency before bulk otherwise. A read of one burst answers the bytes of memory,
poisoned where the burst is uncorrectable, and changes none; corrected and uncorrectable bursts are counted. A write of
one burst stores its data and nothing else, but leaves as it stands a burst it covers in part and whose own read is
uncorrectable. A refresh closes the bank's row and leaves a powered-down device powered down. A retraining visit records
the margins, flags one below half of its value at start-up, and moves to the next channel. A scrub step moves on by one
burst, and zeroes and poisons one it finds uncorrectable. A device idle for PD_US closes its rows and powers down. Each
does nothing where the memory is not in service. -/
def Obligations.MemoryController : Prop :=
  ∀ s : State,
    (s.memUp = false → (∀ source a n fs g, exec (.memoryRead source a n fs g) s = .next s) ∧ (∀ source a d fs g, exec (.memoryWrite source a d fs g) s = .next s) ∧
      (∀ c b, exec (.refresh c b) s = .next s) ∧ (∀ r w, exec (.retrainVisit r w) s = .next s) ∧ (∀ c f g, exec (.scrubStep c ⟨f, g⟩) s = .next s) ∧
      ∀ d, exec (.devicePowerDown d) s = .next s) ∧
    (∀ source a fs g, exec (.memoryRead source a 0 fs g) s = .next s ∧ exec (.memoryWrite source a [] fs g) s = .next s) ∧
    (∀ (source : BitVec 16) (a n : Nat) (d : Bytes) (fs : List BurstFault) (wr : Bool) (cmd : List (Fin 48) → Instr), s.memUp = true → 0 < n → d.length = n →
      (cmd = fun g => if wr then .memoryWrite source a d fs g else .memoryRead source a n fs g) →
      ((∀ r < 18, s.regionBase r + s.regionSize r ≤ a) → s.memRight source a n = false) ∧
      (s.memRight source a n = false → (∀ r ∈ s.mct.reqs, r.source ≠ source.toNat ∧ r.left ≠ []) → ∃ t, exec (cmd []) s = .next t ∧
        t.mct.answers = [⟨source.toNat, false, true, []⟩] ∧ t.gddr = s.gddr ∧ t.poisoned = s.poisoned ∧ t.mct.queues = s.mct.queues ∧ t.mct.reqs = s.mct.reqs ∧
        t.rfld .mctErr 0 0 4 1 = 1 ∧ t.rfld .mctErrLog 0 (s.mct.logNext % 8) 31 1 = 1 ∧
        t.rfld .mctErrLog 0 (s.mct.logNext % 8) 0 30 = a / 64 % 2 ^ 30 ∧ t.rfld .mctErrSrc 0 (s.mct.logNext % 8) 0 16 = source.toNat) ∧
      (∀ (u c : Nat) (e : MemEntry), s.memRight source a n = true → burstsOf a n = [u] → c = burstChannel u → s.mct.stalled = [] →
        (∀ r ∈ s.mct.reqs, r.left ≠ []) → e = { s.entryOf source a n (if wr then some d else none) fs u with passed := 0 } →
        ∃ t, exec (cmd []) s = .next t ∧ t = { s with mct := t.mct } ∧ t.mct.answers = [] ∧
          ((s.chQueue c).length < 32 → t.chQueue c = s.chQueue c ++ [e] ∧ t.mct.stalled = []) ∧
          (32 ≤ (s.chQueue c).length → t.chQueue c = s.chQueue c ∧ t.mct.stalled = [e]) ∧ ∀ k, k ≠ c → t.chQueue k = s.chQueue k)) ∧
    (∀ (c : Nat) (older : List MemEntry) (q : MemEntry), s.pick c = some (older, q) →
      (older, q) ∈ s.grantable c ∧ ((∃ e ∈ s.grantable c, 16 ≤ e.2.passed) → 16 ≤ q.passed) ∧
      ((∀ e ∈ s.grantable c, e.2.passed < 16) →
        (3 ≤ ngetD 0 s.mct.sinceBulk c → (∃ e ∈ s.grantable c, e.2.latency = false) → q.latency = false) ∧
        (ngetD 0 s.mct.sinceBulk c < 3 → (∃ e ∈ s.grantable c, e.2.latency = true ∧ (e.2.kind = .write ↔ c ∈ s.mct.draining)) → q.latency = true)) ∧
      (q.kind = .write → ∀ e ∈ older, e.burst ≠ q.burst)) ∧
    (∀ (source : BitVec 16) (a n u f : Nat) (fs : List BurstFault) (c : Fin 48), s.memUp = true → 0 < n → burstsOf a n = [u] → s.memRight source a n = true →
      s.mct.queues = [] → s.mct.stalled = [] → s.mct.reqs = [] → c.val = burstChannel u → f = s.burstFault (faultOf fs u) u →
      (∃ t, exec (.memoryRead source a n fs [c]) s = .next t ∧ t.gddr = s.gddr ∧ t.mct.answers = [⟨source.toNat, true, decide (f = 2), s.tableRead a n⟩] ∧
        t.mct.queues = [] ∧ t.mct.reqs = [] ∧ t.cget .mctCnt 0 0 = s.cget .mctCnt 0 0 + 1 ∧ (f = 1 → t.cget .mctCnt 0 5 = s.cget .mctCnt 0 5 + 1 ∧ t.rfld .mctErr 0 0 0 1 = 1) ∧
        (f = 2 → t.cget .mctCnt 0 6 = s.cget .mctCnt 0 6 + 1 ∧ t.rfld .mctErr 0 0 1 1 = 1) ∧ ∀ v, v ∈ t.poisoned ↔ v ∈ s.poisoned ∨ v = u ∧ f = 2) ∧
      (∀ d : Bytes, nsorted s.gddr = true → d.length = n → ∃ t, exec (.memoryWrite source a d fs [c]) s = .next t ∧ t.gddrKept s a n ∧
        t.mct.answers = [⟨source.toNat, true, false, []⟩] ∧ t.mct.queues = [] ∧ t.mct.reqs = [] ∧
        (n = 64 ∨ f ≠ 2 → (∀ i < n, ngetD 0 t.gddr (a + i) = byteAt d i) ∧ t.cget .mctCnt 0 1 = s.cget .mctCnt 0 1 + 1) ∧
        (n ≠ 64 → f = 2 → t.gddr = s.gddr) ∧ (n = 64 → u ∉ t.poisoned))) ∧
    (∀ (c : Fin 48) (b : Fin 16), s.memUp = true → ∃ t, exec (.refresh c b) s = .next t ∧ nget t.mct.openRows (c * 16 + b) = none ∧
      (s.rfld .mctChStatus 0 (4 * (c / 4)) 0 2 ≠ 1 → t = { s with mct := { s.mct with openRows := ndel s.mct.openRows (c * 16 + b) } }) ∧
      (s.rfld .mctChStatus 0 (4 * (c / 4)) 0 2 = 1 → t.rfld .mctChStatus 0 c 0 2 = 1 ∧ t = { s with regs := t.regs, ctrs := t.ctrs, mct := t.mct })) ∧
    (∀ read write : BitVec 8, s.retrains = false → exec (.retrainVisit read write) s = .next s) ∧
    (∀ (read write : BitVec 8) (ch : Nat), s.retrains = true → s.memUp = true → ch = s.rfld .mctRetrain 0 0 0 6 → ch < 48 → ∃ t, exec (.retrainVisit read write) s = .next t ∧
      t.rfld .mctChStatus 0 ch 4 8 = read.toNat ∧ t.rfld .mctChStatus 0 ch 12 8 = write.toNat ∧ t.rfld .mctRetrain 0 0 0 6 = (ch + 1) % 48 ∧
      t.cget .mctCnt 0 9 = s.cget .mctCnt 0 9 + 1 ∧ (∀ e ∈ t.mct.openRows, e.1 / 16 ≠ ch) ∧ t.mct.visitAt = some t.t ∧ t.gddr = s.gddr ∧ t.m = s.m ∧
      (∀ v, s.mct.visitAt = some v → v + 2083333 < 2 ^ 64 → v + 2083333 ≤ t.t) ∧
      (2 * read.toNat < (ngetD (0, 0) s.mct.startMargin ch).1 ∨ 2 * write.toNat < (ngetD (0, 0) s.mct.startMargin ch).2 → t.rfld .mctErr 0 0 3 1 = 1)) ∧
    (∀ (c : Fin 48) (f : Fin 3) (g : List (Fin 48)), s.rfld .mctCfg 0 0 28 1 = 0 ∨ s.rfld .mctChStatus 0 c 0 2 ≠ 0 ∨ 32 ≤ (s.chQueue c).length ∨
      (∃ e ∈ s.chQueue c, e.kind = .scrub) → exec (.scrubStep c ⟨f, g⟩) s = .next s) ∧
    (∀ (c : Fin 48) (f : Fin 3) (pos u : Nat), s.memUp = true → s.rfld .mctCfg 0 0 28 1 = 1 → s.rfld .mctChStatus 0 c 0 2 = 0 →
      pos = ngetD 0 s.mct.scrubAt c % channelBursts → u = channelBurst c pos →
      ((s.chQueue c).length < 32 → (∀ e ∈ s.chQueue c, e.kind ≠ .scrub) →
        exec (.scrubStep c ⟨f, []⟩) s = .next (s.setChQueue c (s.chQueue c ++ [⟨0, 0, .scrub, false, u, 64 * u, 64, [], f, 0⟩]))) ∧
      (s.mct.queues = [] → s.mct.stalled = [] → s.mct.reqs = [] → nsorted s.gddr = true → ∃ t, exec (.scrubStep c ⟨f, [c]⟩) s = .next t ∧ t.mct.queues = [] ∧
        ngetD 0 t.mct.scrubAt c = (pos + 1) % channelBursts ∧ t.cget .mctCnt 0 7 = s.cget .mctCnt 0 7 + 1 ∧ t.mct.lastCmd = s.mct.lastCmd ∧ t.gddrKept s (64 * u) 64 ∧
        (u ∈ s.poisoned ∨ f = 2 → t.gread (64 * u) 64 = zeros 64 ∧ u ∈ t.poisoned ∧ t.rfld .mctErr 0 0 2 1 = 1) ∧
        (u ∉ s.poisoned → f ≠ 2 → t.gddr = s.gddr ∧ t.poisoned = s.poisoned) ∧
        (u ∉ s.poisoned → f = 1 → t.cget .mctCnt 0 5 = s.cget .mctCnt 0 5 + 1 ∧ t.rfld .mctErr 0 0 0 1 = 1))) ∧
    (∀ d : Fin 12, s.m.mode = .wipe ∨ s.rfld .mctCfg 0 0 0 20 = 0 ∨ s.rfld .mctChStatus 0 (4 * d) 0 2 ≠ 0 ∨ (∃ i < 4, s.chQueue (4 * d + i) ≠ []) →
      exec (.devicePowerDown d) s = .next s) ∧
    (∀ (d : Fin 12) (at_ : Nat), s.memUp = true → s.m.mode ≠ .wipe → s.rfld .mctCfg 0 0 0 20 ≠ 0 → s.rfld .mctChStatus 0 (4 * d) 0 2 = 0 →
      (∀ i < 4, s.chQueue (4 * d + i) = []) →
      at_ = ngetD 0 s.mct.lastCmd d + 1000 * s.rfld .mctCfg 0 0 0 20 → ∃ t, exec (.devicePowerDown d) s = .next t ∧
        (∀ i < 4, t.rfld .mctChStatus 0 (4 * d + i) 0 2 = 1) ∧ (∀ e ∈ t.mct.openRows, e.1 / 64 ≠ d) ∧ t.cget .mctCnt 0 8 = s.cget .mctCnt 0 8 + 1 ∧
        (at_ < 2 ^ 64 → at_ ≤ t.t) ∧ t = { s with regs := t.regs, ctrs := t.ctrs, mct := t.mct, time := t.time })
end

