-- ==== Sys2Proof/Laws/Map.lean ====
section
/-!
SUPPORT. Laws of the sparse tables: what a read gives after a write, and that every operation keeps the canonical form.
-/

namespace Sys2Proof.Machine

variable {α : Type}

/-! ### Read after write -/

@[simp] theorem nget_nput_self (m : NMap α) (k : Nat) (v : α) : nget (nput m k v) k = some v := by
  induction m with
  | nil => simp [nput, nget]
  | cons e r ih =>
    obtain ⟨a, w⟩ := e
    simp only [nput]
    split
    · simp [nget]
    · split
      · simp [nget]
      · rename_i h1 h2
        simp [nget, Ne.symm h2, ih]

@[simp] theorem nget_nput_ne (m : NMap α) {k j : Nat} (v : α) (h : j ≠ k) : nget (nput m k v) j = nget m j := by
  induction m with
  | nil => simp [nput, nget, Ne.symm h]
  | cons e r ih =>
    obtain ⟨a, w⟩ := e
    simp only [nput]
    split
    · simp [nget, Ne.symm h]
    · split
      · rename_i h1 h2
        subst h2
        simp [nget, Ne.symm h]
      · simp only [nget, ih]

@[simp] theorem nget_ndel_self (m : NMap α) (k : Nat) : nget (ndel m k) k = none := by
  induction m with
  | nil => rfl
  | cons e r ih =>
    obtain ⟨a, w⟩ := e
    simp only [ndel]
    split
    · exact ih
    · rename_i h
      simp [nget, h, ih]

@[simp] theorem nget_ndel_ne (m : NMap α) {k j : Nat} (h : j ≠ k) : nget (ndel m k) j = nget m j := by
  induction m with
  | nil => rfl
  | cons e r ih =>
    obtain ⟨a, w⟩ := e
    simp only [ndel]
    split
    · rename_i ha
      subst ha
      simp [nget, Ne.symm h, ih]
    · simp only [nget, ih]

theorem nget_nput (m : NMap α) (k j : Nat) (v : α) : nget (nput m k v) j = if j = k then some v else nget m j := by
  split
  · rename_i h
    subst h
    exact nget_nput_self ..
  · exact nget_nput_ne _ _ ‹_›

theorem nget_ndel (m : NMap α) (k j : Nat) : nget (ndel m k) j = if j = k then none else nget m j := by
  split
  · rename_i h
    subst h
    exact nget_ndel_self ..
  · exact nget_ndel_ne _ ‹_›

theorem nget_nset (m : NMap α) (k j : Nat) (v : Option α) : nget (nset m k v) j = if j = k then v else nget m j := by
  cases v
  · exact nget_ndel ..
  · exact nget_nput ..

theorem nget_nmodify (m : NMap α) (k j : Nat) (f : α → α) :
    nget (nmodify m k f) j = if j = k then (nget m k).map f else nget m j := by
  unfold nmodify
  cases h : nget m k with
  | none =>
    by_cases hj : j = k
    · subst hj
      simpa using h
    · simp [hj]
  | some v => simp only [nget_nput, Option.map_some]

theorem ngetD_nput (d : α) (m : NMap α) (k j : Nat) (v : α) : ngetD d (nput m k v) j = if j = k then v else ngetD d m j := by
  unfold ngetD
  rw [nget_nput]
  split <;> rfl

theorem ngetD_nputD [DecidableEq α] (d : α) (m : NMap α) (k j : Nat) (v : α) :
    ngetD d (nputD d m k v) j = if j = k then v else ngetD d m j := by
  unfold nputD
  split
  · rename_i h
    subst h
    unfold ngetD
    rw [nget_ndel]
    split <;> rfl
  · exact ngetD_nput ..

@[simp] theorem ngetD_nputD_self [DecidableEq α] (d : α) (m : NMap α) (k : Nat) (v : α) : ngetD d (nputD d m k v) k = v := by
  rw [ngetD_nputD, if_pos rfl]

@[simp] theorem ngetD_nputD_ne [DecidableEq α] (d : α) (m : NMap α) {k j : Nat} (v : α) (h : j ≠ k) :
    ngetD d (nputD d m k v) j = ngetD d m j := by
  rw [ngetD_nputD, if_neg h]

theorem nget_nputD_ne [DecidableEq α] (d : α) (m : NMap α) {k j : Nat} (v : α) (h : j ≠ k) :
    nget (nputD d m k v) j = nget m j := by
  unfold nputD
  split
  · exact nget_ndel_ne _ h
  · exact nget_nput_ne _ _ h

theorem nhas_nput (m : NMap α) (k j : Nat) (v : α) : nhas (nput m k v) j = (decide (j = k) || nhas m j) := by
  unfold nhas
  rw [nget_nput]
  split <;> simp_all

/-! ### The canonical form is kept -/

theorem nsortedFrom_mono {b c : Nat} (m : NMap α) (h : c ≤ b) (hm : nsortedFrom b m = true) : nsortedFrom c m = true := by
  cases m with
  | nil => rfl
  | cons e r =>
    obtain ⟨a, w⟩ := e
    simp only [nsortedFrom, Bool.and_eq_true, decide_eq_true_eq] at hm ⊢
    exact ⟨by omega, hm.2⟩

theorem nsortedFrom_nput (m : NMap α) (k : Nat) (v : α) : ∀ b, nsortedFrom b m = true → nsortedFrom (min b k) (nput m k v) = true := by
  induction m with
  | nil => intro b _; simp [nput, nsortedFrom]
  | cons e r ih =>
    obtain ⟨a, w⟩ := e
    intro b hb
    simp only [nsortedFrom, Bool.and_eq_true, decide_eq_true_eq] at hb
    simp only [nput]
    split
    · simp only [nsortedFrom, Bool.and_eq_true, decide_eq_true_eq]
      exact ⟨by omega, by omega, hb.2⟩
    · split
      · rename_i h1 h2
        subst h2
        simp only [nsortedFrom, Bool.and_eq_true, decide_eq_true_eq]
        exact ⟨by omega, hb.2⟩
      · simp only [nsortedFrom, Bool.and_eq_true, decide_eq_true_eq]
        refine ⟨by omega, ?_⟩
        have := ih (a + 1) hb.2
        rwa [show min (a + 1) k = a + 1 by omega] at this

theorem nsortedFrom_ndel (m : NMap α) (k : Nat) : ∀ b, nsortedFrom b m = true → nsortedFrom b (ndel m k) = true := by
  induction m with
  | nil => intro b _; rfl
  | cons e r ih =>
    obtain ⟨a, w⟩ := e
    intro b hb
    simp only [nsortedFrom, Bool.and_eq_true, decide_eq_true_eq] at hb
    simp only [ndel]
    split
    · exact nsortedFrom_mono _ (by omega) (ih _ hb.2)
    · simp only [nsortedFrom, Bool.and_eq_true, decide_eq_true_eq]
      exact ⟨hb.1, ih _ hb.2⟩

@[simp] theorem nsorted_nil : nsorted ([] : NMap α) = true := rfl

theorem nsorted_nput {m : NMap α} (h : nsorted m = true) (k : Nat) (v : α) : nsorted (nput m k v) = true := by
  have := nsortedFrom_nput m k v 0 h
  rwa [Nat.zero_min] at this

theorem nsorted_ndel {m : NMap α} (h : nsorted m = true) (k : Nat) : nsorted (ndel m k) = true := nsortedFrom_ndel m k 0 h

theorem nsorted_nputD [DecidableEq α] {m : NMap α} (d : α) (h : nsorted m = true) (k : Nat) (v : α) : nsorted (nputD d m k v) = true := by
  unfold nputD
  split
  · exact nsorted_ndel h k
  · exact nsorted_nput h k v

theorem nsorted_nset {m : NMap α} (h : nsorted m = true) (k : Nat) (v : Option α) : nsorted (nset m k v) = true := by
  cases v
  · exact nsorted_ndel h k
  · exact nsorted_nput h k _

theorem nsorted_nmodify {m : NMap α} (h : nsorted m = true) (k : Nat) (f : α → α) : nsorted (nmodify m k f) = true := by
  unfold nmodify
  split
  · exact nsorted_nput h k _
  · exact h

/-- The entries of a table after a write. -/
theorem mem_nput {m : NMap α} {k : Nat} {v : α} {e : Nat × α} (h : e ∈ nput m k v) : e = (k, v) ∨ e ∈ m := by
  induction m with
  | nil => simp [nput] at h; exact .inl h
  | cons x r ih =>
    obtain ⟨a, w⟩ := x
    simp only [nput] at h
    split at h
    · simpa using h
    · split at h
      · rcases List.mem_cons.1 h with h | h
        · exact .inl h
        · exact .inr (List.mem_cons_of_mem _ h)
      · rcases List.mem_cons.1 h with h | h
        · exact .inr (h ▸ List.mem_cons_self)
        · exact (ih h).imp_right (List.mem_cons_of_mem _)

theorem mem_ndel {m : NMap α} {k : Nat} {e : Nat × α} (h : e ∈ ndel m k) : e ∈ m := by
  induction m with
  | nil => exact h
  | cons x r ih =>
    obtain ⟨a, w⟩ := x
    simp only [ndel] at h
    split at h
    · exact List.mem_cons_of_mem _ (ih h)
    · rcases List.mem_cons.1 h with h | h
      · exact h ▸ List.mem_cons_self
      · exact List.mem_cons_of_mem _ (ih h)

theorem nwf_nil [DecidableEq α] (d : α) : nwf d ([] : NMap α) = true := rfl

theorem nwf_nputD [DecidableEq α] {m : NMap α} {d : α} (h : nwf d m = true) (k : Nat) (v : α) : nwf d (nputD d m k v) = true := by
  simp only [nwf, Bool.and_eq_true, List.all_eq_true, decide_eq_true_eq] at h ⊢
  refine ⟨nsorted_nputD d h.1 k v, fun e he => ?_⟩
  unfold nputD at he
  split at he
  · exact h.2 e (mem_ndel he)
  · rcases mem_nput he with rfl | he
    · assumption
    · exact h.2 e he

/-! ### Tables in canonical form are equal when they read alike -/

theorem nget_lt {b j : Nat} (m : NMap α) (h : nsortedFrom b m = true) (hj : j < b) : nget m j = none := by
  induction m generalizing b with
  | nil => rfl
  | cons e r ih =>
    obtain ⟨a, w⟩ := e
    simp only [nsortedFrom, Bool.and_eq_true, decide_eq_true_eq] at h
    simp only [nget]
    rw [if_neg (by omega)]
    exact ih h.2 (by omega)

theorem nmap_ext {b : Nat} {m n : NMap α} (hm : nsortedFrom b m = true) (hn : nsortedFrom b n = true)
    (h : ∀ k, nget m k = nget n k) : m = n := by
  induction m generalizing b n with
  | nil =>
    cases n with
    | nil => rfl
    | cons e r => obtain ⟨a, w⟩ := e; simpa [nget] using h a
  | cons e r ih =>
    obtain ⟨a, w⟩ := e
    cases n with
    | nil => simpa [nget] using h a
    | cons f t =>
      obtain ⟨c, x⟩ := f
      simp only [nsortedFrom, Bool.and_eq_true, decide_eq_true_eq] at hm hn
      have hac : a = c := by
        rcases Nat.lt_trichotomy a c with hl | hl | hl
        · have := h a
          simp only [nget, if_true] at this
          rw [if_neg (by omega), nget_lt t hn.2 (by omega)] at this
          cases this
        · exact hl
        · have := h c
          simp only [nget, if_true] at this
          rw [if_neg (by omega), nget_lt r hm.2 (by omega)] at this
          cases this
      subst hac
      have hw : w = x := by simpa [nget] using h a
      subst hw
      congr 1
      refine ih hm.2 hn.2 fun k => ?_
      have := h k
      simp only [nget] at this
      split at this
      · rename_i hk
        subst hk
        rw [nget_lt r hm.2 (by omega), nget_lt t hn.2 (by omega)]
      · exact this

/-! ### Lists by index -/

@[simp] theorem lset_length (l : List α) (i : Nat) (v : α) : (lset l i v).length = l.length := by
  induction l generalizing i with
  | nil => rfl
  | cons a r ih => cases i <;> simp [lset, ih]

theorem lset_get (l : List α) (i j : Nat) (v : α) : (lset l i v)[j]? = if j = i ∧ i < l.length then some v else l[j]? := by
  induction l generalizing i j with
  | nil => simp [lset]
  | cons a r ih =>
    cases i with
    | zero => cases j <;> simp [lset]
    | succ i => cases j <;> simp [lset, ih]

theorem takeFirst_some {p : α → Bool} {l : List α} {a : α} {r : List α} (h : takeFirst p l = some (a, r)) :
    p a = true ∧ l.find? p = some a ∧ ∃ x y, l = x ++ a :: y ∧ r = x ++ y ∧ x.all (fun b => !p b) = true := by
  induction l generalizing r with
  | nil => cases h
  | cons b t ih =>
    simp only [takeFirst] at h
    split at h
    · rename_i hb
      cases h
      exact ⟨hb, by simp [hb], [], _, rfl, rfl, rfl⟩
    · rename_i hb
      split at h
      · rename_i c q hc
        cases h
        obtain ⟨h1, h2, x, y, h3, h4, h5⟩ := ih hc
        exact ⟨h1, by simp [hb, h2], b :: x, y, by simp [h3], by simp [h4], by simp [hb, h5]⟩
      · cases h

end Sys2Proof.Machine
end

