-- ==== Sys2Proof/Laws/Memory.lean ====
section
/-!
SUPPORT. Laws of the addressed memories: a read after a write, that a write leaves every other byte alone, and that every
memory operation keeps the canonical form.
-/

namespace Sys2Proof.Machine

theorem nget_append {α : Type} (l m : NMap α) (k : Nat) : nget (l ++ m) k = (nget l k).orElse fun _ => nget m k := by
  induction l with
  | nil => rfl
  | cons e r ih =>
    obtain ⟨a, v⟩ := e
    simp only [List.cons_append, nget]
    split
    · rfl
    · exact ih

/-- The entries below an address. -/
theorem nget_takeWhile {α : Type} {b : Nat} (m : NMap α) (h : nsortedFrom b m = true) (a k : Nat) :
    nget (m.takeWhile fun e => decide (e.1 < a)) k = if k < a then nget m k else none := by
  induction m generalizing b with
  | nil => simp [nget]
  | cons e r ih =>
    obtain ⟨c, v⟩ := e
    simp only [nsortedFrom, Bool.and_eq_true, decide_eq_true_eq] at h
    by_cases hc : c < a
    · simp only [List.takeWhile_cons, decide_eq_true hc, if_true, nget, ih h.2]
      split
      · rename_i hk
        subst hk
        simp [hc]
      · rfl
    · simp only [List.takeWhile_cons, decide_eq_false hc, Bool.false_eq_true, if_false, nget]
      split
      · rw [if_neg (by omega), nget_lt r h.2 (by omega)]
      · rfl

/-- The entries from an address on. -/
theorem nget_dropWhile {α : Type} {b : Nat} (m : NMap α) (h : nsortedFrom b m = true) (a k : Nat) :
    nget (m.dropWhile fun e => decide (e.1 < a)) k = if k < a then none else nget m k := by
  induction m generalizing b with
  | nil => simp [nget]
  | cons e r ih =>
    obtain ⟨c, v⟩ := e
    simp only [nsortedFrom, Bool.and_eq_true, decide_eq_true_eq] at h
    by_cases hc : c < a
    · simp only [List.dropWhile_cons, decide_eq_true hc, if_true, nget, ih h.2]
      split
      · rfl
      · rw [if_neg (by omega)]
    · simp only [List.dropWhile_cons, decide_eq_false hc, Bool.false_eq_true, if_false, nget]
      by_cases hk : c = k
      · simp only [hk, if_true]
        rw [if_neg (by omega)]
      · simp only [hk, if_false]
        split
        · exact nget_lt r h.2 (by omega)
        · rfl

theorem nsortedFrom_takeWhile {α : Type} {b : Nat} (m : NMap α) (h : nsortedFrom b m = true) (p : Nat × α → Bool) :
    nsortedFrom b (m.takeWhile p) = true := by
  induction m generalizing b with
  | nil => rfl
  | cons e r ih =>
    obtain ⟨c, v⟩ := e
    simp only [nsortedFrom, Bool.and_eq_true, decide_eq_true_eq] at h
    rw [List.takeWhile_cons]
    split
    · simp only [nsortedFrom, Bool.and_eq_true, decide_eq_true_eq]
      exact ⟨h.1, ih h.2⟩
    · rfl

theorem nsortedFrom_dropWhile {α : Type} {b : Nat} (m : NMap α) (h : nsortedFrom b m = true) (a : Nat) :
    nsortedFrom (max a b) (m.dropWhile fun e => decide (e.1 < a)) = true := by
  induction m generalizing b with
  | nil => rfl
  | cons e r ih =>
    obtain ⟨c, v⟩ := e
    simp only [nsortedFrom, Bool.and_eq_true, decide_eq_true_eq] at h
    by_cases hc : c < a
    · simp only [List.dropWhile_cons, decide_eq_true hc, if_true]
      exact nsortedFrom_mono _ (by omega) (ih h.2)
    · simp only [List.dropWhile_cons, decide_eq_false hc, Bool.false_eq_true, if_false, nsortedFrom, Bool.and_eq_true, decide_eq_true_eq]
      exact ⟨by omega, h.2⟩

theorem memCells_nil (a : Nat) : memCells a [] = [] := rfl

theorem memCells_cons (a : Nat) (v : Byte) (r : Bytes) :
    memCells a (v :: r) = (if v = 0 then [] else [(a, v)]) ++ memCells (a + 1) r := by
  unfold memCells
  rw [List.length_cons, List.range_succ_eq_map, List.zip_cons_cons, List.filterMap_cons, List.zip_map_left, List.filterMap_map]
  have : ((fun e : Nat × Byte => if e.2 = 0 then none else some (a + e.1, e.2)) ∘ Prod.map Nat.succ id) =
      fun e : Nat × Byte => if e.2 = 0 then none else some (a + 1 + e.1, e.2) := by
    funext e
    simp only [Function.comp, Prod.map, id]
    rw [show a + Nat.succ e.1 = a + 1 + e.1 by omega]
  rw [this]
  by_cases hv : v = 0
  · simp [hv]
  · simp only [hv, if_false]
    rfl

theorem nget_memCells (a : Nat) (b : Bytes) (k : Nat) :
    nget (memCells a b) k = if a ≤ k ∧ k < a + b.length ∧ byteAt b (k - a) ≠ 0 then some (byteAt b (k - a)) else none := by
  induction b generalizing a with
  | nil => simp [memCells_nil, nget]; omega
  | cons v r ih =>
    rw [memCells_cons, nget_append, ih]
    by_cases hk : k = a
    · subst hk
      by_cases hv : v = 0
      · simp [hv, nget, byteAt]
      · simp only [hv, if_false, nget, byteAt]
        simp
        exact hv
    · have hn : nget (if v = 0 then [] else [(a, v)]) k = none := by
        split <;> simp [nget, Ne.symm hk]
      rw [hn]
      by_cases hlt : a ≤ k
      · have e : byteAt (v :: r) (k - a) = byteAt r (k - (a + 1)) := by
          rw [show k - a = (k - (a + 1)) + 1 by omega]
          simp [byteAt]
        simp only [e, List.length_cons, Option.orElse_none]
        congr 1
        exact propext ⟨fun h => ⟨by omega, by omega, h.2.2⟩, fun h => ⟨by omega, by omega, h.2.2⟩⟩
      · simp only [Option.orElse_none]
        rw [if_neg (by omega), if_neg (by omega)]

theorem nsortedFrom_memCells (a : Nat) (b : Bytes) : nsortedFrom a (memCells a b) = true := by
  induction b generalizing a with
  | nil => rfl
  | cons v r ih =>
    rw [memCells_cons]
    split
    · exact nsortedFrom_mono _ (Nat.le_succ a) (ih _)
    · simp only [List.cons_append, List.nil_append, nsortedFrom, ih, Nat.le_refl, decide_true, Bool.and_true]

theorem nsortedFrom_append {α : Type} {b c : Nat} (l m : NMap α) (h : nsortedFrom b l = true) (hm : nsortedFrom c m = true)
    (hb : b ≤ c) (hl : ∀ e ∈ l, e.1 < c) : nsortedFrom b (l ++ m) = true := by
  induction l generalizing b with
  | nil => exact nsortedFrom_mono _ hb hm
  | cons e r ih =>
    obtain ⟨a, v⟩ := e
    simp only [nsortedFrom, Bool.and_eq_true, decide_eq_true_eq, List.cons_append] at h ⊢
    exact ⟨h.1, ih h.2 (hl _ List.mem_cons_self) fun e he => hl e (List.mem_cons_of_mem _ he)⟩

/-- A byte after a write: the written one inside the range, the old one outside. -/
theorem ngetD_memWrite {m : NMap Byte} (h : nsorted m = true) (a : Nat) (b : Bytes) (k : Nat) :
    ngetD 0 (memWrite m a b) k = if a ≤ k ∧ k < a + b.length then byteAt b (k - a) else ngetD 0 m k := by
  unfold memWrite ngetD
  rw [nget_append, nget_append, nget_takeWhile m h, nget_dropWhile m h, nget_memCells]
  by_cases h1 : k < a
  · rw [if_pos h1, if_neg (by omega), if_pos (by omega), if_neg (by omega)]
    cases nget m k <;> rfl
  · rw [if_neg h1]
    by_cases h2 : k < a + b.length
    · rw [if_pos h2, if_pos (show a ≤ k ∧ k < a + b.length from ⟨by omega, h2⟩)]
      by_cases h3 : byteAt b (k - a) = 0
      · rw [if_neg (fun x => x.2.2 h3), h3]
        rfl
      · rw [if_pos ⟨by omega, h2, h3⟩]
        rfl
    · rw [if_neg h2, if_neg (by omega), if_neg (by omega)]
      cases nget m k <;> rfl

theorem nsorted_memWrite {m : NMap Byte} (h : nsorted m = true) (a : Nat) (b : Bytes) : nsorted (memWrite m a b) = true := by
  unfold memWrite nsorted
  refine nsortedFrom_append (c := a + b.length) _ _ (nsortedFrom_append (c := a) _ _ (nsortedFrom_takeWhile m h _)
      (nsortedFrom_memCells a b) (Nat.zero_le _) fun e he => ?_) (nsortedFrom_mono _ (Nat.le_max_left _ 0) (nsortedFrom_dropWhile m h _))
    (Nat.zero_le _) fun e he => ?_
  · simpa using List.mem_takeWhile_imp he
  · rcases List.mem_append.1 he with he | he
    · have : e.1 < a := by simpa using List.mem_takeWhile_imp he
      omega
    · unfold memCells at he
      obtain ⟨x, hx, hy⟩ := List.mem_filterMap.1 he
      have := List.mem_range.1 (List.of_mem_zip hx).1
      split at hy
      · cases hy
      · cases hy
        simp only
        omega

/-- A write keeps the canonical form. -/
theorem nwf_memWrite {m : NMap Byte} (h : nwf 0 m = true) (a : Nat) (b : Bytes) : nwf 0 (memWrite m a b) = true := by
  simp only [nwf, Bool.and_eq_true, List.all_eq_true, decide_eq_true_eq] at h ⊢
  refine ⟨nsorted_memWrite h.1 a b, fun e he => ?_⟩
  unfold memWrite at he
  rcases List.mem_append.1 he with he | he
  · rcases List.mem_append.1 he with he | he
    · exact h.2 e ((List.takeWhile_sublist _).subset he)
    · unfold memCells at he
      obtain ⟨x, hx, hy⟩ := List.mem_filterMap.1 he
      split at hy
      · cases hy
      · cases hy
        assumption
  · exact h.2 e ((List.dropWhile_sublist _).subset he)

/-- A read gives the bytes of the range. -/
theorem memRead_eq {m : NMap Byte} (h : nsorted m = true) (a n : Nat) :
    memRead m a n = (List.range n).map fun i => ngetD 0 m (a + i) := by
  unfold memRead
  refine List.map_congr_left fun i hi => ?_
  have hi := List.mem_range.1 hi
  unfold ngetD
  rw [nget_takeWhile _ (nsortedFrom_dropWhile m h a), nget_dropWhile m h, if_pos (by omega), if_neg (by omega)]

@[simp] theorem memRead_length (m : NMap Byte) (a n : Nat) : (memRead m a n).length = n := by simp [memRead]

/-- What was written reads back. -/
theorem memRead_memWrite {m : NMap Byte} (h : nsorted m = true) (a : Nat) (b : Bytes) : memRead (memWrite m a b) a b.length = b := by
  rw [memRead_eq (nsorted_memWrite h a b)]
  refine List.ext_getElem (by simp) fun i h1 h2 => ?_
  simp only [List.getElem_map, List.getElem_range, ngetD_memWrite h]
  rw [if_pos ⟨by omega, by simpa using h2⟩, Nat.add_sub_cancel_left]
  simp [byteAt, List.getD_eq_getElem?_getD, h2]

/-- A write elsewhere does not show. -/
theorem memRead_memWrite_disjoint {m : NMap Byte} (h : nsorted m = true) (a : Nat) (b : Bytes) (c n : Nat)
    (hd : c + n ≤ a ∨ a + b.length ≤ c) : memRead (memWrite m a b) c n = memRead m c n := by
  rw [memRead_eq (nsorted_memWrite h a b), memRead_eq h]
  refine List.map_congr_left fun i hi => ?_
  have hi := List.mem_range.1 hi
  rw [ngetD_memWrite h, if_neg (by omega)]

/-! ### GDDR7 -/

theorem State.gread_gwrite {s : State} (h : nsorted s.gddr = true) (a : Nat) (b : Bytes) : (s.gwrite a b).gread a b.length = b :=
  memRead_memWrite h a b

theorem State.gread_gwrite_disjoint {s : State} (h : nsorted s.gddr = true) (a : Nat) (b : Bytes) (c n : Nat)
    (hd : c + n ≤ a ∨ a + b.length ≤ c) : (s.gwrite a b).gread c n = s.gread c n :=
  memRead_memWrite_disjoint h a b c n hd

theorem State.nwf_gwrite {s : State} (h : nwf 0 s.gddr = true) (a : Nat) (b : Bytes) : nwf 0 (s.gwrite a b).gddr = true :=
  nwf_memWrite h a b

/-- Every write of the model's byte memories goes through `memWrite`, which keeps the canonical form. -/
theorem Memory.wf_memWrite {m : NMap Byte} (h : Memory.wf m = true) (a : Nat) (b : Bytes) : Memory.wf (memWrite m a b) = true :=
  nwf_memWrite h a b

/-- Memory at reset lists nothing. -/
theorem Memory.wf_reset : Memory.wf State.reset.gddr = true := rfl

end Sys2Proof.Machine
end

