-- ==== Sys2Proof/Laws/Ops.lean ====
section
/-!
SUPPORT. What the shared operations can do, said once: registers and counters read back, bit fields, timers, events, error
bits and cell records.
-/

namespace Sys2Proof.Machine

/-! ### Bit fields -/

/-- The bits of a word after a field was stored: the field's own, and all others as they were. -/
theorem getLsbD_setFld (v : W32) (lo len n i : Nat) :
    (setFld v lo len n).getLsbD i =
      if i < 32 ∧ lo ≤ i ∧ i < lo + len then n.testBit (i - lo) else v.getLsbD i := by
  have e1 : (2 ^ len - 1) * 2 ^ lo = (2 ^ len - 1) <<< lo := by rw [Nat.shiftLeft_eq]
  have e2 : n % 2 ^ len * 2 ^ lo = (n % 2 ^ len) <<< lo := by rw [Nat.shiftLeft_eq]
  simp only [setFld, BitVec.getLsbD_or, BitVec.getLsbD_and, BitVec.getLsbD_not, BitVec.getLsbD_ofNat, e1, e2,
    Nat.testBit_shiftLeft, Nat.testBit_mod_two_pow, Nat.testBit_two_pow_sub_one]
  by_cases h32 : i < 32
  · by_cases hlo : lo ≤ i
    · by_cases hl : i < lo + len
      · simp [h32, hlo, hl, show i - lo < len by omega]
      · simp [h32, hlo, hl, show ¬ i - lo < len by omega]
    · simp [h32, hlo]
  · simp [h32, BitVec.getLsbD_of_ge v i (by omega)]

/-- The bits of a field. -/
theorem testBit_fld (v : W32) (lo len i : Nat) : (fld v lo len).testBit i = (decide (i < len) && v.getLsbD (lo + i)) := by
  unfold fld
  rw [Nat.testBit_mod_two_pow, Nat.testBit_div_two_pow, Nat.add_comm]
  rfl

/-- A field reads back what was stored in it. -/
theorem fld_setFld_self (v : W32) {lo len : Nat} (n : Nat) (h : lo + len ≤ 32) : fld (setFld v lo len n) lo len = n % 2 ^ len := by
  refine Nat.eq_of_testBit_eq fun i => ?_
  rw [testBit_fld, getLsbD_setFld, Nat.testBit_mod_two_pow]
  by_cases hi : i < len
  · simp [hi, show lo + i < 32 by omega]
  · simp [hi]

/-- A field reads the same after another field was stored. -/
theorem fld_setFld_ne (v : W32) {lo len lo' len' : Nat} (n : Nat) (h : lo' + len' ≤ lo ∨ lo + len ≤ lo') :
    fld (setFld v lo len n) lo' len' = fld v lo' len' := by
  refine Nat.eq_of_testBit_eq fun i => ?_
  rw [testBit_fld, testBit_fld, getLsbD_setFld]
  by_cases hi : i < len'
  · simp only [hi, decide_true, Bool.true_and]
    rw [if_neg (by omega)]
  · simp [hi]

theorem fld_lt (v : W32) (lo len : Nat) : fld v lo len < 2 ^ len := Nat.mod_lt _ (Nat.two_pow_pos _)

/-! ### Registers and counters -/

@[simp] theorem State.rget_rset_self (s : State) (r : Reg) (u i : Nat) (v : W32) : (s.rset r u i v).rget r u i = v := by
  simp [State.rget, State.rset]

theorem State.rget_rset_ne (s : State) {r q : Reg} {u i w j : Nat} (v : W32) (h : regAddr q w j ≠ regAddr r u i) :
    (s.rset r u i v).rget q w j = s.rget q w j := by
  simp only [State.rget, ngetD, State.rset, nget_nputD_ne _ _ _ h]

theorem State.rfld_rsetFld_self (s : State) (r : Reg) (u i : Nat) {lo len : Nat} (n : Nat) (h : lo + len ≤ 32) :
    (s.rsetFld r u i lo len n).rfld r u i lo len = n % 2 ^ len := by
  simp [State.rfld, State.rsetFld, fld_setFld_self _ _ h]

theorem State.rfld_rsetFld_field (s : State) (r : Reg) (u i : Nat) {lo len lo' len' : Nat} (n : Nat)
    (h : lo' + len' ≤ lo ∨ lo + len ≤ lo') : (s.rsetFld r u i lo len n).rfld r u i lo' len' = s.rfld r u i lo' len' := by
  simp [State.rfld, State.rsetFld, fld_setFld_ne _ _ h]

theorem State.rfld_rsetFld_ne (s : State) {r q : Reg} {u i w j : Nat} (lo len n lo' len' : Nat) (h : regAddr q w j ≠ regAddr r u i) :
    (s.rsetFld r u i lo len n).rfld q w j lo' len' = s.rfld q w j lo' len' := by
  simp only [State.rfld, State.rsetFld, State.rget_rset_ne s _ h]

@[simp] theorem State.cget_cadd_self (s : State) (r : Reg) (u i n : Nat) :
    (s.cadd r u i n).cget r u i = s.cget r u i + BitVec.ofNat 64 n := by
  simp [State.cget, State.cadd]

theorem State.cget_cadd_ne (s : State) {r q : Reg} {u i w j : Nat} (n : Nat) (h : regAddr q w j ≠ regAddr r u i) :
    (s.cadd r u i n).cget q w j = s.cget q w j := by
  simp [State.cget, State.cadd, h]

/-- Counters do not change registers, and registers do not change counters. -/
@[simp] theorem State.rget_cadd (s : State) (r q : Reg) (u i n w j : Nat) : (s.cadd r u i n).rget q w j = s.rget q w j := rfl
@[simp] theorem State.cget_rset (s : State) (r q : Reg) (u i w j : Nat) (v : W32) : (s.rset r u i v).cget q w j = s.cget q w j := rfl

/-! ### Timers -/

/-- A timer's expiry: nothing but the time, which is not before the deadline, unless the 64-bit count wraps. -/
theorem State.reach_spec (s : State) (d : Nat) :
    s.reach d = { s with time := (s.reach d).time } ∧ (d < 2 ^ 64 → d ≤ (s.reach d).t) ∧ (d ≤ s.t → s.reach d = s) := by
  unfold State.reach
  split
  · refine ⟨rfl, fun h => ?_, fun h => by omega⟩
    simp only [State.t, BitVec.toNat_ofNat]
    rw [Nat.mod_eq_of_lt h]
  · exact ⟨rfl, fun _ => by omega, fun _ => rfl⟩

/-! ### Events, error bits, cell records -/

/-- What raising an event may change: sessions, management queues, the count of events lost. -/
def State.eventsOnly (t s : State) : Prop :=
  ∃ (x : List Session) (m : NMap (List MgmtFrame)) (r : NMap W32), t = { s with cur := { s.cur with sessions := x }, mgmt := m, regs := r } ∧
    ∀ a, a ≠ regAddr .curEventLost 0 0 → nget r a = nget s.regs a

theorem State.eventsOnly_refl (s : State) : s.eventsOnly s := ⟨_, _, _, rfl, fun _ _ => rfl⟩

theorem State.eventsOnly_trans {s t u : State} (h : u.eventsOnly t) (k : t.eventsOnly s) : u.eventsOnly s := by
  obtain ⟨x, m, r, rfl, hr⟩ := h
  obtain ⟨x', m', r', rfl, hr'⟩ := k
  exact ⟨x, m, r, rfl, fun a ha => (hr a ha).trans (hr' a ha)⟩

theorem State.foldl_eventsOnly {β : Type} (f : State → β → State) (hf : ∀ s b, (f s b).eventsOnly s) (l : List β) (s : State) :
    (l.foldl f s).eventsOnly s := by
  induction l generalizing s with
  | nil => exact s.eventsOnly_refl
  | cons b r ih => exact State.eventsOnly_trans (ih _) (hf s b)

theorem State.pump_eventsOnly (s : State) (k : Nat) : (s.pump k).eventsOnly s := by
  unfold State.pump
  split
  · exact s.eventsOnly_refl
  · refine State.eventsOnly_trans (State.foldl_eventsOnly _ ?_ _ _) ⟨_, s.mgmt, s.regs, rfl, fun _ _ => rfl⟩
    exact fun s o => ⟨s.cur.sessions, _, s.regs, rfl, fun _ _ => rfl⟩

theorem State.raise_eventsOnly (s : State) (code subjectType subjectId : Nat) (detail : Bytes) :
    (s.raise code subjectType subjectId detail).eventsOnly s := by
  unfold State.raise
  refine State.foldl_eventsOnly _ (fun s k => ?_) _ _
  dsimp only
  split
  · exact s.eventsOnly_refl
  · split
    · refine State.eventsOnly_trans (State.pump_eventsOnly _ _) ⟨_, s.mgmt, _, rfl, fun a ha => ?_⟩
      exact nget_nputD_ne _ _ _ ha
    · exact s.eventsOnly_refl

/-- An event leaves every register but the count of events lost as it was. -/
theorem State.rget_raise (s : State) (code subjectType subjectId : Nat) (detail : Bytes) (r : Reg) (u i : Nat)
    (h : regAddr r u i ≠ regAddr .curEventLost 0 0) : (s.raise code subjectType subjectId detail).rget r u i = s.rget r u i := by
  obtain ⟨x, m, g, e, hg⟩ := s.raise_eventsOnly code subjectType subjectId detail
  simp only [State.rget, ngetD, e, hg _ h]

/-- Setting a sticky bit changes registers, sessions and management queues only; of the registers only its own and the count of
events lost. -/
theorem State.flag_spec (s : State) (r : Reg) (u i bit : Nat) :
    s.flag r u i bit = { s with regs := (s.flag r u i bit).regs, cur := (s.flag r u i bit).cur, mgmt := (s.flag r u i bit).mgmt } ∧
      ∀ a, a ≠ regAddr r u i → a ≠ regAddr .curEventLost 0 0 → nget (s.flag r u i bit).regs a = nget s.regs a := by
  have key : (s.flag r u i bit).eventsOnly (s.rbit r u i bit) := by
    unfold State.flag
    dsimp only
    split
    · exact State.eventsOnly_refl _
    · exact State.raise_eventsOnly ..
  obtain ⟨x, m, g, e, hg⟩ := key
  rw [e]
  exact ⟨rfl, fun a ha hb => (hg a hb).trans (nget_nputD_ne _ _ _ ha)⟩

/-- The bit reads 1 afterwards. -/
theorem State.flag_sets (s : State) (r : Reg) (u i : Nat) {bit : Nat} (h : bit < 32) (hr : regAddr r u i ≠ regAddr .curEventLost 0 0) :
    (s.flag r u i bit).rfld r u i bit 1 = 1 := by
  have key : (s.flag r u i bit).rget r u i = (s.rbit r u i bit).rget r u i := by
    unfold State.flag
    dsimp only
    split
    · rfl
    · exact State.rget_raise _ _ _ _ _ _ _ _ hr
  simp only [State.rfld, key]
  exact State.rfld_rsetFld_self s r u i 1 (by omega)

/-- Setting an error bit changes registers, sessions and management queues only. -/
theorem State.setErr_spec (s : State) (wing num bit : Nat) : s.setErr wing num bit =
    { s with regs := (s.setErr wing num bit).regs, cur := (s.setErr wing num bit).cur, mgmt := (s.setErr wing num bit).mgmt } := by
  have key (g : NMap W32) (code a b : Nat) (d : Bytes) (x : State) (h : State.raise { s with regs := g } code a b d = x) :
      x = { s with regs := x.regs, cur := x.cur, mgmt := x.mgmt } := by
    obtain ⟨_, m, r, e, -⟩ := State.raise_eventsOnly { s with regs := g } code a b d
    have h' := h.symm.trans e
    subst h'
    rfl
  generalize h : s.setErr wing num bit = x
  unfold State.setErr at h
  dsimp only at h
  split at h
  · exact h ▸ rfl
  · split at h
    · split at h <;> exact h ▸ rfl
    · split at h
      · exact key _ _ _ _ _ _ h
      · exact key _ _ _ _ _ _ h

theorem State.rset_rset_regs (s : State) (q r : Reg) (u i w j : Nat) (v x : W32) :
    (s.rset q u i v).rset r w j x = { s with regs := ((s.rset q u i v).rset r w j x).regs } := rfl

theorem State.cellLog_spec (s : State) (wing num cell kind place : Nat) :
    s.cellLog wing num cell kind place = { s with regs := (s.cellLog wing num cell kind place).regs } := by
  generalize h : s.cellLog wing num cell kind place = x
  unfold State.cellLog at h
  dsimp only at h
  split at h
  · subst h; rfl
  · split at h
    · subst h
      exact State.rset_rset_regs ..
    · subst h; rfl

theorem State.cellError_spec (s : State) (wing num cell kind place : Nat) : s.cellError wing num cell kind place =
    { s with regs := (s.cellError wing num cell kind place).regs, cur := (s.cellError wing num cell kind place).cur,
             mgmt := (s.cellError wing num cell kind place).mgmt } := by
  unfold State.cellError
  rw [State.setErr_spec, State.cellLog_spec]

/-- A register access that is answered: what it did, or nothing but the status. -/
theorem State.answerWith_spec (s : State) (r : Res State) :
    (∃ t, r = .ok t ∧ s.answerWith r = { t with answer := ⟨0, []⟩ }) ∨ ∃ e, r = .error e ∧ s.answerWith r = { s with answer := ⟨e, []⟩ } := by
  cases r with
  | ok t => exact .inl ⟨t, rfl, rfl⟩
  | error e => exact .inr ⟨e, rfl, rfl⟩

/-- Clearing counters changes counters and latches only. -/
theorem State.cclear_spec (s : State) (r : Reg) (u i n : Nat) :
    s.cclear r u i n = { s with ctrs := (s.cclear r u i n).ctrs, latches := (s.cclear r u i n).latches } := by
  unfold State.cclear
  generalize List.range n = l
  induction l generalizing s with
  | nil => rfl
  | cons k t ih =>
    rw [List.foldl_cons]
    exact ih _

/-- Meeting poisoned data changes registers, counters, sessions and management queues only, and counts one drop (R13). -/
theorem State.metPoison_spec (s : State) (wing num : Nat) : s.metPoison wing num =
    { s with ctrs := (s.drop 0x28).ctrs, regs := (s.metPoison wing num).regs, cur := (s.metPoison wing num).cur,
             mgmt := (s.metPoison wing num).mgmt } := by
  unfold State.metPoison
  rw [State.setErr_spec]
  rfl

/-- A periodic round changes the timebase and its own record only, and comes no earlier than its period after the last
one. -/
theorem State.round_spec (s : State) (k period : Nat) :
    s.round k period = { s with
      time := (s.round k period).time, sup := { s.sup with rounds := nput s.sup.rounds k (s.round k period).t } } ∧
    ∀ x, nget s.sup.rounds k = some x → x + period < 2 ^ 64 → x + period ≤ (s.round k period).t := by
  unfold State.round
  cases h : nget s.sup.rounds k with
  | none => exact ⟨rfl, fun x hx => by cases hx⟩
  | some x =>
    obtain ⟨e, le, -⟩ := State.reach_spec s (x + period)
    refine ⟨?_, fun y hy hl => by cases hy; exact le hl⟩
    dsimp only
    obtain ⟨tm, e'⟩ : ∃ tm, s.reach (x + period) = { s with time := tm } := ⟨_, e⟩
    rw [e']
    rfl

/-- Drawing a free value counts the draw and changes nothing else. -/
theorem State.draw_spec (s : State) (w : Nat) : (s.draw w).2 = { s with draws := s.draws + 1 } := rfl

end Sys2Proof.Machine
end

