-- ==== Sys2Proof/Laws/PerInstr.lean ====
section
/-!
SUPPORT. Laws of the commands as syntax, one lemma per command: a well-formed command that carries a datagram carries a
well-formed one.
-/

/-- The datagram of a well-formed command is well-formed. -/
def Sys2Proof.Laws.Operands.Statement (i : Sys2Proof.Instr) : Prop :=
  ∀ d, Sys2Proof.Machine.datagramOf i = some d → i.wf = true → d.wf = true

open Sys2Proof Sys2Proof.Machine

theorem Sys2Proof.Laws.Operands.offTransition (cause : OffCause) : Sys2Proof.Laws.Operands.Statement (.offTransition cause) := fun _ e => nomatch e
theorem Sys2Proof.Laws.Operands.powerOn (vinMv : Nat) (porb : Bool) : Sys2Proof.Laws.Operands.Statement (.powerOn vinMv porb) := fun _ e => nomatch e
theorem Sys2Proof.Laws.Operands.railRetry : Sys2Proof.Laws.Operands.Statement .railRetry := fun _ e => nomatch e
theorem Sys2Proof.Laws.Operands.powerUpDone (report : PowerUpReport) : Sys2Proof.Laws.Operands.Statement (.powerUpDone report) := fun _ e => nomatch e
theorem Sys2Proof.Laws.Operands.wipeDone (ms : Nat) : Sys2Proof.Laws.Operands.Statement (.wipeDone ms) := fun _ e => nomatch e
theorem Sys2Proof.Laws.Operands.readbackDone (sram : List (Nat × Nat)) (gddr : List Nat) : Sys2Proof.Laws.Operands.Statement (.readbackDone sram gddr) := fun _ e => nomatch e
theorem Sys2Proof.Laws.Operands.loadDone (copyA : FlashCopy) (copyB : FlashCopy) : Sys2Proof.Laws.Operands.Statement (.loadDone copyA copyB) := fun _ e => nomatch e
theorem Sys2Proof.Laws.Operands.selftestDone (failed : List Part) : Sys2Proof.Laws.Operands.Statement (.selftestDone failed) := fun _ e => nomatch e
theorem Sys2Proof.Laws.Operands.bootPhaseTimeout : Sys2Proof.Laws.Operands.Statement .bootPhaseTimeout := fun _ e => nomatch e
theorem Sys2Proof.Laws.Operands.enterService : Sys2Proof.Laws.Operands.Statement .enterService := fun _ e => nomatch e
theorem Sys2Proof.Laws.Operands.linkUpLimitExpiry : Sys2Proof.Laws.Operands.Statement .linkUpLimitExpiry := fun _ e => nomatch e
theorem Sys2Proof.Laws.Operands.wingRestartDone : Sys2Proof.Laws.Operands.Statement .wingRestartDone := fun _ e => nomatch e
theorem Sys2Proof.Laws.Operands.recoveryWindowExpiry : Sys2Proof.Laws.Operands.Statement .recoveryWindowExpiry := fun _ e => nomatch e
theorem Sys2Proof.Laws.Operands.hello (d : Datagram) : Sys2Proof.Laws.Operands.Statement (.hello d) := fun _ e h => by cases e; exact h
theorem Sys2Proof.Laws.Operands.read (d : Datagram) : Sys2Proof.Laws.Operands.Statement (.read d) := fun _ e h => by cases e; exact h
theorem Sys2Proof.Laws.Operands.write (d : Datagram) : Sys2Proof.Laws.Operands.Statement (.write d) := fun _ e h => by cases e; exact h
theorem Sys2Proof.Laws.Operands.registerWrite (addr : W32) (v : W32) : Sys2Proof.Laws.Operands.Statement (.registerWrite addr v) := fun _ e => nomatch e
theorem Sys2Proof.Laws.Operands.objCreate (d : Datagram) : Sys2Proof.Laws.Operands.Statement (.objCreate d) := fun _ e h => by cases e; exact h
theorem Sys2Proof.Laws.Operands.objModify (d : Datagram) : Sys2Proof.Laws.Operands.Statement (.objModify d) := fun _ e h => by cases e; exact h
theorem Sys2Proof.Laws.Operands.objDelete (d : Datagram) : Sys2Proof.Laws.Operands.Statement (.objDelete d) := fun _ e h => by cases e; exact h
theorem Sys2Proof.Laws.Operands.keyInstall (d : Datagram) : Sys2Proof.Laws.Operands.Statement (.keyInstall d) := fun _ e h => by cases e; exact h
theorem Sys2Proof.Laws.Operands.imageStage (d : Datagram) : Sys2Proof.Laws.Operands.Statement (.imageStage d) := fun _ e h => by cases e; exact h
theorem Sys2Proof.Laws.Operands.verify (d : Datagram) : Sys2Proof.Laws.Operands.Statement (.verify d) := fun _ e h => by cases e; exact h
theorem Sys2Proof.Laws.Operands.imageVerifyDone : Sys2Proof.Laws.Operands.Statement .imageVerifyDone := fun _ e => nomatch e
theorem Sys2Proof.Laws.Operands.applyBlock (d : Datagram) : Sys2Proof.Laws.Operands.Statement (.applyBlock d) := fun _ e h => by cases e; exact h
theorem Sys2Proof.Laws.Operands.applyAll (d : Datagram) : Sys2Proof.Laws.Operands.Statement (.applyAll d) := fun _ e h => by cases e; exact h
theorem Sys2Proof.Laws.Operands.abort (d : Datagram) : Sys2Proof.Laws.Operands.Statement (.abort d) := fun _ e h => by cases e; exact h
theorem Sys2Proof.Laws.Operands.programA (d : Datagram) (other : FlashCopy) : Sys2Proof.Laws.Operands.Statement (.programA d other) := fun _ e h => by cases e; exact (Bool.and_eq_true_iff.1 h).1
theorem Sys2Proof.Laws.Operands.programB (d : Datagram) (other : FlashCopy) : Sys2Proof.Laws.Operands.Statement (.programB d other) := fun _ e h => by cases e; exact (Bool.and_eq_true_iff.1 h).1
theorem Sys2Proof.Laws.Operands.imageProgramDone (ok : Bool) : Sys2Proof.Laws.Operands.Statement (.imageProgramDone ok) := fun _ e => nomatch e
theorem Sys2Proof.Laws.Operands.programTimeout : Sys2Proof.Laws.Operands.Statement .programTimeout := fun _ e => nomatch e
theorem Sys2Proof.Laws.Operands.commitVersion (d : Datagram) (copyA : FlashCopy) (copyB : FlashCopy) : Sys2Proof.Laws.Operands.Statement (.commitVersion d copyA copyB) := fun _ e h => by cases e; exact (Bool.and_eq_true_iff.1 (Bool.and_eq_true_iff.1 h).1).1
theorem Sys2Proof.Laws.Operands.modeReq (d : Datagram) : Sys2Proof.Laws.Operands.Statement (.modeReq d) := fun _ e h => by cases e; exact h
theorem Sys2Proof.Laws.Operands.lcTarget (d : Datagram) : Sys2Proof.Laws.Operands.Statement (.lcTarget d) := fun _ e h => by cases e; exact h
theorem Sys2Proof.Laws.Operands.stats (d : Datagram) : Sys2Proof.Laws.Operands.Statement (.stats d) := fun _ e h => by cases e; exact h
theorem Sys2Proof.Laws.Operands.eventAck (d : Datagram) : Sys2Proof.Laws.Operands.Statement (.eventAck d) := fun _ e h => by cases e; exact h
theorem Sys2Proof.Laws.Operands.eventResend (session : Nat) (seq : Nat) : Sys2Proof.Laws.Operands.Statement (.eventResend session seq) := fun _ e => nomatch e
theorem Sys2Proof.Laws.Operands.jtagProvision (hash : Bytes) : Sys2Proof.Laws.Operands.Statement (.jtagProvision hash) := fun _ e => nomatch e
theorem Sys2Proof.Laws.Operands.jtagReturn (msg : Bytes) (qx : Nat) (qy : Nat) (r : Nat) (sg : Nat) : Sys2Proof.Laws.Operands.Statement (.jtagReturn msg qx qy r sg) := fun _ e => nomatch e
theorem Sys2Proof.Laws.Operands.cellTimeout (wing : Nat) (blk : Nat) (cell : Nat) (tx : CellTx) : Sys2Proof.Laws.Operands.Statement (.cellTimeout wing blk cell tx) := fun _ e => nomatch e
theorem Sys2Proof.Laws.Operands.blockReset (wing : Fin 4) (v : W32) : Sys2Proof.Laws.Operands.Statement (.blockReset wing v) := fun _ e => nomatch e
theorem Sys2Proof.Laws.Operands.blockResetDone (wing : Nat) (blk : Nat) : Sys2Proof.Laws.Operands.Statement (.blockResetDone wing blk) := fun _ e => nomatch e
theorem Sys2Proof.Laws.Operands.cdcParityError (wing : Nat) (blk : Nat) (queue : CdcQueue) : Sys2Proof.Laws.Operands.Statement (.cdcParityError wing blk queue) := fun _ e => nomatch e
theorem Sys2Proof.Laws.Operands.pllLossOfLock (pll : Fin 7) : Sys2Proof.Laws.Operands.Statement (.pllLossOfLock pll) := fun _ e => nomatch e
theorem Sys2Proof.Laws.Operands.clockInputLost (input : ClockInput) : Sys2Proof.Laws.Operands.Statement (.clockInputLost input) := fun _ e => nomatch e
theorem Sys2Proof.Laws.Operands.chpTbSnap (v : W32) : Sys2Proof.Laws.Operands.Statement (.chpTbSnap v) := fun _ e => nomatch e
theorem Sys2Proof.Laws.Operands.ptpLoss : Sys2Proof.Laws.Operands.Statement .ptpLoss := fun _ e => nomatch e
theorem Sys2Proof.Laws.Operands.ppsInEdge (highNs : Nat) : Sys2Proof.Laws.Operands.Statement (.ppsInEdge highNs) := fun _ e => nomatch e
theorem Sys2Proof.Laws.Operands.ppsOutRise : Sys2Proof.Laws.Operands.Statement .ppsOutRise := fun _ e => nomatch e
theorem Sys2Proof.Laws.Operands.ppsOutFall : Sys2Proof.Laws.Operands.Statement .ppsOutFall := fun _ e => nomatch e
theorem Sys2Proof.Laws.Operands.counterLowRead (addr : W32) : Sys2Proof.Laws.Operands.Statement (.counterLowRead addr) := fun _ e => nomatch e
theorem Sys2Proof.Laws.Operands.portReconfig (port : Fin 96) (cfg : Option W32) (adv : Option W32) : Sys2Proof.Laws.Operands.Statement (.portReconfig port cfg adv) := fun _ e => nomatch e
theorem Sys2Proof.Laws.Operands.atrQuadRate (quad : Fin 24) (v : W32) : Sys2Proof.Laws.Operands.Statement (.atrQuadRate quad v) := fun _ e => nomatch e
theorem Sys2Proof.Laws.Operands.atrLaneTxfir (lane : Fin 96) (v : W32) : Sys2Proof.Laws.Operands.Statement (.atrLaneTxfir lane v) := fun _ e => nomatch e
theorem Sys2Proof.Laws.Operands.laneTest (lane : Fin 96) (v : W32) : Sys2Proof.Laws.Operands.Statement (.laneTest lane v) := fun _ e => nomatch e
theorem Sys2Proof.Laws.Operands.agcRelease (lane : Fin 96) (v : W32) : Sys2Proof.Laws.Operands.Statement (.agcRelease lane v) := fun _ e => nomatch e
theorem Sys2Proof.Laws.Operands.atrCntClr (v : W32) : Sys2Proof.Laws.Operands.Statement (.atrCntClr v) := fun _ e => nomatch e
theorem Sys2Proof.Laws.Operands.breakLinkTimerExpiry (port : Fin 96) : Sys2Proof.Laws.Operands.Statement (.breakLinkTimerExpiry port) := fun _ e => nomatch e
theorem Sys2Proof.Laws.Operands.anComplete (port : Fin 96) (partner : Option (BitVec 11)) : Sys2Proof.Laws.Operands.Statement (.anComplete port partner) := fun _ e => nomatch e
theorem Sys2Proof.Laws.Operands.trainingDone (port : Fin 96) (fir : List W32) (rx : TrainedRx) : Sys2Proof.Laws.Operands.Statement (.trainingDone port fir rx) := fun _ e => nomatch e
theorem Sys2Proof.Laws.Operands.maxWaitTimerExpiry (port : Fin 96) : Sys2Proof.Laws.Operands.Statement (.maxWaitTimerExpiry port) := fun _ e => nomatch e
theorem Sys2Proof.Laws.Operands.receiverLock (lock : PortLock) : Sys2Proof.Laws.Operands.Statement (.receiverLock lock) := fun _ e => nomatch e
theorem Sys2Proof.Laws.Operands.reconfigLockTimeout (port : Fin 96) : Sys2Proof.Laws.Operands.Statement (.reconfigLockTimeout port) := fun _ e => nomatch e
theorem Sys2Proof.Laws.Operands.blockLock (lane : Fin 96) (rx : LaneRx) : Sys2Proof.Laws.Operands.Statement (.blockLock lane rx) := fun _ e => nomatch e
theorem Sys2Proof.Laws.Operands.blockLockLost (lane : Fin 96) : Sys2Proof.Laws.Operands.Statement (.blockLockLost lane) := fun _ e => nomatch e
theorem Sys2Proof.Laws.Operands.linkDown (port : Fin 96) (cause : LinkLoss) : Sys2Proof.Laws.Operands.Statement (.linkDown port cause) := fun _ e => nomatch e
theorem Sys2Proof.Laws.Operands.linkFailInhibitExpiry (port : Fin 96) : Sys2Proof.Laws.Operands.Statement (.linkFailInhibitExpiry port) := fun _ e => nomatch e
theorem Sys2Proof.Laws.Operands.linkUpHoldExpiry (port : Fin 96) : Sys2Proof.Laws.Operands.Statement (.linkUpHoldExpiry port) := fun _ e => nomatch e
theorem Sys2Proof.Laws.Operands.macReceive (port : Fin 96) (frame : Bytes) (fec : FecReport) : Sys2Proof.Laws.Operands.Statement (.macReceive port frame fec) := fun _ e => nomatch e
theorem Sys2Proof.Laws.Operands.registrarParse (port : Fin 96) (ue : List Nat) : Sys2Proof.Laws.Operands.Statement (.registrarParse port ue) := fun _ e => nomatch e
theorem Sys2Proof.Laws.Operands.catalogueRewrite (stream : Fin 131072) : Sys2Proof.Laws.Operands.Statement (.catalogueRewrite stream) := fun _ e => nomatch e
theorem Sys2Proof.Laws.Operands.rgsJcpRate (v : W32) : Sys2Proof.Laws.Operands.Statement (.rgsJcpRate v) := fun _ e => nomatch e
theorem Sys2Proof.Laws.Operands.rgsPuntRate (port : Fin 96) (v : W32) : Sys2Proof.Laws.Operands.Statement (.rgsPuntRate port v) := fun _ e => nomatch e
theorem Sys2Proof.Laws.Operands.rgsCntClrDrops : Sys2Proof.Laws.Operands.Statement .rgsCntClrDrops := fun _ e => nomatch e
theorem Sys2Proof.Laws.Operands.rgsCntClrPortGo (port : BitVec 7) : Sys2Proof.Laws.Operands.Statement (.rgsCntClrPortGo port) := fun _ e => nomatch e
theorem Sys2Proof.Laws.Operands.srtpIngress (ue : Bool) : Sys2Proof.Laws.Operands.Statement (.srtpIngress ue) := fun _ e => nomatch e
theorem Sys2Proof.Laws.Operands.srtpEgress (ue : Bool) : Sys2Proof.Laws.Operands.Statement (.srtpEgress ue) := fun _ e => nomatch e
theorem Sys2Proof.Laws.Operands.keySlotRewrite (slot : Fin 65536) : Sys2Proof.Laws.Operands.Statement (.keySlotRewrite slot) := fun _ e => nomatch e
theorem Sys2Proof.Laws.Operands.keySweep : Sys2Proof.Laws.Operands.Statement .keySweep := fun _ e => nomatch e
theorem Sys2Proof.Laws.Operands.katRound (aes : List (Fin 32)) (ghash : List (Fin 32)) (sha : List (Fin 8)) : Sys2Proof.Laws.Operands.Statement (.katRound aes ghash sha) := fun _ e => nomatch e
theorem Sys2Proof.Laws.Operands.jobSubmit (core : Fin 273) (job : JobStore) : Sys2Proof.Laws.Operands.Statement (.jobSubmit core job) := fun _ e => nomatch e
theorem Sys2Proof.Laws.Operands.cbcEncrypt : Sys2Proof.Laws.Operands.Statement .cbcEncrypt := fun _ e => nomatch e
theorem Sys2Proof.Laws.Operands.cbcDecrypt : Sys2Proof.Laws.Operands.Statement .cbcDecrypt := fun _ e => nomatch e
theorem Sys2Proof.Laws.Operands.ctr : Sys2Proof.Laws.Operands.Statement .ctr := fun _ e => nomatch e
theorem Sys2Proof.Laws.Operands.cfbEncrypt : Sys2Proof.Laws.Operands.Statement .cfbEncrypt := fun _ e => nomatch e
theorem Sys2Proof.Laws.Operands.cfbDecrypt : Sys2Proof.Laws.Operands.Statement .cfbDecrypt := fun _ e => nomatch e
theorem Sys2Proof.Laws.Operands.gcmEncrypt : Sys2Proof.Laws.Operands.Statement .gcmEncrypt := fun _ e => nomatch e
theorem Sys2Proof.Laws.Operands.gcmDecrypt : Sys2Proof.Laws.Operands.Statement .gcmDecrypt := fun _ e => nomatch e
theorem Sys2Proof.Laws.Operands.ctxWrite : Sys2Proof.Laws.Operands.Statement .ctxWrite := fun _ e => nomatch e
theorem Sys2Proof.Laws.Operands.jobDone : Sys2Proof.Laws.Operands.Statement .jobDone := fun _ e => nomatch e
theorem Sys2Proof.Laws.Operands.vltCntClrDrops : Sys2Proof.Laws.Operands.Statement .vltCntClrDrops := fun _ e => nomatch e
theorem Sys2Proof.Laws.Operands.vltCntClrJobs : Sys2Proof.Laws.Operands.Statement .vltCntClrJobs := fun _ e => nomatch e
theorem Sys2Proof.Laws.Operands.alloc (client : Client) (size : Nat) (yellow : Bool) (wait : Bool) : Sys2Proof.Laws.Operands.Statement (.alloc client size yellow wait) := fun _ e => nomatch e
theorem Sys2Proof.Laws.Operands.inc (client : Client) (handle : W32) (n : Nat) : Sys2Proof.Laws.Operands.Statement (.inc client handle n) := fun _ e => nomatch e
theorem Sys2Proof.Laws.Operands.dec (client : Client) (handle : W32) : Sys2Proof.Laws.Operands.Statement (.dec client handle) := fun _ e => nomatch e
theorem Sys2Proof.Laws.Operands.share (client : Client) (handle : W32) (mask : W32) : Sys2Proof.Laws.Operands.Statement (.share client handle mask) := fun _ e => nomatch e
theorem Sys2Proof.Laws.Operands.cloPoolCfg (pool : Fin 8) (v : W32) : Sys2Proof.Laws.Operands.Statement (.cloPoolCfg pool v) := fun _ e => nomatch e
theorem Sys2Proof.Laws.Operands.cloCntClrCounters : Sys2Proof.Laws.Operands.Statement .cloCntClrCounters := fun _ e => nomatch e
theorem Sys2Proof.Laws.Operands.cloCntClrLow : Sys2Proof.Laws.Operands.Statement .cloCntClrLow := fun _ e => nomatch e
theorem Sys2Proof.Laws.Operands.enqueue (client : Client) (queue : Fin 262240) (desc : Desc) : Sys2Proof.Laws.Operands.Statement (.enqueue client queue desc) := fun _ e => nomatch e
theorem Sys2Proof.Laws.Operands.descriptorExtend (queue : Fin 262144) (len : Nat) (complete : Bool) (poison : Bool) : Sys2Proof.Laws.Operands.Statement (.descriptorExtend queue len complete poison) := fun _ e => nomatch e
theorem Sys2Proof.Laws.Operands.dequeue (queue : Fin 262144) : Sys2Proof.Laws.Operands.Statement (.dequeue queue) := fun _ e => nomatch e
theorem Sys2Proof.Laws.Operands.slotFill (queue : Fin 262144) : Sys2Proof.Laws.Operands.Statement (.slotFill queue) := fun _ e => nomatch e
theorem Sys2Proof.Laws.Operands.queueTimeout (queue : Fin 262144) : Sys2Proof.Laws.Operands.Statement (.queueTimeout queue) := fun _ e => nomatch e
theorem Sys2Proof.Laws.Operands.stkCntClr : Sys2Proof.Laws.Operands.Statement .stkCntClr := fun _ e => nomatch e
theorem Sys2Proof.Laws.Operands.fanoutWalk (source : Fin 147456) : Sys2Proof.Laws.Operands.Statement (.fanoutWalk source) := fun _ e => nomatch e
theorem Sys2Proof.Laws.Operands.subCacheFill (sub : Fin 1048576) (ue : Bool) : Sys2Proof.Laws.Operands.Statement (.subCacheFill sub ue) := fun _ e => nomatch e
theorem Sys2Proof.Laws.Operands.rtcpFeedback : Sys2Proof.Laws.Operands.Statement .rtcpFeedback := fun _ e => nomatch e
theorem Sys2Proof.Laws.Operands.rtxAge (stream : Fin 131072) : Sys2Proof.Laws.Operands.Statement (.rtxAge stream) := fun _ e => nomatch e
theorem Sys2Proof.Laws.Operands.fwdCntClr : Sys2Proof.Laws.Operands.Statement .fwdCntClr := fun _ e => nomatch e
theorem Sys2Proof.Laws.Operands.dequeueDecision (port : Fin 96) : Sys2Proof.Laws.Operands.Statement (.dequeueDecision port) := fun _ e => nomatch e
theorem Sys2Proof.Laws.Operands.shaperRefill (level : Fin 3) (index : Fin 32768) : Sys2Proof.Laws.Operands.Statement (.shaperRefill level index) := fun _ e => nomatch e
theorem Sys2Proof.Laws.Operands.tmgCntClr : Sys2Proof.Laws.Operands.Statement .tmgCntClr := fun _ e => nomatch e
theorem Sys2Proof.Laws.Operands.nop (core : Fin 272) (w : BitVec 26) (ecc : Fin 3) : Sys2Proof.Laws.Operands.Statement (.nop core w ecc) := fun _ e => nomatch e
theorem Sys2Proof.Laws.Operands.add (core : Fin 272) (w : BitVec 26) (ecc : Fin 3) : Sys2Proof.Laws.Operands.Statement (.add core w ecc) := fun _ e => nomatch e
theorem Sys2Proof.Laws.Operands.sub (core : Fin 272) (w : BitVec 26) (ecc : Fin 3) : Sys2Proof.Laws.Operands.Statement (.sub core w ecc) := fun _ e => nomatch e
theorem Sys2Proof.Laws.Operands.adds (core : Fin 272) (w : BitVec 26) (ecc : Fin 3) : Sys2Proof.Laws.Operands.Statement (.adds core w ecc) := fun _ e => nomatch e
theorem Sys2Proof.Laws.Operands.subs (core : Fin 272) (w : BitVec 26) (ecc : Fin 3) : Sys2Proof.Laws.Operands.Statement (.subs core w ecc) := fun _ e => nomatch e
theorem Sys2Proof.Laws.Operands.and (core : Fin 272) (w : BitVec 26) (ecc : Fin 3) : Sys2Proof.Laws.Operands.Statement (.and core w ecc) := fun _ e => nomatch e
theorem Sys2Proof.Laws.Operands.or (core : Fin 272) (w : BitVec 26) (ecc : Fin 3) : Sys2Proof.Laws.Operands.Statement (.or core w ecc) := fun _ e => nomatch e
theorem Sys2Proof.Laws.Operands.xor (core : Fin 272) (w : BitVec 26) (ecc : Fin 3) : Sys2Proof.Laws.Operands.Statement (.xor core w ecc) := fun _ e => nomatch e
theorem Sys2Proof.Laws.Operands.shl (core : Fin 272) (w : BitVec 26) (ecc : Fin 3) : Sys2Proof.Laws.Operands.Statement (.shl core w ecc) := fun _ e => nomatch e
theorem Sys2Proof.Laws.Operands.shr (core : Fin 272) (w : BitVec 26) (ecc : Fin 3) : Sys2Proof.Laws.Operands.Statement (.shr core w ecc) := fun _ e => nomatch e
theorem Sys2Proof.Laws.Operands.asr (core : Fin 272) (w : BitVec 26) (ecc : Fin 3) : Sys2Proof.Laws.Operands.Statement (.asr core w ecc) := fun _ e => nomatch e
theorem Sys2Proof.Laws.Operands.min (core : Fin 272) (w : BitVec 26) (ecc : Fin 3) : Sys2Proof.Laws.Operands.Statement (.min core w ecc) := fun _ e => nomatch e
theorem Sys2Proof.Laws.Operands.max (core : Fin 272) (w : BitVec 26) (ecc : Fin 3) : Sys2Proof.Laws.Operands.Statement (.max core w ecc) := fun _ e => nomatch e
theorem Sys2Proof.Laws.Operands.abs (core : Fin 272) (w : BitVec 26) (ecc : Fin 3) : Sys2Proof.Laws.Operands.Statement (.abs core w ecc) := fun _ e => nomatch e
theorem Sys2Proof.Laws.Operands.cmp (core : Fin 272) (w : BitVec 26) (ecc : Fin 3) : Sys2Proof.Laws.Operands.Statement (.cmp core w ecc) := fun _ e => nomatch e
theorem Sys2Proof.Laws.Operands.mov (core : Fin 272) (w : BitVec 26) (ecc : Fin 3) : Sys2Proof.Laws.Operands.Statement (.mov core w ecc) := fun _ e => nomatch e
theorem Sys2Proof.Laws.Operands.pack (core : Fin 272) (w : BitVec 26) (ecc : Fin 3) : Sys2Proof.Laws.Operands.Statement (.pack core w ecc) := fun _ e => nomatch e
theorem Sys2Proof.Laws.Operands.addi (core : Fin 272) (w : BitVec 26) (ecc : Fin 3) : Sys2Proof.Laws.Operands.Statement (.addi core w ecc) := fun _ e => nomatch e
theorem Sys2Proof.Laws.Operands.cmpi (core : Fin 272) (w : BitVec 26) (ecc : Fin 3) : Sys2Proof.Laws.Operands.Statement (.cmpi core w ecc) := fun _ e => nomatch e
theorem Sys2Proof.Laws.Operands.movs (core : Fin 272) (w : BitVec 26) (ecc : Fin 3) : Sys2Proof.Laws.Operands.Statement (.movs core w ecc) := fun _ e => nomatch e
theorem Sys2Proof.Laws.Operands.ld (core : Fin 272) (w : BitVec 26) (ecc : LoadEcc) : Sys2Proof.Laws.Operands.Statement (.ld core w ecc) := fun _ e => nomatch e
theorem Sys2Proof.Laws.Operands.ldh (core : Fin 272) (w : BitVec 26) (ecc : LoadEcc) : Sys2Proof.Laws.Operands.Statement (.ldh core w ecc) := fun _ e => nomatch e
theorem Sys2Proof.Laws.Operands.ldd (core : Fin 272) (w : BitVec 26) (ecc : LoadEcc) : Sys2Proof.Laws.Operands.Statement (.ldd core w ecc) := fun _ e => nomatch e
theorem Sys2Proof.Laws.Operands.st (core : Fin 272) (w : BitVec 26) (ecc : Fin 3) : Sys2Proof.Laws.Operands.Statement (.st core w ecc) := fun _ e => nomatch e
theorem Sys2Proof.Laws.Operands.sth (core : Fin 272) (w : BitVec 26) (ecc : Fin 3) : Sys2Proof.Laws.Operands.Statement (.sth core w ecc) := fun _ e => nomatch e
theorem Sys2Proof.Laws.Operands.std (core : Fin 272) (w : BitVec 26) (ecc : Fin 3) : Sys2Proof.Laws.Operands.Statement (.std core w ecc) := fun _ e => nomatch e
theorem Sys2Proof.Laws.Operands.lda (core : Fin 272) (w : BitVec 26) (ecc : LoadEcc) : Sys2Proof.Laws.Operands.Statement (.lda core w ecc) := fun _ e => nomatch e
theorem Sys2Proof.Laws.Operands.sta (core : Fin 272) (w : BitVec 26) (ecc : Fin 3) : Sys2Proof.Laws.Operands.Statement (.sta core w ecc) := fun _ e => nomatch e
theorem Sys2Proof.Laws.Operands.mac (core : Fin 272) (w : BitVec 26) (ecc : Fin 3) : Sys2Proof.Laws.Operands.Statement (.mac core w ecc) := fun _ e => nomatch e
theorem Sys2Proof.Laws.Operands.qmacr (core : Fin 272) (w : BitVec 26) (ecc : Fin 3) : Sys2Proof.Laws.Operands.Statement (.qmacr core w ecc) := fun _ e => nomatch e
theorem Sys2Proof.Laws.Operands.qmac (core : Fin 272) (w : BitVec 26) (ecc : MacEcc) : Sys2Proof.Laws.Operands.Statement (.qmac core w ecc) := fun _ e => nomatch e
theorem Sys2Proof.Laws.Operands.dmac (core : Fin 272) (w : BitVec 26) (ecc : MacEcc) : Sys2Proof.Laws.Operands.Statement (.dmac core w ecc) := fun _ e => nomatch e
theorem Sys2Proof.Laws.Operands.tapmac (core : Fin 272) (w : BitVec 26) (ecc : MacEcc) : Sys2Proof.Laws.Operands.Statement (.tapmac core w ecc) := fun _ e => nomatch e
theorem Sys2Proof.Laws.Operands.mova (core : Fin 272) (w : BitVec 26) (ecc : Fin 3) : Sys2Proof.Laws.Operands.Statement (.mova core w ecc) := fun _ e => nomatch e
theorem Sys2Proof.Laws.Operands.clra (core : Fin 272) (w : BitVec 26) (ecc : Fin 3) : Sys2Proof.Laws.Operands.Statement (.clra core w ecc) := fun _ e => nomatch e
theorem Sys2Proof.Laws.Operands.ldad (core : Fin 272) (w : BitVec 26) (ecc : Fin 3) : Sys2Proof.Laws.Operands.Statement (.ldad core w ecc) := fun _ e => nomatch e
theorem Sys2Proof.Laws.Operands.sha (core : Fin 272) (w : BitVec 26) (ecc : Fin 3) : Sys2Proof.Laws.Operands.Statement (.sha core w ecc) := fun _ e => nomatch e
theorem Sys2Proof.Laws.Operands.adda (core : Fin 272) (w : BitVec 26) (ecc : Fin 3) : Sys2Proof.Laws.Operands.Statement (.adda core w ecc) := fun _ e => nomatch e
theorem Sys2Proof.Laws.Operands.br (core : Fin 272) (w : BitVec 26) (ecc : Fin 3) : Sys2Proof.Laws.Operands.Statement (.br core w ecc) := fun _ e => nomatch e
theorem Sys2Proof.Laws.Operands.call (core : Fin 272) (w : BitVec 26) (ecc : Fin 3) : Sys2Proof.Laws.Operands.Statement (.call core w ecc) := fun _ e => nomatch e
theorem Sys2Proof.Laws.Operands.ret (core : Fin 272) (w : BitVec 26) (ecc : Fin 3) : Sys2Proof.Laws.Operands.Statement (.ret core w ecc) := fun _ e => nomatch e
theorem Sys2Proof.Laws.Operands.reti (core : Fin 272) (w : BitVec 26) (ecc : Fin 3) : Sys2Proof.Laws.Operands.Statement (.reti core w ecc) := fun _ e => nomatch e
theorem Sys2Proof.Laws.Operands.jmpr (core : Fin 272) (w : BitVec 26) (ecc : Fin 3) : Sys2Proof.Laws.Operands.Statement (.jmpr core w ecc) := fun _ e => nomatch e
theorem Sys2Proof.Laws.Operands.loop (core : Fin 272) (w : BitVec 26) (ecc : Fin 3) : Sys2Proof.Laws.Operands.Statement (.loop core w ecc) := fun _ e => nomatch e
theorem Sys2Proof.Laws.Operands.loopr (core : Fin 272) (w : BitVec 26) (ecc : Fin 3) : Sys2Proof.Laws.Operands.Statement (.loopr core w ecc) := fun _ e => nomatch e
theorem Sys2Proof.Laws.Operands.endl (core : Fin 272) (w : BitVec 26) (ecc : Fin 3) : Sys2Proof.Laws.Operands.Statement (.endl core w ecc) := fun _ e => nomatch e
theorem Sys2Proof.Laws.Operands.wait (core : Fin 272) (w : BitVec 26) (ecc : Fin 3) : Sys2Proof.Laws.Operands.Statement (.wait core w ecc) := fun _ e => nomatch e
theorem Sys2Proof.Laws.Operands.trap (core : Fin 272) (w : BitVec 26) (ecc : Fin 3) : Sys2Proof.Laws.Operands.Statement (.trap core w ecc) := fun _ e => nomatch e
theorem Sys2Proof.Laws.Operands.di (core : Fin 272) (w : BitVec 26) (ecc : Fin 3) : Sys2Proof.Laws.Operands.Statement (.di core w ecc) := fun _ e => nomatch e
theorem Sys2Proof.Laws.Operands.ei (core : Fin 272) (w : BitVec 26) (ecc : Fin 3) : Sys2Proof.Laws.Operands.Statement (.ei core w ecc) := fun _ e => nomatch e
theorem Sys2Proof.Laws.Operands.pmctlUnlockAll (core : Fin 272) (w : BitVec 26) (ecc : Fin 3) : Sys2Proof.Laws.Operands.Statement (.pmctlUnlockAll core w ecc) := fun _ e => nomatch e
theorem Sys2Proof.Laws.Operands.pmctlLock (core : Fin 272) (w : BitVec 26) (ecc : Fin 3) : Sys2Proof.Laws.Operands.Statement (.pmctlLock core w ecc) := fun _ e => nomatch e
theorem Sys2Proof.Laws.Operands.pmctlInvalidate (core : Fin 272) (w : BitVec 26) (ecc : Fin 3) : Sys2Proof.Laws.Operands.Statement (.pmctlInvalidate core w ecc) := fun _ e => nomatch e
theorem Sys2Proof.Laws.Operands.movi (core : Fin 272) (w : BitVec 26) (imm : W32) (ecc : Fin 3) : Sys2Proof.Laws.Operands.Statement (.movi core w imm ecc) := fun _ e => nomatch e
theorem Sys2Proof.Laws.Operands.jmpl (core : Fin 272) (w : BitVec 26) (imm : W32) (ecc : Fin 3) : Sys2Proof.Laws.Operands.Statement (.jmpl core w imm ecc) := fun _ e => nomatch e
theorem Sys2Proof.Laws.Operands.calll (core : Fin 272) (w : BitVec 26) (imm : W32) (ecc : Fin 3) : Sys2Proof.Laws.Operands.Statement (.calll core w imm ecc) := fun _ e => nomatch e
theorem Sys2Proof.Laws.Operands.ldx (core : Fin 272) (w : BitVec 26) (imm : W32) (ecc : LoadEcc) : Sys2Proof.Laws.Operands.Statement (.ldx core w imm ecc) := fun _ e => nomatch e
theorem Sys2Proof.Laws.Operands.stx (core : Fin 272) (w : BitVec 26) (imm : W32) (ecc : Fin 3) : Sys2Proof.Laws.Operands.Statement (.stx core w imm ecc) := fun _ e => nomatch e
theorem Sys2Proof.Laws.Operands.lddx (core : Fin 272) (w : BitVec 26) (imm : W32) (ecc : LoadEcc) : Sys2Proof.Laws.Operands.Statement (.lddx core w imm ecc) := fun _ e => nomatch e
theorem Sys2Proof.Laws.Operands.stdx (core : Fin 272) (w : BitVec 26) (imm : W32) (ecc : Fin 3) : Sys2Proof.Laws.Operands.Statement (.stdx core w imm ecc) := fun _ e => nomatch e
theorem Sys2Proof.Laws.Operands.doorbell (core : Fin 273) : Sys2Proof.Laws.Operands.Statement (.doorbell core) := fun _ e => nomatch e
theorem Sys2Proof.Laws.Operands.resRead (core : Fin 272) (tag : Fin 8) : Sys2Proof.Laws.Operands.Statement (.resRead core tag) := fun _ e => nomatch e
theorem Sys2Proof.Laws.Operands.moveGo (core : Fin 272) (desc : Bytes) : Sys2Proof.Laws.Operands.Statement (.moveGo core desc) := fun _ e => nomatch e
theorem Sys2Proof.Laws.Operands.moveComplete (move : MoveEnd) : Sys2Proof.Laws.Operands.Statement (.moveComplete move) := fun _ e => nomatch e
theorem Sys2Proof.Laws.Operands.coreItemWatchdog (core : Fin 272) : Sys2Proof.Laws.Operands.Statement (.coreItemWatchdog core) := fun _ e => nomatch e
theorem Sys2Proof.Laws.Operands.dspCntClr (cluster : Fin 17) : Sys2Proof.Laws.Operands.Statement (.dspCntClr cluster) := fun _ e => nomatch e
theorem Sys2Proof.Laws.Operands.itemPost (type : Nat) (source : Fin 32) (flow : Nat) (prio : Nat) (payload : Bytes) : Sys2Proof.Laws.Operands.Statement (.itemPost type source flow prio payload) := fun _ e => nomatch e
theorem Sys2Proof.Laws.Operands.postGo (core : Fin 273) (item : Bytes) : Sys2Proof.Laws.Operands.Statement (.postGo core item) := fun _ e => nomatch e
theorem Sys2Proof.Laws.Operands.itemDoneOk (core : Fin 273) : Sys2Proof.Laws.Operands.Statement (.itemDoneOk core) := fun _ e => nomatch e
theorem Sys2Proof.Laws.Operands.itemDoneFailed (core : Fin 273) : Sys2Proof.Laws.Operands.Statement (.itemDoneFailed core) := fun _ e => nomatch e
theorem Sys2Proof.Laws.Operands.docSwap (v : W32) : Sys2Proof.Laws.Operands.Statement (.docSwap v) := fun _ e => nomatch e
theorem Sys2Proof.Laws.Operands.swapRemap : Sys2Proof.Laws.Operands.Statement .swapRemap := fun _ e => nomatch e
theorem Sys2Proof.Laws.Operands.swapDrainDone : Sys2Proof.Laws.Operands.Statement .swapDrainDone := fun _ e => nomatch e
theorem Sys2Proof.Laws.Operands.swapDrainTimeout : Sys2Proof.Laws.Operands.Statement .swapDrainTimeout := fun _ e => nomatch e
theorem Sys2Proof.Laws.Operands.swapSourceReloaded : Sys2Proof.Laws.Operands.Statement .swapSourceReloaded := fun _ e => nomatch e
theorem Sys2Proof.Laws.Operands.docFenceClr (v : W32) : Sys2Proof.Laws.Operands.Statement (.docFenceClr v) := fun _ e => nomatch e
theorem Sys2Proof.Laws.Operands.docCntClr : Sys2Proof.Laws.Operands.Statement .docCntClr := fun _ e => nomatch e
theorem Sys2Proof.Laws.Operands.jitterAccept (stream : Fin 131072) : Sys2Proof.Laws.Operands.Statement (.jitterAccept stream) := fun _ e => nomatch e
theorem Sys2Proof.Laws.Operands.audioTick : Sys2Proof.Laws.Operands.Statement .audioTick := fun _ e => nomatch e
theorem Sys2Proof.Laws.Operands.mixPoint (conf : Fin 4096) : Sys2Proof.Laws.Operands.Statement (.mixPoint conf) := fun _ e => nomatch e
theorem Sys2Proof.Laws.Operands.afbCntClr : Sys2Proof.Laws.Operands.Statement .afbCntClr := fun _ e => nomatch e
theorem Sys2Proof.Laws.Operands.peerHelloSend : Sys2Proof.Laws.Operands.Statement .peerHelloSend := fun _ e => nomatch e
theorem Sys2Proof.Laws.Operands.peerHello : Sys2Proof.Laws.Operands.Statement .peerHello := fun _ e => nomatch e
theorem Sys2Proof.Laws.Operands.peerLost (device : Fin 1024) : Sys2Proof.Laws.Operands.Statement (.peerLost device) := fun _ e => nomatch e
theorem Sys2Proof.Laws.Operands.curCasCntClr : Sys2Proof.Laws.Operands.Statement .curCasCntClr := fun _ e => nomatch e
theorem Sys2Proof.Laws.Operands.assemblePacket (stream : Fin 131072) : Sys2Proof.Laws.Operands.Statement (.assemblePacket stream) := fun _ e => nomatch e
theorem Sys2Proof.Laws.Operands.auWaitExpiry (stream : Fin 131072) : Sys2Proof.Laws.Operands.Statement (.auWaitExpiry stream) := fun _ e => nomatch e
theorem Sys2Proof.Laws.Operands.pictureStart (engine : Fin 4) (pic : PicHead) : Sys2Proof.Laws.Operands.Statement (.pictureStart engine pic) := fun _ e => nomatch e
theorem Sys2Proof.Laws.Operands.pictureDone (engine : Fin 4) (result : PicDone) : Sys2Proof.Laws.Operands.Statement (.pictureDone engine result) := fun _ e => nomatch e
theorem Sys2Proof.Laws.Operands.contextMigrate (stream : Fin 131072) : Sys2Proof.Laws.Operands.Statement (.contextMigrate stream) := fun _ e => nomatch e
theorem Sys2Proof.Laws.Operands.vdeCntClr (engine : Fin 4) : Sys2Proof.Laws.Operands.Statement (.vdeCntClr engine) := fun _ e => nomatch e
theorem Sys2Proof.Laws.Operands.vdePgCntClrCounters : Sys2Proof.Laws.Operands.Statement .vdePgCntClrCounters := fun _ e => nomatch e
theorem Sys2Proof.Laws.Operands.vdePgCntClrLow : Sys2Proof.Laws.Operands.Statement .vdePgCntClrLow := fun _ e => nomatch e
theorem Sys2Proof.Laws.Operands.frameDue (output : Fin 16384) : Sys2Proof.Laws.Operands.Statement (.frameDue output) := fun _ e => nomatch e
theorem Sys2Proof.Laws.Operands.frameBegin (pipe : Fin 4) : Sys2Proof.Laws.Operands.Statement (.frameBegin pipe) := fun _ e => nomatch e
theorem Sys2Proof.Laws.Operands.blockRowDone (pipe : Fin 4) : Sys2Proof.Laws.Operands.Statement (.blockRowDone pipe) := fun _ e => nomatch e
theorem Sys2Proof.Laws.Operands.cmpCoefWrite (luma : List (Fin 128 × W32)) (chroma : List (Fin 64 × W32)) : Sys2Proof.Laws.Operands.Statement (.cmpCoefWrite luma chroma) := fun _ e => nomatch e
theorem Sys2Proof.Laws.Operands.cmpCntClr : Sys2Proof.Laws.Operands.Statement .cmpCntClr := fun _ e => nomatch e
theorem Sys2Proof.Laws.Operands.encodeRow (engine : Fin 4) (rows : List EncRow) : Sys2Proof.Laws.Operands.Statement (.encodeRow engine rows) := fun _ e => nomatch e
theorem Sys2Proof.Laws.Operands.packetise (output : Fin 16384) : Sys2Proof.Laws.Operands.Statement (.packetise output) := fun _ e => nomatch e
theorem Sys2Proof.Laws.Operands.venCntClr (engine : Fin 4) : Sys2Proof.Laws.Operands.Statement (.venCntClr engine) := fun _ e => nomatch e
theorem Sys2Proof.Laws.Operands.memoryRead (source : BitVec 16) (addr : Nat) (len : Nat) (faults : List BurstFault) (grants : List (Fin 48)) : Sys2Proof.Laws.Operands.Statement (.memoryRead source addr len faults grants) := fun _ e => nomatch e
theorem Sys2Proof.Laws.Operands.memoryWrite (source : BitVec 16) (addr : Nat) (data : Bytes) (faults : List BurstFault) (grants : List (Fin 48)) : Sys2Proof.Laws.Operands.Statement (.memoryWrite source addr data faults grants) := fun _ e => nomatch e
theorem Sys2Proof.Laws.Operands.refresh (channel : Fin 48) (bank : Fin 16) : Sys2Proof.Laws.Operands.Statement (.refresh channel bank) := fun _ e => nomatch e
theorem Sys2Proof.Laws.Operands.retrainVisit (read : BitVec 8) (write : BitVec 8) : Sys2Proof.Laws.Operands.Statement (.retrainVisit read write) := fun _ e => nomatch e
theorem Sys2Proof.Laws.Operands.scrubStep (channel : Fin 48) (step : ScrubRead) : Sys2Proof.Laws.Operands.Statement (.scrubStep channel step) := fun _ e => nomatch e
theorem Sys2Proof.Laws.Operands.devicePowerDown (device : Fin 12) : Sys2Proof.Laws.Operands.Statement (.devicePowerDown device) := fun _ e => nomatch e
theorem Sys2Proof.Laws.Operands.mctCntClr : Sys2Proof.Laws.Operands.Statement .mctCntClr := fun _ e => nomatch e
theorem Sys2Proof.Laws.Operands.supervisorDecision (faults : List Trigger) : Sys2Proof.Laws.Operands.Statement (.supervisorDecision faults) := fun _ e => nomatch e
theorem Sys2Proof.Laws.Operands.chpLegIsoClr (v : W32) : Sys2Proof.Laws.Operands.Statement (.chpLegIsoClr v) := fun _ e => nomatch e
theorem Sys2Proof.Laws.Operands.selftestRound (passed : List (Fin 8)) : Sys2Proof.Laws.Operands.Statement (.selftestRound passed) := fun _ e => nomatch e
theorem Sys2Proof.Laws.Operands.blockWatchdogExpiry (wing : Nat) (watch : BlockWatch) : Sys2Proof.Laws.Operands.Statement (.blockWatchdogExpiry wing watch) := fun _ e => nomatch e
theorem Sys2Proof.Laws.Operands.heartbeat (silent : List (Fin 5)) : Sys2Proof.Laws.Operands.Statement (.heartbeat silent) := fun _ e => nomatch e
theorem Sys2Proof.Laws.Operands.heartbeatMiss (wing : Fin 5) : Sys2Proof.Laws.Operands.Statement (.heartbeatMiss wing) := fun _ e => nomatch e
theorem Sys2Proof.Laws.Operands.wdtServicePost : Sys2Proof.Laws.Operands.Statement .wdtServicePost := fun _ e => nomatch e
theorem Sys2Proof.Laws.Operands.chpWdtKick (v : W32) : Sys2Proof.Laws.Operands.Statement (.chpWdtKick v) := fun _ e => nomatch e
theorem Sys2Proof.Laws.Operands.chipWatchdogExpiry : Sys2Proof.Laws.Operands.Statement .chipWatchdogExpiry := fun _ e => nomatch e
theorem Sys2Proof.Laws.Operands.tempSample (readings : List Int) : Sys2Proof.Laws.Operands.Statement (.tempSample readings) := fun _ e => nomatch e
theorem Sys2Proof.Laws.Operands.throttleRise : Sys2Proof.Laws.Operands.Statement .throttleRise := fun _ e => nomatch e
theorem Sys2Proof.Laws.Operands.throttleFall : Sys2Proof.Laws.Operands.Statement .throttleFall := fun _ e => nomatch e
theorem Sys2Proof.Laws.Operands.voltageSample (readings : List Nat) : Sys2Proof.Laws.Operands.Statement (.voltageSample readings) := fun _ e => nomatch e
theorem Sys2Proof.Laws.Operands.processSample (readings : List Nat) : Sys2Proof.Laws.Operands.Statement (.processSample readings) := fun _ e => nomatch e
theorem Sys2Proof.Laws.Operands.i2cRead (addr : Nat) (ptr : Option (BitVec 13)) (count : Nat) : Sys2Proof.Laws.Operands.Statement (.i2cRead addr ptr count) := fun _ e => nomatch e
theorem Sys2Proof.Laws.Operands.i2cWrite (addr : Nat) (ptr : BitVec 13) (data : Bytes) : Sys2Proof.Laws.Operands.Statement (.i2cWrite addr ptr data) := fun _ e => nomatch e
theorem Sys2Proof.Laws.Operands.bypass : Sys2Proof.Laws.Operands.Statement .bypass := fun _ e => nomatch e
theorem Sys2Proof.Laws.Operands.idcode : Sys2Proof.Laws.Operands.Statement .idcode := fun _ e => nomatch e
theorem Sys2Proof.Laws.Operands.samplePreload (cells : List Bool) : Sys2Proof.Laws.Operands.Statement (.samplePreload cells) := fun _ e => nomatch e
theorem Sys2Proof.Laws.Operands.extest : Sys2Proof.Laws.Operands.Statement .extest := fun _ e => nomatch e
theorem Sys2Proof.Laws.Operands.clamp : Sys2Proof.Laws.Operands.Statement .clamp := fun _ e => nomatch e
theorem Sys2Proof.Laws.Operands.highz : Sys2Proof.Laws.Operands.Statement .highz := fun _ e => nomatch e
theorem Sys2Proof.Laws.Operands.extestPulse : Sys2Proof.Laws.Operands.Statement .extestPulse := fun _ e => nomatch e
theorem Sys2Proof.Laws.Operands.extestTrain : Sys2Proof.Laws.Operands.Statement .extestTrain := fun _ e => nomatch e
theorem Sys2Proof.Laws.Operands.debugInstruction (opcode : BitVec 8) : Sys2Proof.Laws.Operands.Statement (.debugInstruction opcode) := fun _ e => nomatch e
theorem Sys2Proof.Laws.Operands.tapReset : Sys2Proof.Laws.Operands.Statement .tapReset := fun _ e => nomatch e
theorem Sys2Proof.Laws.Operands.laneReferencePresent (k : Fin 4) : Sys2Proof.Laws.Operands.Statement (.laneReferencePresent k) := fun _ e => nomatch e
theorem Sys2Proof.Laws.Operands.curatorFirmwareRestarted : Sys2Proof.Laws.Operands.Statement .curatorFirmwareRestarted := fun _ e => nomatch e
theorem Sys2Proof.Laws.Operands.railStepTimeout (rail : Nat) : Sys2Proof.Laws.Operands.Statement (.railStepTimeout rail) := fun _ e => nomatch e
end

