-- ==== Sys2Proof/Laws/State.lean ====
section
/-!
SUPPORT. One law per field and update of State, so that no proof unfolds a record update: what each named update of one part
of the machine writes, and that it leaves every other field alone.
-/

namespace Sys2Proof.Machine

@[simp] theorem State.rset_regs (s : State) (r : Reg) (u i : Nat) (v : W32) : (s.rset r u i v).regs = nputD (regReset r u i) s.regs (regAddr r u i) v := rfl

@[simp] theorem State.rset_kept (s : State) (r : Reg) (u i : Nat) (v : W32) : (s.rset r u i v).pending = s.pending ∧ (s.rset r u i
    v).draws = s.draws ∧ (s.rset r u i v).ctrs = s.ctrs ∧ (s.rset r u i v).latches = s.latches ∧ (s.rset r u i v).answer = s.answer ∧
    (s.rset r u i v).m = s.m ∧ (s.rset r u i v).otp = s.otp ∧ (s.rset r u i v).pins = s.pins ∧ (s.rset r u i v).rails = s.rails ∧
    (s.rset r u i v).time = s.time ∧ (s.rset r u i v).i2c = s.i2c ∧ (s.rset r u i v).tap = s.tap ∧ (s.rset r u i v).frec = s.frec ∧
    (s.rset r u i v).cur = s.cur ∧ (s.rset r u i v).sup = s.sup ∧ (s.rset r u i v).mgmt = s.mgmt ∧ (s.rset r u i v).atr = s.atr ∧
    (s.rset r u i v).rgs = s.rgs ∧ (s.rset r u i v).vlt = s.vlt ∧ (s.rset r u i v).clo = s.clo ∧ (s.rset r u i v).stk = s.stk ∧
    (s.rset r u i v).fwd = s.fwd ∧ (s.rset r u i v).tmg = s.tmg ∧ (s.rset r u i v).cas = s.cas ∧ (s.rset r u i v).doc = s.doc ∧
    (s.rset r u i v).dsp = s.dsp ∧ (s.rset r u i v).afb = s.afb ∧ (s.rset r u i v).pgr = s.pgr ∧ (s.rset r u i v).vde = s.vde ∧
    (s.rset r u i v).cmp = s.cmp ∧ (s.rset r u i v).ven = s.ven ∧ (s.rset r u i v).mct = s.mct ∧ (s.rset r u i v).objs = s.objs ∧
    (s.rset r u i v).stats = s.stats ∧ (s.rset r u i v).gddr = s.gddr ∧ (s.rset r u i v).poisoned = s.poisoned ∧ (s.rset r u i v).wire
    = s.wire ∧ (s.rset r u i v).programmed = s.programmed := by
  and_intros <;> rfl

@[simp] theorem State.cadd_ctrs (s : State) (r : Reg) (u i n : Nat) : (s.cadd r u i n).ctrs = nputD 0 s.ctrs (regAddr r u i) (s.cget r u i + BitVec.ofNat 64 n) := rfl

@[simp] theorem State.cadd_kept (s : State) (r : Reg) (u i n : Nat) : (s.cadd r u i n).pending = s.pending ∧ (s.cadd r u i
    n).draws = s.draws ∧ (s.cadd r u i n).regs = s.regs ∧ (s.cadd r u i n).latches = s.latches ∧ (s.cadd r u i n).answer = s.answer ∧
    (s.cadd r u i n).m = s.m ∧ (s.cadd r u i n).otp = s.otp ∧ (s.cadd r u i n).pins = s.pins ∧ (s.cadd r u i n).rails = s.rails ∧
    (s.cadd r u i n).time = s.time ∧ (s.cadd r u i n).i2c = s.i2c ∧ (s.cadd r u i n).tap = s.tap ∧ (s.cadd r u i n).frec = s.frec ∧
    (s.cadd r u i n).cur = s.cur ∧ (s.cadd r u i n).sup = s.sup ∧ (s.cadd r u i n).mgmt = s.mgmt ∧ (s.cadd r u i n).atr = s.atr ∧
    (s.cadd r u i n).rgs = s.rgs ∧ (s.cadd r u i n).vlt = s.vlt ∧ (s.cadd r u i n).clo = s.clo ∧ (s.cadd r u i n).stk = s.stk ∧
    (s.cadd r u i n).fwd = s.fwd ∧ (s.cadd r u i n).tmg = s.tmg ∧ (s.cadd r u i n).cas = s.cas ∧ (s.cadd r u i n).doc = s.doc ∧
    (s.cadd r u i n).dsp = s.dsp ∧ (s.cadd r u i n).afb = s.afb ∧ (s.cadd r u i n).pgr = s.pgr ∧ (s.cadd r u i n).vde = s.vde ∧
    (s.cadd r u i n).cmp = s.cmp ∧ (s.cadd r u i n).ven = s.ven ∧ (s.cadd r u i n).mct = s.mct ∧ (s.cadd r u i n).objs = s.objs ∧
    (s.cadd r u i n).stats = s.stats ∧ (s.cadd r u i n).gddr = s.gddr ∧ (s.cadd r u i n).poisoned = s.poisoned ∧ (s.cadd r u i n).wire
    = s.wire ∧ (s.cadd r u i n).programmed = s.programmed := by
  and_intros <;> rfl

@[simp] theorem State.frWrite_frec (s : State) (off : Nat) (b : Bytes) : (s.frWrite off b).frec = (List.zip (List.range b.length) b).foldl (fun m e => nputD 0 m (off + e.1) e.2) s.frec := rfl

@[simp] theorem State.frWrite_kept (s : State) (off : Nat) (b : Bytes) : (s.frWrite off b).pending = s.pending ∧ (s.frWrite off
    b).draws = s.draws ∧ (s.frWrite off b).regs = s.regs ∧ (s.frWrite off b).ctrs = s.ctrs ∧ (s.frWrite off b).latches = s.latches ∧
    (s.frWrite off b).answer = s.answer ∧ (s.frWrite off b).m = s.m ∧ (s.frWrite off b).otp = s.otp ∧ (s.frWrite off b).pins = s.pins
    ∧ (s.frWrite off b).rails = s.rails ∧ (s.frWrite off b).time = s.time ∧ (s.frWrite off b).i2c = s.i2c ∧ (s.frWrite off b).tap =
    s.tap ∧ (s.frWrite off b).cur = s.cur ∧ (s.frWrite off b).sup = s.sup ∧ (s.frWrite off b).mgmt = s.mgmt ∧ (s.frWrite off b).atr =
    s.atr ∧ (s.frWrite off b).rgs = s.rgs ∧ (s.frWrite off b).vlt = s.vlt ∧ (s.frWrite off b).clo = s.clo ∧ (s.frWrite off b).stk =
    s.stk ∧ (s.frWrite off b).fwd = s.fwd ∧ (s.frWrite off b).tmg = s.tmg ∧ (s.frWrite off b).cas = s.cas ∧ (s.frWrite off b).doc =
    s.doc ∧ (s.frWrite off b).dsp = s.dsp ∧ (s.frWrite off b).afb = s.afb ∧ (s.frWrite off b).pgr = s.pgr ∧ (s.frWrite off b).vde =
    s.vde ∧ (s.frWrite off b).cmp = s.cmp ∧ (s.frWrite off b).ven = s.ven ∧ (s.frWrite off b).mct = s.mct ∧ (s.frWrite off b).objs =
    s.objs ∧ (s.frWrite off b).stats = s.stats ∧ (s.frWrite off b).gddr = s.gddr ∧ (s.frWrite off b).poisoned = s.poisoned ∧
    (s.frWrite off b).wire = s.wire ∧ (s.frWrite off b).programmed = s.programmed := by
  and_intros <;> rfl

@[simp] theorem State.sendMgmt_mgmt (s : State) (p : Peer) (payload : Bytes) : (s.sendMgmt p payload).mgmt = nput s.mgmt p.port ((nget s.mgmt p.port).getD [] ++ [.message p payload]) := rfl

@[simp] theorem State.sendMgmt_kept (s : State) (p : Peer) (payload : Bytes) : (s.sendMgmt p payload).pending = s.pending ∧
    (s.sendMgmt p payload).draws = s.draws ∧ (s.sendMgmt p payload).regs = s.regs ∧ (s.sendMgmt p payload).ctrs = s.ctrs ∧ (s.sendMgmt
    p payload).latches = s.latches ∧ (s.sendMgmt p payload).answer = s.answer ∧ (s.sendMgmt p payload).m = s.m ∧ (s.sendMgmt p
    payload).otp = s.otp ∧ (s.sendMgmt p payload).pins = s.pins ∧ (s.sendMgmt p payload).rails = s.rails ∧ (s.sendMgmt p payload).time
    = s.time ∧ (s.sendMgmt p payload).i2c = s.i2c ∧ (s.sendMgmt p payload).tap = s.tap ∧ (s.sendMgmt p payload).frec = s.frec ∧
    (s.sendMgmt p payload).cur = s.cur ∧ (s.sendMgmt p payload).sup = s.sup ∧ (s.sendMgmt p payload).atr = s.atr ∧ (s.sendMgmt p
    payload).rgs = s.rgs ∧ (s.sendMgmt p payload).vlt = s.vlt ∧ (s.sendMgmt p payload).clo = s.clo ∧ (s.sendMgmt p payload).stk =
    s.stk ∧ (s.sendMgmt p payload).fwd = s.fwd ∧ (s.sendMgmt p payload).tmg = s.tmg ∧ (s.sendMgmt p payload).cas = s.cas ∧ (s.sendMgmt
    p payload).doc = s.doc ∧ (s.sendMgmt p payload).dsp = s.dsp ∧ (s.sendMgmt p payload).afb = s.afb ∧ (s.sendMgmt p payload).pgr =
    s.pgr ∧ (s.sendMgmt p payload).vde = s.vde ∧ (s.sendMgmt p payload).cmp = s.cmp ∧ (s.sendMgmt p payload).ven = s.ven ∧ (s.sendMgmt
    p payload).mct = s.mct ∧ (s.sendMgmt p payload).objs = s.objs ∧ (s.sendMgmt p payload).stats = s.stats ∧ (s.sendMgmt p
    payload).gddr = s.gddr ∧ (s.sendMgmt p payload).poisoned = s.poisoned ∧ (s.sendMgmt p payload).wire = s.wire ∧ (s.sendMgmt p
    payload).programmed = s.programmed := by
  and_intros <;> rfl

@[simp] theorem State.setSession_cur (s : State) (k : Nat) (x : Session) : (s.setSession k x).cur = { s.cur with sessions := lset s.cur.sessions k x } := rfl

@[simp] theorem State.setSession_kept (s : State) (k : Nat) (x : Session) : (s.setSession k x).pending = s.pending ∧ (s.setSession
    k x).draws = s.draws ∧ (s.setSession k x).regs = s.regs ∧ (s.setSession k x).ctrs = s.ctrs ∧ (s.setSession k x).latches =
    s.latches ∧ (s.setSession k x).answer = s.answer ∧ (s.setSession k x).m = s.m ∧ (s.setSession k x).otp = s.otp ∧ (s.setSession k
    x).pins = s.pins ∧ (s.setSession k x).rails = s.rails ∧ (s.setSession k x).time = s.time ∧ (s.setSession k x).i2c = s.i2c ∧
    (s.setSession k x).tap = s.tap ∧ (s.setSession k x).frec = s.frec ∧ (s.setSession k x).sup = s.sup ∧ (s.setSession k x).mgmt =
    s.mgmt ∧ (s.setSession k x).atr = s.atr ∧ (s.setSession k x).rgs = s.rgs ∧ (s.setSession k x).vlt = s.vlt ∧ (s.setSession k x).clo
    = s.clo ∧ (s.setSession k x).stk = s.stk ∧ (s.setSession k x).fwd = s.fwd ∧ (s.setSession k x).tmg = s.tmg ∧ (s.setSession k
    x).cas = s.cas ∧ (s.setSession k x).doc = s.doc ∧ (s.setSession k x).dsp = s.dsp ∧ (s.setSession k x).afb = s.afb ∧ (s.setSession
    k x).pgr = s.pgr ∧ (s.setSession k x).vde = s.vde ∧ (s.setSession k x).cmp = s.cmp ∧ (s.setSession k x).ven = s.ven ∧
    (s.setSession k x).mct = s.mct ∧ (s.setSession k x).objs = s.objs ∧ (s.setSession k x).stats = s.stats ∧ (s.setSession k x).gddr =
    s.gddr ∧ (s.setSession k x).poisoned = s.poisoned ∧ (s.setSession k x).wire = s.wire ∧ (s.setSession k x).programmed =
    s.programmed := by
  and_intros <;> rfl

@[simp] theorem State.report_sup (s : State) (t : Trigger) : (s.report t).sup = { s.sup with reported := s.sup.reported ++ [t] } := rfl

@[simp] theorem State.report_kept (s : State) (t : Trigger) : (s.report t).pending = s.pending ∧ (s.report t).draws = s.draws ∧
    (s.report t).regs = s.regs ∧ (s.report t).ctrs = s.ctrs ∧ (s.report t).latches = s.latches ∧ (s.report t).answer = s.answer ∧
    (s.report t).m = s.m ∧ (s.report t).otp = s.otp ∧ (s.report t).pins = s.pins ∧ (s.report t).rails = s.rails ∧ (s.report t).time =
    s.time ∧ (s.report t).i2c = s.i2c ∧ (s.report t).tap = s.tap ∧ (s.report t).frec = s.frec ∧ (s.report t).cur = s.cur ∧ (s.report
    t).mgmt = s.mgmt ∧ (s.report t).atr = s.atr ∧ (s.report t).rgs = s.rgs ∧ (s.report t).vlt = s.vlt ∧ (s.report t).clo = s.clo ∧
    (s.report t).stk = s.stk ∧ (s.report t).fwd = s.fwd ∧ (s.report t).tmg = s.tmg ∧ (s.report t).cas = s.cas ∧ (s.report t).doc =
    s.doc ∧ (s.report t).dsp = s.dsp ∧ (s.report t).afb = s.afb ∧ (s.report t).pgr = s.pgr ∧ (s.report t).vde = s.vde ∧ (s.report
    t).cmp = s.cmp ∧ (s.report t).ven = s.ven ∧ (s.report t).mct = s.mct ∧ (s.report t).objs = s.objs ∧ (s.report t).stats = s.stats ∧
    (s.report t).gddr = s.gddr ∧ (s.report t).poisoned = s.poisoned ∧ (s.report t).wire = s.wire ∧ (s.report t).programmed =
    s.programmed := by
  and_intros <;> rfl

@[simp] theorem State.gwrite_kept (s : State) (a : Nat) (b : Bytes) : (s.gwrite a b).pending = s.pending ∧ (s.gwrite a b).draws =
    s.draws ∧ (s.gwrite a b).regs = s.regs ∧ (s.gwrite a b).ctrs = s.ctrs ∧ (s.gwrite a b).latches = s.latches ∧ (s.gwrite a b).answer
    = s.answer ∧ (s.gwrite a b).m = s.m ∧ (s.gwrite a b).otp = s.otp ∧ (s.gwrite a b).pins = s.pins ∧ (s.gwrite a b).rails = s.rails ∧
    (s.gwrite a b).time = s.time ∧ (s.gwrite a b).i2c = s.i2c ∧ (s.gwrite a b).tap = s.tap ∧ (s.gwrite a b).frec = s.frec ∧ (s.gwrite
    a b).cur = s.cur ∧ (s.gwrite a b).sup = s.sup ∧ (s.gwrite a b).mgmt = s.mgmt ∧ (s.gwrite a b).atr = s.atr ∧ (s.gwrite a b).rgs =
    s.rgs ∧ (s.gwrite a b).vlt = s.vlt ∧ (s.gwrite a b).clo = s.clo ∧ (s.gwrite a b).stk = s.stk ∧ (s.gwrite a b).fwd = s.fwd ∧
    (s.gwrite a b).tmg = s.tmg ∧ (s.gwrite a b).cas = s.cas ∧ (s.gwrite a b).doc = s.doc ∧ (s.gwrite a b).dsp = s.dsp ∧ (s.gwrite a
    b).afb = s.afb ∧ (s.gwrite a b).pgr = s.pgr ∧ (s.gwrite a b).vde = s.vde ∧ (s.gwrite a b).cmp = s.cmp ∧ (s.gwrite a b).ven = s.ven
    ∧ (s.gwrite a b).mct = s.mct ∧ (s.gwrite a b).objs = s.objs ∧ (s.gwrite a b).stats = s.stats ∧ (s.gwrite a b).wire = s.wire ∧
    (s.gwrite a b).programmed = s.programmed := by
  and_intros <;> rfl

@[simp] theorem State.setCmem_dsp (s : State) (cl : Nat) (m : NMap Byte) : (s.setCmem cl m).dsp = nputD {} s.dsp cl { ngetD {} s.dsp cl with mem := m } := rfl

@[simp] theorem State.setCmem_kept (s : State) (cl : Nat) (m : NMap Byte) : (s.setCmem cl m).pending = s.pending ∧ (s.setCmem cl
    m).draws = s.draws ∧ (s.setCmem cl m).regs = s.regs ∧ (s.setCmem cl m).ctrs = s.ctrs ∧ (s.setCmem cl m).latches = s.latches ∧
    (s.setCmem cl m).answer = s.answer ∧ (s.setCmem cl m).m = s.m ∧ (s.setCmem cl m).otp = s.otp ∧ (s.setCmem cl m).pins = s.pins ∧
    (s.setCmem cl m).rails = s.rails ∧ (s.setCmem cl m).time = s.time ∧ (s.setCmem cl m).i2c = s.i2c ∧ (s.setCmem cl m).tap = s.tap ∧
    (s.setCmem cl m).frec = s.frec ∧ (s.setCmem cl m).cur = s.cur ∧ (s.setCmem cl m).sup = s.sup ∧ (s.setCmem cl m).mgmt = s.mgmt ∧
    (s.setCmem cl m).atr = s.atr ∧ (s.setCmem cl m).rgs = s.rgs ∧ (s.setCmem cl m).vlt = s.vlt ∧ (s.setCmem cl m).clo = s.clo ∧
    (s.setCmem cl m).stk = s.stk ∧ (s.setCmem cl m).fwd = s.fwd ∧ (s.setCmem cl m).tmg = s.tmg ∧ (s.setCmem cl m).cas = s.cas ∧
    (s.setCmem cl m).doc = s.doc ∧ (s.setCmem cl m).afb = s.afb ∧ (s.setCmem cl m).pgr = s.pgr ∧ (s.setCmem cl m).vde = s.vde ∧
    (s.setCmem cl m).cmp = s.cmp ∧ (s.setCmem cl m).ven = s.ven ∧ (s.setCmem cl m).mct = s.mct ∧ (s.setCmem cl m).objs = s.objs ∧
    (s.setCmem cl m).stats = s.stats ∧ (s.setCmem cl m).gddr = s.gddr ∧ (s.setCmem cl m).poisoned = s.poisoned ∧ (s.setCmem cl m).wire
    = s.wire ∧ (s.setCmem cl m).programmed = s.programmed := by
  and_intros <;> rfl

@[simp] theorem State.setPool_clo (s : State) (p : Nat) (x : Pool) : (s.setPool p x).clo = { s.clo with pools := nputD {} s.clo.pools p x } := rfl

@[simp] theorem State.setPool_kept (s : State) (p : Nat) (x : Pool) : (s.setPool p x).pending = s.pending ∧ (s.setPool p x).draws
    = s.draws ∧ (s.setPool p x).regs = s.regs ∧ (s.setPool p x).ctrs = s.ctrs ∧ (s.setPool p x).latches = s.latches ∧ (s.setPool p
    x).answer = s.answer ∧ (s.setPool p x).m = s.m ∧ (s.setPool p x).otp = s.otp ∧ (s.setPool p x).pins = s.pins ∧ (s.setPool p
    x).rails = s.rails ∧ (s.setPool p x).time = s.time ∧ (s.setPool p x).i2c = s.i2c ∧ (s.setPool p x).tap = s.tap ∧ (s.setPool p
    x).frec = s.frec ∧ (s.setPool p x).cur = s.cur ∧ (s.setPool p x).sup = s.sup ∧ (s.setPool p x).mgmt = s.mgmt ∧ (s.setPool p x).atr
    = s.atr ∧ (s.setPool p x).rgs = s.rgs ∧ (s.setPool p x).vlt = s.vlt ∧ (s.setPool p x).stk = s.stk ∧ (s.setPool p x).fwd = s.fwd ∧
    (s.setPool p x).tmg = s.tmg ∧ (s.setPool p x).cas = s.cas ∧ (s.setPool p x).doc = s.doc ∧ (s.setPool p x).dsp = s.dsp ∧ (s.setPool
    p x).afb = s.afb ∧ (s.setPool p x).pgr = s.pgr ∧ (s.setPool p x).vde = s.vde ∧ (s.setPool p x).cmp = s.cmp ∧ (s.setPool p x).ven =
    s.ven ∧ (s.setPool p x).mct = s.mct ∧ (s.setPool p x).objs = s.objs ∧ (s.setPool p x).stats = s.stats ∧ (s.setPool p x).gddr =
    s.gddr ∧ (s.setPool p x).poisoned = s.poisoned ∧ (s.setPool p x).wire = s.wire ∧ (s.setPool p x).programmed = s.programmed := by
  and_intros <;> rfl

@[simp] theorem State.setReady_doc (s : State) (c : Nat) (l : List Item) : (s.setReady c l).doc = { s.doc with ready := nputD [] s.doc.ready c l } := rfl

@[simp] theorem State.setReady_kept (s : State) (c : Nat) (l : List Item) : (s.setReady c l).pending = s.pending ∧ (s.setReady c
    l).draws = s.draws ∧ (s.setReady c l).regs = s.regs ∧ (s.setReady c l).ctrs = s.ctrs ∧ (s.setReady c l).latches = s.latches ∧
    (s.setReady c l).answer = s.answer ∧ (s.setReady c l).m = s.m ∧ (s.setReady c l).otp = s.otp ∧ (s.setReady c l).pins = s.pins ∧
    (s.setReady c l).rails = s.rails ∧ (s.setReady c l).time = s.time ∧ (s.setReady c l).i2c = s.i2c ∧ (s.setReady c l).tap = s.tap ∧
    (s.setReady c l).frec = s.frec ∧ (s.setReady c l).cur = s.cur ∧ (s.setReady c l).sup = s.sup ∧ (s.setReady c l).mgmt = s.mgmt ∧
    (s.setReady c l).atr = s.atr ∧ (s.setReady c l).rgs = s.rgs ∧ (s.setReady c l).vlt = s.vlt ∧ (s.setReady c l).clo = s.clo ∧
    (s.setReady c l).stk = s.stk ∧ (s.setReady c l).fwd = s.fwd ∧ (s.setReady c l).tmg = s.tmg ∧ (s.setReady c l).cas = s.cas ∧
    (s.setReady c l).dsp = s.dsp ∧ (s.setReady c l).afb = s.afb ∧ (s.setReady c l).pgr = s.pgr ∧ (s.setReady c l).vde = s.vde ∧
    (s.setReady c l).cmp = s.cmp ∧ (s.setReady c l).ven = s.ven ∧ (s.setReady c l).mct = s.mct ∧ (s.setReady c l).objs = s.objs ∧
    (s.setReady c l).stats = s.stats ∧ (s.setReady c l).gddr = s.gddr ∧ (s.setReady c l).poisoned = s.poisoned ∧ (s.setReady c l).wire
    = s.wire ∧ (s.setReady c l).programmed = s.programmed := by
  and_intros <;> rfl

@[simp] theorem State.setQueue_stk (s : State) (q : Nat) (x : Queue) : (s.setQueue q x).stk = { s.stk with queues := nputD {} s.stk.queues q x } := rfl

@[simp] theorem State.setQueue_kept (s : State) (q : Nat) (x : Queue) : (s.setQueue q x).pending = s.pending ∧ (s.setQueue q
    x).draws = s.draws ∧ (s.setQueue q x).regs = s.regs ∧ (s.setQueue q x).ctrs = s.ctrs ∧ (s.setQueue q x).latches = s.latches ∧
    (s.setQueue q x).answer = s.answer ∧ (s.setQueue q x).m = s.m ∧ (s.setQueue q x).otp = s.otp ∧ (s.setQueue q x).pins = s.pins ∧
    (s.setQueue q x).rails = s.rails ∧ (s.setQueue q x).time = s.time ∧ (s.setQueue q x).i2c = s.i2c ∧ (s.setQueue q x).tap = s.tap ∧
    (s.setQueue q x).frec = s.frec ∧ (s.setQueue q x).cur = s.cur ∧ (s.setQueue q x).sup = s.sup ∧ (s.setQueue q x).mgmt = s.mgmt ∧
    (s.setQueue q x).atr = s.atr ∧ (s.setQueue q x).rgs = s.rgs ∧ (s.setQueue q x).vlt = s.vlt ∧ (s.setQueue q x).clo = s.clo ∧
    (s.setQueue q x).fwd = s.fwd ∧ (s.setQueue q x).tmg = s.tmg ∧ (s.setQueue q x).cas = s.cas ∧ (s.setQueue q x).doc = s.doc ∧
    (s.setQueue q x).dsp = s.dsp ∧ (s.setQueue q x).afb = s.afb ∧ (s.setQueue q x).pgr = s.pgr ∧ (s.setQueue q x).vde = s.vde ∧
    (s.setQueue q x).cmp = s.cmp ∧ (s.setQueue q x).ven = s.ven ∧ (s.setQueue q x).mct = s.mct ∧ (s.setQueue q x).objs = s.objs ∧
    (s.setQueue q x).stats = s.stats ∧ (s.setQueue q x).gddr = s.gddr ∧ (s.setQueue q x).poisoned = s.poisoned ∧ (s.setQueue q x).wire
    = s.wire ∧ (s.setQueue q x).programmed = s.programmed := by
  and_intros <;> rfl

@[simp] theorem State.setShaper_tmg (s : State) (level i : Nat) (x : Shaper) : (s.setShaper level i x).tmg = { s.tmg with shapers := nput s.tmg.shapers (tmgKey level i) x } := rfl

@[simp] theorem State.setShaper_kept (s : State) (level i : Nat) (x : Shaper) : (s.setShaper level i x).pending = s.pending ∧
    (s.setShaper level i x).draws = s.draws ∧ (s.setShaper level i x).regs = s.regs ∧ (s.setShaper level i x).ctrs = s.ctrs ∧
    (s.setShaper level i x).latches = s.latches ∧ (s.setShaper level i x).answer = s.answer ∧ (s.setShaper level i x).m = s.m ∧
    (s.setShaper level i x).otp = s.otp ∧ (s.setShaper level i x).pins = s.pins ∧ (s.setShaper level i x).rails = s.rails ∧
    (s.setShaper level i x).time = s.time ∧ (s.setShaper level i x).i2c = s.i2c ∧ (s.setShaper level i x).tap = s.tap ∧ (s.setShaper
    level i x).frec = s.frec ∧ (s.setShaper level i x).cur = s.cur ∧ (s.setShaper level i x).sup = s.sup ∧ (s.setShaper level i
    x).mgmt = s.mgmt ∧ (s.setShaper level i x).atr = s.atr ∧ (s.setShaper level i x).rgs = s.rgs ∧ (s.setShaper level i x).vlt = s.vlt
    ∧ (s.setShaper level i x).clo = s.clo ∧ (s.setShaper level i x).stk = s.stk ∧ (s.setShaper level i x).fwd = s.fwd ∧ (s.setShaper
    level i x).cas = s.cas ∧ (s.setShaper level i x).doc = s.doc ∧ (s.setShaper level i x).dsp = s.dsp ∧ (s.setShaper level i x).afb =
    s.afb ∧ (s.setShaper level i x).pgr = s.pgr ∧ (s.setShaper level i x).vde = s.vde ∧ (s.setShaper level i x).cmp = s.cmp ∧
    (s.setShaper level i x).ven = s.ven ∧ (s.setShaper level i x).mct = s.mct ∧ (s.setShaper level i x).objs = s.objs ∧ (s.setShaper
    level i x).stats = s.stats ∧ (s.setShaper level i x).gddr = s.gddr ∧ (s.setShaper level i x).poisoned = s.poisoned ∧ (s.setShaper
    level i x).wire = s.wire ∧ (s.setShaper level i x).programmed = s.programmed := by
  and_intros <;> rfl

@[simp] theorem State.setTags_tmg (s : State) (level i : Nat) (x : Tags) : (s.setTags level i x).tmg = { s.tmg with tags := nputD {} s.tmg.tags (tmgKey level i) x } := rfl

@[simp] theorem State.setTags_kept (s : State) (level i : Nat) (x : Tags) : (s.setTags level i x).pending = s.pending ∧ (s.setTags
    level i x).draws = s.draws ∧ (s.setTags level i x).regs = s.regs ∧ (s.setTags level i x).ctrs = s.ctrs ∧ (s.setTags level i
    x).latches = s.latches ∧ (s.setTags level i x).answer = s.answer ∧ (s.setTags level i x).m = s.m ∧ (s.setTags level i x).otp =
    s.otp ∧ (s.setTags level i x).pins = s.pins ∧ (s.setTags level i x).rails = s.rails ∧ (s.setTags level i x).time = s.time ∧
    (s.setTags level i x).i2c = s.i2c ∧ (s.setTags level i x).tap = s.tap ∧ (s.setTags level i x).frec = s.frec ∧ (s.setTags level i
    x).cur = s.cur ∧ (s.setTags level i x).sup = s.sup ∧ (s.setTags level i x).mgmt = s.mgmt ∧ (s.setTags level i x).atr = s.atr ∧
    (s.setTags level i x).rgs = s.rgs ∧ (s.setTags level i x).vlt = s.vlt ∧ (s.setTags level i x).clo = s.clo ∧ (s.setTags level i
    x).stk = s.stk ∧ (s.setTags level i x).fwd = s.fwd ∧ (s.setTags level i x).cas = s.cas ∧ (s.setTags level i x).doc = s.doc ∧
    (s.setTags level i x).dsp = s.dsp ∧ (s.setTags level i x).afb = s.afb ∧ (s.setTags level i x).pgr = s.pgr ∧ (s.setTags level i
    x).vde = s.vde ∧ (s.setTags level i x).cmp = s.cmp ∧ (s.setTags level i x).ven = s.ven ∧ (s.setTags level i x).mct = s.mct ∧
    (s.setTags level i x).objs = s.objs ∧ (s.setTags level i x).stats = s.stats ∧ (s.setTags level i x).gddr = s.gddr ∧ (s.setTags
    level i x).poisoned = s.poisoned ∧ (s.setTags level i x).wire = s.wire ∧ (s.setTags level i x).programmed = s.programmed := by
  and_intros <;> rfl

@[simp] theorem State.setVtime_tmg (s : State) (level i : Nat) (v : W64) : (s.setVtime level i v).tmg = { s.tmg with vtime := nputD 0 s.tmg.vtime (tmgKey level i) v } := rfl

@[simp] theorem State.setVtime_kept (s : State) (level i : Nat) (v : W64) : (s.setVtime level i v).pending = s.pending ∧
    (s.setVtime level i v).draws = s.draws ∧ (s.setVtime level i v).regs = s.regs ∧ (s.setVtime level i v).ctrs = s.ctrs ∧ (s.setVtime
    level i v).latches = s.latches ∧ (s.setVtime level i v).answer = s.answer ∧ (s.setVtime level i v).m = s.m ∧ (s.setVtime level i
    v).otp = s.otp ∧ (s.setVtime level i v).pins = s.pins ∧ (s.setVtime level i v).rails = s.rails ∧ (s.setVtime level i v).time =
    s.time ∧ (s.setVtime level i v).i2c = s.i2c ∧ (s.setVtime level i v).tap = s.tap ∧ (s.setVtime level i v).frec = s.frec ∧
    (s.setVtime level i v).cur = s.cur ∧ (s.setVtime level i v).sup = s.sup ∧ (s.setVtime level i v).mgmt = s.mgmt ∧ (s.setVtime level
    i v).atr = s.atr ∧ (s.setVtime level i v).rgs = s.rgs ∧ (s.setVtime level i v).vlt = s.vlt ∧ (s.setVtime level i v).clo = s.clo ∧
    (s.setVtime level i v).stk = s.stk ∧ (s.setVtime level i v).fwd = s.fwd ∧ (s.setVtime level i v).cas = s.cas ∧ (s.setVtime level i
    v).doc = s.doc ∧ (s.setVtime level i v).dsp = s.dsp ∧ (s.setVtime level i v).afb = s.afb ∧ (s.setVtime level i v).pgr = s.pgr ∧
    (s.setVtime level i v).vde = s.vde ∧ (s.setVtime level i v).cmp = s.cmp ∧ (s.setVtime level i v).ven = s.ven ∧ (s.setVtime level i
    v).mct = s.mct ∧ (s.setVtime level i v).objs = s.objs ∧ (s.setVtime level i v).stats = s.stats ∧ (s.setVtime level i v).gddr =
    s.gddr ∧ (s.setVtime level i v).poisoned = s.poisoned ∧ (s.setVtime level i v).wire = s.wire ∧ (s.setVtime level i v).programmed =
    s.programmed := by
  and_intros <;> rfl

@[simp] theorem State.setPort_atr (s : State) (p : Nat) (x : PortSt) : (s.setPort p x).atr = { s.atr with ports := nputD {} s.atr.ports p x } := rfl

@[simp] theorem State.setPort_kept (s : State) (p : Nat) (x : PortSt) : (s.setPort p x).pending = s.pending ∧ (s.setPort p
    x).draws = s.draws ∧ (s.setPort p x).regs = s.regs ∧ (s.setPort p x).ctrs = s.ctrs ∧ (s.setPort p x).latches = s.latches ∧
    (s.setPort p x).answer = s.answer ∧ (s.setPort p x).m = s.m ∧ (s.setPort p x).otp = s.otp ∧ (s.setPort p x).pins = s.pins ∧
    (s.setPort p x).rails = s.rails ∧ (s.setPort p x).time = s.time ∧ (s.setPort p x).i2c = s.i2c ∧ (s.setPort p x).tap = s.tap ∧
    (s.setPort p x).frec = s.frec ∧ (s.setPort p x).cur = s.cur ∧ (s.setPort p x).sup = s.sup ∧ (s.setPort p x).mgmt = s.mgmt ∧
    (s.setPort p x).rgs = s.rgs ∧ (s.setPort p x).vlt = s.vlt ∧ (s.setPort p x).clo = s.clo ∧ (s.setPort p x).stk = s.stk ∧ (s.setPort
    p x).fwd = s.fwd ∧ (s.setPort p x).tmg = s.tmg ∧ (s.setPort p x).cas = s.cas ∧ (s.setPort p x).doc = s.doc ∧ (s.setPort p x).dsp =
    s.dsp ∧ (s.setPort p x).afb = s.afb ∧ (s.setPort p x).pgr = s.pgr ∧ (s.setPort p x).vde = s.vde ∧ (s.setPort p x).cmp = s.cmp ∧
    (s.setPort p x).ven = s.ven ∧ (s.setPort p x).mct = s.mct ∧ (s.setPort p x).objs = s.objs ∧ (s.setPort p x).stats = s.stats ∧
    (s.setPort p x).gddr = s.gddr ∧ (s.setPort p x).poisoned = s.poisoned ∧ (s.setPort p x).wire = s.wire ∧ (s.setPort p x).programmed
    = s.programmed := by
  and_intros <;> rfl

@[simp] theorem State.setSlot_vlt (s : State) (i : Nat) (b : Bytes) : (s.setSlot i b).vlt = { s.vlt with slots := nputD (zeros 192) s.vlt.slots i b, ue := s.vlt.ue.filter (· ≠ i) } := rfl

@[simp] theorem State.setSlot_kept (s : State) (i : Nat) (b : Bytes) : (s.setSlot i b).pending = s.pending ∧ (s.setSlot i b).draws
    = s.draws ∧ (s.setSlot i b).regs = s.regs ∧ (s.setSlot i b).ctrs = s.ctrs ∧ (s.setSlot i b).latches = s.latches ∧ (s.setSlot i
    b).answer = s.answer ∧ (s.setSlot i b).m = s.m ∧ (s.setSlot i b).otp = s.otp ∧ (s.setSlot i b).pins = s.pins ∧ (s.setSlot i
    b).rails = s.rails ∧ (s.setSlot i b).time = s.time ∧ (s.setSlot i b).i2c = s.i2c ∧ (s.setSlot i b).tap = s.tap ∧ (s.setSlot i
    b).frec = s.frec ∧ (s.setSlot i b).cur = s.cur ∧ (s.setSlot i b).sup = s.sup ∧ (s.setSlot i b).mgmt = s.mgmt ∧ (s.setSlot i b).atr
    = s.atr ∧ (s.setSlot i b).rgs = s.rgs ∧ (s.setSlot i b).clo = s.clo ∧ (s.setSlot i b).stk = s.stk ∧ (s.setSlot i b).fwd = s.fwd ∧
    (s.setSlot i b).tmg = s.tmg ∧ (s.setSlot i b).cas = s.cas ∧ (s.setSlot i b).doc = s.doc ∧ (s.setSlot i b).dsp = s.dsp ∧ (s.setSlot
    i b).afb = s.afb ∧ (s.setSlot i b).pgr = s.pgr ∧ (s.setSlot i b).vde = s.vde ∧ (s.setSlot i b).cmp = s.cmp ∧ (s.setSlot i b).ven =
    s.ven ∧ (s.setSlot i b).mct = s.mct ∧ (s.setSlot i b).objs = s.objs ∧ (s.setSlot i b).stats = s.stats ∧ (s.setSlot i b).gddr =
    s.gddr ∧ (s.setSlot i b).poisoned = s.poisoned ∧ (s.setSlot i b).wire = s.wire ∧ (s.setSlot i b).programmed = s.programmed := by
  and_intros <;> rfl

@[simp] theorem State.setCtx_vlt (s : State) (st : Nat) (c : StreamCtx) : (s.setCtx st c).vlt = { s.vlt with ctx := nputD {} s.vlt.ctx st c } := rfl

@[simp] theorem State.setCtx_kept (s : State) (st : Nat) (c : StreamCtx) : (s.setCtx st c).pending = s.pending ∧ (s.setCtx st
    c).draws = s.draws ∧ (s.setCtx st c).regs = s.regs ∧ (s.setCtx st c).ctrs = s.ctrs ∧ (s.setCtx st c).latches = s.latches ∧
    (s.setCtx st c).answer = s.answer ∧ (s.setCtx st c).m = s.m ∧ (s.setCtx st c).otp = s.otp ∧ (s.setCtx st c).pins = s.pins ∧
    (s.setCtx st c).rails = s.rails ∧ (s.setCtx st c).time = s.time ∧ (s.setCtx st c).i2c = s.i2c ∧ (s.setCtx st c).tap = s.tap ∧
    (s.setCtx st c).frec = s.frec ∧ (s.setCtx st c).cur = s.cur ∧ (s.setCtx st c).sup = s.sup ∧ (s.setCtx st c).mgmt = s.mgmt ∧
    (s.setCtx st c).atr = s.atr ∧ (s.setCtx st c).rgs = s.rgs ∧ (s.setCtx st c).clo = s.clo ∧ (s.setCtx st c).stk = s.stk ∧ (s.setCtx
    st c).fwd = s.fwd ∧ (s.setCtx st c).tmg = s.tmg ∧ (s.setCtx st c).cas = s.cas ∧ (s.setCtx st c).doc = s.doc ∧ (s.setCtx st c).dsp
    = s.dsp ∧ (s.setCtx st c).afb = s.afb ∧ (s.setCtx st c).pgr = s.pgr ∧ (s.setCtx st c).vde = s.vde ∧ (s.setCtx st c).cmp = s.cmp ∧
    (s.setCtx st c).ven = s.ven ∧ (s.setCtx st c).mct = s.mct ∧ (s.setCtx st c).objs = s.objs ∧ (s.setCtx st c).stats = s.stats ∧
    (s.setCtx st c).gddr = s.gddr ∧ (s.setCtx st c).poisoned = s.poisoned ∧ (s.setCtx st c).wire = s.wire ∧ (s.setCtx st c).programmed
    = s.programmed := by
  and_intros <;> rfl

@[simp] theorem State.setFwdStream_fwd (s : State) (src : Nat) (x : FwdStream) : (s.setFwdStream src x).fwd = { s.fwd with streams := nputD {} s.fwd.streams src x } := rfl

@[simp] theorem State.setFwdStream_kept (s : State) (src : Nat) (x : FwdStream) : (s.setFwdStream src x).pending = s.pending ∧
    (s.setFwdStream src x).draws = s.draws ∧ (s.setFwdStream src x).regs = s.regs ∧ (s.setFwdStream src x).ctrs = s.ctrs ∧
    (s.setFwdStream src x).latches = s.latches ∧ (s.setFwdStream src x).answer = s.answer ∧ (s.setFwdStream src x).m = s.m ∧
    (s.setFwdStream src x).otp = s.otp ∧ (s.setFwdStream src x).pins = s.pins ∧ (s.setFwdStream src x).rails = s.rails ∧
    (s.setFwdStream src x).time = s.time ∧ (s.setFwdStream src x).i2c = s.i2c ∧ (s.setFwdStream src x).tap = s.tap ∧ (s.setFwdStream
    src x).frec = s.frec ∧ (s.setFwdStream src x).cur = s.cur ∧ (s.setFwdStream src x).sup = s.sup ∧ (s.setFwdStream src x).mgmt =
    s.mgmt ∧ (s.setFwdStream src x).atr = s.atr ∧ (s.setFwdStream src x).rgs = s.rgs ∧ (s.setFwdStream src x).vlt = s.vlt ∧
    (s.setFwdStream src x).clo = s.clo ∧ (s.setFwdStream src x).stk = s.stk ∧ (s.setFwdStream src x).tmg = s.tmg ∧ (s.setFwdStream src
    x).cas = s.cas ∧ (s.setFwdStream src x).doc = s.doc ∧ (s.setFwdStream src x).dsp = s.dsp ∧ (s.setFwdStream src x).afb = s.afb ∧
    (s.setFwdStream src x).pgr = s.pgr ∧ (s.setFwdStream src x).vde = s.vde ∧ (s.setFwdStream src x).cmp = s.cmp ∧ (s.setFwdStream src
    x).ven = s.ven ∧ (s.setFwdStream src x).mct = s.mct ∧ (s.setFwdStream src x).objs = s.objs ∧ (s.setFwdStream src x).stats =
    s.stats ∧ (s.setFwdStream src x).gddr = s.gddr ∧ (s.setFwdStream src x).poisoned = s.poisoned ∧ (s.setFwdStream src x).wire =
    s.wire ∧ (s.setFwdStream src x).programmed = s.programmed := by
  and_intros <;> rfl

@[simp] theorem State.setSub_fwd (s : State) (id : Nat) (e : Sub) : (s.setSub id e).fwd = { s.fwd with subs := nput s.fwd.subs id e } := rfl

@[simp] theorem State.setSub_kept (s : State) (id : Nat) (e : Sub) : (s.setSub id e).pending = s.pending ∧ (s.setSub id e).draws =
    s.draws ∧ (s.setSub id e).regs = s.regs ∧ (s.setSub id e).ctrs = s.ctrs ∧ (s.setSub id e).latches = s.latches ∧ (s.setSub id
    e).answer = s.answer ∧ (s.setSub id e).m = s.m ∧ (s.setSub id e).otp = s.otp ∧ (s.setSub id e).pins = s.pins ∧ (s.setSub id
    e).rails = s.rails ∧ (s.setSub id e).time = s.time ∧ (s.setSub id e).i2c = s.i2c ∧ (s.setSub id e).tap = s.tap ∧ (s.setSub id
    e).frec = s.frec ∧ (s.setSub id e).cur = s.cur ∧ (s.setSub id e).sup = s.sup ∧ (s.setSub id e).mgmt = s.mgmt ∧ (s.setSub id e).atr
    = s.atr ∧ (s.setSub id e).rgs = s.rgs ∧ (s.setSub id e).vlt = s.vlt ∧ (s.setSub id e).clo = s.clo ∧ (s.setSub id e).stk = s.stk ∧
    (s.setSub id e).tmg = s.tmg ∧ (s.setSub id e).cas = s.cas ∧ (s.setSub id e).doc = s.doc ∧ (s.setSub id e).dsp = s.dsp ∧ (s.setSub
    id e).afb = s.afb ∧ (s.setSub id e).pgr = s.pgr ∧ (s.setSub id e).vde = s.vde ∧ (s.setSub id e).cmp = s.cmp ∧ (s.setSub id e).ven
    = s.ven ∧ (s.setSub id e).mct = s.mct ∧ (s.setSub id e).objs = s.objs ∧ (s.setSub id e).stats = s.stats ∧ (s.setSub id e).gddr =
    s.gddr ∧ (s.setSub id e).poisoned = s.poisoned ∧ (s.setSub id e).wire = s.wire ∧ (s.setSub id e).programmed = s.programmed := by
  and_intros <;> rfl

@[simp] theorem State.setAttr_objs (s : State) (ty id a : Nat) (v : Bytes) : (s.setAttr ty id a v).objs = nmodify s.objs (objKey ty id) fun o => nput o a v := rfl

@[simp] theorem State.setAttr_kept (s : State) (ty id a : Nat) (v : Bytes) : (s.setAttr ty id a v).pending = s.pending ∧
    (s.setAttr ty id a v).draws = s.draws ∧ (s.setAttr ty id a v).regs = s.regs ∧ (s.setAttr ty id a v).ctrs = s.ctrs ∧ (s.setAttr ty
    id a v).latches = s.latches ∧ (s.setAttr ty id a v).answer = s.answer ∧ (s.setAttr ty id a v).m = s.m ∧ (s.setAttr ty id a v).otp
    = s.otp ∧ (s.setAttr ty id a v).pins = s.pins ∧ (s.setAttr ty id a v).rails = s.rails ∧ (s.setAttr ty id a v).time = s.time ∧
    (s.setAttr ty id a v).i2c = s.i2c ∧ (s.setAttr ty id a v).tap = s.tap ∧ (s.setAttr ty id a v).frec = s.frec ∧ (s.setAttr ty id a
    v).cur = s.cur ∧ (s.setAttr ty id a v).sup = s.sup ∧ (s.setAttr ty id a v).mgmt = s.mgmt ∧ (s.setAttr ty id a v).atr = s.atr ∧
    (s.setAttr ty id a v).rgs = s.rgs ∧ (s.setAttr ty id a v).vlt = s.vlt ∧ (s.setAttr ty id a v).clo = s.clo ∧ (s.setAttr ty id a
    v).stk = s.stk ∧ (s.setAttr ty id a v).fwd = s.fwd ∧ (s.setAttr ty id a v).tmg = s.tmg ∧ (s.setAttr ty id a v).cas = s.cas ∧
    (s.setAttr ty id a v).doc = s.doc ∧ (s.setAttr ty id a v).dsp = s.dsp ∧ (s.setAttr ty id a v).afb = s.afb ∧ (s.setAttr ty id a
    v).pgr = s.pgr ∧ (s.setAttr ty id a v).vde = s.vde ∧ (s.setAttr ty id a v).cmp = s.cmp ∧ (s.setAttr ty id a v).ven = s.ven ∧
    (s.setAttr ty id a v).mct = s.mct ∧ (s.setAttr ty id a v).stats = s.stats ∧ (s.setAttr ty id a v).gddr = s.gddr ∧ (s.setAttr ty id
    a v).poisoned = s.poisoned ∧ (s.setAttr ty id a v).wire = s.wire ∧ (s.setAttr ty id a v).programmed = s.programmed := by
  and_intros <;> rfl

@[simp] theorem State.setAudIn_afb (s : State) (st : Nat) (x : AudIn) : (s.setAudIn st x).afb = { s.afb with ins := nputD {} s.afb.ins st x } := rfl

@[simp] theorem State.setAudIn_kept (s : State) (st : Nat) (x : AudIn) : (s.setAudIn st x).pending = s.pending ∧ (s.setAudIn st
    x).draws = s.draws ∧ (s.setAudIn st x).regs = s.regs ∧ (s.setAudIn st x).ctrs = s.ctrs ∧ (s.setAudIn st x).latches = s.latches ∧
    (s.setAudIn st x).answer = s.answer ∧ (s.setAudIn st x).m = s.m ∧ (s.setAudIn st x).otp = s.otp ∧ (s.setAudIn st x).pins = s.pins
    ∧ (s.setAudIn st x).rails = s.rails ∧ (s.setAudIn st x).time = s.time ∧ (s.setAudIn st x).i2c = s.i2c ∧ (s.setAudIn st x).tap =
    s.tap ∧ (s.setAudIn st x).frec = s.frec ∧ (s.setAudIn st x).cur = s.cur ∧ (s.setAudIn st x).sup = s.sup ∧ (s.setAudIn st x).mgmt =
    s.mgmt ∧ (s.setAudIn st x).atr = s.atr ∧ (s.setAudIn st x).rgs = s.rgs ∧ (s.setAudIn st x).vlt = s.vlt ∧ (s.setAudIn st x).clo =
    s.clo ∧ (s.setAudIn st x).stk = s.stk ∧ (s.setAudIn st x).fwd = s.fwd ∧ (s.setAudIn st x).tmg = s.tmg ∧ (s.setAudIn st x).cas =
    s.cas ∧ (s.setAudIn st x).doc = s.doc ∧ (s.setAudIn st x).dsp = s.dsp ∧ (s.setAudIn st x).pgr = s.pgr ∧ (s.setAudIn st x).vde =
    s.vde ∧ (s.setAudIn st x).cmp = s.cmp ∧ (s.setAudIn st x).ven = s.ven ∧ (s.setAudIn st x).mct = s.mct ∧ (s.setAudIn st x).objs =
    s.objs ∧ (s.setAudIn st x).stats = s.stats ∧ (s.setAudIn st x).gddr = s.gddr ∧ (s.setAudIn st x).poisoned = s.poisoned ∧
    (s.setAudIn st x).wire = s.wire ∧ (s.setAudIn st x).programmed = s.programmed := by
  and_intros <;> rfl

@[simp] theorem State.setAudConf_afb (s : State) (c : Nat) (x : AudConf) : (s.setAudConf c x).afb = { s.afb with confs := nputD {} s.afb.confs c x } := rfl

@[simp] theorem State.setAudConf_kept (s : State) (c : Nat) (x : AudConf) : (s.setAudConf c x).pending = s.pending ∧ (s.setAudConf
    c x).draws = s.draws ∧ (s.setAudConf c x).regs = s.regs ∧ (s.setAudConf c x).ctrs = s.ctrs ∧ (s.setAudConf c x).latches =
    s.latches ∧ (s.setAudConf c x).answer = s.answer ∧ (s.setAudConf c x).m = s.m ∧ (s.setAudConf c x).otp = s.otp ∧ (s.setAudConf c
    x).pins = s.pins ∧ (s.setAudConf c x).rails = s.rails ∧ (s.setAudConf c x).time = s.time ∧ (s.setAudConf c x).i2c = s.i2c ∧
    (s.setAudConf c x).tap = s.tap ∧ (s.setAudConf c x).frec = s.frec ∧ (s.setAudConf c x).cur = s.cur ∧ (s.setAudConf c x).sup =
    s.sup ∧ (s.setAudConf c x).mgmt = s.mgmt ∧ (s.setAudConf c x).atr = s.atr ∧ (s.setAudConf c x).rgs = s.rgs ∧ (s.setAudConf c
    x).vlt = s.vlt ∧ (s.setAudConf c x).clo = s.clo ∧ (s.setAudConf c x).stk = s.stk ∧ (s.setAudConf c x).fwd = s.fwd ∧ (s.setAudConf
    c x).tmg = s.tmg ∧ (s.setAudConf c x).cas = s.cas ∧ (s.setAudConf c x).doc = s.doc ∧ (s.setAudConf c x).dsp = s.dsp ∧
    (s.setAudConf c x).pgr = s.pgr ∧ (s.setAudConf c x).vde = s.vde ∧ (s.setAudConf c x).cmp = s.cmp ∧ (s.setAudConf c x).ven = s.ven
    ∧ (s.setAudConf c x).mct = s.mct ∧ (s.setAudConf c x).objs = s.objs ∧ (s.setAudConf c x).stats = s.stats ∧ (s.setAudConf c x).gddr
    = s.gddr ∧ (s.setAudConf c x).poisoned = s.poisoned ∧ (s.setAudConf c x).wire = s.wire ∧ (s.setAudConf c x).programmed =
    s.programmed := by
  and_intros <;> rfl

@[simp] theorem State.setAudOut_afb (s : State) (o : Nat) (x : AudOut) : (s.setAudOut o x).afb = { s.afb with outs := nputD {} s.afb.outs o x } := rfl

@[simp] theorem State.setAudOut_kept (s : State) (o : Nat) (x : AudOut) : (s.setAudOut o x).pending = s.pending ∧ (s.setAudOut o
    x).draws = s.draws ∧ (s.setAudOut o x).regs = s.regs ∧ (s.setAudOut o x).ctrs = s.ctrs ∧ (s.setAudOut o x).latches = s.latches ∧
    (s.setAudOut o x).answer = s.answer ∧ (s.setAudOut o x).m = s.m ∧ (s.setAudOut o x).otp = s.otp ∧ (s.setAudOut o x).pins = s.pins
    ∧ (s.setAudOut o x).rails = s.rails ∧ (s.setAudOut o x).time = s.time ∧ (s.setAudOut o x).i2c = s.i2c ∧ (s.setAudOut o x).tap =
    s.tap ∧ (s.setAudOut o x).frec = s.frec ∧ (s.setAudOut o x).cur = s.cur ∧ (s.setAudOut o x).sup = s.sup ∧ (s.setAudOut o x).mgmt =
    s.mgmt ∧ (s.setAudOut o x).atr = s.atr ∧ (s.setAudOut o x).rgs = s.rgs ∧ (s.setAudOut o x).vlt = s.vlt ∧ (s.setAudOut o x).clo =
    s.clo ∧ (s.setAudOut o x).stk = s.stk ∧ (s.setAudOut o x).fwd = s.fwd ∧ (s.setAudOut o x).tmg = s.tmg ∧ (s.setAudOut o x).cas =
    s.cas ∧ (s.setAudOut o x).doc = s.doc ∧ (s.setAudOut o x).dsp = s.dsp ∧ (s.setAudOut o x).pgr = s.pgr ∧ (s.setAudOut o x).vde =
    s.vde ∧ (s.setAudOut o x).cmp = s.cmp ∧ (s.setAudOut o x).ven = s.ven ∧ (s.setAudOut o x).mct = s.mct ∧ (s.setAudOut o x).objs =
    s.objs ∧ (s.setAudOut o x).stats = s.stats ∧ (s.setAudOut o x).gddr = s.gddr ∧ (s.setAudOut o x).poisoned = s.poisoned ∧
    (s.setAudOut o x).wire = s.wire ∧ (s.setAudOut o x).programmed = s.programmed := by
  and_intros <;> rfl

@[simp] theorem State.setPeerDev_cas (s : State) (d : Nat) (x : PeerDev) : (s.setPeerDev d x).cas = { s.cas with peers := nputD {} s.cas.peers d x } := rfl

@[simp] theorem State.setPeerDev_kept (s : State) (d : Nat) (x : PeerDev) : (s.setPeerDev d x).pending = s.pending ∧ (s.setPeerDev
    d x).draws = s.draws ∧ (s.setPeerDev d x).regs = s.regs ∧ (s.setPeerDev d x).ctrs = s.ctrs ∧ (s.setPeerDev d x).latches =
    s.latches ∧ (s.setPeerDev d x).answer = s.answer ∧ (s.setPeerDev d x).m = s.m ∧ (s.setPeerDev d x).otp = s.otp ∧ (s.setPeerDev d
    x).pins = s.pins ∧ (s.setPeerDev d x).rails = s.rails ∧ (s.setPeerDev d x).time = s.time ∧ (s.setPeerDev d x).i2c = s.i2c ∧
    (s.setPeerDev d x).tap = s.tap ∧ (s.setPeerDev d x).frec = s.frec ∧ (s.setPeerDev d x).cur = s.cur ∧ (s.setPeerDev d x).sup =
    s.sup ∧ (s.setPeerDev d x).mgmt = s.mgmt ∧ (s.setPeerDev d x).atr = s.atr ∧ (s.setPeerDev d x).rgs = s.rgs ∧ (s.setPeerDev d
    x).vlt = s.vlt ∧ (s.setPeerDev d x).clo = s.clo ∧ (s.setPeerDev d x).stk = s.stk ∧ (s.setPeerDev d x).fwd = s.fwd ∧ (s.setPeerDev
    d x).tmg = s.tmg ∧ (s.setPeerDev d x).doc = s.doc ∧ (s.setPeerDev d x).dsp = s.dsp ∧ (s.setPeerDev d x).afb = s.afb ∧
    (s.setPeerDev d x).pgr = s.pgr ∧ (s.setPeerDev d x).vde = s.vde ∧ (s.setPeerDev d x).cmp = s.cmp ∧ (s.setPeerDev d x).ven = s.ven
    ∧ (s.setPeerDev d x).mct = s.mct ∧ (s.setPeerDev d x).objs = s.objs ∧ (s.setPeerDev d x).stats = s.stats ∧ (s.setPeerDev d x).gddr
    = s.gddr ∧ (s.setPeerDev d x).poisoned = s.poisoned ∧ (s.setPeerDev d x).wire = s.wire ∧ (s.setPeerDev d x).programmed =
    s.programmed := by
  and_intros <;> rfl

@[simp] theorem State.modStore_pgr (s : State) (id : Nat) (f : Store → Store) : (s.modStore id f).pgr = { s.pgr with stores := nmodify s.pgr.stores id f } := rfl

@[simp] theorem State.modStore_kept (s : State) (id : Nat) (f : Store → Store) : (s.modStore id f).pending = s.pending ∧
    (s.modStore id f).draws = s.draws ∧ (s.modStore id f).regs = s.regs ∧ (s.modStore id f).ctrs = s.ctrs ∧ (s.modStore id f).latches
    = s.latches ∧ (s.modStore id f).answer = s.answer ∧ (s.modStore id f).m = s.m ∧ (s.modStore id f).otp = s.otp ∧ (s.modStore id
    f).pins = s.pins ∧ (s.modStore id f).rails = s.rails ∧ (s.modStore id f).time = s.time ∧ (s.modStore id f).i2c = s.i2c ∧
    (s.modStore id f).tap = s.tap ∧ (s.modStore id f).frec = s.frec ∧ (s.modStore id f).cur = s.cur ∧ (s.modStore id f).sup = s.sup ∧
    (s.modStore id f).mgmt = s.mgmt ∧ (s.modStore id f).atr = s.atr ∧ (s.modStore id f).rgs = s.rgs ∧ (s.modStore id f).vlt = s.vlt ∧
    (s.modStore id f).clo = s.clo ∧ (s.modStore id f).stk = s.stk ∧ (s.modStore id f).fwd = s.fwd ∧ (s.modStore id f).tmg = s.tmg ∧
    (s.modStore id f).cas = s.cas ∧ (s.modStore id f).doc = s.doc ∧ (s.modStore id f).dsp = s.dsp ∧ (s.modStore id f).afb = s.afb ∧
    (s.modStore id f).vde = s.vde ∧ (s.modStore id f).cmp = s.cmp ∧ (s.modStore id f).ven = s.ven ∧ (s.modStore id f).mct = s.mct ∧
    (s.modStore id f).objs = s.objs ∧ (s.modStore id f).stats = s.stats ∧ (s.modStore id f).gddr = s.gddr ∧ (s.modStore id f).poisoned
    = s.poisoned ∧ (s.modStore id f).wire = s.wire ∧ (s.modStore id f).programmed = s.programmed := by
  and_intros <;> rfl

@[simp] theorem State.setDecCtx_vde (s : State) (st : Nat) (x : DecCtx) : (s.setDecCtx st x).vde = { s.vde with ctx := nput s.vde.ctx st x } := rfl

@[simp] theorem State.setDecCtx_kept (s : State) (st : Nat) (x : DecCtx) : (s.setDecCtx st x).pending = s.pending ∧ (s.setDecCtx
    st x).draws = s.draws ∧ (s.setDecCtx st x).regs = s.regs ∧ (s.setDecCtx st x).ctrs = s.ctrs ∧ (s.setDecCtx st x).latches =
    s.latches ∧ (s.setDecCtx st x).answer = s.answer ∧ (s.setDecCtx st x).m = s.m ∧ (s.setDecCtx st x).otp = s.otp ∧ (s.setDecCtx st
    x).pins = s.pins ∧ (s.setDecCtx st x).rails = s.rails ∧ (s.setDecCtx st x).time = s.time ∧ (s.setDecCtx st x).i2c = s.i2c ∧
    (s.setDecCtx st x).tap = s.tap ∧ (s.setDecCtx st x).frec = s.frec ∧ (s.setDecCtx st x).cur = s.cur ∧ (s.setDecCtx st x).sup =
    s.sup ∧ (s.setDecCtx st x).mgmt = s.mgmt ∧ (s.setDecCtx st x).atr = s.atr ∧ (s.setDecCtx st x).rgs = s.rgs ∧ (s.setDecCtx st
    x).vlt = s.vlt ∧ (s.setDecCtx st x).clo = s.clo ∧ (s.setDecCtx st x).stk = s.stk ∧ (s.setDecCtx st x).fwd = s.fwd ∧ (s.setDecCtx
    st x).tmg = s.tmg ∧ (s.setDecCtx st x).cas = s.cas ∧ (s.setDecCtx st x).doc = s.doc ∧ (s.setDecCtx st x).dsp = s.dsp ∧
    (s.setDecCtx st x).afb = s.afb ∧ (s.setDecCtx st x).pgr = s.pgr ∧ (s.setDecCtx st x).cmp = s.cmp ∧ (s.setDecCtx st x).ven = s.ven
    ∧ (s.setDecCtx st x).mct = s.mct ∧ (s.setDecCtx st x).objs = s.objs ∧ (s.setDecCtx st x).stats = s.stats ∧ (s.setDecCtx st x).gddr
    = s.gddr ∧ (s.setDecCtx st x).poisoned = s.poisoned ∧ (s.setDecCtx st x).wire = s.wire ∧ (s.setDecCtx st x).programmed =
    s.programmed := by
  and_intros <;> rfl

@[simp] theorem State.modDecCtx_vde (s : State) (st : Nat) (f : DecCtx → DecCtx) : (s.modDecCtx st f).vde = { s.vde with ctx := nmodify s.vde.ctx st f } := rfl

@[simp] theorem State.modDecCtx_kept (s : State) (st : Nat) (f : DecCtx → DecCtx) : (s.modDecCtx st f).pending = s.pending ∧
    (s.modDecCtx st f).draws = s.draws ∧ (s.modDecCtx st f).regs = s.regs ∧ (s.modDecCtx st f).ctrs = s.ctrs ∧ (s.modDecCtx st
    f).latches = s.latches ∧ (s.modDecCtx st f).answer = s.answer ∧ (s.modDecCtx st f).m = s.m ∧ (s.modDecCtx st f).otp = s.otp ∧
    (s.modDecCtx st f).pins = s.pins ∧ (s.modDecCtx st f).rails = s.rails ∧ (s.modDecCtx st f).time = s.time ∧ (s.modDecCtx st f).i2c
    = s.i2c ∧ (s.modDecCtx st f).tap = s.tap ∧ (s.modDecCtx st f).frec = s.frec ∧ (s.modDecCtx st f).cur = s.cur ∧ (s.modDecCtx st
    f).sup = s.sup ∧ (s.modDecCtx st f).mgmt = s.mgmt ∧ (s.modDecCtx st f).atr = s.atr ∧ (s.modDecCtx st f).rgs = s.rgs ∧ (s.modDecCtx
    st f).vlt = s.vlt ∧ (s.modDecCtx st f).clo = s.clo ∧ (s.modDecCtx st f).stk = s.stk ∧ (s.modDecCtx st f).fwd = s.fwd ∧
    (s.modDecCtx st f).tmg = s.tmg ∧ (s.modDecCtx st f).cas = s.cas ∧ (s.modDecCtx st f).doc = s.doc ∧ (s.modDecCtx st f).dsp = s.dsp
    ∧ (s.modDecCtx st f).afb = s.afb ∧ (s.modDecCtx st f).pgr = s.pgr ∧ (s.modDecCtx st f).cmp = s.cmp ∧ (s.modDecCtx st f).ven =
    s.ven ∧ (s.modDecCtx st f).mct = s.mct ∧ (s.modDecCtx st f).objs = s.objs ∧ (s.modDecCtx st f).stats = s.stats ∧ (s.modDecCtx st
    f).gddr = s.gddr ∧ (s.modDecCtx st f).poisoned = s.poisoned ∧ (s.modDecCtx st f).wire = s.wire ∧ (s.modDecCtx st f).programmed =
    s.programmed := by
  and_intros <;> rfl

@[simp] theorem State.setDecPipe_vde (s : State) (e : Nat) (l : List EnginePic) : (s.setDecPipe e l).vde = { s.vde with pipe := nputD [] s.vde.pipe e l } := rfl

@[simp] theorem State.setDecPipe_kept (s : State) (e : Nat) (l : List EnginePic) : (s.setDecPipe e l).pending = s.pending ∧
    (s.setDecPipe e l).draws = s.draws ∧ (s.setDecPipe e l).regs = s.regs ∧ (s.setDecPipe e l).ctrs = s.ctrs ∧ (s.setDecPipe e
    l).latches = s.latches ∧ (s.setDecPipe e l).answer = s.answer ∧ (s.setDecPipe e l).m = s.m ∧ (s.setDecPipe e l).otp = s.otp ∧
    (s.setDecPipe e l).pins = s.pins ∧ (s.setDecPipe e l).rails = s.rails ∧ (s.setDecPipe e l).time = s.time ∧ (s.setDecPipe e l).i2c
    = s.i2c ∧ (s.setDecPipe e l).tap = s.tap ∧ (s.setDecPipe e l).frec = s.frec ∧ (s.setDecPipe e l).cur = s.cur ∧ (s.setDecPipe e
    l).sup = s.sup ∧ (s.setDecPipe e l).mgmt = s.mgmt ∧ (s.setDecPipe e l).atr = s.atr ∧ (s.setDecPipe e l).rgs = s.rgs ∧
    (s.setDecPipe e l).vlt = s.vlt ∧ (s.setDecPipe e l).clo = s.clo ∧ (s.setDecPipe e l).stk = s.stk ∧ (s.setDecPipe e l).fwd = s.fwd
    ∧ (s.setDecPipe e l).tmg = s.tmg ∧ (s.setDecPipe e l).cas = s.cas ∧ (s.setDecPipe e l).doc = s.doc ∧ (s.setDecPipe e l).dsp =
    s.dsp ∧ (s.setDecPipe e l).afb = s.afb ∧ (s.setDecPipe e l).pgr = s.pgr ∧ (s.setDecPipe e l).cmp = s.cmp ∧ (s.setDecPipe e l).ven
    = s.ven ∧ (s.setDecPipe e l).mct = s.mct ∧ (s.setDecPipe e l).objs = s.objs ∧ (s.setDecPipe e l).stats = s.stats ∧ (s.setDecPipe e
    l).gddr = s.gddr ∧ (s.setDecPipe e l).poisoned = s.poisoned ∧ (s.setDecPipe e l).wire = s.wire ∧ (s.setDecPipe e l).programmed =
    s.programmed := by
  and_intros <;> rfl

@[simp] theorem State.setSurf_cmp (s : State) (o : Nat) (x : Surface) : (s.setSurf o x).cmp = { s.cmp with surf := nput s.cmp.surf o x } := rfl

@[simp] theorem State.setSurf_kept (s : State) (o : Nat) (x : Surface) : (s.setSurf o x).pending = s.pending ∧ (s.setSurf o
    x).draws = s.draws ∧ (s.setSurf o x).regs = s.regs ∧ (s.setSurf o x).ctrs = s.ctrs ∧ (s.setSurf o x).latches = s.latches ∧
    (s.setSurf o x).answer = s.answer ∧ (s.setSurf o x).m = s.m ∧ (s.setSurf o x).otp = s.otp ∧ (s.setSurf o x).pins = s.pins ∧
    (s.setSurf o x).rails = s.rails ∧ (s.setSurf o x).time = s.time ∧ (s.setSurf o x).i2c = s.i2c ∧ (s.setSurf o x).tap = s.tap ∧
    (s.setSurf o x).frec = s.frec ∧ (s.setSurf o x).cur = s.cur ∧ (s.setSurf o x).sup = s.sup ∧ (s.setSurf o x).mgmt = s.mgmt ∧
    (s.setSurf o x).atr = s.atr ∧ (s.setSurf o x).rgs = s.rgs ∧ (s.setSurf o x).vlt = s.vlt ∧ (s.setSurf o x).clo = s.clo ∧ (s.setSurf
    o x).stk = s.stk ∧ (s.setSurf o x).fwd = s.fwd ∧ (s.setSurf o x).tmg = s.tmg ∧ (s.setSurf o x).cas = s.cas ∧ (s.setSurf o x).doc =
    s.doc ∧ (s.setSurf o x).dsp = s.dsp ∧ (s.setSurf o x).afb = s.afb ∧ (s.setSurf o x).pgr = s.pgr ∧ (s.setSurf o x).vde = s.vde ∧
    (s.setSurf o x).ven = s.ven ∧ (s.setSurf o x).mct = s.mct ∧ (s.setSurf o x).objs = s.objs ∧ (s.setSurf o x).stats = s.stats ∧
    (s.setSurf o x).gddr = s.gddr ∧ (s.setSurf o x).poisoned = s.poisoned ∧ (s.setSurf o x).wire = s.wire ∧ (s.setSurf o x).programmed
    = s.programmed := by
  and_intros <;> rfl

@[simp] theorem State.setEncCtx_ven (s : State) (o : Nat) (x : EncCtx) : (s.setEncCtx o x).ven = { s.ven with ctx := nput s.ven.ctx o x } := rfl

@[simp] theorem State.setEncCtx_kept (s : State) (o : Nat) (x : EncCtx) : (s.setEncCtx o x).pending = s.pending ∧ (s.setEncCtx o
    x).draws = s.draws ∧ (s.setEncCtx o x).regs = s.regs ∧ (s.setEncCtx o x).ctrs = s.ctrs ∧ (s.setEncCtx o x).latches = s.latches ∧
    (s.setEncCtx o x).answer = s.answer ∧ (s.setEncCtx o x).m = s.m ∧ (s.setEncCtx o x).otp = s.otp ∧ (s.setEncCtx o x).pins = s.pins
    ∧ (s.setEncCtx o x).rails = s.rails ∧ (s.setEncCtx o x).time = s.time ∧ (s.setEncCtx o x).i2c = s.i2c ∧ (s.setEncCtx o x).tap =
    s.tap ∧ (s.setEncCtx o x).frec = s.frec ∧ (s.setEncCtx o x).cur = s.cur ∧ (s.setEncCtx o x).sup = s.sup ∧ (s.setEncCtx o x).mgmt =
    s.mgmt ∧ (s.setEncCtx o x).atr = s.atr ∧ (s.setEncCtx o x).rgs = s.rgs ∧ (s.setEncCtx o x).vlt = s.vlt ∧ (s.setEncCtx o x).clo =
    s.clo ∧ (s.setEncCtx o x).stk = s.stk ∧ (s.setEncCtx o x).fwd = s.fwd ∧ (s.setEncCtx o x).tmg = s.tmg ∧ (s.setEncCtx o x).cas =
    s.cas ∧ (s.setEncCtx o x).doc = s.doc ∧ (s.setEncCtx o x).dsp = s.dsp ∧ (s.setEncCtx o x).afb = s.afb ∧ (s.setEncCtx o x).pgr =
    s.pgr ∧ (s.setEncCtx o x).vde = s.vde ∧ (s.setEncCtx o x).cmp = s.cmp ∧ (s.setEncCtx o x).mct = s.mct ∧ (s.setEncCtx o x).objs =
    s.objs ∧ (s.setEncCtx o x).stats = s.stats ∧ (s.setEncCtx o x).gddr = s.gddr ∧ (s.setEncCtx o x).poisoned = s.poisoned ∧
    (s.setEncCtx o x).wire = s.wire ∧ (s.setEncCtx o x).programmed = s.programmed := by
  and_intros <;> rfl

@[simp] theorem State.modEncCtx_ven (s : State) (o : Nat) (f : EncCtx → EncCtx) : (s.modEncCtx o f).ven = { s.ven with ctx := nmodify s.ven.ctx o f } := rfl

@[simp] theorem State.modEncCtx_kept (s : State) (o : Nat) (f : EncCtx → EncCtx) : (s.modEncCtx o f).pending = s.pending ∧
    (s.modEncCtx o f).draws = s.draws ∧ (s.modEncCtx o f).regs = s.regs ∧ (s.modEncCtx o f).ctrs = s.ctrs ∧ (s.modEncCtx o f).latches
    = s.latches ∧ (s.modEncCtx o f).answer = s.answer ∧ (s.modEncCtx o f).m = s.m ∧ (s.modEncCtx o f).otp = s.otp ∧ (s.modEncCtx o
    f).pins = s.pins ∧ (s.modEncCtx o f).rails = s.rails ∧ (s.modEncCtx o f).time = s.time ∧ (s.modEncCtx o f).i2c = s.i2c ∧
    (s.modEncCtx o f).tap = s.tap ∧ (s.modEncCtx o f).frec = s.frec ∧ (s.modEncCtx o f).cur = s.cur ∧ (s.modEncCtx o f).sup = s.sup ∧
    (s.modEncCtx o f).mgmt = s.mgmt ∧ (s.modEncCtx o f).atr = s.atr ∧ (s.modEncCtx o f).rgs = s.rgs ∧ (s.modEncCtx o f).vlt = s.vlt ∧
    (s.modEncCtx o f).clo = s.clo ∧ (s.modEncCtx o f).stk = s.stk ∧ (s.modEncCtx o f).fwd = s.fwd ∧ (s.modEncCtx o f).tmg = s.tmg ∧
    (s.modEncCtx o f).cas = s.cas ∧ (s.modEncCtx o f).doc = s.doc ∧ (s.modEncCtx o f).dsp = s.dsp ∧ (s.modEncCtx o f).afb = s.afb ∧
    (s.modEncCtx o f).pgr = s.pgr ∧ (s.modEncCtx o f).vde = s.vde ∧ (s.modEncCtx o f).cmp = s.cmp ∧ (s.modEncCtx o f).mct = s.mct ∧
    (s.modEncCtx o f).objs = s.objs ∧ (s.modEncCtx o f).stats = s.stats ∧ (s.modEncCtx o f).gddr = s.gddr ∧ (s.modEncCtx o f).poisoned
    = s.poisoned ∧ (s.modEncCtx o f).wire = s.wire ∧ (s.modEncCtx o f).programmed = s.programmed := by
  and_intros <;> rfl

@[simp] theorem State.setEncFrame_ven (s : State) (e : Nat) (x : Option EngineFrame) : (s.setEncFrame e x).ven = { s.ven with frame := nset s.ven.frame e x } := rfl

@[simp] theorem State.setEncFrame_kept (s : State) (e : Nat) (x : Option EngineFrame) : (s.setEncFrame e x).pending = s.pending ∧
    (s.setEncFrame e x).draws = s.draws ∧ (s.setEncFrame e x).regs = s.regs ∧ (s.setEncFrame e x).ctrs = s.ctrs ∧ (s.setEncFrame e
    x).latches = s.latches ∧ (s.setEncFrame e x).answer = s.answer ∧ (s.setEncFrame e x).m = s.m ∧ (s.setEncFrame e x).otp = s.otp ∧
    (s.setEncFrame e x).pins = s.pins ∧ (s.setEncFrame e x).rails = s.rails ∧ (s.setEncFrame e x).time = s.time ∧ (s.setEncFrame e
    x).i2c = s.i2c ∧ (s.setEncFrame e x).tap = s.tap ∧ (s.setEncFrame e x).frec = s.frec ∧ (s.setEncFrame e x).cur = s.cur ∧
    (s.setEncFrame e x).sup = s.sup ∧ (s.setEncFrame e x).mgmt = s.mgmt ∧ (s.setEncFrame e x).atr = s.atr ∧ (s.setEncFrame e x).rgs =
    s.rgs ∧ (s.setEncFrame e x).vlt = s.vlt ∧ (s.setEncFrame e x).clo = s.clo ∧ (s.setEncFrame e x).stk = s.stk ∧ (s.setEncFrame e
    x).fwd = s.fwd ∧ (s.setEncFrame e x).tmg = s.tmg ∧ (s.setEncFrame e x).cas = s.cas ∧ (s.setEncFrame e x).doc = s.doc ∧
    (s.setEncFrame e x).dsp = s.dsp ∧ (s.setEncFrame e x).afb = s.afb ∧ (s.setEncFrame e x).pgr = s.pgr ∧ (s.setEncFrame e x).vde =
    s.vde ∧ (s.setEncFrame e x).cmp = s.cmp ∧ (s.setEncFrame e x).mct = s.mct ∧ (s.setEncFrame e x).objs = s.objs ∧ (s.setEncFrame e
    x).stats = s.stats ∧ (s.setEncFrame e x).gddr = s.gddr ∧ (s.setEncFrame e x).poisoned = s.poisoned ∧ (s.setEncFrame e x).wire =
    s.wire ∧ (s.setEncFrame e x).programmed = s.programmed := by
  and_intros <;> rfl

@[simp] theorem State.rsetFld_kept (s : State) (r : Reg) (u i lo len n : Nat) : (s.rsetFld r u i lo len n).pending = s.pending ∧
    (s.rsetFld r u i lo len n).draws = s.draws ∧ (s.rsetFld r u i lo len n).ctrs = s.ctrs ∧ (s.rsetFld r u i lo len n).latches =
    s.latches ∧ (s.rsetFld r u i lo len n).answer = s.answer ∧ (s.rsetFld r u i lo len n).m = s.m ∧ (s.rsetFld r u i lo len n).otp =
    s.otp ∧ (s.rsetFld r u i lo len n).pins = s.pins ∧ (s.rsetFld r u i lo len n).rails = s.rails ∧ (s.rsetFld r u i lo len n).time =
    s.time ∧ (s.rsetFld r u i lo len n).i2c = s.i2c ∧ (s.rsetFld r u i lo len n).tap = s.tap ∧ (s.rsetFld r u i lo len n).frec =
    s.frec ∧ (s.rsetFld r u i lo len n).cur = s.cur ∧ (s.rsetFld r u i lo len n).sup = s.sup ∧ (s.rsetFld r u i lo len n).mgmt =
    s.mgmt ∧ (s.rsetFld r u i lo len n).atr = s.atr ∧ (s.rsetFld r u i lo len n).rgs = s.rgs ∧ (s.rsetFld r u i lo len n).vlt = s.vlt
    ∧ (s.rsetFld r u i lo len n).clo = s.clo ∧ (s.rsetFld r u i lo len n).stk = s.stk ∧ (s.rsetFld r u i lo len n).fwd = s.fwd ∧
    (s.rsetFld r u i lo len n).tmg = s.tmg ∧ (s.rsetFld r u i lo len n).cas = s.cas ∧ (s.rsetFld r u i lo len n).doc = s.doc ∧
    (s.rsetFld r u i lo len n).dsp = s.dsp ∧ (s.rsetFld r u i lo len n).afb = s.afb ∧ (s.rsetFld r u i lo len n).pgr = s.pgr ∧
    (s.rsetFld r u i lo len n).vde = s.vde ∧ (s.rsetFld r u i lo len n).cmp = s.cmp ∧ (s.rsetFld r u i lo len n).ven = s.ven ∧
    (s.rsetFld r u i lo len n).mct = s.mct ∧ (s.rsetFld r u i lo len n).objs = s.objs ∧ (s.rsetFld r u i lo len n).stats = s.stats ∧
    (s.rsetFld r u i lo len n).gddr = s.gddr ∧ (s.rsetFld r u i lo len n).poisoned = s.poisoned ∧ (s.rsetFld r u i lo len n).wire =
    s.wire ∧ (s.rsetFld r u i lo len n).programmed = s.programmed := by
  and_intros <;> rfl

@[simp] theorem State.rbit_kept (s : State) (r : Reg) (u i b : Nat) : (s.rbit r u i b).pending = s.pending ∧ (s.rbit r u i
    b).draws = s.draws ∧ (s.rbit r u i b).ctrs = s.ctrs ∧ (s.rbit r u i b).latches = s.latches ∧ (s.rbit r u i b).answer = s.answer ∧
    (s.rbit r u i b).m = s.m ∧ (s.rbit r u i b).otp = s.otp ∧ (s.rbit r u i b).pins = s.pins ∧ (s.rbit r u i b).rails = s.rails ∧
    (s.rbit r u i b).time = s.time ∧ (s.rbit r u i b).i2c = s.i2c ∧ (s.rbit r u i b).tap = s.tap ∧ (s.rbit r u i b).frec = s.frec ∧
    (s.rbit r u i b).cur = s.cur ∧ (s.rbit r u i b).sup = s.sup ∧ (s.rbit r u i b).mgmt = s.mgmt ∧ (s.rbit r u i b).atr = s.atr ∧
    (s.rbit r u i b).rgs = s.rgs ∧ (s.rbit r u i b).vlt = s.vlt ∧ (s.rbit r u i b).clo = s.clo ∧ (s.rbit r u i b).stk = s.stk ∧
    (s.rbit r u i b).fwd = s.fwd ∧ (s.rbit r u i b).tmg = s.tmg ∧ (s.rbit r u i b).cas = s.cas ∧ (s.rbit r u i b).doc = s.doc ∧
    (s.rbit r u i b).dsp = s.dsp ∧ (s.rbit r u i b).afb = s.afb ∧ (s.rbit r u i b).pgr = s.pgr ∧ (s.rbit r u i b).vde = s.vde ∧
    (s.rbit r u i b).cmp = s.cmp ∧ (s.rbit r u i b).ven = s.ven ∧ (s.rbit r u i b).mct = s.mct ∧ (s.rbit r u i b).objs = s.objs ∧
    (s.rbit r u i b).stats = s.stats ∧ (s.rbit r u i b).gddr = s.gddr ∧ (s.rbit r u i b).poisoned = s.poisoned ∧ (s.rbit r u i b).wire
    = s.wire ∧ (s.rbit r u i b).programmed = s.programmed := by
  and_intros <;> rfl

@[simp] theorem State.rcount_kept (s : State) (r : Reg) (u i lo len n : Nat) : (s.rcount r u i lo len n).pending = s.pending ∧
    (s.rcount r u i lo len n).draws = s.draws ∧ (s.rcount r u i lo len n).ctrs = s.ctrs ∧ (s.rcount r u i lo len n).latches =
    s.latches ∧ (s.rcount r u i lo len n).answer = s.answer ∧ (s.rcount r u i lo len n).m = s.m ∧ (s.rcount r u i lo len n).otp =
    s.otp ∧ (s.rcount r u i lo len n).pins = s.pins ∧ (s.rcount r u i lo len n).rails = s.rails ∧ (s.rcount r u i lo len n).time =
    s.time ∧ (s.rcount r u i lo len n).i2c = s.i2c ∧ (s.rcount r u i lo len n).tap = s.tap ∧ (s.rcount r u i lo len n).frec = s.frec ∧
    (s.rcount r u i lo len n).cur = s.cur ∧ (s.rcount r u i lo len n).sup = s.sup ∧ (s.rcount r u i lo len n).mgmt = s.mgmt ∧
    (s.rcount r u i lo len n).atr = s.atr ∧ (s.rcount r u i lo len n).rgs = s.rgs ∧ (s.rcount r u i lo len n).vlt = s.vlt ∧ (s.rcount
    r u i lo len n).clo = s.clo ∧ (s.rcount r u i lo len n).stk = s.stk ∧ (s.rcount r u i lo len n).fwd = s.fwd ∧ (s.rcount r u i lo
    len n).tmg = s.tmg ∧ (s.rcount r u i lo len n).cas = s.cas ∧ (s.rcount r u i lo len n).doc = s.doc ∧ (s.rcount r u i lo len n).dsp
    = s.dsp ∧ (s.rcount r u i lo len n).afb = s.afb ∧ (s.rcount r u i lo len n).pgr = s.pgr ∧ (s.rcount r u i lo len n).vde = s.vde ∧
    (s.rcount r u i lo len n).cmp = s.cmp ∧ (s.rcount r u i lo len n).ven = s.ven ∧ (s.rcount r u i lo len n).mct = s.mct ∧ (s.rcount
    r u i lo len n).objs = s.objs ∧ (s.rcount r u i lo len n).stats = s.stats ∧ (s.rcount r u i lo len n).gddr = s.gddr ∧ (s.rcount r
    u i lo len n).poisoned = s.poisoned ∧ (s.rcount r u i lo len n).wire = s.wire ∧ (s.rcount r u i lo len n).programmed =
    s.programmed := by
  and_intros <;> rfl

@[simp] theorem State.cinc_kept (s : State) (r : Reg) (u i : Nat) : (s.cinc r u i).pending = s.pending ∧ (s.cinc r u i).draws =
    s.draws ∧ (s.cinc r u i).regs = s.regs ∧ (s.cinc r u i).latches = s.latches ∧ (s.cinc r u i).answer = s.answer ∧ (s.cinc r u i).m
    = s.m ∧ (s.cinc r u i).otp = s.otp ∧ (s.cinc r u i).pins = s.pins ∧ (s.cinc r u i).rails = s.rails ∧ (s.cinc r u i).time = s.time
    ∧ (s.cinc r u i).i2c = s.i2c ∧ (s.cinc r u i).tap = s.tap ∧ (s.cinc r u i).frec = s.frec ∧ (s.cinc r u i).cur = s.cur ∧ (s.cinc r
    u i).sup = s.sup ∧ (s.cinc r u i).mgmt = s.mgmt ∧ (s.cinc r u i).atr = s.atr ∧ (s.cinc r u i).rgs = s.rgs ∧ (s.cinc r u i).vlt =
    s.vlt ∧ (s.cinc r u i).clo = s.clo ∧ (s.cinc r u i).stk = s.stk ∧ (s.cinc r u i).fwd = s.fwd ∧ (s.cinc r u i).tmg = s.tmg ∧
    (s.cinc r u i).cas = s.cas ∧ (s.cinc r u i).doc = s.doc ∧ (s.cinc r u i).dsp = s.dsp ∧ (s.cinc r u i).afb = s.afb ∧ (s.cinc r u
    i).pgr = s.pgr ∧ (s.cinc r u i).vde = s.vde ∧ (s.cinc r u i).cmp = s.cmp ∧ (s.cinc r u i).ven = s.ven ∧ (s.cinc r u i).mct = s.mct
    ∧ (s.cinc r u i).objs = s.objs ∧ (s.cinc r u i).stats = s.stats ∧ (s.cinc r u i).gddr = s.gddr ∧ (s.cinc r u i).poisoned =
    s.poisoned ∧ (s.cinc r u i).wire = s.wire ∧ (s.cinc r u i).programmed = s.programmed := by
  and_intros <;> rfl

@[simp] theorem State.sadd_kept (s : State) (ty id num n : Nat) : (s.sadd ty id num n).pending = s.pending ∧ (s.sadd ty id num
    n).draws = s.draws ∧ (s.sadd ty id num n).regs = s.regs ∧ (s.sadd ty id num n).ctrs = s.ctrs ∧ (s.sadd ty id num n).latches =
    s.latches ∧ (s.sadd ty id num n).answer = s.answer ∧ (s.sadd ty id num n).m = s.m ∧ (s.sadd ty id num n).otp = s.otp ∧ (s.sadd ty
    id num n).pins = s.pins ∧ (s.sadd ty id num n).rails = s.rails ∧ (s.sadd ty id num n).time = s.time ∧ (s.sadd ty id num n).i2c =
    s.i2c ∧ (s.sadd ty id num n).tap = s.tap ∧ (s.sadd ty id num n).frec = s.frec ∧ (s.sadd ty id num n).cur = s.cur ∧ (s.sadd ty id
    num n).sup = s.sup ∧ (s.sadd ty id num n).mgmt = s.mgmt ∧ (s.sadd ty id num n).atr = s.atr ∧ (s.sadd ty id num n).rgs = s.rgs ∧
    (s.sadd ty id num n).vlt = s.vlt ∧ (s.sadd ty id num n).clo = s.clo ∧ (s.sadd ty id num n).stk = s.stk ∧ (s.sadd ty id num n).fwd
    = s.fwd ∧ (s.sadd ty id num n).tmg = s.tmg ∧ (s.sadd ty id num n).cas = s.cas ∧ (s.sadd ty id num n).doc = s.doc ∧ (s.sadd ty id
    num n).dsp = s.dsp ∧ (s.sadd ty id num n).afb = s.afb ∧ (s.sadd ty id num n).pgr = s.pgr ∧ (s.sadd ty id num n).vde = s.vde ∧
    (s.sadd ty id num n).cmp = s.cmp ∧ (s.sadd ty id num n).ven = s.ven ∧ (s.sadd ty id num n).mct = s.mct ∧ (s.sadd ty id num n).objs
    = s.objs ∧ (s.sadd ty id num n).gddr = s.gddr ∧ (s.sadd ty id num n).poisoned = s.poisoned ∧ (s.sadd ty id num n).wire = s.wire ∧
    (s.sadd ty id num n).programmed = s.programmed := by
  and_intros <;> rfl

@[simp] theorem State.sinc_kept (s : State) (ty id num : Nat) : (s.sinc ty id num).pending = s.pending ∧ (s.sinc ty id num).draws
    = s.draws ∧ (s.sinc ty id num).regs = s.regs ∧ (s.sinc ty id num).ctrs = s.ctrs ∧ (s.sinc ty id num).latches = s.latches ∧ (s.sinc
    ty id num).answer = s.answer ∧ (s.sinc ty id num).m = s.m ∧ (s.sinc ty id num).otp = s.otp ∧ (s.sinc ty id num).pins = s.pins ∧
    (s.sinc ty id num).rails = s.rails ∧ (s.sinc ty id num).time = s.time ∧ (s.sinc ty id num).i2c = s.i2c ∧ (s.sinc ty id num).tap =
    s.tap ∧ (s.sinc ty id num).frec = s.frec ∧ (s.sinc ty id num).cur = s.cur ∧ (s.sinc ty id num).sup = s.sup ∧ (s.sinc ty id
    num).mgmt = s.mgmt ∧ (s.sinc ty id num).atr = s.atr ∧ (s.sinc ty id num).rgs = s.rgs ∧ (s.sinc ty id num).vlt = s.vlt ∧ (s.sinc ty
    id num).clo = s.clo ∧ (s.sinc ty id num).stk = s.stk ∧ (s.sinc ty id num).fwd = s.fwd ∧ (s.sinc ty id num).tmg = s.tmg ∧ (s.sinc
    ty id num).cas = s.cas ∧ (s.sinc ty id num).doc = s.doc ∧ (s.sinc ty id num).dsp = s.dsp ∧ (s.sinc ty id num).afb = s.afb ∧
    (s.sinc ty id num).pgr = s.pgr ∧ (s.sinc ty id num).vde = s.vde ∧ (s.sinc ty id num).cmp = s.cmp ∧ (s.sinc ty id num).ven = s.ven
    ∧ (s.sinc ty id num).mct = s.mct ∧ (s.sinc ty id num).objs = s.objs ∧ (s.sinc ty id num).gddr = s.gddr ∧ (s.sinc ty id
    num).poisoned = s.poisoned ∧ (s.sinc ty id num).wire = s.wire ∧ (s.sinc ty id num).programmed = s.programmed := by
  and_intros <;> rfl

@[simp] theorem State.setCore_kept (s : State) (c : Nat) (x : DspCore) : (s.setCore c x).pending = s.pending ∧ (s.setCore c
    x).draws = s.draws ∧ (s.setCore c x).regs = s.regs ∧ (s.setCore c x).ctrs = s.ctrs ∧ (s.setCore c x).latches = s.latches ∧
    (s.setCore c x).answer = s.answer ∧ (s.setCore c x).m = s.m ∧ (s.setCore c x).otp = s.otp ∧ (s.setCore c x).pins = s.pins ∧
    (s.setCore c x).rails = s.rails ∧ (s.setCore c x).time = s.time ∧ (s.setCore c x).i2c = s.i2c ∧ (s.setCore c x).tap = s.tap ∧
    (s.setCore c x).frec = s.frec ∧ (s.setCore c x).cur = s.cur ∧ (s.setCore c x).sup = s.sup ∧ (s.setCore c x).mgmt = s.mgmt ∧
    (s.setCore c x).atr = s.atr ∧ (s.setCore c x).rgs = s.rgs ∧ (s.setCore c x).vlt = s.vlt ∧ (s.setCore c x).clo = s.clo ∧ (s.setCore
    c x).stk = s.stk ∧ (s.setCore c x).fwd = s.fwd ∧ (s.setCore c x).tmg = s.tmg ∧ (s.setCore c x).cas = s.cas ∧ (s.setCore c x).doc =
    s.doc ∧ (s.setCore c x).afb = s.afb ∧ (s.setCore c x).pgr = s.pgr ∧ (s.setCore c x).vde = s.vde ∧ (s.setCore c x).cmp = s.cmp ∧
    (s.setCore c x).ven = s.ven ∧ (s.setCore c x).mct = s.mct ∧ (s.setCore c x).objs = s.objs ∧ (s.setCore c x).stats = s.stats ∧
    (s.setCore c x).gddr = s.gddr ∧ (s.setCore c x).poisoned = s.poisoned ∧ (s.setCore c x).wire = s.wire ∧ (s.setCore c x).programmed
    = s.programmed := by
  and_intros <;> rfl

end Sys2Proof.Machine
end

