-- ==== Sys2Proof/Tests/Slice0.lean ====
section
/-!
SUPPORT. Tests: well-formedness smoke tests, words and values from the specification, and for every statement with
hypotheses a concrete state that meets them.
-/

namespace Sys2Proof.Tests

open Sys2Proof Sys2Proof.Machine

set_option autoImplicit false
set_option Elab.async false

/-! ### Well-formedness: each check refuses an ill-formed term -/

/-- A datagram's port, addresses and lengths. -/
theorem test_wf_datagram :
    (Instr.hello ⟨95, zeros 6, false, 1, 2, 3, 4, [1]⟩).wf = true ∧ (Instr.hello ⟨96, zeros 6, false, 1, 2, 3, 4, []⟩).wf = false ∧
      (Instr.read ⟨0, zeros 5, false, 1, 2, 3, 4, []⟩).wf = false ∧ (Instr.write ⟨0, zeros 6, false, 2 ^ 32, 2, 3, 4, []⟩).wf = false ∧
      (Instr.write ⟨0, zeros 6, true, 2 ^ 32, 2, 3, 4, []⟩).wf = true ∧ (Instr.stats ⟨0, zeros 6, true, 1, 2 ^ 128, 3, 4, []⟩).wf = false ∧
      (Instr.abort ⟨0, zeros 6, false, 1, 2, 65536, 4, []⟩).wf = false ∧ (Instr.verify ⟨0, zeros 6, false, 1, 2, 3, 65536, []⟩).wf = false := by decide

/-- What boot and the chip level carry. -/
theorem test_wf_chip :
    (Instr.offTransition (.porbLow 0)).wf = false ∧ (Instr.powerOn 1048576 true).wf = false ∧ (Instr.powerUpDone ⟨[], [], 0, [], 0⟩).wf = false ∧
      (Instr.powerUpDone ⟨[1], [2], 0, List.replicate 48 (9, 9), 0⟩).wf = false ∧ (Instr.powerUpDone ⟨[48], [], 0, List.replicate 48 (9, 9), 0⟩).wf = false ∧
      (Instr.selftestDone [.decode 4]).wf = false ∧ (Instr.selftestDone [.cluster 16, .sramRow 4 3 4095 true]).wf = true ∧
      (Instr.jtagProvision (zeros 47)).wf = false ∧ (Instr.jtagReturn [] (2 ^ 384) 0 0 0).wf = false ∧ (Instr.cellTimeout 1 6 0 ⟨0, 0, .untied⟩).wf = false ∧
      (Instr.cellTimeout 1 5 4096 ⟨0, 0, .untied⟩).wf = false ∧ (Instr.cellTimeout 1 0 9 ⟨0, 0, .sub 1048576⟩).wf = false ∧
      (Instr.blockResetDone 5 1).wf = false ∧ (Instr.cdcParityError 2 33 ⟨0, 1⟩).wf = false ∧
      (Instr.clockInputLost (.lref 4)).wf = false ∧ (Instr.railStepTimeout 19).wf = false := by decide +kernel

/-- What supervision and the pins carry. -/
theorem test_wf_supervision :
    (Instr.supervisorDecision [.wing 4 0]).wf = false ∧ (Instr.supervisorDecision [.part (.pipeline 4) 0]).wf = false ∧
      (Instr.supervisorDecision [.checkerFailed 8]).wf = false ∧ (Instr.supervisorDecision [.chip 32]).wf = false ∧
      (Instr.blockWatchdogExpiry 3 ⟨5, 0⟩).wf = false ∧ (Instr.blockWatchdogExpiry 3 ⟨0, 0⟩).wf = true ∧ (Instr.heartbeatMiss 0).wf = false ∧ (Instr.tempSample []).wf = false ∧
      (Instr.voltageSample []).wf = false ∧ (Instr.processSample []).wf = false ∧ (Instr.i2cRead 128 none 1).wf = false ∧
      (Instr.i2cWrite 128 0 []).wf = false := by decide

/-- The headers of a picture of 16 by 16 samples that refers to none, and its result. -/
def testHead : PicHead := ⟨16, 16, 8, 1, .constrainedBaseline, 40, false, false, 0, 0, [], [], none, [0], 0, none, false, []⟩
def testDone : PicDone := ⟨false, false, [], 0, true, 0, 1, [], [], [], [], []⟩

/-- What the data path, the Docent and the media engines carry. -/
theorem test_wf_wings :
    (Instr.trainingDone 0 (List.replicate 9 0) ⟨[], []⟩).wf = false ∧ (Instr.receiverLock ⟨0, List.replicate 9 0⟩).wf = false ∧ (Instr.macReceive 0 (zeros 65535) ⟨0, 0, 0⟩).wf = true ∧
      (Instr.registrarParse 0 [131072]).wf = false ∧ (Instr.alloc (.core 272 0) 1 false false).wf = false ∧ (Instr.alloc (.core 0 8) 1 false false).wf = false ∧
      (Instr.inc (.hw 1) 0 0).wf = false ∧ (Instr.enqueue (.hw 1) 0 { kind := 16 }).wf = false ∧ (Instr.enqueue (.hw 1) 0 { len := 2 ^ 23 }).wf = false ∧
      (Instr.descriptorExtend 0 (2 ^ 22 + 1) true false).wf = false ∧ (Instr.moveGo 0 (zeros 19)).wf = false ∧ (Instr.itemPost 9 0 0 0 []).wf = false ∧
      (Instr.itemPost 1 0 0 0 (zeros 53)).wf = false ∧ (Instr.postGo 0 (zeros 63)).wf = false ∧ (Instr.jobSubmit 0 ⟨0, [1]⟩).wf = false ∧
      (Instr.jobSubmit 272 ⟨0, zeros 63⟩).wf = false ∧ (Instr.pictureStart 0 { testHead with width := 0 }).wf = false ∧
      (Instr.pictureDone 0 { testDone with motion := [zeros 16385] }).wf = false ∧
      (Instr.encodeRow 0 (List.replicate 4 ⟨[], [], [], [], [], [], []⟩)).wf = false ∧ (Instr.memoryRead 0 (2 ^ 36) 1 [] []).wf = false ∧
      (Instr.memoryWrite 0 (2 ^ 36) [1] [] []).wf = false := by decide +kernel

/-! ### Control sessions -/

/-- An epoch with every feature. -/
def testEpoch : Epoch := ⟨zeros 16, zeros 32, 0x0101, 0x1F, 1400⟩

/-- The address the test session sends from, to the management address. -/
def testFrom (payload : Bytes) : Datagram := ⟨0, zeros 6, false, 0x0A000002, 0x0A000001, 9, 47800, payload⟩

/-- An event with SEQ 5 that waits for its acknowledgement. -/
def testEvent : InFlight := ⟨5, ⟨0x0B, 0, 0, 0, []⟩, 1, 0⟩

/-- A session with every permission and a confirmed epoch. -/
def testSession : Session :=
  { id := 7, perm := 0x1FF, srcAddr := 0x0A000000, family := 4, plen := 8, imageKey := List.replicate 32 0x5A, confirmed := some testEpoch,
    peer := some (peerOf (testFrom [])), inFlight := [testEvent], eventSeq := 6 }

/-- A module in SERVICE with that session and leg 7. -/
def testState : State :=
  { m := { mode := .service }, cur := { sessions := [testSession], chip := { mgmt4 := [0x0A000001] } }, objs := [(1048576 + 7, [])] }

/-- A HELLO of the session: version 1.1, features, nonce, maximum message 1,280. -/
def testHello : Datagram :=
  testFrom (jcpMessage testSession.imageKey 0x0101 0 1 7 1 0 (tlv 1 [1, 1] ++ tlv 2 (zeros 8) ++ tlv 3 (zeros 16) ++ tlv 4 [5, 0]))

/-- A command of the session under its epoch, SEQ 1. -/
def testCmd (opcode : Nat) (l : List (Nat × Bytes)) : Datagram :=
  testFrom (jcpMessage testEpoch.key 0x0101 0 opcode 7 1 0 (l.flatMap fun e => tlv e.1 e.2))

/-- An acknowledgement of event 5. -/
def testAck : Datagram := testFrom (jcpMessage testEpoch.key 0x0101 2 0x60 7 5 0 [])

theorem testAuthentic (d : Datagram) (row : Nat) (h : row ≠ 1)
    (k : testState.jcpAddressed d.v6 d.dst d.dstPort = true ∧ jcpRow d.payload = some row ∧ 32 ≤ d.payload.length ∧
      d.payload.length = 32 + jLength d.payload ∧ d.payload.length ≤ 1400 ∧ (7 : W32) = jSession d.payload ∧ testSession.covers d = true ∧
      macOk testEpoch.key d.payload = true ∧ jFlags d.payload % 2 = 0) : testState.authentic d row 0 testSession testEpoch :=
  ⟨k.1, by decide, rfl, k.2.1, h, k.2.2.1, k.2.2.2.1, k.2.2.2.2.1, k.2.2.2.2.1, by decide, rfl, fun _ h => absurd h (Nat.not_lt_zero _), k.2.2.2.2.2.1,
    k.2.2.2.2.2.2.1, rfl, rfl, k.2.2.2.2.2.2.2⟩

theorem testTakes (d : Datagram) (row : Nat) (l : List (Nat × Bytes)) (h : row ≠ 1 ∧ row ≠ 0x60)
    (k : (testState.jcpAddressed d.v6 d.dst d.dstPort = true ∧ jcpRow d.payload = some row ∧ 32 ≤ d.payload.length ∧
      d.payload.length = 32 + jLength d.payload ∧ d.payload.length ≤ 1400 ∧ (7 : W32) = jSession d.payload ∧ testSession.covers d = true ∧
      macOk testEpoch.key d.payload = true ∧ jFlags d.payload % 2 = 0) ∧ 0 < seqDiff (jSeq d.payload) 0 ∧
      tlvsOf d.payload.length (jArea d.payload) = some l) : testState.takesCmd d row 0 testSession testEpoch l :=
  ⟨testAuthentic d row h.1 k.1, h.2, k.2.1, by decide, k.2.2⟩

/-- The attributes of a conference. -/
def testConf : List (Nat × Bytes) := [(0x20, [3]), (0x21, [0, 0, 0, 7])]

/-- The TLVs of a KEY_INSTALL for leg 7, slot 0, profile 1. -/
def testKeyTlvs : List (Nat × Bytes) := [(0x30, [0, 7]), (0x31, [0]), (0x32, [1]), (0x33, zeros 16), (0x34, zeros 14)]

/-! ### Ports, buffers, queues, memory -/

/-- A frame of 64 bytes with its FCS. -/
def testFrame : Bytes :=
  let b := List.replicate 6 0x02 ++ zeros 54
  b ++ leBytes 4 (crc32 b).toNat

/-- Pool 0 with a free buffer 5 and a buffer 6 that domain 3 holds; queues with descriptors. -/
def testPools : State :=
  let s : State := {
    clo := { pools := [(0, { freed := [5], recs := [(5, { gen := 1 }), (6, { count := 1, gen := 4, owner := 3, alloc := true, share := 8 })] })] }
    stk := { queues := [(131073, { head := [{ handle := 7 }] }), (131074, { tail := [{ handle := mkHandle 0 4 6, complete := false }] })] } }
  (((s.rset .cloPoolCfg 0 0 100).rset .mctRegionBase 0 8 16).rset .mctRegionSize 0 8 16).rset .stkQprof2 0 4 20

/-- The memory controller in service, channel 47 due for retraining, device 0 powered down. -/
def testMct : State :=
  let s := State.setBlkState { m := { mode := .service }, mct := { visitAt := some 5 } } 4 1 4
  (((((s.rset .mctRegionBase 0 0 1).rset .mctRegionSize 0 0 256).rset .mctRetrain 0 0 47).rset .mctCfg 0 0 0x10000064).rset .mctChStatus 0 0 1)

/-! ### DSP cores -/

/-- Core `c` about to run the words given, its other registers those of `x`. -/
def testCore (c : Nat) (words : List W32) (x : DspCore) : State :=
  let s := (State.setBlkState {} 2 (16 + c / 16) 4).setCmem (c / 16) (memWrite [] 0x400 (words.flatMap fun w => leBytes 4 w.toNat))
  s.setCore c { x with run := 1, pc := 0x100400 }

theorem testAtWord (s : State) (c : Nat) (w : W32) (imm : Option W32)
    (h : (s.core c).run = 1 ∧ s.blkUp 2 (16 + c / 16) = true ∧ (s.core c).pc.toNat % 4 = 0 ∧ dspRegion (s.core c).pc.toNat = some 2 ∧
      dspRegion ((s.core c).pc.toNat + dspSize w - 4) = some 2 ∧ s.pmWord c (s.core c).pc.toNat = w ∧
      (dspSize w = 8 → imm = some (s.pmWord c ((s.core c).pc.toNat + 4)))) : s.atWord c w imm := h

theorem testIssues (s : State) (c : Nat) (w : W32) (imm : Option W32)
    (h : ((s.core c).run = 1 ∧ s.blkUp 2 (16 + c / 16) = true ∧ (s.core c).pc.toNat % 4 = 0 ∧ dspRegion (s.core c).pc.toNat = some 2 ∧
      dspRegion ((s.core c).pc.toNat + dspSize w - 4) = some 2 ∧ s.pmWord c (s.core c).pc.toNat = w ∧
      (dspSize w = 8 → imm = some (s.pmWord c ((s.core c).pc.toNat + 4)))) ∧ dspLegal w = true ∧ (s.core c).branch = none ∧
      (s.core c).endsLoop ((s.core c).pc + BitVec.ofNat 32 (dspSize w - 4)) = false) : s.issues c w imm :=
  ⟨h.1, h.2.1, fun (b : Branch) (hb : (s.core c).branch = some b) => (by rw [h.2.2.1] at hb; cases hb), fun _ => h.2.2.2⟩

/-! ### A signature on P-384, computed outside the model -/

def testQx : Nat := 0x684A6DD7F2D499A25C699AB1E40A3F42D872C915B2D47F50FBFC672AAB5B7BEBC935F72F5B2A45A4F9644A3C61C83E82
def testQy : Nat := 0xD90D299E5ADCF33F6637ED99DC6880939765C2BACA4C597FBD29ED7F852B3B137FF93018D1B8C58C5DB42211C51983FD
def testR : Nat := 0x4E47A237CC608F03D38BF953C2C25C8CB99DE4BBADA9288A6B43656520B2559143F1FD344DDE210802BBC630315996BE
def testS : Nat := 0x22DCEF3C935AADA4A653ED375592E959DCDA0ABC29F2AE5A44BBB08EA863DF5A2C210E7133CB32E4E85C32B64279D701

/-! ### An image of five sections, signed with the test key outside the model -/

/-- A section of a 4-byte payload, its CRC given. -/
def testSection (type target flags crc : Nat) : Bytes :=
  leBytes 4 0x53454354 ++ leBytes 2 type ++ leBytes 2 target ++ leBytes 4 4 ++ leBytes 4 crc ++ leBytes 2 type ++ leBytes 2 flags ++ leBytes 2 1 ++
    zeros 42 ++ List.replicate 4 (byteOf type) ++ zeros 60

/-- A directory entry. -/
def testEntry (off type target : Nat) : Bytes := leBytes 4 off ++ leBytes 4 128 ++ leBytes 2 type ++ leBytes 2 target ++ zeros 4

def testCopyBytes : Bytes :=
  leBytes 4 0x47484C58 ++ leBytes 2 0x100 ++ leBytes 2 5 ++ leBytes 4 4992 ++ leBytes 4 4736 ++ leBytes 4 3 ++ leBytes 4 77 ++ zeros 8 ++
    leBytes 4 0x9615 ++ leBytes 2 2 ++ zeros 2 ++ leBytes 4 0x5B9A0187 ++ zeros 20 ++
    testEntry 0x1000 0x1 0x0 ++ testEntry 0x1080 0x3 0x0 ++ testEntry 0x1100 0x10 0x1020 ++ testEntry 0x1180 0x20 0x2000 ++ testEntry 0x1200 0x21 0x0 ++ zeros 3952 ++
    testSection 0x1 0x0 0 0xD1AA6875 ++ testSection 0x3 0x0 0 0xE7DC59E0 ++ testSection 0x10 0x1020 2 0xFE3AB19E ++ testSection 0x20 0x2000 2 0x2130C984 ++ testSection 0x21 0x0 2 0xB8FDEA36 ++
    leBytes 4 0x53494731 ++ leBytes 2 1 ++ leBytes 2 1 ++ beBytes 48 testQx ++ beBytes 48 testQy ++ beBytes 48 testR ++
    beBytes 48 0x58761FB7B2852CD7F11A576F429EE9C45DF74B4086ABFA738D39225A85448270551FE956249FA32978E42BEF6E566BF ++ zeros 56

def testCopy : FlashCopy := .bytes testCopyBytes

/-- What the image's copy says. -/
def testImage : ImageInfo :=
  ⟨3, 77, 2, 0, [⟨77, 0x1, 0x0, 0x1, false, 4, 0xD1AA6875, List.replicate 4 0x1⟩, ⟨77, 0x3, 0x0, 0x3, false, 4, 0xE7DC59E0, List.replicate 4 0x3⟩, ⟨77, 0x10, 0x1020, 0x10, true, 4, 0xFE3AB19E, List.replicate 4 0x10⟩, ⟨77, 0x20, 0x2000, 0x20, true, 4, 0x2130C984, List.replicate 4 0x20⟩, ⟨77, 0x21, 0x0, 0x21, true, 4, 0xB8FDEA36, List.replicate 4 0x21⟩]⟩

/-- A deployed module in MAINTAIN whose running and staged image it is, its owner key that of the signature. -/
def testStaged : State :=
  let s := State.setStage { testState with
    m := { mode := .maintain }
    otp := { provisioned := 7, ownerHash := some (sha384 (beBytes 48 testQx ++ beBytes 48 testQy)) }
    cur := { testState.cur with running := some testImage, staged := some testImage } } 3
  s.setBlkState 1 2 4

theorem testTakesStaged (d : Datagram) (row : Nat) (l : List (Nat × Bytes)) (h : row ≠ 1 ∧ row ≠ 0x60)
    (k : (testStaged.jcpAddressed d.v6 d.dst d.dstPort = true ∧ jcpRow d.payload = some row ∧ 32 ≤ d.payload.length ∧
      d.payload.length = 32 + jLength d.payload ∧ d.payload.length ≤ 1400 ∧ (7 : W32) = jSession d.payload ∧ testSession.covers d = true ∧
      macOk testEpoch.key d.payload = true ∧ jFlags d.payload % 2 = 0) ∧ 0 < seqDiff (jSeq d.payload) 0 ∧
      tlvsOf d.payload.length (jArea d.payload) = some l) : testStaged.takesCmd d row 0 testSession testEpoch l :=
  ⟨⟨k.1.1, by decide +kernel, rfl, k.1.2.1, h.1, k.1.2.2.1, k.1.2.2.2.1, k.1.2.2.2.2.1, k.1.2.2.2.2.1, by decide, rfl, fun _ h => absurd h (Nat.not_lt_zero _),
    k.1.2.2.2.2.2.1, k.1.2.2.2.2.2.2.1, rfl, rfl, k.1.2.2.2.2.2.2.2⟩, h.2, k.2.1, by decide, k.2.2⟩

/-- The checks of R69 hold of the copy. -/
theorem testCopy_ok : testStaged.checkCopy testCopy = .ok testImage := by decide +kernel

theorem checkCopy_begun (s : State) (d : Datagram) (k : Nat) (x : Session) (c : FlashCopy) : (s.begun d k x).checkCopy c = s.checkCopy c := rfl

/-! ### Secure media and jobs -/

/-- An RTP packet, and a staged packet that protects it. -/
def testRtp : Bytes := [0x80, 0, 0, 5] ++ zeros 4 ++ [0, 0, 0, 9] ++ [1, 2, 3, 4]

/-- A slot as KEY_INSTALL leaves it: profile 1, leg 7, key bytes A5, salt bytes 3C. -/
def testSlot : Bytes :=
  beBytes 48 0x01010700000000000100722900000000672a8258954e3e496c3aad973df03d3a00000000000000000000000000000000 ++
    beBytes 48 0x4874dd102d03e0b68edf2743c36700001f48e6ae908ca27f8f74eb2c339027e89a7418f526148c7dad30f335ca2c66e2 ++
    beBytes 48 0x7ffa9f9f1b1a8e2656e295f81ecd8e01d5c006c292e51e8200000000000000000000000000000000865ab7b0ddc2ae2c ++
    beBytes 48 0xfcce63d30cda0000a688d5711316b2083174f02ca37806afe7a781f3e903ce26260ad798a54d02b114850789670c10b0

def testStagedPkt : Staged :=
  let b := beBytes 26 0x8000000500000000000000098e9b62fc4e2b21ae73be6e4f1b1c
  ⟨9, 7, b, 0, b.length, false, 0, false, none, none, none, true, 0⟩

set_option maxRecDepth 20000 in
theorem testSlot_ok : judgeSlot testSlot 7 = .ok ⟨16, 14, 10, 10, false⟩ := by decide +kernel

/-- Leg 7 with keys in both slots, a packet staged and a copy waiting. -/
def testSecure : State :=
  State.setBlkState {
    rgs := { staged := [testStagedPkt] }
    vlt := { slots := [(14, testSlot), (15, testSlot)], copies := [⟨7, 1, { cells := testRtp, len := 16 }, false, 0⟩] }
    objs := [(1048576 + 7, []), (2 * 1048576 + 9, [])] } 1 3 4

/-- A counter-mode job of core 5 in flight, its buffer of domain 10. -/
def testJobState : State :=
  let h := 4 * 16777216 + 6
  let s : State := {
    vlt := { jobs := [⟨5, 0, 1, 0⟩] }
    clo := { pools := [(0, { recs := [(6, { count := 1, gen := 4, owner := 10, alloc := true })] })] } }
  (((s.setCmem 0 (memWrite [] 0 (leBytes 64 (3 + 16 * 2 ^ 16 + h * 2 ^ 64 + h * 2 ^ 128 + h * 2 ^ 192)))).rset .cloPoolCfg 0 0 100).rset
    .mctRegionBase 0 8 16).rset .mctRegionSize 0 8 16

/-! ### Forwarding, dispatch, media -/

/-- The Forwarder with a poisoned packet, two subscriptions, a ring entry and an RTCP compound. -/
def testFwd : State :=
  let s := State.setBlkState {
    fwd := {
      outPkts := [(0, [{ handle := 7, poison := true }])], cache := [5],
      subs := [(9, { pend := 1, started := true, curS := 0, tgtS := 2 }), (1048575, {})],
      streams := [(131071, { ring := [(5, ⟨7, 0, 20, 5, {}, 0, 0, 1⟩)] })],
      rtcp := [⟨3, 7, mkHandle 0 0 0, 0, 12⟩] }
    gddr := memWrite [] 16777216 ([0x81, 0xCE, 0, 2] ++ zeros 8) } 1 4 4
  (s.rset .mctRegionBase 0 8 16).rset .mctRegionSize 0 8 16

/-- The Forwarder with streams 9 and 10, MEDIA 1 and 3, a packet of each, and subscriptions 8 and 9 at legs 0 and 7. -/
def testWalk : State :=
  let q : Queue := { head := [{ handle := 7, len := 16 }], bell := true }
  State.setBlkState {
    objs := [(2 * 1048576 + 9, [(0x103, [1])]), (2 * 1048576 + 10, [(0x103, [3])]), (4 * 1048576 + 9, [(0x100, beBytes 2 7)])]
    stk := { queues := [(131081, q), (131082, q)] }
    fwd := { outPkts := [(0, [{ handle := 7 }])]
             subs := [(8, { source := 9, highestIn := 4, curS := 2, curT := 2 }), (9, { curS := 3 })] } } 1 4 4

/-- Cores 271 idle with an item ready, 3 running with a more urgent one ready, 4 with four moves. -/
def testDocent : State :=
  let s := State.setBlkState (State.setBlkState {
    doc := {
      ready := [(3, [{ flow := 1, prio := 5, type := 1 }]), (271, [{ flow := 131071, prio := 1, type := 1 }]), (272, [{ flow := 2, prio := 1, type := 1 }])]
      active := [(1, { flow := 1 }), (131071, { flow := 131071 })], fenced := [7], running := [(3, { flow := 4, prio := 1, type := 1 })] } } 2 32 4) 2 16 4
  (s.setCore 3 { run := 1, sr := 0 }).setCore 4 { moves := List.replicate 4 ⟨true, 0, 0, 0, 4, true⟩ }

/-- A swap of slot 15 from cluster 16 to cluster 0 in a phase, the cores of cluster `cl` in service. -/
def testSwap (cl phase : Nat) : State :=
  (({ doc := { swap := some (15, 16, 0, false) }, dsp := [(cl, { cores := (List.range 16).map fun k => (k, { entered := true }) })] } : State).setPhase phase)

/-- An audio stream with a packet, a selected tick, a peer and a HELLO. -/
def testAudio : State :=
  let s := State.setBlkState {
    objs := [(2 * 1048576 + 131071, [])]
    stk := { queues := [(262143, { head := [{ len := 172 }], bell := true })] }
    afb := { confs := [(9, { pending := some (4, 1, 0), slots := [some 3, none] }), (4095, { tick := some 7 })] }
    cas := { hellos := [(3, zeros 8, false)] } } 2 2 4
  (s.rset .curCasCfg 0 0 0x400).setPeerState 1023 2

/-- A video stream with a packet of one slice, a context with a unit waiting, one that is to move, one with an open unit. -/
def testDecode : State :=
  let s : State := {
    objs := [(2 * 1048576 + 7, [(0x103, [2]), (0x104, [1])]), (2 * 1048576 + 131071, [(0x103, [2]), (0x104, [1])])]
    stk := { queues := [(262143, { head := [{ len := 16 }], bell := true })] }
    gddr := memWrite [] 16777216 ([0x80, 0x80, 0, 5] ++ zeros 4 ++ [0, 0, 0, 9] ++ [0x65, 1, 2, 3])
    clo := { pools := [(3, { freed := [0], recs := [(0, {})] })] }
    vde := { ctx := [(7, { phase := 1, waiting := [{ ts := 1, openedAt := 0 }] }), (8, { moveTo := some 3 }), (9, { opened := [{ ts := 2, openedAt := 5 }] }),
      (131071, {})] } }
  (((((((((s.setBlkState 3 1 4).setBlkState 3 13 4).rset .vdeRes 0 0 0x640000).rset .cloPoolCfg 0 3 (100 + 3 * 16777216)).rset .mctRegionBase 0 8 16).rset
    .mctRegionSize 0 8 16).rset .mctRegionBase 0 11 64).rset .mctRegionSize 0 11 16).rset .vdePgPool 0 0 100)

/-- A frame of 64 rows in composition for output 5. -/
def testFrame16 : CFrame := ⟨5, 64, 64, false, 16, false, 0, 1, 0, [], [16, 128, 128], [], [], 0, [], some 0, false⟩

/-- Surfaces 5, in composition, and 16383, which is due next. -/
def testCompose : State :=
  State.setBlkState (State.setBlkState {
    cmp := { surf := [(5, {}), (16383, { pipe := 3 })], due := [(3, [⟨9, 1, 0, []⟩])], frame := [(0, testFrame16)] }
    pgr := { stores := [(0, { owner := 131077, width := 64, height := 64, depth10 := false, busy := true })], nextId := 1 } } 3 12 4) 3 13 4

/-- Output 5 with a block row for its frame, and a coded frame on its carrier's queue. -/
def testEncode : State :=
  let s : State := {
    objs := [(5 * 1048576 + 5, [(0x600, [1]), (0x601, beBytes 4 3), (0x801, beBytes 2 16), (0x802, beBytes 2 16)])]
    ven := { ctx := [(5, { bits := [⟨7, 0, 0, true, 0, [⟨zeros 100, false⟩], 0, 0, false, 1200, 0, 96⟩] })]
             rows := [(0, [⟨5, 1, 0, 1, false, false, [], [], [], []⟩])]
             frame := [(0, { output := 5, n := 1, due := 0, key := true, t := 0, dropped := false, row := 1
                             layers := [{ target := 1000, cap := 2000, rate := 100000, budget := [500, 500], left := 8, handle := 7 }] })] }
    stk := { queues := [(131075, { head := [{ handle := 7, kind := 1, len := 100 }], bell := true })] }
    clo := { pools := [(0, { freed := [0], recs := [(0, {})] })] } }
  ((((s.setBlkState 3 8 4).setBlkState 3 13 4).rset .cloPoolCfg 0 0 100).rset .mctRegionBase 0 8 16).rset .mctRegionSize 0 8 16

/-! ### The specification's worked examples -/

/-- Register address (chapter 1): offset 0x40 of decode engine 2 and of DSP cluster 12, by their registers at 0xC and 0x100. -/
theorem test_addresses : regAddr .vdeErr 2 0 = 0x3030000C ∧ regAddr .dspCoreStatus 12 0 = 0x21C00100 := by decide

/-- Where a buffer lies (R407, R179): its handle, system address, channel, row and bank, and those of the chunk after. -/
theorem test_buffer_place : mkHandle 1 6 0x1A2B = 0x26001A2B ∧
    (State.rset {} .mctRegionBase 0 9 0x1000).bufAddr 0x26001A2B = 0x100D15800 ∧ 0x100D15800 / 64 = 67323232 ∧ burstChannel 67323232 = 11 ∧
    burstRow 67323232 = 2922 ∧ burstBank 67323232 = 10 ∧ burstChannel (67323232 + 8) = 12 ∧ burstRow (67323232 + 8) = 2922 ∧
    burstBank (67323232 + 8) = 10 := by decide +kernel

/-- A sequence wrap with reordering (R165): the late packet passes, the repeated one does not. -/
theorem test_replay :
    let w := replayCommit (some 0x7BFFE) 1 0x7BFFF
    let w := replayCommit (some w.1) w.2 0x7C000
    let w := replayCommit (some w.1) w.2 0x7FFFF
    let w := replayCommit (some w.1) w.2 0x80000
    w.1 = 0x80000 ∧ replayOk (some w.1) w.2 0x7FFFE = true ∧ replayOk (some w.1) w.2 0x7FFFF = false ∧
      replayOk (some (replayCommit (some w.1) w.2 0x7FFFE).1) (replayCommit (some w.1) w.2 0x7FFFE).2 0x80000 = false := by decide +kernel

/-- A leg at 20,000 kb/s with REFILL 100 µs gains 250 bytes per refill (R243), 1/1,024 byte each. -/
theorem test_shaper_refill : ∃ t, exec (.shaperRefill 2 7) (State.setShaper { time := { t := 1100000 } } 2 7
      { tokens := 0, rate := 20000, refill := 100, last := 1000000 }) = .next t ∧ (t.shaper 2 7).tokens = 256000 ∧ (t.shaper 2 7).last = 1100000 :=
  ⟨_, rfl, by decide +kernel, by decide +kernel⟩

/-- A packet through a tunnel (chapter 5): VXLAN over IPv6 with one tag, its inner RTP at 116 to 225. -/
def testTunnel : Bytes :=
  beBytes 34 0x0000000000000000000000008100000586dd6000000000a811400000000000000000 ++
    beBytes 34 0x000000000000000100000000000000000000000000000002123412b500a800000800 ++
    beBytes 34 0x00000000010000000000000000000000000008004500008a000000004011140fc633 ++
    beBytes 34 0x6417cb007109c3509c4a00766505906f0001000000005a3c19e2bede0001109e0000 ++ zeros 90

theorem test_tunnel_parsed : parseFrame ⟨128, true, false, false, 4789, 6081⟩ testTunnel =
    .udp ⟨false, 0xC6336417, 0xCB007109, 0, 17, 50000, 40010⟩ ⟨true, 1, 2, 0, 17, 0x1234, 4789⟩ 116 110 := by decide +kernel

/-- Its level element lies beyond a depth of 128 and within one of 144: V 1, level 30. -/
theorem test_tunnel_level : findElement (rtpElements (testTunnel.drop 116) 12) 1 = none ∧
    findElement (rtpElements (testTunnel.drop 116) 28) 1 = some [0x9E] := by decide +kernel

/-- A copy with an inner UDP length of 65,535 is dropped with UDP_LEN. -/
theorem test_tunnel_forged : parseFrame ⟨144, true, false, false, 4789, 6081⟩ (testTunnel.take 112 ++ [0xFF, 0xFF] ++ testTunnel.drop 114) =
    .fail 0x17 none := by decide +kernel

/-- A firmware post of priority 0, 40 or 63 is refused from 45,312, 55,552 or 61,440 items upward (R295). -/
theorem test_admission : [(0, 45312), (40, 55552), (63, 61440)].all (fun (p, n) =>
    decide (65536 ≤ n + State.rfld {} .docAdmit 0 0 0 16 + (63 - p) * State.rfld {} .docAdmit 0 0 16 12) &&
    !decide (65536 ≤ n - 1 + State.rfld {} .docAdmit 0 0 0 16 + (63 - p) * State.rfld {} .docAdmit 0 0 16 12)) = true := by decide +kernel

/-- DSP words by R273 and R274: NOP, BR −1 (condition always), OP 0. -/
theorem test_words : dspLegal 0x04000000 = true ∧ dspLegal 0x80FFFFFF = true ∧ dspLegal 0 = false := by decide

/-- ADD of D1 and D2 into D3 (R273): 5 + 7 is 12, and the program counter goes on by 4. -/
theorem test_add : ∃ t, exec (.add 271 0xC48000 0) (testCore 271 [0x08C48000] { d := [(1, 5), (2, 7)] }) = .next t ∧ (t.core 271).dreg 3 = 12 ∧
    (t.core 271).pc = 0x100404 := ⟨_, rfl, by decide +kernel, by decide +kernel⟩

/-- CLRA of A1 (R273). -/
theorem test_clra : ∃ t, exec (.clra 0 0x10 0) (testCore 0 [0x58000010] { d := [(1, 5)], a := [(1, 99)] }) = .next t ∧ (t.core 0).areg 1 = 0 :=
  ⟨_, rfl, by decide +kernel⟩

/-! ### What the statements assume is met -/

/-- A state with a waiting command in which the invariants hold. -/
def testWaiting : State := { pending := [.ptpLoss], otp := { secVersion := 64, provisioned := 7 } }

theorem test_wit_QueueUntouched : ∃ (c : Instr) (s t : State), exec c s = .next t := ⟨.ptpLoss, testWaiting, _, rfl⟩
theorem test_wit_StepKeepsFusesSafe : ∃ s t : State, s.otpSafe ∧ step s = .next t := ⟨testWaiting, _, ⟨by decide, by decide⟩, rfl⟩
theorem test_wit_StepKeepsTables : ∃ s t : State, s.tablesOk ∧ step s = .next t :=
  ⟨testWaiting, _, ⟨by decide, fun _ => rfl, fun _ => ⟨rfl, rfl, rfl, rfl, rfl⟩, by decide, fun _ => rfl, fun _ => rfl, by decide, fun _ h => nomatch h⟩, rfl⟩
theorem test_wit_LifeCycleOnlyForward : ∃ s t : State, step s = .next t := ⟨testWaiting, _, rfl⟩

theorem test_wit_SafeStopLeftOnlyByOff : ∃ (c : Instr) (s t : State), s.m.mode = .safeStop ∧ exec c s = .next t :=
  ⟨.ptpLoss, { m := { mode := .safeStop } }, _, rfl, rfl⟩

theorem test_wit_OffLeftOnlyByPowerOn : ∃ (c : Instr) (s t : State), s.m.mode = .off ∧ exec c s = .next t :=
  ⟨.ptpLoss, { m := { mode := .off } }, _, rfl, rfl⟩

theorem test_wit_OffAndPowerOn : ∃ s u : State, s.m.mode ≠ .off ∧ (8199 < 8200) ∧ (10000 ≤ 10000) ∧ u.m.mode = .off ∧ (9000 ≤ 9000 ∧ 9000 < 78000) ∧
    (9000 ≤ 77999 ∧ 77999 < 78000) := ⟨State.reset, { m := { mode := .off } }, by decide, by decide, by decide, by decide, by decide, by decide⟩
theorem test_wit_OffAndPowerOn_rails : ∃ (s u : State) (rail : Nat), s.m.mode = .powerUp ∧ s.rails.failed = false ∧ s.rails.stopped = false ∧ 0 < s.rails.step ∧
    s.rails.step ≤ railStep rail ∧ u.rails.failed = true := ⟨State.reset, { rails := { failed := true } }, 13, by decide⟩

theorem test_wit_BootToWipe : ∃ (s u v : State) (report : PowerUpReport), s.m.mode = .powerUp ∧ s.railsRun = true ∧ (report.fail1 = [] ∨ report.fail2 = []) ∧ u.m.mode = .wipe ∧ u.m.readback = false ∧ v.m.mode = .wipe ∧ v.m.readback = true ∧
    v.m.repeated = true :=
  ⟨State.reset, { m := { mode := .wipe } }, { m := { mode := .wipe, readback := true, repeated := true } }, ⟨[], [], 5, [], 0⟩, by decide⟩

theorem test_wit_LoadAndSelfTest : ∃ s u : State, s.m.mode = .load ∧ u.m.mode = .selfTest := ⟨{ m := { mode := .load } }, { m := { mode := .selfTest } }, by decide⟩

theorem test_wit_WarmResets : ∃ s r u v : State, s.m.mode = .wipe ∧ (r.m.mode = .powerUp ∧ r.railsRun = true) ∧
    (u.sup.deadline = some 5 ∧ u.m.mode ≠ .off ∧ u.m.mode ≠ .safeStop ∧ u.sup.reported = []) ∧
    (v.sup.deadline = some 5 ∧ v.m.mode ≠ .off ∧ v.m.mode ≠ .safeStop ∧ (v.reach 5).stopAmong v.sup.reported ≠ none) :=
  ⟨{ m := { mode := .wipe } }, State.reset, { m := { mode := .service }, sup := { deadline := some 5 } },
    { m := { mode := .service }, sup := { deadline := some 5, reported := [.lockstep] } }, by decide⟩

theorem test_wit_ServiceEntry : ∃ s u : State, s.m.mode = .linkUp ∧ s.serviceReady = true ∧ u.m.mode = .linkUp ∧ u.m.limitDone = false ∧
    (u.cur.sessions.any fun x => x.confirmed.isSome) = true :=
  ⟨{ m := { mode := .linkUp, windowOpen := true, serviceAsked := true } }, { m := { mode := .linkUp }, cur := { sessions := [testSession] } }, by decide⟩

theorem test_wit_RecoveryEnds : ∃ s u v : State, s.m.mode = .recovery ∧ s.m.restarting = some (1, 5) ∧ ((1 : Nat) ≠ 2) ∧ u.m.mode = .recovery ∧
    u.m.windowFrom = some 7 ∧ v.m.mode = .recovery ∧ v.m.restarting = some (2, 5) ∧
    ∀ cl < 17, v.partIsOut (.cluster cl) = true ∨ v.clusterEntered cl = true :=
  ⟨{ m := { mode := .recovery, restarting := some (1, 5) } }, { m := { mode := .recovery, windowFrom := some 7 } },
    { m := { mode := .recovery, restarting := some (2, 5) }, sup := { outParts := (List.range 16).map .cluster }
      dsp := [(16, { cores := (List.range 16).map fun k => (k, { entered := true }) })] }, by decide +kernel⟩

theorem test_wit_SupervisorDecides : ∃ s : State, s.sup.reported = [] ∧ s.m.mode ≠ .off ∧ s.m.mode ≠ .safeStop ∧ s.verdict (.wing 1 3) = .recover 1 3 ∧
    s.verdict .lockstep = .stop 0x0E ∧ s.verdict .watchdog = .warm 1 ∧ s.verdict (.part (.decode 0) 2) = .out (.decode 0) 2 :=
  ⟨{ m := { mode := .service } }, by decide⟩

theorem test_wit_CheckersAndBlockWatchdogs : ∃ s : State, s.checkersRun = true ∧
    (blockPresent 4 2 = true ∧ s.blkUp 4 2 = true ∧ s.holdsWork 4 2 = true ∧ 5 ≤ s.t) ∧
    (blockPresent 2 1 = true ∧ ((2 : Nat) ≠ 2 ∨ 1 < 16) ∧ s.blkUp 2 1 = true ∧ s.holdsWork 2 1 = true) ∧
    (blockPresent 3 0 = true ∧ s.holdsWork 3 0 = true) :=
  ⟨(State.setBlkState { m := { mode := .service }, time := { t := 5 }, doc := { active := [(1, {})] } } 4 2 4).setBlkState 2 1 4, by decide⟩

theorem test_wit_HeartbeatsAndChipWatchdog : ∃ s : State, s.m.mode ≠ .off ∧ s.m.mode ≠ .safeStop ∧ ((1 : Fin 5) ≠ 0) ∧ nget s.sup.heartbeat (1 : Fin 5).val = some 9 ∧
    s.sup.deadline = some 5 ∧ s.sup.token = some 7 :=
  ⟨{ m := { mode := .service }, sup := { heartbeat := [(1, 9)], deadline := some 5, token := some 7 } }, by decide⟩

theorem test_wit_ClocksLost : ∃ s : State, s.m.mode ≠ .off ∧ s.rfld .chpClkLock 0 0 6 1 ≠ 0 ∧ s.rfld .chpClkLock 0 0 12 1 ≠ 0 ∧ s.rfld .chpClkLock 0 0 8 1 ≠ 0 :=
  ⟨State.reset.rset .chpClkLock 0 0 0x1F7F, by decide⟩

theorem test_wit_TimebaseAndPps : ∃ s u : State, s.m.mode ≠ .off ∧ s.m.mode ≠ .powerUp ∧ s.ppsOn = true ∧ s.pins.ppsOut = false ∧ u.pins.ppsOut = true ∧
    u.time.ppsRise = some 7 := ⟨{ m := { mode := .service } }, { pins := { ppsOut := true }, time := { ppsRise := some 7 } }, by decide⟩

theorem test_wit_MonitorsSample : ∃ s : State, s.m.mode ≠ .off ∧ (List.replicate 32 (200 : Int)).length = 32 ∧ (List.replicate 20 800).length = 20 ∧
    (List.replicate 12 5).length = 12 ∧ s.sup.hotSince = some 5 ∧ s.sup.coolSince = some 6 :=
  ⟨{ m := { mode := .service }, sup := { hotSince := some 5, coolSince := some 6 } }, by decide⟩

theorem test_wit_CounterClears : clearsOf (.atrCntClr 95) = some (1, 1, .atrCnt, 0, 1520, 16) ∧
    clearsOf (.rgsCntClrPortGo 95) = some (1, 2, .rgsPortCnt, 0, 760, 8) ∧ clearsOf (.venCntClr 3) = some (3, 11, .venCnt, 3, 0, 10) := ⟨rfl, rfl, rfl⟩

theorem test_wit_OtherClears : ∃ s : State, s.blkUp 1 1 = true ∧ s.blkUp 1 2 = true ∧ s.blkUp 2 16 = true ∧ s.blkUp 2 1 = true ∧ s.blkUp 3 13 = true ∧
    s.blkUp 4 2 = true ∧ s.isolated 32767 = true ∧ (95 < fld (96 : W32) 0 7) ∧ (95 < (96 : BitVec 7).toNat) :=
  ⟨((((((({} : State).setBlkState 1 1 4).setBlkState 1 2 4).setBlkState 2 16 5).setBlkState 2 1 4).setBlkState 3 13 4).setBlkState 4 2 6).rbit
    .chpLegIso 0 1023 31, by decide⟩

theorem test_wit_RegisterAccess : ∃ s : State, mappedAddr 1 = false ∧
    (mappedAddr (regAddr .curGpioOut 0 0) = true ∧ s.blkUp (addrWing (regAddr .curGpioOut 0 0)) (addrBlk (regAddr .curGpioOut 0 0)) = true ∧
      findReg (regAddr .curGpioOut 0 0) = some ⟨.curGpioOut, 0, 0, false⟩ ∧ (regInfo .curGpioOut).wide = false ∧ plainReg .curGpioOut = true) ∧
    (mappedAddr (regAddr .atrCnt 0 1535) = true ∧ s.blkUp (addrWing (regAddr .atrCnt 0 1535)) (addrBlk (regAddr .atrCnt 0 1535)) = true ∧
      findReg (regAddr .atrCnt 0 1535) = some ⟨.atrCnt, 0, 1535, false⟩ ∧ findReg (regAddr .atrCnt 0 1535 + 4) = some ⟨.atrCnt, 0, 1535, true⟩ ∧
      (regInfo .atrCnt).wide = true) := ⟨({} : State).setBlkState 1 1 4, by decide⟩

theorem test_wit_BlockUnavailable : ∃ s : State, mappedAddr (regAddr .atrLinkCfg 0 0) = true ∧
    s.blkUp (addrWing (regAddr .atrLinkCfg 0 0)) (addrBlk (regAddr .atrLinkCfg 0 0)) = false ∧
    s.takesCmd (testCmd 2 [(0x10, beBytes 4 (regAddr .atrLinkCfg 0 0)), (0x11, beBytes 4 1)]) 2 0 testSession testEpoch
      [(0x10, beBytes 4 (regAddr .atrLinkCfg 0 0)), (0x11, beBytes 4 1)] ∧
    s.takesCmd (testCmd 3 [(0x10, beBytes 4 (regAddr .atrLinkCfg 0 0)), (0x12, beBytes 4 7)]) 3 0 testSession testEpoch
      [(0x10, beBytes 4 (regAddr .atrLinkCfg 0 0)), (0x12, beBytes 4 7)] ∧
    testSession.perm.getLsbD 0 = true ∧ testSession.perm.getLsbD 1 = true :=
  ⟨testState, by decide, by decide, testTakes _ _ _ (by decide) (by decide +kernel), testTakes _ _ _ (by decide) (by decide +kernel), by decide, by decide⟩

theorem test_wit_ManagementTarget : ∃ s u : State, s.i2cOn = true ∧ 0x53 = 0x50 + s.pins.strap.toNat ∧ s.i2c.ptr.toNat % 4 = 0 ∧ u.i2cOn = false :=
  ⟨{ m := { mode := .safeStop }, pins := { strap := 3 } }, State.reset, by decide⟩

theorem test_wit_TestAccessPort : State.reset.m.mode ≠ .off ∧ ((Instr.extest, (0 : BitVec 8)) ∈ [(Instr.bypass, (0xFF : BitVec 8)), (.extest, 0x00)]) ∧
    (0x80 ≤ (0xFE : BitVec 8).toNat ∧ (0xFE : BitVec 8).toNat ≤ 0xFE) := by decide
theorem test_wit_TestAccessPort_lifeCycle : ∃ s u : State, s.m.mode ≠ .off ∧ s.m.mode ≠ .safeStop ∧ s.lifeCycle = 0 ∧ (zeros 48).length = 48 ∧
    u.m.mode ≠ .off ∧ u.m.mode ≠ .safeStop ∧ (u.lifeCycle = 1 ∨ u.lifeCycle = 2) ∧ u.ownerKey = some (sha384 (beBytes 48 testQx ++ beBytes 48 testQy)) :=
  ⟨State.reset, { otp := { provisioned := 7, ownerHash := some (sha384 (beBytes 48 testQx ++ beBytes 48 testQy)) } }, by decide, by decide, by decide,
    by decide, by decide, by decide, by decide, rfl⟩
theorem test_wit_TestAccessPort_signature : ecdsaVerify (sha384 [1, 2, 3]) testQx testQy testR testS = true := by decide +kernel

theorem test_wit_ErrorsAndResets : ∃ s : State, blockPresent 4 3 = true ∧ 0 ≤ s.t ∧ (∀ i < 4, s.rfld .chpCellLog 3 (4 * 3 + i) 31 1 = 0) ∧
    blockPresent 4 0 = true ∧ cannotReset 4 0 = true ∧ cannotReset 1 3 = false ∧ s.resetRuns 1 3 = true ∧ s.m.restarting.map (·.1) ≠ some 1 ∧ s.sup.outParts = [] ∧ s.stage ≠ 4 :=
  ⟨({ m := { mode := .maintain }, regs := [(regAddr .chpClkLock 0 0, 0x1F7F)], sup := { resetAt := [(256 + 3, 0)] } } : State).setBlkState 1 3 1, by decide⟩

theorem test_wit_JcpRegisters : ∃ (s : State) (a : Nat), a = regAddr .curGpioOut 0 0 ∧
    s.takesCmd (testCmd 2 [(0x10, beBytes 4 a), (0x11, beBytes 4 1)]) 2 0 testSession testEpoch [(0x10, beBytes 4 a), (0x11, beBytes 4 1)] ∧
    s.takesCmd (testCmd 3 [(0x10, beBytes 4 a), (0x12, beBytes 4 7)]) 3 0 testSession testEpoch [(0x10, beBytes 4 a), (0x12, beBytes 4 7)] ∧
    testSession.perm.getLsbD 0 = true ∧ testSession.perm.getLsbD 1 = true ∧ beNat (beBytes 4 a) = a ∧ mappedAddr a = true ∧
    s.blkUp (addrWing a) (addrBlk a) = true ∧ findReg a = some ⟨.curGpioOut, 0, 0, false⟩ ∧ (regInfo .curGpioOut).wide = false ∧ plainReg .curGpioOut = true ∧
    (∃ u, (s.begun (testCmd 3 [(0x10, beBytes 4 a), (0x12, beBytes 4 7)]) 0 testSession).writeRun a (wordsOf (beBytes 4 7)) none = .ok u ∧
      (u.cur.sessions[0]?).isSome = true) :=
  ⟨testState, _, rfl, testTakes _ _ _ (by decide) (by decide +kernel), testTakes _ _ _ (by decide) (by decide +kernel), by decide, by decide, by decide,
    by decide, by decide, by decide, by decide, by decide, ⟨_, rfl, by decide +kernel⟩⟩

/-- A WRITE to no register is refused (R83). -/
theorem test_wit_JcpRegisters_refused : ∃ e, (testState.begun (testCmd 3 [(0x10, beBytes 4 1), (0x12, beBytes 4 7)]) 0 testSession).writeRun 1
    (wordsOf (beBytes 4 7)) none = .error e ∧
    testState.takesCmd (testCmd 3 [(0x10, beBytes 4 1), (0x12, beBytes 4 7)]) 3 0 testSession testEpoch [(0x10, beBytes 4 1), (0x12, beBytes 4 7)] :=
  ⟨_, rfl, testTakes _ _ _ (by decide) (by decide +kernel)⟩

theorem test_wit_JcpObjects : ∃ s : State, testSession.perm.getLsbD 2 = true ∧
    (s.takesCmd (testCmd 0x10 testConf) 0x10 0 testSession testEpoch testConf ∧ tlvsOk objSpec testConf = true ∧
      ((s.begun (testCmd 0x10 testConf) 0 testSession).objCreate 3 7 (attrsOf testConf)).1 = 0 ∧
      (((s.begun (testCmd 0x10 testConf) 0 testSession).objCreate 3 7 (attrsOf testConf)).2.cur.sessions[0]?).isSome = true) ∧
    s.takesCmd (testCmd 0x11 testConf) 0x11 0 testSession testEpoch testConf ∧
    s.takesCmd (testCmd 0x12 (testConf.take 2)) 0x12 0 testSession testEpoch (testConf.take 2) ∧
      tlvsOk (objSpec.take 2) (testConf.take 2) = true :=
  ⟨testState, by decide, ⟨testTakes _ _ _ (by decide) (by decide +kernel), by decide, by decide +kernel, by decide +kernel⟩,
    testTakes _ _ _ (by decide) (by decide +kernel), testTakes _ _ _ (by decide) (by decide +kernel), by decide⟩

/-- The state of `testState` with subscription 9. -/
def testSubscribed : State := { testState with objs := [(objKey tyLeg 7, []), (objKey tySub 9, [])] }

theorem test_wit_JcpObjects_plain :
    (beNat (beBytes 4 7) < 4096 ∧ testState.objExists tyConf 7 = false ∧ testState.audioFits (testState.putAttrs tyConf 7 []) = true) ∧
    (testState.takesCmd (testCmd 0x11 [(0x20, [8]), (0x21, beBytes 4 95), (0x22, beBytes 2 0x500 ++ beBytes 4 8000)]) 0x11 0 testSession testEpoch
        [(0x20, [8]), (0x21, beBytes 4 95), (0x22, beBytes 2 0x500 ++ beBytes 4 8000)] ∧
      8000 * testState.shAttr 0 95 0x502 ≤ 8000 * testState.shAttr 0 95 0x501) ∧
    (∃ u, testState.objModify 8 95 [(0x500, beBytes 4 8000)] = .ok u) ∧ (∃ e, testState.objModify 1 9 [] = .error e) ∧ (∃ e, testState.objDelete tySub 9 = .error e) ∧
    (∃ u n, testSubscribed.objDelete tySub 9 = .ok (u, n)) ∧ testSubscribed.objExists tySub (beNat (beBytes 4 9)) = true ∧
    (testCmd 0x12 [(0x20, [4]), (0x21, beBytes 4 9)]).payload.length = 32 + jLength (testCmd 0x12 [(0x20, [4]), (0x21, beBytes 4 9)]).payload :=
  ⟨by decide, ⟨testTakes _ _ _ (by decide) (by decide +kernel), by decide⟩, ⟨_, rfl⟩, ⟨_, rfl⟩, ⟨_, rfl⟩, ⟨_, _, rfl⟩, by decide, by decide +kernel⟩

theorem test_wit_JcpKeysAndStats : ∃ s : State, testSession.perm.getLsbD 3 = true ∧ testSession.perm.getLsbD 7 = true ∧ s.objExists tyLeg 7 = true ∧
    s.takesCmd (testCmd 0x20 testKeyTlvs) 0x20 0 testSession testEpoch testKeyTlvs ∧ profileOf 1 = some ⟨16, 14, 10, 10, false⟩ ∧
    s.takesCmd (testCmd 0x50 [(0x20, [1]), (0x21, [0, 0, 0, 7]), (0x61, [1])]) 0x50 0 testSession testEpoch [(0x20, [1]), (0x21, [0, 0, 0, 7]), (0x61, [1])] ∧
    s.statsExist 1 7 = true ∧ 32 + (s.countersTlv 1 7).length ≤ testEpoch.maxMsg :=
  ⟨testState, by decide, by decide, by decide, testTakes _ _ _ (by decide) (by decide +kernel), by decide, testTakes _ _ _ (by decide) (by decide +kernel),
    by decide, by decide +kernel⟩

theorem test_wit_HelloAndEvents : ∃ s : State, (s.jcpAddressed testHello.v6 testHello.dst testHello.dstPort = true ∧ s.jcpOn = true ∧ s.cur.restarting = false ∧
    jcpRow testHello.payload = some 1 ∧ testHello.payload.length = 32 + jLength testHello.payload ∧ testHello.payload.length ≤ s.cur.maxMsg ∧
    s.cur.sessions[0]? = some testSession ∧ testSession.id = jSession testHello.payload ∧ testSession.covers testHello = true ∧
    macOk testSession.imageKey testHello.payload = true ∧ jFlags testHello.payload % 2 = 0 ∧ testSession.hello = none ∧
    tlvsOf testHello.payload.length (jArea testHello.payload) = some [(1, [1, 1]), (2, zeros 8), (3, zeros 16), (4, [5, 0])] ∧
    commonVersion [1, 1] = some 0x0101 ∧ (testSession.inFlight.find? fun f => decide (f.seq = 5)) = some testEvent ∧
    testSession.peer = some (peerOf testHello) ∧ testSession.confirmed = some testEpoch) ∧ s.authentic testAck 0x60 0 testSession testEpoch :=
  ⟨testState, by decide +kernel, testAuthentic _ _ (by decide) (by decide +kernel)⟩

theorem test_wit_UnauthenticDropped : ∃ (s : State) (d : Datagram), datagramOf (.objDelete d) = some d ∧ s.stage ≠ 4 ∧ s.cur.restarting = false ∧
    s.cur.sessions[0]? = some testSession ∧ testSession.id = jSession d.payload ∧ testSession.covers d = true ∧ d.payload.length = 32 + jLength d.payload ∧
    d.payload.length ≤ s.cur.maxMsg ∧ macOk testSession.imageKey d.payload = false ∧ macOk testEpoch.key d.payload = false :=
  ⟨testState, { testCmd 2 [] with payload := (testCmd 2 []).payload.take 16 ++ zeros 16 }, by decide +kernel⟩

theorem test_wit_ImageStaging : ∃ s u : State, (testSession.perm.getLsbD 4 = true ∧ testEpoch.features.getLsbD 2 = true ∧ s.stageBusy = false ∧
      s.stageOwner = none ∧ s.cur.imageOp = none ∧ s.cur.programming = none ∧ u.stage = 2 ∧ nsorted s.gddr = true ∧
      beNat (zeros 4) + [1, 2, 3, 4].length ≤ 67108864) ∧
    s.takesCmd (testCmd 0x30 [(0x40, zeros 4), (0x41, [1, 2, 3, 4])]) 0x30 0 testSession testEpoch [(0x40, zeros 4), (0x41, [1, 2, 3, 4])] ∧
    s.takesCmd (testCmd 0x31 [(0x42, [1])]) 0x3101 0 testSession testEpoch [(0x42, [1])] ∧
    s.takesCmd (testCmd 0x31 [(0x42, [4])]) 0x3104 0 testSession testEpoch [(0x42, [4])] :=
  ⟨testState, testState.setStage 2, by decide +kernel, testTakes _ _ _ (by decide) (by decide +kernel),
    testTakes _ _ _ (by decide) (by decide +kernel), testTakes _ _ _ (by decide) (by decide +kernel)⟩

theorem test_wit_ImageApplication : ∃ (s : State) (i : ImageInfo), s.m.mode = .maintain ∧ s.stage = 3 ∧ s.cur.staged = some i ∧
    s.takesCmd (testCmd 0x31 [(0x42, [2]), (0x43, [0x10, 0x20])]) 0x3102 0 testSession testEpoch [(0x42, [2]), (0x43, [0x10, 0x20])] ∧
    (∃ y ∈ i.sections, y.target = beNat [0x10, 0x20]) ∧ (∀ y ∈ i.sections, y.target = beNat [0x10, 0x20] → y.live = true) ∧
    s.targetBusy (beNat [0x10, 0x20]) = false ∧ s.noStandby (beNat [0x10, 0x20]) = false ∧
    s.takesCmd (testCmd 0x31 [(0x42, [3])]) 0x3103 0 testSession testEpoch [(0x42, [3])] ∧ (∀ y ∈ i.sections, y.mayLive = true → y.live = true) ∧
    (∃ r, s.cur.running = some r ∧ sameFixed r i = true) ∧ (∀ y ∈ applyTargets i, s.targetBusy y = false ∧ s.noStandby y = false) :=
  ⟨testStaged, testImage, by decide, by decide +kernel, rfl, testTakesStaged _ _ _ (by decide) (by decide +kernel), by decide, by decide, by decide +kernel, by decide +kernel,
    testTakesStaged _ _ _ (by decide) (by decide +kernel), by decide, ⟨_, rfl, by decide +kernel⟩, by decide +kernel⟩

theorem test_wit_ImageProgramming_running : ∃ s : State, s.cur.programming = some (5, 9) := ⟨{ cur := { programming := some (5, 9) } }, rfl⟩

theorem test_wit_ImageProgramming : ∃ s : State, s.serviceModes = true ∧ s.stage = 3 ∧ s.cur.staged = some testImage ∧ s.cur.running = some testImage ∧
    s.takesCmd (testCmd 0x31 [(0x42, [5])]) 0x3105 0 testSession testEpoch [(0x42, [5])] ∧
    s.takesCmd (testCmd 0x31 [(0x42, [6])]) 0x3106 0 testSession testEpoch [(0x42, [6])] ∧
    s.takesCmd (testCmd 0x31 [(0x42, [7])]) 0x3107 0 testSession testEpoch [(0x42, [7])] ∧ testImage.secVersion ≤ 64 ∧
    (s.begun (testCmd 0x31 [(0x42, [5])]) 0 testSession).checkCopy testCopy = .ok testImage ∧
    (s.begun (testCmd 0x31 [(0x42, [6])]) 0 testSession).checkCopy testCopy = .ok testImage ∧
    (s.begun (testCmd 0x31 [(0x42, [7])]) 0 testSession).checkCopy testCopy = .ok testImage :=
  ⟨testStaged, by decide, by decide +kernel, rfl, rfl, testTakesStaged _ _ _ (by decide) (by decide +kernel), testTakesStaged _ _ _ (by decide) (by decide +kernel),
    testTakesStaged _ _ _ (by decide) (by decide +kernel), by decide, (checkCopy_begun _ _ _ _ _).trans testCopy_ok, (checkCopy_begun _ _ _ _ _).trans testCopy_ok, (checkCopy_begun _ _ _ _ _).trans testCopy_ok⟩

theorem test_wit_ModeRequests : ∃ s : State, testSession.perm.getLsbD 5 = true ∧ testSession.perm.getLsbD 6 = true ∧ testEpoch.features.getLsbD 3 = true ∧
    s.takesCmd (testCmd 0x40 [(0x50, [8])]) 0x4000 0 testSession testEpoch [(0x50, [byteOf (modeCode .maintain)])] ∧ s.m.mode = .service ∧
    s.takesCmd (testCmd 0x40 [(0x50, [11])]) 0x4000 0 testSession testEpoch [(0x50, [byteOf (modeCode .safeStop)])] ∧
    s.takesCmd (testCmd 0x40 [(0x50, [1])]) 0x4000 0 testSession testEpoch [(0x50, [byteOf (modeCode .powerUp)])] ∧
    testStaged.takesCmd (testCmd 0x40 [(0x50, [6])]) 0x4000 0 testSession testEpoch [(0x50, [byteOf (modeCode .service)])] ∧ testStaged.m.mode = .maintain ∧
    testStaged.maintaining = false ∧ testStaged.takesCmd (testCmd 0x40 [(0x51, [2])]) 0x4001 0 testSession testEpoch [(0x51, [byteOf 2])] ∧
    testStaged.lifeCycle = 1 ∧ testStaged.cur.running = some testImage ∧ bitN testImage.flags 1 = true :=
  ⟨testState, by decide, by decide, by decide, testTakes _ _ _ (by decide) (by decide +kernel), rfl, testTakes _ _ _ (by decide) (by decide +kernel),
    testTakes _ _ _ (by decide) (by decide +kernel), testTakesStaged _ _ _ (by decide) (by decide +kernel), by decide, by decide +kernel,
    testTakesStaged _ _ _ (by decide) (by decide +kernel), by decide, rfl, by decide⟩

theorem test_wit_PortConfiguration : ∃ s u : State, s.blkUp 1 1 = true ∧ s.m.mode = .maintain ∧ s.judgePort 3 0x0 0x0 = .ok () ∧
    (∀ i < 4, s.laneOwner (4 * 23 + i) = none) ∧ firSum 0x20000 ≤ 64 ∧ fld (0x20000 : W32) 12 7 ≤ 64 ∧ u.blkUp 1 1 = true ∧ u.m.mode = .diagnostic ∧
    u.laneOwner 95 = some 2 ∧ fld (0x100 : W32) 0 2 = u.rfld .atrLaneCtl 0 95 0 2 ∧ fld (0x100 : W32) 8 3 ≠ 7 ∧ u.laneOwner 3 = none ∧
    fld (0x8 : W32) 0 2 = u.rfld .atrLaneCtl 0 3 0 2 ∧ fld (0x8 : W32) 3 1 = 1 ∧ fld (0x8 : W32) 8 3 = 0 :=
  ⟨({ m := { mode := .maintain } } : State).setBlkState 1 1 4,
    (({ m := { mode := .diagnostic } } : State).setBlkState 1 1 4).rset .atrPortCfg 0 2 (1 + 16 * 95), by decide +kernel⟩

theorem test_wit_PortNegotiation : ∃ s u v : State, s.portState 95 = 1 ∧ s.laneOk (cfgBase (s.portCfg 95)) = true ∧ u.portState 95 = 2 ∧
    v.portState 95 = 3 ∧ cfgAn (v.portCfg 95) = true ∧ (v.port 95).ready = false ∧ (v.usedLanes 95).all v.laneOk = true ∧ v.usedLanes 95 ≠ [] :=
  ⟨(State.rset {} .chpClkLock 0 0 0x1F7F).setPortState 95 1, State.setPortState {} 95 2,
    ((State.rset {} .chpClkLock 0 0 0x1F7F).rset .atrPortCfg 0 95 (3 + 16 * 95)).setPortState 95 3, by decide +kernel⟩

theorem test_wit_LaneLock : ∃ s u v : State, s.portState 95 = 3 ∧ cfgAn (s.portCfg 95) = false ∧ (s.portLanes 95).all s.laneOk = true ∧
    u.atr.reconfig = some (95, some 5) ∧ u.portState 95 = 3 ∧ (u.port 95).ready = false ∧ v.laneOwner 95 = some 7 ∧ 95 ∈ v.usedLanes 7 ∧ v.portState 7 = 3 ∧
    v.laneOk 95 = true ∧ cfgAn (v.portCfg 7) = false ∧ v.rfld .atrLaneRxstat 0 95 2 1 = 1 :=
  ⟨(State.rset {} .chpClkLock 0 0 0x1F7F).setPortState 95 3, State.setPortState { atr := { reconfig := some (95, some 5) } } 95 3,
    (((State.rset {} .chpClkLock 0 0 0x1F7F).rset .atrPortCfg 0 7 (1 + 16 * 95)).setPortState 7 3).rset .atrLaneRxstat 0 95 15, by decide +kernel⟩

theorem test_wit_LinkUpAndDown : ∃ s u v : State, s.portState 0 = 5 ∧ u.portState 95 = 4 ∧ cfgAn (u.portCfg 95) = true ∧ (u.port 95).holdFrom = none ∧
    v.portState 95 = 4 ∧ (v.port 95).holdFrom = some 3 :=
  ⟨State.setPortState {} 0 5, (State.rset {} .atrPortCfg 0 95 3).setPortState 95 4, (State.setPort {} 95 { holdFrom := some 3 }).setPortState 95 4, by decide +kernel⟩

/-- A UDP datagram to the JCP port in a frame at the head of port 3's FIFO. -/
def testDatagramFrame : Bytes :=
  buildFrame ⟨zeros 6, List.replicate 6 2, 0, false, 0, [10, 0, 0, 2], [10, 0, 0, 1], 9, 47800, 64⟩ [1, 2, 3] ++ zeros 4
def testParsing : State :=
  { testState with atr := { ports := [(3, { fifo := [⟨testDatagramFrame, 0⟩] })] }, rgs := { jcp := { level := 1000000 } } }.setBlkState 1 2 4

theorem test_wit_FramesReceived_datagram : (testParsing.port 3).fifo = [⟨testDatagramFrame, 0⟩] ∧ testParsing.blkUp 1 2 = true ∧
    testParsing.stagingCells + cdiv testDatagramFrame.length 256 ≤ 32768 ∧ (∃ inner outer off len,
      parseFrame (testParsing.parseCfg 3) (testDatagramFrame.take (testDatagramFrame.length - 4)) = .udp inner outer off len ∧
      testParsing.jcpAddressed inner.v6 inner.dst inner.dstPort = true) ∧
    1000000 ≤ (testParsing.rgs.jcp.credit testParsing.t (testParsing.rfld .rgsJcpRate 0 0 0 16) (testParsing.rfld .rgsJcpRate 0 0 16 12)).level ∧
    parseFrame (testParsing.parseCfg 3) (zeros 12 ++ [8, 0] ++ zeros 46) = .fail 0x11 none :=
  ⟨by decide +kernel, by decide +kernel, by decide +kernel,
    ⟨⟨false, 0x0A000002, 0x0A000001, 0, 17, 9, 47800⟩, ⟨false, 0x0A000002, 0x0A000001, 0, 17, 9, 47800⟩, 42, 3, by decide +kernel, by decide +kernel⟩,
    by decide +kernel, by decide +kernel⟩

theorem test_wit_FramesReceived_down : ∃ s : State, s.portState 95 = 5 ∧ s.blkUp 1 1 = false :=
  ⟨((State.rset {} .atrPortCfg 0 95 (1 + 16 * 95)).setPortState 95 5).setBlkState 1 1 1, by decide +kernel⟩

theorem test_wit_FramesReceived : ∃ s : State, s.portState 95 = 5 ∧ s.blkUp 1 1 = true ∧ s.blkUp 1 2 = true ∧
    (testFrame.drop (testFrame.length - 4) = leBytes 4 (crc32 (testFrame.take (testFrame.length - 4))).toNat ∧ testFrame.length = 64 ∧
      testFrame.length ≤ s.rfld .atrLinkCfg 0 0 16 14 ∧ beField testFrame 12 2 ≠ 0x8808 ∧ testFrame.length ≤ s.fifoShare 95) ∧
    s.stagingCells + cdiv testFrame.length 256 ≤ 32768 :=
  ⟨((((State.rset {} .atrPortCfg 0 95 (1 + 16 * 95)).rset .atrLinkCfg 0 0 (1518 * 65536)).setPortState 95 5).setBlkState 1 1 4).setBlkState 1 2 4, by decide +kernel⟩

theorem test_wit_RateRegisters : ∃ s : State, s.blkUp 1 2 = true ∧ fld (0x10001 : W32) 0 16 ≠ 0 ∧ fld (0x10001 : W32) 16 12 ≠ 0 ∧ s.blkUp 4 2 = true ∧
    s.blkUp 3 12 = true ∧ s.blkUp 2 1 = true ∧ s.m.mode = .maintain ∧ fld (0x3000000 : W32) 0 24 = s.poolCount 3 ∧ s.doc.swap = none ∧ s.standby = some 16 ∧
    fld (1 : W32) 0 24 ≠ s.poolCount 3 ∧ (s.rset .cmpLcoef 0 127 0x00FF0100).phaseOk true 127 = true :=
  ⟨(((State.setBlkState { m := { mode := .maintain } } 1 2 4).setBlkState 4 2 4).setBlkState 3 12 4).setBlkState 2 1 4, by decide +kernel⟩

theorem test_wit_SecureMedia : ∃ s : State, (∃ x rest, s.rgs.staged = x :: rest ∧ x = testStagedPkt) ∧ s.blkUp 1 3 = true ∧ s.vlt.ue = [] ∧
    judgeSlot (s.slot (2 * 7)) 7 = .ok ⟨16, 14, 10, 10, false⟩ ∧ judgeSlot (s.slot (2 * 7 + 1)) 7 = .ok ⟨16, 14, 10, 10, false⟩ ∧ s.replay 9 = true ∧
    replayOk (s.ctx 9).rtpHigh (s.ctx 9).rtpWin 5 = true ∧ unprotect (s.slot (2 * 7)) ⟨16, 14, 10, 10, false⟩ false testStagedPkt.frame 5 = some testRtp ∧
    (∃ c rest, s.vlt.copies = c :: rest ∧ c.leg = 7) ∧ s.pipesFor ⟨16, 14, 10, 10, false⟩ = true ∧ 12 + 10 ≤ testStagedPkt.frame.length ∧
    (s.rset .vltAesStatus 0 0 0xFFFFFFFF).pipesFor ⟨16, 14, 10, 10, false⟩ = false ∧
    unprotect (s.slot (2 * 7)) ⟨16, 14, 10, 10, false⟩ false (zeros 10 ++ testStagedPkt.frame.drop 10) 5 = none :=
  ⟨testSecure, ⟨_, _, rfl, rfl⟩, by decide, by decide, testSlot_ok, testSlot_ok, by decide, by decide, by decide +kernel, ⟨_, _, rfl, by decide⟩,
    by decide +kernel, by decide +kernel, by decide +kernel, by decide +kernel⟩

theorem test_wit_SecureMedia_noKey : judgeSlot (State.slot { rgs := { staged := [testStagedPkt] } } (2 * 7)) 7 = .error 0x43 := by decide +kernel

theorem test_wit_KeySweepAndKnownAnswers : ∃ s : State, s.blkUp 1 3 = true ∧ nget s.sup.rounds 3 = some 5 ∧ nget s.sup.rounds 0 = some 6 ∧
    s.rfld .vltShaStatus 0 0 7 1 = 0 := ⟨State.setBlkState { sup := { rounds := [(0, 6), (3, 5)] } } 1 3 4, by decide⟩

theorem test_wit_VaultJobs : ∃ s u : State, s.vlt.jobs.find? (fun j => decide (j.stage = 1) && decide (jfld (s.jobDesc j) 0 4 = 3)) = some ⟨5, 0, 1, 0⟩ ∧
    takeFirst u.jobEnded u.vlt.jobs = some (⟨5, 0, 2, 8⟩, []) ∧
    countIf (fun j => decide (j.core = 5) && decide (j.stage = 0)) (List.replicate 8 (⟨5, 0, 0, 0⟩ : VaultJob)) = 8 ∧
    testJobState.aesUp = true ∧ (testJobState.rset .vltAesStatus 0 0 0xFFFFFFFF).aesUp = false ∧ nsorted testJobState.gddr = true ∧
    testJobState.judgeJob ⟨5, 0, 1, 0⟩ = 0 ∧ jfld (testJobState.jobDesc ⟨5, 0, 1, 0⟩) 0 4 = 3 :=
  ⟨testJobState, { vlt := { jobs := [⟨5, 0, 2, 8⟩] } }, by decide +kernel, by decide +kernel, by decide, by decide +kernel, by decide +kernel, by decide +kernel,
    by decide +kernel, by decide +kernel⟩

theorem test_wit_Buffers_lie (h : W32) (p : hPool h = 0) (i : hIndex h < testPools.poolCount 0) : testPools.addrOk h = true := by
  have c : testPools.poolCount 0 = 100 := by decide +kernel
  have b : testPools.poolBase 0 = 16777216 := by decide +kernel
  have r : testPools.regionBase 8 + testPools.regionSize 8 = 33554432 := by decide +kernel
  simp only [State.addrOk, State.bufAddr, p, b, poolAlign, poolSize, List.getD_cons_zero, decide_eq_true_eq, Nat.add_zero]
  omega

theorem test_wit_Buffers : ∃ s : State, s.outstanding 3 < 256 ∧ s.startPool 256 = some 0 ∧ s.firstFree 0 (s.poolCeil 0) = some 0 ∧
    s.handleFault 3 0 (mkHandle 0 4 6) = none ∧ s.handleFault 3 1 (mkHandle 0 4 6) = none ∧ s.handleFault 3 2 (mkHandle 0 4 6) = none ∧
    (s.bufRec (mkHandle 0 4 6)).ext = false ∧ s.clo.stalled = [] ∧ s.clo.held = [] ∧ s.clo.beyond = [] ∧ (s.pool 0).freed = [5] ∧
    (∀ i ∈ (s.pool 0).freed, i < s.poolCount 0) := ⟨testPools, by decide +kernel⟩

theorem test_wit_QueuesInOrder : ∃ s : State, s.enqueueFault 131072 3 { handle := mkHandle 0 4 6, len := 9 } = none ∧
    (s.queue 131073).first = some { handle := 7 } ∧ (s.queue 131074).tail.find? (fun d => !d.complete) = some { handle := mkHandle 0 4 6, complete := false } ∧
    s.stk.slots.contains 131072 = false ∧ (s.queue 131073).depth ≠ 0 ∧ s.timeoutUs 131073 ≠ 0 ∧ s.waitingEnqs 131072 = [] ∧
    s.enqueueFault 131074 3 { handle := mkHandle 0 4 6, len := 9 } = some 0x11 ∧ s.enqueueFault 7 3 { handle := mkHandle 0 4 6, len := 9 } = none ∧
    (s.queue 131072).depth = 0 := ⟨testPools, by decide +kernel⟩

theorem test_wit_QueuesInOrder_management : ∃ s : State, s.handleFault 0 0 (mkHandle 0 4 6) = none ∧ (s.bufRec (mkHandle 0 4 6)).owner = 0 ∧
    (262144 + 95 < 262240) :=
  ⟨{ testPools with clo := { pools := [(0, { recs := [(6, { count := 1, gen := 4, owner := 0, alloc := true })] })] } }, by decide +kernel⟩

theorem test_wit_PortScheduling : ∃ s u : State, s.portSends 95 = true ∧ nget s.mgmt 95 = some [.message ⟨95, zeros 6, false, 1, 2, 3, 4⟩ [1], .built 7 0 60 true] ∧ 0 ≤ s.mgmtTokens 95 ∧
    s.egressOn = true ∧ u.portSends 95 = true ∧ (nget u.mgmt 95).getD [] = [] ∧ (s.shaper 2 32767).pending = false ∧ State.portSends {} 0 = false ∧
    s.gpoison (s.bufAddr 7) 60 = false ∧ (32767 < [96, 4096, 32768].getD 2 0) ∧
    ({ s with mgmt := [(95, [.built 7 0 60 true])] } : State).portSends 95 = true :=
  ⟨((State.setBlkState { m := { mode := .service }, mgmt := [(95, [.message ⟨95, zeros 6, false, 1, 2, 3, 4⟩ [1], .built 7 0 60 true])] } 1 5 4).setBlkState 1 1 4).rset .tmgPortState 0 95 0,
    ((State.setBlkState { m := { mode := .service } } 1 5 4).setBlkState 1 1 4).rset .tmgPortState 0 95 0, by decide +kernel⟩

theorem test_wit_DspArithmetic : (∃ s : State, s.issues 271 (dspWordFn 0x02 0x00 0x3FBC000) none) ∧ (∃ s : State, s.issues 0 (dspWord 0x30 0x3C00000) (some 7)) ∧
    (∃ s : State, s.issues 5 (dspWord 0x05 0x2A0000) none) ∧ (∃ s : State, s.issues 5 (dspWord 0x05 0x238000) none) ∧ specialOk 35 true = true :=
  ⟨⟨testCore 271 [0x0BFBC000] {}, testIssues _ _ _ _ (by decide +kernel)⟩, ⟨testCore 0 [0xC3C00000, 7] {}, testIssues _ _ _ _ (by decide +kernel)⟩,
    ⟨testCore 5 [0x142A0000] {}, testIssues _ _ _ _ (by decide +kernel)⟩, ⟨testCore 5 [0x14238000] {}, testIssues _ _ _ _ (by decide +kernel)⟩, by decide⟩

theorem test_wit_DspMemory : (∃ s : State, s.issues 3 (dspWord 0x08 0x0780000) none ∧ dspRegion ((s.core 3).pointer 7 0 4).1 = some 0) ∧
    (∃ s : State, s.issues 3 (dspWord 0x36 0) (some 0x1FFFF8) ∧ dspRegion 0x1FFFF8 = some 2) ∧
    (∃ s : State, s.issues 3 (dspWord 0x33 0) (some 0x800324) ∧ dspRegion 0x800324 = some 3) ∧ dspRegion 0x40000 = none :=
  ⟨⟨testCore 3 [0x20780000] {}, testIssues _ _ _ _ (by decide +kernel), by decide +kernel⟩, ⟨testCore 3 [0xD8000000, 0x1FFFF8] {}, testIssues _ _ _ _ (by decide +kernel), by decide +kernel⟩,
    ⟨testCore 3 [0xCC000000, 0x800324] {}, testIssues _ _ _ _ (by decide +kernel), by decide +kernel⟩, by decide⟩

theorem test_wit_DspMultiply : (∃ s : State, s.issues 9 (dspWord 0x10 0x20) none) ∧ (∃ s : State, s.issues 9 (dspWord 0x12 0) none) ∧
    (∃ s : State, s.issues 9 (dspWord 0x11 0x8000) none ∧ dspRegion ((s.core 9).pointer 1 0 8).1 = some 1) ∧
    (∃ s : State, s.issues 9 (dspWord 0x14 0x3008000) none ∧ dspRegion ((s.core 9).pointer 0 0 2).1 = some 0) ∧
    (∃ s : State, s.issues 9 (dspWord 0x15 0x3FFF800) none) ∧ (∃ s : State, s.issues 9 (dspWordFn 0x16 3 0x3C0030) none) :=
  ⟨⟨testCore 9 [0x40000020] {}, testIssues _ _ _ _ (by decide +kernel)⟩, ⟨testCore 9 [0x48000000] {}, testIssues _ _ _ _ (by decide +kernel)⟩,
    ⟨testCore 9 [0x44008000] { p := [(1, 0x20000)] }, testIssues _ _ _ _ (by decide +kernel), by decide +kernel⟩, ⟨testCore 9 [0x53008000] { p := [(1, 0x20000)] }, testIssues _ _ _ _ (by decide +kernel), by decide +kernel⟩,
    ⟨testCore 9 [0x57FFF800] {}, testIssues _ _ _ _ (by decide +kernel)⟩, ⟨testCore 9 [0x583C0330] {}, testIssues _ _ _ _ (by decide +kernel)⟩⟩

theorem test_wit_DspControl : (∃ s : State, s.issues 0 (dspWord 0x21 0x3FFFFF) none) ∧ (∃ s : State, s.issues 0 (dspWord 0x32 0) (some 0x100000)) ∧
    (∃ s : State, s.issues 0 (dspWord 0x28 0x10000) none ∧ (s.core 0).depth = 2) ∧ (∃ s : State, s.issues 0 (dspWord 0x29 0x10000) none ∧ (s.core 0).depth = 3) ∧
    (∃ s : State, s.issues 0 (dspWord 0x2C 0) none ∧ (s.core 0).stack = []) ∧ (∃ s : State, s.issues 0 (dspWord 0x2D 0x3FFFFFF) none) ∧
    (∃ s : State, s.issues 0 (setFld (dspWord 0x2F 0x80000) 0 2 1) none ∧ dspRegion ((s.core 0).preg 1).toNat = some 2) ∧
    (∃ s : State, s.atWord 0 0 none ∧ dspLegal 0 = false) :=
  ⟨⟨testCore 0 [0x843FFFFF] {}, testIssues _ _ _ _ (by decide +kernel)⟩, ⟨testCore 0 [0xC8000000, 0x100000] {}, testIssues _ _ _ _ (by decide +kernel)⟩,
    ⟨testCore 0 [0xA0010000] { sr := 0xA0 }, testIssues _ _ _ _ (by decide +kernel), by decide +kernel⟩, ⟨testCore 0 [0xA4010000] { sr := 0xE0 }, testIssues _ _ _ _ (by decide +kernel), by decide +kernel⟩,
    ⟨testCore 0 [0xB0000000] {}, testIssues _ _ _ _ (by decide +kernel), by decide +kernel⟩, ⟨testCore 0 [0xB7FFFFFF] {}, testIssues _ _ _ _ (by decide +kernel)⟩,
    ⟨testCore 0 [0xBC080001] { p := [(1, 0x1FFFFC)] }, testIssues _ _ _ _ (by decide +kernel), by decide +kernel⟩, ⟨testCore 0 [0] {}, testAtWord _ _ _ _ (by decide +kernel), by decide +kernel⟩⟩

theorem test_wit_FanOut : ∃ s : State, (s.blkUp 1 4 = true ∧ ngetD [] s.fwd.outPkts 0 = [{ handle := 7, poison := true }] ∧ s.fwd.cache = [5] ∧
    (nget s.fwd.subs 1048575).isSome = true ∧ s.peer? (s.subLeg 1048575) = none ∧ (nget s.fwd.subs 9).isSome = true ∧
    (s.fwdStream 131071).ring.length = 1 ∧ nsorted (s.fwdStream 131071).ring = true ∧ (s.fwd.rtcp.map (·.len)) = [12] ∧
    beField (s.gread (s.bufAddr (mkHandle 0 0 0)) 12) 0 4 = 0x81CE0002 ∧ s.gpoison (s.bufAddr (mkHandle 0 0 0)) 12 = false) ∧
    (∃ e, nget s.fwd.subs 9 = some e ∧ e.pend = 1 ∧ e.started = true ∧ e.curS < e.tgtS) :=
  ⟨testFwd, by decide +kernel, ⟨_, rfl, by decide⟩⟩

theorem test_wit_FanOut_taken : ∃ s : State, (s.flushOutbox.walksHeld < 512 ∧ ngetD [] s.flushOutbox.fwd.outPkts 0 = [{ handle := 7 }] ∧
    s.flushOutbox.media 9 = 1 ∧ s.flushOutbox.media 10 = 3 ∧ (s.flushOutbox.queue (streamQueue 9)).bell = true ∧ (s.flushOutbox.queue (streamQueue 10)).bell = true ∧
    (s.flushOutbox.queue (streamQueue 9)).first = some { handle := 7, len := 16 } ∧ (s.flushOutbox.queue (streamQueue 10)).first = some { handle := 7, len := 16 } ∧
    s.srcSyntax 131072 = 0 ∧ ngetD {} s.fwd.lists 131072 = {} ∧ (s.fwdStream 131072).keyHeld = false ∧ s.subOf 7 0 = some 9) ∧
    (∃ e, nget s.fwd.subs 8 = some e ∧ e.fenced = false ∧ e.source = 9 ∧ s.peer? (s.subLeg 8) = none ∧ e.pend = 0 ∧ (5 - e.highestIn).toNat = 1 ∧
      WalkPkt.takenAt ⟨9, 5, 0, 0, {}, 0, none, false⟩ e.curS e.curT = true ∧ WalkPkt.takenAt ⟨9, 5, 0, 0, { s := 3 }, 0, none, false⟩ e.curS e.curT = false ∧
      (4 - e.highestIn).toNat = 0) :=
  ⟨testWalk, by decide +kernel, ⟨_, rfl, by decide +kernel⟩⟩

theorem test_wit_Docent : (∃ s : State, s.doorbell 271 = true ∧ (s.readyOf 271).length = 1 ∧ s.blkUp 2 32 = true ∧ (s.core 271).run = 0 ∧
      s.doorbell 3 = true ∧ (s.core 3).run = 1 ∧ (s.core 3).srFld 5 1 = 0 ∧ (s.core 3).branch = none ∧ s.blkUp 2 16 = true ∧
      nhas s.doc.running 3 = true ∧ s.doc.blocked = [] ∧ 3 ∉ s.doc.trapped ∧ nhas s.doc.active 131071 = true ∧ 7 ∈ s.doc.fenced ∧ s.itemCount < 65536 ∧
      (s.core 4).moves.length = 4 ∧ s.doorbell 272 = true) ∧
    (∃ s : State, s.doc.swap = some (15, 16, 0, false) ∧ s.phase = 1 ∧ s.clusterEntered 0 = true) ∧
    (∃ s : State, s.doc.swap = some (15, 16, 0, false) ∧ s.phase = 2 ∧ s.clusterBusy 16 = false) ∧
    (∃ s : State, s.doc.swap = some (15, 16, 0, false) ∧ s.phase = 2 ∧ s.clusterBusy 16 = true) ∧
    (∃ s : State, s.doc.swap = some (15, 16, 0, false) ∧ s.phase = 3 ∧ s.clusterEntered 16 = true) :=
  ⟨⟨testDocent, by decide +kernel⟩, ⟨testSwap 0 1, by decide +kernel⟩, ⟨testSwap 0 2, by decide +kernel⟩,
    ⟨{ testSwap 0 2 with doc := { (testSwap 0 2).doc with running := [(271, ⟨1, 1, 0x40, 1, 0, [], 0⟩)] } }, by decide +kernel⟩,
    ⟨testSwap 16 3, by decide +kernel⟩⟩

theorem test_wit_Docent_audio : ∃ s : State, nget s.doc.running 5 = some { type := 2 } ∧ 5 ∉ s.doc.trapped ∧ s.doc.waitSwap = [] ∧ s.stage ≠ 4 ∧
    (s.core 5).moves = [⟨true, mkHandle 0 4 6, 0, 0, 4, true⟩] ∧ nsorted s.gddr = true :=
  ⟨State.setCore { doc := { running := [(5, { type := 2 })] } } 5 { moves := [⟨true, mkHandle 0 4 6, 0, 0, 4, true⟩] }, by decide⟩

theorem test_wit_AudioAndPeers_packet : ∃ w : State, w = testAudio.flushTasks ∧ (w.queue (streamQueue 131071)).all[(w.audIn 131071).taken.length]? = some { len := 172 } ∧
    w.gpoison (w.bufAddr 0) 172 = false ∧ w.peerSsrc 131071 = none ∧ byteN (w.gread (w.bufAddr 0) 172) 0 / 32 % 2 = 0 ∧
    audDuration (w.attr tyStream 131071 0x600 0) (zeros 160) = some 1 ∧ w.afb.last = none ∧ (w.audIn 131071).resync = false ∧ (w.audIn 131071).streak < 2 ∧
    w.vlt.copies.length < 512 ∧ w.fwd.waitCopies = [] :=
  ⟨_, rfl, by decide +kernel⟩

theorem test_wit_AudioAndPeers_frame : ∃ s : State, s.gpoison (s.bufAddr 0) 1984 = false ∧ s.gread (s.bufAddr 0) 4 = leBytes 4 (tagWord 5 6) ∧
    s.gread (s.bufAddr 0 + 4) 4 = leBytes 4 (tagWord 5 6) ∧ (s.peerState 7 = 0) :=
  ⟨{ gddr := memWrite [] 0 (leBytes 4 (tagWord 5 6) ++ leBytes 4 (tagWord 5 6)) }, by decide +kernel⟩

theorem test_wit_AudioAndPeers : (∃ s : State, s.blkUp 2 2 = true ∧ s.media 131071 = 0 ∧ s.objExists tyStream 131071 = true ∧
      (s.queue (streamQueue 131071)).bell = true ∧ ((s.queue (streamQueue 131071)).all.map (·.len)) = [172] ∧
      (s.audConf 4095).tick = some 7 ∧ s.cascadeOn = true ∧ s.peerState 1023 = 2 ∧ s.cas.hellos.length = 1 ∧
      (s.audConf 9).pending = some (4, 1, 0) ∧ (s.audConf 9).freeSlot = some 1) ∧
    audDuration 1 (zeros 160) = some 2 ∧ audDuration 1 (zeros 161) = none ∧ audDuration 0 [0x48] = some 2 := ⟨⟨testAudio, by decide +kernel⟩, by decide +kernel, by decide +kernel, by decide⟩

theorem test_wit_VideoDecoding : (∃ s : State, (s.decCtx? 131071).isSome = true ∧ s.blkUp 3 1 = true ∧ s.media 131071 = 2 ∧ (s.queue (streamQueue 131071)).bell = true ∧
      (s.dequeue (streamQueue 131071)).isSome = true ∧ s.syntaxOf 131071 = 1 ∧ (s.decCtx? 8).bind (·.moveTo) = some 3 ∧
      s.inEngine 8 = false) ∧
    (∃ s : State, (s.nextContext 0).map (·.1) = some 7 ∧ s.rfld .vdeRes 0 0 16 12 ≠ 0 ∧ s.blkUp 3 1 = true ∧ s.blkUp 3 13 = true ∧ s.decPipe 0 = [] ∧
      s.chainPoison { ts := 1, openedAt := 0 } = false ∧ ((s.decCtx? 7).map fun x => x.missing 1 testHead) = some 0 ∧ s.syntaxOf 7 = 1 ∧
      picSupported 1 testHead = true ∧ 16 ≤ s.maxW 7 ∧ 16 ≤ s.maxH 7 ∧ (s.storesOf 7).length < s.pgStores ∧ storePages 16 16 false ≤ s.pgAvail 7 ∧
      s.pgr.stores = []) ∧
    (∃ s : State, (s.decPipe 0).length = 1 ∧ (s.decCtx? 7).isSome = true ∧ (s.store? 0).isSome = true ∧ nsorted s.pgr.stores = true) :=
  ⟨⟨testDecode, by decide +kernel⟩, ⟨testDecode, by decide +kernel⟩,
    ⟨{ testDecode with vde := { testDecode.vde with pipe := [(0, [⟨7, 0, { ts := 1, openedAt := 0 }, testHead, 0, false, none⟩])] },
                       pgr := { testDecode.pgr with stores := [(0, { owner := 7, width := 16, height := 16, depth10 := false, busy := true })] } }, by decide +kernel⟩⟩

theorem test_wit_VideoDecoding_packet : (∃ d u, testDecode.dequeue (streamQueue 131071) = some (d, u) ∧ d = { len := 16 } ∧
      u.gread (u.bufAddr d.handle) d.len = [0x80, 0x80, 0, 5] ++ zeros 4 ++ [0, 0, 0, 9] ++ [0x65, 1, 2, 3] ∧ u.gpoison (u.bufAddr d.handle) d.len = false ∧
      (u.setFwdStream 131071 { u.fwdStream 131071 with ssrc := 9 }).hwAlloc 6 131071 16384 =
        (.ok 0x60000000, ((u.setFwdStream 131071 { u.fwdStream 131071 with ssrc := 9 }).hwAlloc 6 131071 16384).2) ∧
      nsorted ((u.setFwdStream 131071 { u.fwdStream 131071 with ssrc := 9 }).hwAlloc 6 131071 16384).2.gddr = true) ∧
    ((testDecode.decCtx? 9).map fun x => (x.opened.length, x.waiting.length)) = some (1, 0) ∧ testDecode.attr tyStream 131071 0x707 2097152 = 2097152 :=
  ⟨⟨_, _, rfl, rfl, by decide +kernel, by decide +kernel, by decide +kernel, by decide +kernel⟩, by decide +kernel, by decide +kernel⟩

/-- A context that is closed to new units, and a picture whose context ends with it. -/
theorem test_wit_VideoDecoding_ends : ∃ s : State, ((s.decCtx? 7).map (·.phase)) = some 3 ∧ ((s.decPipe 0).map (·.ends)) = [some 1000000] ∧ s.blkUp 3 1 = true ∧
    s.blkUp 3 13 = true :=
  ⟨{ testDecode with vde := { ctx := [(7, { phase := 3 })], pipe := [(0, [⟨7, 0, { ts := 1, openedAt := 0 }, testHead, 0, false, some 1000000⟩])] } }, by decide +kernel⟩

theorem test_wit_ComposingAndEncoding : (∃ s w : State, w = s.encMoves.endOutputs ∧ s.blkUp 3 12 = true ∧ s.blkUp 3 13 = true ∧ (w.surf? 16383).isSome = true ∧
      16383 ∉ w.cmp.ending ∧ w.frameOpen 16383 = false ∧ (w.nextDue 3).isSome = true ∧ nhas w.cmp.frame 3 = false ∧ w.rfld .cmpPipeRes 0 3 16 10 ≠ 0 ∧
      (w.surf? 5).isSome = true ∧ w.frameOpen 5 = true ∧ ∀ y ∈ w.pgr.stores, y.1 < w.pgr.nextId) ∧
    (∃ s : State, (nget s.cmp.frame 0).map (·.h) = some 64 ∧ s.bandPoison ((nget s.cmp.frame 0).getD testFrame16) 0 16 = false ∧ (s.surf? 5).isSome = true ∧
      (s.store? 0).isSome = true) ∧
    (∃ s : State, s.blkUp 3 8 = true ∧ s.blkUp 3 13 = true ∧ (ngetD [] s.ven.rows 0).map (·.row) = [1] ∧ ((nget s.ven.frame 0).map (·.layers.length)) = some 1 ∧
      s.blockSide 5 * s.layerW 5 0 = 256 ∧ s.hasBits 5 7 = true ∧ nsorted s.gddr = true ∧ s.packetEngine 5 = 0 ∧ s.gpoison (s.bufAddr 7) 100 = false ∧
      s.slayers 5 = 1 ∧ s.ctBytes (s.carrierQueue 5) = 0 ∧ s.objExists tyOutput 5 = true ∧ (s.queue (s.carrierQueue 5)).bell = true ∧
      (s.queue (s.carrierQueue 5)).first.map (·.kind) = some 1 ∧ s.vcodec 5 = 1) :=
  ⟨⟨testCompose, _, rfl, by decide +kernel⟩, ⟨testCompose, by decide +kernel⟩, ⟨testEncode, by decide +kernel⟩⟩

/-- A row of 16 lines of 16 samples is coded; a last coded unit fits one packet, whose buffer is free. -/
theorem test_wit_ComposingAndEncoding_units :
    (LayerFrame.takeRows { target := 1000, cap := 2000, rate := 100000, budget := [500, 500], left := 8, handle := 7 } (List.replicate 256 1, [], [])).luma.length = 256 ∧
    (nget testEncode.ven.ctx 5).map (fun x => x.bits.map fun f => (f.handle, f.units.drop f.unit_, f.pos)) = some [(7, [⟨zeros 100, false⟩], 0)] ∧
    (testEncode.hwAlloc 7 (packetWork 5) 112).1 = .ok 0 ∧ nsorted (testEncode.hwAlloc 7 (packetWork 5) 112).2.gddr = true := by decide +kernel

theorem test_wit_MemoryController : (∃ s : State, s.memUp = true ∧ s.memRight 0 (2 ^ 20 + 60) 8 = true ∧ s.memRight 0x2800 4096 8 = false ∧ s.retrains = true ∧
      s.rfld .mctRetrain 0 0 0 6 = 47 ∧ s.mct.visitAt = some 5 ∧ s.rfld .mctChStatus 0 44 0 2 = 0 ∧ s.rfld .mctCfg 0 0 28 1 = 1 ∧ s.rfld .mctCfg 0 0 0 20 ≠ 0 ∧
      s.rfld .mctChStatus 0 0 0 2 = 1 ∧ nsorted s.gddr = true ∧ s.m.mode ≠ .wipe ∧ burstsOf (2 ^ 20 + 60) 4 = [16384] ∧ s.mct.queues = [] ∧ s.mct.stalled = [] ∧
      s.mct.reqs = [] ∧ s.burstFault (faultOf [⟨16384, true⟩] 16384) 16384 = 2 ∧ s.burstFault (faultOf [⟨16384, true⟩] 16385) 16385 = 0 ∧
      (∀ r < 18, s.regionBase r + s.regionSize r ≤ 2 ^ 36 - 64)) :=
  ⟨testMct, by decide +kernel⟩

/-- A channel grants the older of two reads. -/
theorem test_wit_MemoryController_pick : (State.pick { mct := { queues := [(3, [⟨0, 1, .read, true, 5, 320, 64, [], 0, 0⟩, ⟨1, 1, .read, true, 6, 384, 64, [], 0, 0⟩])] } } 3).map
    (fun e => (e.1, e.2.burst)) = some ([], 5) := by decide +kernel

end Sys2Proof.Tests
end

/-!
PROOF. Accesses to one word of the control space (R7, R8, R19, R20, R120): what `accessOk` lets through, what a store does to
the fields of a register, what a read of a 64-bit counter answers and latches.
-/

namespace Sys2Proof.Machine

/-! ### Register accesses -/

/-- An access that begins at an unmapped address is refused, however many words it names (R19). -/
theorem State.accessOk_of_unmapped (s : State) {a : Nat} (n : Nat) (ha : mappedAddr a = false) :
    s.accessOk a n = .error stUnmapped := by
  simp [State.accessOk, refuseIf, ha, bind, Except.bind]

/-- One word at a mapped address of a block in service may be accessed (R19, R20). -/
theorem State.accessOk_word {s : State} {a : Nat} (ha : mappedAddr a = true)
    (hb : s.blkUp (addrWing a) (addrBlk a) = true) : s.accessOk a 1 = .ok () := by
  simp [State.accessOk, refuseIf, ha, hb, bind, Except.bind]

/-! ### Storing a word by the types of its fields (R8) -/

/-- A store changes registers only. -/
theorem State.storeRw_spec (s : State) (r : Reg) (u i : Nat) (v : W32) :
    s.storeRw r u i v = { s with regs := (s.storeRw r u i v).regs } := rfl

theorem State.storeRw_regsKept (s : State) (r : Reg) (u i : Nat) (v : W32) :
    (s.storeRw r u i v).regsKept s [regAddr r u i] := fun _ ha =>
  nget_nputD_ne _ _ _ (List.ne_of_not_mem_cons ha)

/-- Each bit after a store: an RW bit takes the value's, an RW1C bit written with 1 is cleared, any other stays. -/
theorem State.getLsbD_rget_storeRw (s : State) (r : Reg) (u i : Nat) (v : W32) {j : Nat} (hj : j < 32) :
    ((s.storeRw r u i v).rget r u i).getLsbD j =
      if (regInfo r).rw.getLsbD j then v.getLsbD j
      else if (regInfo r).rw1c.getLsbD j && v.getLsbD j then false
      else (s.rget r u i).getLsbD j := by
  simp only [State.storeRw, State.rget_rset_self, BitVec.getLsbD_or, BitVec.getLsbD_and, BitVec.getLsbD_not, hj,
    decide_true, Bool.true_and]
  cases (regInfo r).rw.getLsbD j with
  | true => simp
  | false => cases (regInfo r).rw1c.getLsbD j && v.getLsbD j <;> simp

/-! ### The write of one register without behaviour of its own -/

theorem State.regWrite_of_plainReg (s : State) {r : Reg} (u i : Nat) (v : W32) (hr : plainReg r = true) :
    s.regWrite r u i v = .ok (s.storeRw r u i v) := by
  cases r <;> simp [plainReg] at hr <;> rfl

/-- The registers that `writeWords` writes as groups have behaviour of their own. -/
theorem ne_of_plainReg {r q : Reg} (hr : plainReg r = true) (hq : plainReg q = false) : r ≠ q := by
  rintro rfl
  simp [hq] at hr

theorem State.writeWords_of_plainReg (s : State) {x : RegRef} (v : W32) (hr : plainReg x.reg = true) :
    s.writeWords [(x, v)] = .ok (s.storeRw x.reg x.unit x.item v) := by
  have hcfg : x.reg ≠ .atrPortCfg := ne_of_plainReg hr rfl
  have hadv : x.reg ≠ .atrPortAdv := ne_of_plainReg hr rfl
  have hluma : x.reg ≠ .cmpLcoef := ne_of_plainReg hr rfl
  have hchroma : x.reg ≠ .cmpCcoef := ne_of_plainReg hr rfl
  have hports : portsOf [(x, v)] = [] := by simp [portsOf, hcfg, hadv]
  simp [State.writeWords, hports, refuseIf, hcfg, hadv, hluma, hchroma, s.regWrite_of_plainReg _ _ _ hr, bind, Except.bind,
    pure, Except.pure]

theorem State.writeRun_of_unmapped (s : State) {a : Nat} (vs : List W32) (mask : Option (List W32))
    (ha : mappedAddr a = false) : s.writeRun a vs mask = .error stUnmapped := by
  simp [State.writeRun, s.accessOk_of_unmapped _ ha, bind, Except.bind]

theorem State.writeRun_of_plainReg {s : State} {a : Nat} {r : Reg} {u i : Nat} (v : W32) (hok : s.accessOk a 1 = .ok ())
    (hf : findReg a = some ⟨r, u, i, false⟩) (hw : (regInfo r).wide = false) (hr : plainReg r = true) :
    s.writeRun a [v] none = .ok (s.storeRw r u i v) := by
  simpa [State.writeRun, hok, hf, hw, bind, Except.bind] using s.writeWords_of_plainReg (x := ⟨r, u, i, false⟩) v hr

/-! ### Reads of 64-bit counters (R120) -/

theorem State.readWord_of_low {s : State} {a : Nat} {r : Reg} {u i : Nat} (hf : findReg a = some ⟨r, u, i, false⟩)
    (hw : (regInfo r).wide = true) :
    s.readWord a = ((s.cget r u i).setWidth 32,
      { s with latches := nput s.latches (regAddr r u i) ((s.cget r u i >>> 32).setWidth 32) }) := by
  simp [State.readWord, hf, hw]

theorem State.readWord_of_high_held {s : State} {a : Nat} {r : Reg} {u i : Nat} {w : W32}
    (hf : findReg a = some ⟨r, u, i, true⟩) (hw : (regInfo r).wide = true) (hl : nget s.latches (regAddr r u i) = some w) :
    s.readWord a = (w, { s with latches := ndel s.latches (regAddr r u i) }) := by
  simp [State.readWord, hf, hw, hl]

theorem State.readWord_of_high_free {s : State} {a : Nat} {r : Reg} {u i : Nat}
    (hf : findReg a = some ⟨r, u, i, true⟩) (hw : (regInfo r).wide = true) (hl : nget s.latches (regAddr r u i) = none) :
    s.readWord a = ((s.cget r u i >>> 32).setWidth 32, s) := by
  simp [State.readWord, hf, hw, hl]

/-! ### The two commands -/

theorem exec_registerWrite_of_error {s : State} {a v : W32} {e : Nat} (h : s.writeRun a.toNat [v] none = .error e) :
    exec (.registerWrite a v) s = .next { s with answer := ⟨e, []⟩ } :=
  congrArg (fun x => Host.Outcome.next (s.answerWith x)) h

theorem exec_registerWrite_of_ok {s t : State} {a v : W32} (h : s.writeRun a.toNat [v] none = .ok t) :
    exec (.registerWrite a v) s = .next { t with answer := ⟨0, []⟩ } :=
  congrArg (fun x => Host.Outcome.next (s.answerWith x)) h

theorem exec_counterLowRead_of_error {s : State} {a : W32} {e : Nat} (h : s.accessOk a.toNat 1 = .error e) :
    exec (.counterLowRead a) s = .next { s with answer := ⟨e, []⟩ } := by
  show execCounterLowRead a s = _
  rw [execCounterLowRead, h]

theorem exec_counterLowRead_of_ok {s t : State} {a w : W32} (hok : s.accessOk a.toNat 1 = .ok ())
    (h : s.readWord a.toNat = (w, t)) : exec (.counterLowRead a) s = .next { t with answer := ⟨0, [w]⟩ } := by
  show execCounterLowRead a s = _
  rw [execCounterLowRead, hok, h]

/-- Settles O25: an access passes `accessOk` or changes nothing; a plain write is one `storeRw`, a counter's read one
`readWord`. -/
theorem registerAccess : Obligations.RegisterAccess := by
  intro s a v
  refine ⟨fun ha => ⟨exec_registerWrite_of_error (s.writeRun_of_unmapped [v] none ha),
    exec_counterLowRead_of_error (s.accessOk_of_unmapped 1 ha)⟩, fun ha hb => ?_⟩
  have hok : s.accessOk a.toNat 1 = .ok () := State.accessOk_word ha hb
  refine ⟨fun r u i hf hw hr => ?write, fun r u i hf hw => ?low, fun r u i hf hw => ?high⟩
  case write =>
    exact ⟨_, exec_registerWrite_of_ok (State.writeRun_of_plainReg v hok hf hw hr), s.storeRw_regsKept r u i v,
      congrArg (fun x : State => { x with answer := ⟨0, []⟩ }) (s.storeRw_spec r u i v),
      fun j hj => s.getLsbD_rget_storeRw r u i v hj⟩
  case low => exact exec_counterLowRead_of_ok hok (State.readWord_of_low hf hw)
  case high =>
    cases hl : nget s.latches (regAddr r u i) with
    | some w => exact exec_counterLowRead_of_ok hok (State.readWord_of_high_held hf hw hl)
    | none => exact exec_counterLowRead_of_ok hok (State.readWord_of_high_free hf hw hl)

end Sys2Proof.Machine

/-!
PROOF. Totality (R11, R83): every command of the table is answered with a next state. A meaning is a next state, or a choice
between next states by conditions or by what the state holds; the cases below are grouped by that shape.
-/

namespace Sys2Proof.Machine

/-- An outcome is a next state: neither a fault nor a refusal. -/
def IsNext (o : Out) : Prop := ∃ t, o = .next t

theorem isNext_next (t : State) : IsNext (.next t) := ⟨t, rfl⟩

theorem isNext_ite {c : Prop} [Decidable c] {a b : Out} (ha : IsNext a) (hb : IsNext b) : IsNext (if c then a else b) := by
  split
  · exact ha
  · exact hb

theorem isNext_execOffTransition (cause : OffCause) (s : State) : IsNext (execOffTransition cause s) := by
  cases cause with
  | vin mv => exact isNext_ite (isNext_next _) (isNext_ite (isNext_next _) (isNext_ite (isNext_next _) (isNext_next _)))
  | porbLow ns => exact isNext_ite (isNext_next _) (isNext_ite (isNext_next _) (isNext_next _))

theorem isNext_execClockInputLost (input : ClockInput) (s : State) : IsNext (execClockInputLost input s) := by
  cases input with
  | sysref => exact isNext_ite (isNext_next _) (isNext_next _)
  | lref k => exact isNext_ite (isNext_next _) (isNext_next _)

theorem isNext_execAnComplete (port : Fin 96) (partner : Option (BitVec 11)) (s : State) :
    IsNext (execAnComplete port partner s) := by
  refine isNext_ite ?_ (isNext_next _)
  cases partner with
  | none => exact isNext_next _
  | some able => dsimp only; split <;> exact isNext_next _

theorem isNext_execBlockLockLost (lane : Fin 96) (s : State) : IsNext (execBlockLockLost lane s) := by
  refine isNext_ite ?_ (isNext_next _)
  split <;> exact isNext_next _

theorem isNext_execDequeueDecision (port : Fin 96) (s : State) : IsNext (execDequeueDecision port s) := by
  refine isNext_ite (isNext_next _) ?_
  split
  · exact isNext_ite (isNext_next _) (isNext_next _)
  · exact isNext_next _

theorem isNext_execSrtpIngress (ue : Bool) (s : State) : IsNext (execSrtpIngress ue s) := by
  unfold execSrtpIngress
  split
  · exact isNext_next _
  · refine isNext_ite (isNext_next _) (isNext_ite (isNext_next _) ?_)
    dsimp only
    split <;> exact isNext_next _

theorem isNext_execSrtpEgress (ue : Bool) (s : State) : IsNext (execSrtpEgress ue s) := by
  unfold execSrtpEgress
  split
  · exact isNext_next _
  · refine isNext_ite (isNext_next _) (isNext_ite (isNext_next _) ?_)
    dsimp only
    split
    · exact isNext_next _
    · exact isNext_ite (isNext_next _) (isNext_next _)

theorem isNext_execPeerHello (s : State) : IsNext (execPeerHello s) := by
  unfold execPeerHello
  split
  · exact isNext_next _
  · dsimp only
    split <;> exact isNext_next _

theorem isNext_execAuWaitExpiry (stream : Fin 131072) (s : State) : IsNext (execAuWaitExpiry stream s) := by
  unfold execAuWaitExpiry
  split
  · exact isNext_next _
  · split <;> exact isNext_next _

/-- Settles O3: every arm of the dispatch answers a next state, whichever branch of its meaning is taken. -/
theorem everyCommandAnswers : Obligations.EveryCommandAnswers := by
  intro c s
  show IsNext (exec c s)
  cases c with
  | offTransition cause => exact isNext_execOffTransition cause s
  | clockInputLost input => exact isNext_execClockInputLost input s
  | anComplete port partner => exact isNext_execAnComplete port partner s
  | blockLockLost lane => exact isNext_execBlockLockLost lane s
  | dequeueDecision port => exact isNext_execDequeueDecision port s
  | srtpIngress ue => exact isNext_execSrtpIngress ue s
  | srtpEgress ue => exact isNext_execSrtpEgress ue s
  | peerHello => exact isNext_execPeerHello s
  | auWaitExpiry stream => exact isNext_execAuWaitExpiry stream s
  -- conditions choose between next states
  | powerOn | railStepTimeout | railRetry | pllLossOfLock | ppsInEdge | ppsOutRise | breakLinkTimerExpiry | trainingDone |
    maxWaitTimerExpiry | receiverLock | linkDown | linkFailInhibitExpiry | macReceive | queueTimeout | shaperRefill |
    subCacheFill | doorbell | peerHelloSend | peerLost | retrainVisit | devicePowerDown | blockWatchdogExpiry | heartbeat |
    i2cRead | i2cWrite | samplePreload | tapReset =>
    repeat' refine isNext_ite ?_ ?_
    all_goals exact isNext_next _
  -- what the state holds chooses between next states
  | jobDone | dequeue | moveComplete | rtxAge | swapDrainDone | ppsOutFall | linkUpHoldExpiry | heartbeatMiss |
    wdtServicePost | chipWatchdogExpiry | throttleRise | throttleFall =>
    dsimp only [exec, execJobDone, execDequeue, execMoveComplete, execRtxAge, execSwapDrainDone, execPpsOutFall,
      execLinkUpHoldExpiry, execHeartbeatMiss, execWdtServicePost, execChipWatchdogExpiry, execThrottleRise, execThrottleFall]
    split <;> exact isNext_next _
  -- what the state holds, and then conditions
  | wingRestartDone | recoveryWindowExpiry | reconfigLockTimeout | blockLock | registrarParse | rtcpFeedback |
    swapDrainTimeout =>
    dsimp only [exec, execWingRestartDone, execRecoveryWindowExpiry, execReconfigLockTimeout, execBlockLock,
      execRegistrarParse, execRtcpFeedback, execSwapDrainTimeout]
    split
    all_goals repeat' refine isNext_ite ?_ ?_
    all_goals exact isNext_next _
  -- a next state at once
  | _ => exact isNext_next _

end Sys2Proof.Machine

/-!
PROOF. Clocks lost (R23, R25, R474): the lock bit goes and the sticky bit comes, and what a port does whose lanes lose their
clock.
-/

namespace Sys2Proof.Machine

/-- A register word that is not among the changed ones reads as before. -/
theorem State.rget_of_regsKept {s t : State} {l : List Nat} (h : t.regsKept s l) {r : Reg} {u i : Nat} (ha : regAddr r u i ∉ l) :
    t.rget r u i = s.rget r u i := by
  simp only [State.rget, ngetD, h _ ha]

theorem State.regsKept_rset (s : State) (r : Reg) (u i : Nat) (v : W32) : (s.rset r u i v).regsKept s [regAddr r u i] :=
  fun _ ha => nget_nputD_ne _ _ _ (List.ne_of_not_mem_cons ha)

theorem State.regsKept_flag (s : State) (r : Reg) (u i bit : Nat) :
    (s.flag r u i bit).regsKept s [regAddr r u i, regAddr .curEventLost 0 0] := fun a ha =>
  (s.flag_spec r u i bit).2 a (fun e => ha (by simp [e])) fun e => ha (by simp [e])

/-- A clock of CHP_CLK_LOCK is lost: its bit goes, its bit of CHP_CLK_LOL comes. -/
def State.clockLost (s : State) (b : Nat) : State := (s.rsetFld .chpClkLock 0 0 b 1 0).flag .chpClkLol 0 0 b

theorem State.clockLost_unlocks (s : State) {b : Nat} (hb : b < 32) : (s.clockLost b).rfld .chpClkLock 0 0 b 1 = 0 := by
  have hk : (s.clockLost b).rget .chpClkLock 0 0 = (s.rsetFld .chpClkLock 0 0 b 1 0).rget .chpClkLock 0 0 :=
    State.rget_of_regsKept (State.regsKept_flag _ _ _ _ _) (by decide)
  rw [State.rfld, hk]
  exact State.rfld_rsetFld_self s .chpClkLock 0 0 0 (by omega)

theorem State.clockLost_flags (s : State) {b : Nat} (hb : b < 32) : (s.clockLost b).rfld .chpClkLol 0 0 b 1 = 1 :=
  State.flag_sets _ _ _ _ hb (by decide)

theorem State.clockLost_spec (s : State) (b : Nat) :
    s.clockLost b = { s with regs := (s.clockLost b).regs, cur := (s.clockLost b).cur, mgmt := (s.clockLost b).mgmt } :=
  (State.flag_spec _ _ _ _ _).1

theorem State.clockLost_regsKept (s : State) (b : Nat) :
    (s.clockLost b).regsKept s [regAddr .chpClkLock 0 0, regAddr .chpClkLol 0 0, regAddr .curEventLost 0 0] := fun a ha => by
  simp only [List.mem_cons, List.not_mem_nil, or_false, not_or] at ha
  exact ((State.flag_spec _ _ _ _ _).2 a ha.2.1 ha.2.2).trans (State.regsKept_rset _ _ _ _ _ a (by simpa using ha.1))

theorem State.rfld_report (s : State) (tr : Trigger) (r : Reg) (u i lo len : Nat) :
    (s.report tr).rfld r u i lo len = s.rfld r u i lo len := rfl

theorem State.regsKept_report {s t : State} {l : List Nat} (h : t.regsKept s l) (tr : Trigger) : (t.report tr).regsKept s l :=
  fun a ha => h a ha

/-- What a port does whose lanes lose their clock, by its STATE (R115). -/
theorem State.portLoses_eq (s : State) (p : Nat) : s.portLoses p =
    (let lost := (s.unlock p (s.portLanes p)).releaseAgc (s.portLanes p)
    if s.portState p = 5 then (s.dropLink p).againAfterLoss p
    else if s.portState p = 4 then lost.setPort p { lost.port p with holdFrom := none }
    else if s.portState p = 3 then lost
    else if s.portState p = 2 then s.setPortState p 1
    else s) := by
  unfold State.portLoses State.relink
  dsimp only
  split <;> simp_all

theorem exec_pllLossOfLock_of_locked {s : State} {p : Fin 7} (h : s.rfld .chpClkLock 0 0 p 1 ≠ 0) :
    exec (.pllLossOfLock p) s = .next (State.report
      ((wingBlocks (pllWing p)).foldl (fun v b => if pllWing p = 0 then v else
        (v.blockLoses (pllWing p) b).setBlkState (pllWing p) b 1) (s.clockLost p))
      (match pllWing p with
      | 0 => .chip 4
      | 4 => .south 4
      | n => .wing n 4)) :=
  if_neg h

theorem exec_clockInputLost_sysref {s : State} (h : s.rfld .chpClkLock 0 0 12 1 ≠ 0) :
    exec (.clockInputLost .sysref) s = .next ((s.clockLost 12).report (.chip 0x0D)) :=
  if_neg h

theorem exec_clockInputLost_lref {s : State} {k : Fin 4} (h : s.rfld .chpClkLock 0 0 (8 + k) 1 ≠ 0) :
    exec (.clockInputLost (.lref k)) s = .next ((s.clockLost (8 + k)).refLost k) :=
  if_neg fun e => e.elim (fun hk => by omega) h

/-- Settles O20: each loss is `clockLost` of its bit, and then what hangs on the clock. -/
theorem clocksLost : Obligations.ClocksLost := by
  intro s
  refine ⟨fun p hp => ?pll, fun h => ?sysref, fun k hk => ?lref, fun k hm => ?present⟩
  case pll =>
    exact ⟨s.clockLost p, s.clockLost_unlocks (by omega), s.clockLost_flags (by omega), s.clockLost_regsKept p,
      s.clockLost_spec p, exec_pllLossOfLock_of_locked hp⟩
  case sysref =>
    have hs := s.clockLost_spec 12
    refine ⟨(s.clockLost 12).report (.chip 0x0D), exec_clockInputLost_sysref h, ?_, ?_, ?_,
      State.regsKept_report (s.clockLost_regsKept 12) _, ?_⟩
    · rw [State.rfld_report, s.clockLost_unlocks (by omega)]
    · rw [State.rfld_report, s.clockLost_flags (by omega)]
    · rw [State.report_sup, hs]
    · rw [State.report, hs]
  case lref =>
    refine ⟨s.clockLost (8 + k), s.clockLost_unlocks (by omega), s.clockLost_flags (by omega), s.clockLost_regsKept _,
      s.clockLost_spec _, (exec_clockInputLost_lref hk).trans ?_⟩
    simp only [State.refLost, State.portLoses_eq]
  case present =>
    exact ⟨_, congrArg Host.Outcome.next (if_neg hm), State.rfld_rsetFld_self s _ _ _ _ (by omega),
      State.regsKept_rset _ _ _ _ _, rfl⟩

end Sys2Proof.Machine

/-!
PROOF. The timebase and the PPS pins (R26, R27, R475).
-/

namespace Sys2Proof.Machine

theorem State.regsKept_refl (s : State) (l : List Nat) : s.regsKept s l := fun _ _ => rfl

/-- SNAP written with 1 stores both words of the timebase at one moment, and touches no other register. -/
theorem State.snapTimebase_of_snap (s : State) {v : W32} (h : fld v 0 1 = 1) :
    (s.snapTimebase v).rget .chpTbLo 0 0 = s.time.t.setWidth 32 ∧
      (s.snapTimebase v).rget .chpTbHi 0 0 = (s.time.t >>> 32).setWidth 32 ∧
      (s.snapTimebase v).regsKept s [regAddr .chpTbLo 0 0, regAddr .chpTbHi 0 0] := by
  rw [State.snapTimebase, if_pos h]
  refine ⟨?_, State.rget_rset_self _ _ _ _ _, fun a ha => ?_⟩
  · rw [State.rget_rset_ne _ _ (by decide), State.rget_rset_self]
  · simp only [List.mem_cons, List.not_mem_nil, or_false, not_or] at ha
    rw [State.rset_regs, nget_nputD_ne _ _ _ ha.2, State.rset_regs, nget_nputD_ne _ _ _ ha.1]

theorem State.snapTimebase_of_not_snap (s : State) {v : W32} (h : fld v 0 1 ≠ 1) : s.snapTimebase v = s :=
  if_neg h

theorem State.snapTimebase_spec (s : State) (v : W32) : s.snapTimebase v = { s with regs := (s.snapTimebase v).regs } := by
  by_cases h : fld v 0 1 = 1
  · rw [State.snapTimebase, if_pos h]
    rfl
  · rw [s.snapTimebase_of_not_snap h]

/-! ### PPS input -/

/-- Is an edge now more than 500 ms after the last accepted one. -/
def State.ppsFresh (s : State) : Prop := ∀ x, s.time.ppsIn = some x → x + 500000000 < s.t

/-- The negation of `ppsFresh`, as `execPpsInEdge` judges it. -/
def State.ppsNear (s : State) : Bool :=
  match s.time.ppsIn with
  | some x => decide (s.t ≤ x + 500000000)
  | none => false

theorem State.ppsNear_iff (s : State) : s.ppsNear = true ↔ ¬ s.ppsFresh := by
  unfold State.ppsFresh State.ppsNear
  cases s.time.ppsIn with
  | none => simp
  | some x => simp

/-- An edge that is not accepted changes nothing. -/
theorem exec_ppsInEdge_of_ignored {s : State} {ns : Nat} (h : ¬ (100 ≤ ns ∧ s.ppsFresh)) : exec (.ppsInEdge ns) s = .next s := by
  have hcond : s.m.mode = .off ∨ s.m.mode = .powerUp ∨ ns < 100 ∨ s.ppsNear = true := by
    rw [State.ppsNear_iff]
    by_cases hns : 100 ≤ ns
    · exact .inr (.inr (.inr fun hf => h ⟨hns, hf⟩))
    · exact .inr (.inr (.inl (by omega)))
  exact if_pos hcond

/-- An accepted edge is stamped; the count of the timebase itself stays. -/
theorem exec_ppsInEdge_of_accepted {s : State} {ns : Nat} (hoff : s.m.mode ≠ .off) (hup : s.m.mode ≠ .powerUp)
    (hns : 100 ≤ ns) (hf : s.ppsFresh) :
    ∃ t, exec (.ppsInEdge ns) s = .next t ∧ t.time.ppsIn = some s.t ∧ t.time.t = s.time.t ∧
      (s.cur.ptp = [] → t = { s with time := t.time }) := by
  have hcond : ¬ (s.m.mode = .off ∨ s.m.mode = .powerUp ∨ ns < 100 ∨ s.ppsNear = true) := by
    rw [State.ppsNear_iff]
    rintro (h | h | h | h)
    · exact hoff h
    · exact hup h
    · omega
    · exact h hf
  by_cases hp : s.cur.ptp = []
  · exact ⟨_, (if_neg hcond).trans (if_pos hp), rfl, rfl, fun _ => rfl⟩
  by_cases hl : s.rfld .chpTbState 0 0 0 2 = 1
  · exact ⟨_, (if_neg hcond).trans ((if_neg hp).trans (if_pos hl)), rfl, rfl, fun h => absurd h hp⟩
  · refine ⟨_, (if_neg hcond).trans ((if_neg hp).trans (if_neg hl)), ?_⟩
    split <;> exact ⟨rfl, rfl, fun h => absurd h hp⟩

/-! ### PPS output -/

theorem State.t_reach_of_lt {s : State} {d : Nat} (h : s.t < d) (hd : d < 2 ^ 64) : (s.reach d).t = d := by
  rw [State.reach, if_pos h, State.t, BitVec.toNat_ofNat]
  exact Nat.mod_eq_of_lt hd

/-- The output rises at a whole second, this one where it has not risen in it yet, else the next. -/
theorem exec_ppsOutRise_of_low {s : State} (hon : s.ppsOn = true) (hlow : s.pins.ppsOut = false) :
    ∃ u : State, exec .ppsOutRise s = .next { u with
        pins := { u.pins with ppsOut := true }, time := { u.time with ppsRise := some u.t } } ∧
      u = { s with time := u.time } ∧
      (s.t < 2 ^ 63 → u.t % 1000000000 = 0 ∧ s.t ≤ u.t ∧ u.t ≤ s.t + 1000000000) := by
  refine ⟨_, if_pos (by rw [hon, hlow]; rfl), ?_⟩
  split
  · rename_i h
    exact ⟨rfl, fun _ => by omega⟩
  · refine ⟨(s.reach_spec _).1, fun hs => ?_⟩
    rw [State.t_reach_of_lt (by omega) (by omega)]
    omega

/-- The output falls no earlier than 100 ms after it rose. -/
theorem exec_ppsOutFall_of_high {s : State} {x : Nat} (hhigh : s.pins.ppsOut = true) (hx : s.time.ppsRise = some x) :
    ∃ u : State, exec .ppsOutFall s = .next { u with pins := { u.pins with ppsOut := false } } ∧
      u = { s with time := u.time } ∧ (x + 100000000 < 2 ^ 64 → x + 100000000 ≤ u.t) := by
  refine ⟨s.reach (x + 100000000), ?_, (s.reach_spec _).1, (s.reach_spec _).2.1⟩
  show execPpsOutFall s = _
  rw [execPpsOutFall, hhigh, hx]

/-- Settles O21: the snapshot's two stores, the PTP state's one, and the times of the PPS edges. -/
theorem timebaseAndPps : Obligations.TimebaseAndPps := by
  intro s
  refine ⟨fun v => ?snap, ?ptp, fun ns hoff hup => ?edge, fun hon hlow => ?rise, fun x hhigh hx => ?fall⟩
  case snap =>
    refine ⟨{ s.snapTimebase v with answer := ⟨0, []⟩ }, rfl, ?_, ?_, ?_⟩
    · by_cases h : fld v 0 1 = 1
      · rw [if_pos h]
        obtain ⟨hlo, hhi, -⟩ := s.snapTimebase_of_snap h
        exact ⟨hlo, hhi⟩
      · rw [if_neg h, s.snapTimebase_of_not_snap h]
    · by_cases h : fld v 0 1 = 1
      · obtain ⟨-, -, hk⟩ := s.snapTimebase_of_snap h
        exact hk
      · rw [s.snapTimebase_of_not_snap h]
        exact s.regsKept_refl _
    · rw [s.snapTimebase_spec v]
  case ptp =>
    by_cases h : s.rfld .chpTbState 0 0 0 2 = 1
    · refine ⟨s.rsetFld .chpTbState 0 0 0 2 2, congrArg Host.Outcome.next (if_pos h), ?_, State.regsKept_rset _ _ _ _ _, rfl⟩
      rw [if_pos h]
      exact State.rfld_rsetFld_self s .chpTbState 0 0 2 (by omega)
    · exact ⟨s, congrArg Host.Outcome.next (if_neg h), (if_neg h).symm, s.regsKept_refl _, rfl⟩
  case edge =>
    by_cases h : 100 ≤ ns ∧ s.ppsFresh
    · obtain ⟨t, he, ht⟩ := exec_ppsInEdge_of_accepted hoff hup h.1 h.2
      exact ⟨t, he, (if_pos h).mpr ht⟩
    · exact ⟨s, exec_ppsInEdge_of_ignored h, (if_neg h).mpr rfl⟩
  case rise =>
    obtain ⟨u, he, hu, ht⟩ := exec_ppsOutRise_of_low hon hlow
    refine ⟨_, he, rfl, rfl, ht, ?_⟩
    rw [hu]
  case fall =>
    obtain ⟨u, he, hu, hle⟩ := exec_ppsOutFall_of_high hhigh hx
    refine ⟨_, he, rfl, fun h => hle (by omega), ?_⟩
    rw [hu]

end Sys2Proof.Machine

/-!
PROOF. A command that the processor takes afresh goes from the datagram to its meaning and its reply (R71 to R82), and accesses to
a block that is not in service (R20).
-/

namespace Sys2Proof.Machine

/-! ### The path of a command -/

/-- Opcode 1 names the row of HELLO. -/
theorem jcpRow_of_hello {b : Bytes} (h : jOpcode b = 1) : jcpRow b = some 1 := by
  simp [jcpRow, h]

/-- An authentic message finds the first session of its number. -/
theorem State.authentic_find {s : State} {d : Datagram} {row k : Nat} {x : Session} {ep : Epoch} (h : s.authentic d row k x ep) :
    ((List.range s.cur.sessions.length).find? fun j =>
      (s.cur.sessions[j]?).elim false fun y => decide (y.id = jSession d.payload)) = some k := by
  obtain ⟨-, -, -, -, -, -, -, -, -, -, hx, hfirst, hid, -⟩ := h
  refine List.find?_range_eq_some.2 ⟨by simp [hx, hid], ?_, fun j hj => ?_⟩
  · exact List.mem_range.2 (List.getElem?_eq_some_iff.1 hx).1
  · cases hy : s.cur.sessions[j]? with
    | none => rfl
    | some y => simpa [hid] using hfirst j hj y hy

/-- An authentic message of a row other than the acknowledgement's enters the sequence window of its session. -/
theorem State.jcpIngress_of_authentic {s : State} {d : Datagram} {row k : Nat} {x : Session} {ep : Epoch}
    (h : s.authentic d row k x ep) (hrow : row ≠ 0x60) (run : State → JcpCmd → JcpDone) :
    s.jcpIngress d run = s.jcpWindow k x ep d run := by
  have hfind := State.authentic_find h
  obtain ⟨-, -, hrun, hr, hne, hlen, hwhole, hmax, hepmax, -, hx, -, hid, hcov, hconf, hhello, hmac, hflag⟩ := h
  have hop : jOpcode d.payload ≠ 1 := fun e => hne (by simpa [jcpRow_of_hello e] using hr.symm)
  have hnack : jcpRow d.payload ≠ some 0x60 := by simpa [hr] using hrow
  have hunder : s.jcpUnder k ep d run = s.jcpWindow k x ep d run := by
    simp [State.jcpUnder, hflag, Nat.not_lt.2 hepmax, hx, hhello, hnack]
  simp [State.jcpIngress, hrun, Nat.not_lt.2 hlen, hfind, hx, hcov, ← hwhole, Nat.not_lt.2 hmax, hop, hconf, hhello, hmac, hunder]

/-- A command ahead of every command before it is carried out with H moved to its SEQ. -/
theorem State.jcpWindow_of_fresh {s : State} {d : Datagram} {k : Nat} {x : Session} {ep : Epoch} {l : List (Nat × Bytes)}
    (hon : s.jcpOn = true) (hseq : 0 < seqDiff (jSeq d.payload) x.highest) (hrun : x.running.length < 64)
    (hl : tlvsOf d.payload.length (jArea d.payload) = some l) (run : State → JcpCmd → JcpDone) :
    s.jcpWindow k x ep d run = (s.setSession k (x.advance (jSeq d.payload))).jcpAnswer (cmdOf d k x ep l) d
      (run (s.setSession k (x.advance (jSeq d.payload))) (cmdOf d k x ep l)) := by
  have h1 : ¬ seqDiff (jSeq d.payload) x.highest ≤ -256 := by omega
  have h2 : ¬ seqDiff (jSeq d.payload) x.highest ≤ 0 := by omega
  have hon' : (s.setSession k (x.advance (jSeq d.payload))).jcpOn = true := hon
  simp [State.jcpWindow, h1, h2, Nat.not_le.2 hrun, hon', hl, cmdOf]

/-- The datagram is no longer waiting. -/
def State.unreceived (s : State) (d : Datagram) : State := { s with cur := { s.cur with rx := s.cur.rx.erase d } }

theorem State.setSession_unreceived (s : State) (d : Datagram) (k : Nat) (x : Session) :
    (s.unreceived d).setSession k (x.advance (jSeq d.payload)) = s.begun d k x := rfl

/-- A command that the processor takes afresh is carried out by its row's meaning, and answered. -/
theorem State.jcpReceive_of_takesCmd {s : State} {d : Datagram} {row k : Nat} {x : Session} {ep : Epoch}
    {l : List (Nat × Bytes)} (h : s.takesCmd d row k x ep l) (run : State → JcpCmd → JcpDone) :
    s.jcpReceive d row run =
      (s.begun d k x).jcpAnswer (cmdOf d k x ep l) d (run (s.begun d k x) (cmdOf d k x ep l)) := by
  obtain ⟨hauth, hrow, hseq, hrun, hl⟩ := h
  have hauth' : (s.unreceived d).authentic d row k x ep := hauth
  obtain ⟨haddr, hon, -, hr, -⟩ := hauth
  have hwindow := State.jcpWindow_of_fresh (s := s.unreceived d) (k := k) (ep := ep) hon hseq hrun hl run
  rw [State.setSession_unreceived] at hwindow
  rw [← hwindow, ← State.jcpIngress_of_authentic hauth' hrow run]
  simp [State.jcpReceive, haddr, hon, hr, State.unreceived]

/-! ### The reply -/

/-- A reply that fits the session's messages is the last frame queued for the command's port; apart from the sessions and that
queue the state is the command's. -/
theorem State.jcpAnswer_answers (s : State) {u : State} {d : Datagram} {k : Nat} (x : Session) {ep : Epoch}
    (l : List (Nat × Bytes)) (st : Nat) {tlvs : Bytes} (hu : (u.cur.sessions[k]?).isSome = true)
    (hfit : 32 + tlvs.length ≤ ep.maxMsg) :
    (s.jcpAnswer (cmdOf d k x ep l) d (.reply st tlvs u)).answers u d x ep st tlvs := by
  obtain ⟨y, hy⟩ := Option.isSome_iff_exists.1 hu
  have hid : (x.advance (jSeq d.payload)).id = x.id := by
    unfold Session.advance
    split <;> rfl
  have he : s.jcpAnswer (cmdOf d k x ep l) d (.reply st tlvs u) =
      (u.setSession k (y.keep ep.key (jSeq d.payload)
        (replyMessage ep.key ep.version (jOpcode d.payload) x.id (jSeq d.payload) st tlvs))).sendMgmt (peerOf d)
        (replyMessage ep.key ep.version (jOpcode d.payload) x.id (jSeq d.payload) st tlvs) := by
    simp [State.jcpAnswer, cmdOf, hfit, hy, hid]
  rw [he]
  exact ⟨⟨_, nget_nput_self _ _ _⟩, rfl, fun p hp => nget_nput_ne _ _ hp⟩

theorem State.begun_session {s : State} (d : Datagram) {k : Nat} {x y : Session} (hx : s.cur.sessions[k]? = some y) :
    ((s.begun d k x).cur.sessions[k]?).isSome = true := by
  have hk : k < s.cur.sessions.length := (List.getElem?_eq_some_iff.1 hx).1
  simp [State.begun, hk]

/-- A command that is refused is replied with the status; beyond the session, the received datagram and the reply the state is as
it was. -/
theorem State.jcpReceive_of_refused {s : State} {d : Datagram} {row k : Nat} {x : Session} {ep : Epoch}
    {l : List (Nat × Bytes)} (h : s.takesCmd d row k x ep l) {run : State → JcpCmd → JcpDone} {st : Nat}
    (hrun : run (s.begun d k x) (cmdOf d k x ep l) = .reply st [] (s.begun d k x)) :
    (s.jcpReceive d row run).replied d x ep st [] ∧
      s.jcpReceive d row run =
        { s with cur := (s.jcpReceive d row run).cur, mgmt := (s.jcpReceive d row run).mgmt } := by
  have hrec := State.jcpReceive_of_takesCmd h run
  obtain ⟨⟨-, -, -, -, -, -, -, -, -, hmax, hx, -⟩, -⟩ := h
  obtain ⟨hrep, hst, -⟩ := State.jcpAnswer_answers (s.begun d k x) (u := s.begun d k x) (d := d) x l st
    (State.begun_session d hx) (tlvs := []) (ep := ep) (by simp; omega)
  rw [hrun] at hrec
  rw [← hrec] at hrep hst
  refine ⟨hrep, ?_⟩
  rw [hst]
  rfl

/-! ### Accesses to a block that is not in service (R20) -/

/-- An access of words of one block that is in reset or being wiped is refused. -/
theorem State.accessOk_of_down {s : State} {a n : Nat} (hn : 0 < n) (ha : mappedAddr a = true)
    (hlast : mappedAddr (a + 4 * (n - 1)) = true) (hblk : a / 0x100000 = (a + 4 * (n - 1)) / 0x100000)
    (hb : s.blkUp (addrWing a) (addrBlk a) = false) : s.accessOk a n = .error stUnavailable := by
  simp [State.accessOk, refuseIf, ha, hn, hlast, ← hblk, hb, bind, Except.bind]

theorem State.writeRun_of_down {s : State} {a : Nat} {vs : List W32} (mask : Option (List W32))
    (h : s.accessOk a vs.length = .error stUnavailable) : s.writeRun a vs mask = .error stUnavailable := by
  simp [State.writeRun, h, bind, Except.bind]

theorem JcpCmd.allows_of_perm {c : JcpCmd} {p : Nat} (h : c.x.perm.getLsbD p = true) : c.allows p none = .ok () := by
  rw [JcpCmd.allows, h]
  rfl

/-- READ of such a block's words is refused with what the checks before it allow. -/
theorem State.jcpRead_of_unavailable {s : State} {c : JcpCmd} {ra rn : Bytes} (hl : c.tlvs = [(0x10, ra), (0x11, rn)])
    (hperm : c.x.perm.getLsbD 0 = true) (hra : ra.length = 4) (hrn : rn.length = 4) (h1 : 1 ≤ beNat rn) (h256 : beNat rn ≤ 256)
    (h : s.accessOk (beNat ra) (beNat rn) = .error stUnavailable) : s.jcpRead c = .reply stUnavailable [] s := by
  have h0 : beNat rn ≠ 0 := by omega
  simp [State.jcpRead, answered, JcpCmd.allows_of_perm hperm, JcpCmd.num, JcpCmd.val, refuseIf, hl, tlvsOk, tlvOf, hra, hrn, h0,
    Nat.not_lt.2 h256, h, bind, Except.bind]

/-- WRITE, likewise. -/
theorem State.jcpWrite_of_unavailable {s : State} {c : JcpCmd} {wa wd : Bytes} (hl : c.tlvs = [(0x10, wa), (0x12, wd)])
    (hperm : c.x.perm.getLsbD 1 = true) (hwa : wa.length = 4) (h4 : wd.length % 4 = 0) (hlo : 4 ≤ wd.length)
    (hhi : wd.length ≤ 1024) (h : s.writeRun (beNat wa) (wordsOf wd) none = .error stUnavailable) :
    s.jcpWrite c = .reply stUnavailable [] s := by
  simp [State.jcpWrite, answered, JcpCmd.allows_of_perm hperm, JcpCmd.has, JcpCmd.num, JcpCmd.val, refuseIf, hl, tlvsOk, tlvOf, hwa, h4,
    hlo, hhi, h, bind, Except.bind]

@[simp] theorem wordsOf_length (b : Bytes) : (wordsOf b).length = b.length / 4 := by simp [wordsOf]

theorem Session.advance_perm (x : Session) (seq : W32) : (x.advance seq).perm = x.perm := by
  unfold Session.advance
  split <;> rfl

/-- Settles O26: each access stops at `accessOk`, before anything is read, latched or written. -/
theorem blockUnavailable : Obligations.BlockUnavailable := by
  intro s
  refine ⟨fun a v ha hb => ?one, fun d k x ep ra rn a n h hperm hra hrn ha hn h1 h256 hma hml hblk hb => ?read,
    fun d k x ep wa wd a h hperm hwa h4 hlo hhi ha hma hml hblk hb => ?write⟩
  case one =>
    have hacc : s.accessOk a.toNat 1 = .error stUnavailable := State.accessOk_of_down (by decide) ha ha rfl hb
    exact ⟨exec_registerWrite_of_error (State.writeRun_of_down none hacc), exec_counterLowRead_of_error hacc⟩
  case read =>
    subst ha hn
    have hacc : (s.begun d k x).accessOk (beNat ra) (beNat rn) = .error stUnavailable :=
      State.accessOk_of_down h1 hma hml hblk hb
    exact ⟨_, rfl, State.jcpReceive_of_refused h
      (State.jcpRead_of_unavailable rfl ((congrArg (·.getLsbD 0) (x.advance_perm _)).trans hperm) hra hrn h1 h256 hacc)⟩
  case write =>
    subst ha
    have hlast : beNat wa + 4 * ((wordsOf wd).length - 1) = beNat wa + (wd.length - 4) := by
      rw [wordsOf_length]
      omega
    have hacc : (s.begun d k x).accessOk (beNat wa) (wordsOf wd).length = .error stUnavailable :=
      State.accessOk_of_down (by rw [wordsOf_length]; omega) hma (hlast ▸ hml) (hlast ▸ hblk) hb
    exact ⟨_, rfl, State.jcpReceive_of_refused h (State.jcpWrite_of_unavailable rfl
      ((congrArg (·.getLsbD 1) (x.advance_perm _)).trans hperm) hwa h4 hlo hhi (State.writeRun_of_down none hacc))⟩

end Sys2Proof.Machine

/-!
PROOF. The error tree (R21, R459) and the containment of an error (R11, R22, R24): which words of the register map an error bit
and a cell record touch, and what they read afterwards.
-/

namespace Sys2Proof.Machine

/-! ### Blocks and the words of their errors -/

theorem le_of_blockListed {w b : Nat} (h : blockListed w b = true) : w ≤ 4 ∧ b ≤ 32 := by
  have hm : b ∈ wingBlocks w := List.contains_iff_mem.1 h
  match w, hm with
  | 0, hm | 1, hm | 2, hm | 3, hm | 4, hm =>
    simp [wingBlocks] at hm
    omega

theorem le_of_blockPresent {w b : Nat} (h : blockPresent w b = true) : w ≤ 4 ∧ b ≤ 32 := by
  rcases Bool.or_eq_true_iff.1 h with h | h
  · exact le_of_blockListed h
  · have := of_decide_eq_true h
    omega

theorem regAddr_curEventLost (u i : Nat) : regAddr .curEventLost u i = 0 * 0x10000000 + 0 * 0x100000 + u * 0 + 0x30c + 0x4 * i := rfl
theorem regAddr_chpChipErrStatus (u i : Nat) :
    regAddr .chpChipErrStatus u i = 0 * 0x10000000 + 2 * 0x100000 + u * 0 + 0x10 + 0x4 * i := rfl
theorem regAddr_chpErrStatus (u i : Nat) :
    regAddr .chpErrStatus u i = 1 * 0x10000000 + 0 * 0x100000 + u * 0x10000000 + 0x500 + 0x4 * i := rfl
theorem regAddr_chpCellLog (u i : Nat) :
    regAddr .chpCellLog u i = 1 * 0x10000000 + 0 * 0x100000 + u * 0x10000000 + 0x1000 + 0x8 * i := rfl
theorem regAddr_chpCellWhere (u i : Nat) :
    regAddr .chpCellWhere u i = 1 * 0x10000000 + 0 * 0x100000 + u * 0x10000000 + 0x1004 + 0x8 * i := rfl

/-- The address of a block's ERR_STATUS. -/
def errAddr (w b : Nat) : Nat := if w = 0 then regAddr .chpChipErrStatus 0 b else regAddr .chpErrStatus (w - 1) b

theorem errAddr_ne_eventLost (w b : Nat) : errAddr w b ≠ regAddr .curEventLost 0 0 := by
  unfold errAddr
  split
  · rw [regAddr_chpChipErrStatus, regAddr_curEventLost]
    omega
  · rw [regAddr_chpErrStatus, regAddr_curEventLost]
    omega

theorem State.errRaw_of_regsKept {s t : State} {l : List Nat} (h : t.regsKept s l) {w b : Nat} (ha : errAddr w b ∉ l) :
    t.errRaw w b = s.errRaw w b := by
  unfold errAddr at ha
  unfold State.errRaw
  split
  · rename_i hw
    exact State.rget_of_regsKept h (by simpa [hw] using ha)
  · rename_i hw
    exact State.rget_of_regsKept h (by simpa [hw] using ha)

theorem State.regsKept_trans {s t u : State} {l m : List Nat} (h : u.regsKept t l) (k : t.regsKept s m) : u.regsKept s (l ++ m) :=
  fun a ha => (h a fun e => ha (List.mem_append_left _ e)).trans (k a fun e => ha (List.mem_append_right _ e))

/-- The store of a block's ERR_STATUS. -/
def State.putErr (s : State) (w b : Nat) (v : W32) : State :=
  if w = 0 then s.rset .chpChipErrStatus 0 b v else s.rset .chpErrStatus (w - 1) b v

theorem State.errRaw_putErr (s : State) (w b : Nat) (v : W32) : (s.putErr w b v).errRaw w b = v := by
  unfold State.putErr State.errRaw
  split <;> exact State.rget_rset_self _ _ _ _ _

theorem State.regsKept_putErr (s : State) (w b : Nat) (v : W32) : (s.putErr w b v).regsKept s [errAddr w b] := by
  unfold State.putErr errAddr
  split <;> exact State.regsKept_rset _ _ _ _ _

/-- Setting an error bit: nothing where it is set, else one store of ERR_STATUS and, but for CE, an event. -/
theorem State.setErr_cases (s : State) (w b bit : Nat) :
    (fld (s.errRaw w b) bit 1 = 1 ∧ s.setErr w b bit = s) ∨
      (s.setErr w b bit).eventsOnly (s.putErr w b (setFld (s.errRaw w b) bit 1 1)) := by
  unfold State.setErr
  dsimp only
  split
  · rename_i h
    exact .inl ⟨h, rfl⟩
  · right
    split
    · exact State.eventsOnly_refl _
    · exact State.raise_eventsOnly _ _ _ _ _

theorem State.regsKept_of_eventsOnly {s t : State} (h : t.eventsOnly s) : t.regsKept s [regAddr .curEventLost 0 0] := by
  obtain ⟨x, m, g, e, hg⟩ := h
  rw [e]
  exact fun a ha => hg a (List.ne_of_not_mem_cons ha)

theorem State.regsKept_setErr (s : State) (w b bit : Nat) :
    (s.setErr w b bit).regsKept s [regAddr .curEventLost 0 0, errAddr w b] := by
  rcases s.setErr_cases w b bit with ⟨-, h⟩ | h
  · rw [h]
    exact s.regsKept_refl _
  · exact State.regsKept_trans (State.regsKept_of_eventsOnly h) (s.regsKept_putErr w b _)

/-- The bit reads 1 afterwards. -/
theorem State.setErr_sets (s : State) (w b : Nat) {bit : Nat} (h : bit < 32) : fld ((s.setErr w b bit).errRaw w b) bit 1 = 1 := by
  rcases s.setErr_cases w b bit with ⟨h1, h2⟩ | h2
  · rw [h2, h1]
  · have ha : errAddr w b ∉ [regAddr .curEventLost 0 0] := by simpa using errAddr_ne_eventLost w b
    rw [State.errRaw_of_regsKept (State.regsKept_of_eventsOnly h2) ha, State.errRaw_putErr, fld_setFld_self _ _ (by omega)]
    rfl

/-! ### Cell records -/

/-- With the four records of a block of a wing free, an error is recorded in the first. -/
theorem State.cellLog_of_free {s : State} {w b : Nat} (hw : 1 ≤ w)
    (h : ∀ i < 4, s.rfld .chpCellLog (w - 1) (4 * b + i) 31 1 = 0) (cell kind place : Nat) :
    s.cellLog w b cell kind place = (s.rset .chpCellLog (w - 1) (4 * b) (cellWord cell kind)).rset .chpCellWhere (w - 1) (4 * b)
      (BitVec.ofNat 32 place) := by
  have hw0 : w ≠ 0 := by omega
  have hfree : ∀ i < 4, fld (s.rget .chpCellLog (w - 1) (4 * b + i)) 31 1 = 0 := h
  have hnone : (List.range 4).find? (fun i => fld (s.rget .chpCellLog (w - 1) (4 * b + i)) 31 1 = 1 &&
      fld (s.rget .chpCellLog (w - 1) (4 * b + i)) 0 12 = cell % 4096 &&
      fld (s.rget .chpCellLog (w - 1) (4 * b + i)) 12 4 = kind) = none :=
    List.find?_eq_none.2 fun i hi => by simp [hfree i (List.mem_range.1 hi)]
  have hfirst : (List.range 4).find? (fun i => fld (s.rget .chpCellLog (w - 1) (4 * b + i)) 31 1 = 0) = some 0 := by
    simpa [List.range, List.range.loop] using hfree 0 (by omega)
  simp [State.cellLog, hw0, hnone, hfirst]

/-- Both words of the record read back after the error's bit is set. -/
theorem State.cellError_record {s : State} {w b : Nat} (hw : 1 ≤ w)
    (h : ∀ i < 4, s.rfld .chpCellLog (w - 1) (4 * b + i) 31 1 = 0) (cell kind place : Nat) :
    (s.cellError w b cell kind place).rget .chpCellLog (w - 1) (4 * b) = cellWord cell kind ∧
      (s.cellError w b cell kind place).rget .chpCellWhere (w - 1) (4 * b) = BitVec.ofNat 32 place := by
  have hw0 : w ≠ 0 := by omega
  have hk := (s.cellLog w b cell kind place).regsKept_setErr w b (kind - 1)
  have hlog : regAddr .chpCellLog (w - 1) (4 * b) ∉ [regAddr .curEventLost 0 0, errAddr w b] := by
    rw [errAddr, if_neg hw0, regAddr_chpCellLog, regAddr_chpErrStatus, regAddr_curEventLost]
    simp only [List.mem_cons, List.not_mem_nil, or_false]
    omega
  have hwhere : regAddr .chpCellWhere (w - 1) (4 * b) ∉ [regAddr .curEventLost 0 0, errAddr w b] := by
    rw [errAddr, if_neg hw0, regAddr_chpCellWhere, regAddr_chpErrStatus, regAddr_curEventLost]
    simp only [List.mem_cons, List.not_mem_nil, or_false]
    omega
  have hne : regAddr .chpCellLog (w - 1) (4 * b) ≠ regAddr .chpCellWhere (w - 1) (4 * b) := by
    rw [regAddr_chpCellLog, regAddr_chpCellWhere]
    omega
  rw [State.cellError, State.rget_of_regsKept hk hlog, State.rget_of_regsKept hk hwhere, State.cellLog_of_free hw h]
  exact ⟨(State.rget_rset_ne _ _ hne).trans (State.rget_rset_self _ _ _ _ _), State.rget_rset_self _ _ _ _ _⟩

/-! ### Containment -/

/-- What containment at the wing may do: the failure of a block that cannot be reset is reported under some cause, that of a block
reset less than 1 s before under cause 1, and any other block is reset. -/
def State.containedAs (u t : State) (w b : Nat) : Prop :=
  if cannotReset w b then ∃ cause : Nat, t = State.report { u with draws := u.draws + 1 } (blockTrigger w b cause)
  else if ∃ x, nget u.sup.resetAt (256 * w + b) = some x ∧ u.t < x + 1000000000 then t = u.report (blockTrigger w b 1)
  else t = u.resetBlock w b

theorem State.containFree_contained (u : State) (w b : Nat) : u.containedAs (u.containFree w b) w b := by
  unfold State.containedAs State.containFree
  by_cases hc : cannotReset w b = true
  · rw [if_pos hc, if_pos hc]
    exact ⟨(u.draw 8).1, by rw [State.contain, if_pos hc]; rfl⟩
  · rw [if_neg hc, if_neg hc, State.contain, if_neg hc]
    cases hx : nget u.sup.resetAt (256 * w + b) with
    | none => simp
    | some x => by_cases hlt : u.t < x + 1000000000 <;> simp [hlt]

end Sys2Proof.Machine

/-!
PROOF. The errors that a cell and a queue report, and the reset of a block (R11, R12, R15, R22, R24).
-/

namespace Sys2Proof.Machine

/-! ### Cell timeouts and queue parity errors -/

/-- A cell error sets the block's bit of its kind. -/
theorem State.cellError_sets (s : State) (w b cell : Nat) {kind : Nat} (place : Nat) (h : kind - 1 < 32) :
    fld ((s.cellError w b cell kind place).errRaw w b) (kind - 1) 1 = 1 := State.setErr_sets _ w b h

/-- A cell's timeout comes 10 µs after the grant and is recorded as an error of kind 3; then the item fails. -/
theorem exec_cellTimeout_of_granted {s : State} {w b : Nat} (c p : Nat) {granted : Nat} (item : ItemFlow)
    (hb : blockPresent w b = true) (hg : granted ≤ s.t) :
    ∃ v : State, v = { s with time := v.time } ∧ (granted + 10000 < 2 ^ 64 → granted + 10000 ≤ v.t) ∧
      exec (.cellTimeout w b c ⟨p, granted, item⟩) s = .next ((v.cellError w b c 3 p).failItem w b item) := by
  refine ⟨s.reach (granted + 10000), (s.reach_spec _).1, (s.reach_spec _).2.1, congrArg Host.Outcome.next (if_pos ?_)⟩
  rw [hb, decide_eq_true hg]
  rfl

theorem State.t_cellError (s : State) (w b cell kind place : Nat) : (s.cellError w b cell kind place).t = s.t := by
  rw [State.cellError_spec]
  rfl

/-- The state in which the crossing's error is recorded, before its items are dropped. -/
def State.cdcError (s : State) (w b cell : Nat) : State := (s.cellError w b cell 4 0).flag .chpCdcErr 0 0 w

theorem regAddr_chpCdcErr (u i : Nat) : regAddr .chpCdcErr u i = 0 * 0x10000000 + 3 * 0x100000 + u * 0 + 0x8 + 0x4 * i := rfl

theorem State.cdcError_sets_parity (s : State) {w b : Nat} (cell : Nat) (hb : b ≤ 32) :
    fld ((s.cdcError w b cell).errRaw w b) 3 1 = 1 := by
  have ha : errAddr w b ∉ [regAddr .chpCdcErr 0 0, regAddr .curEventLost 0 0] := by
    simp only [List.mem_cons, List.not_mem_nil, or_false, errAddr_ne_eventLost]
    unfold errAddr
    split
    · rw [regAddr_chpChipErrStatus, regAddr_chpCdcErr]
      omega
    · rw [regAddr_chpErrStatus, regAddr_chpCdcErr]
      omega
  rw [State.cdcError, State.errRaw_of_regsKept (State.regsKept_flag _ _ _ _ _) ha]
  exact State.cellError_sets s w b cell 0 (by decide)

theorem State.cdcError_sets_wing (s : State) {w : Nat} (b cell : Nat) (hw : w ≤ 4) :
    (s.cdcError w b cell).rfld .chpCdcErr 0 0 w 1 = 1 := State.flag_sets _ _ _ _ (by omega) (by decide)

theorem State.cdcError_spec (s : State) (w b cell : Nat) : s.cdcError w b cell =
    { s with regs := (s.cdcError w b cell).regs, cur := (s.cdcError w b cell).cur, mgmt := (s.cdcError w b cell).mgmt } := by
  rw [State.cdcError, (State.flag_spec _ _ _ _ _).1, State.cellError_spec]

theorem exec_cdcParityError_of_present (s : State) {w b : Nat} (c items : Nat) (hb : blockPresent w b = true) (hw : w ≤ 4) :
    exec (.cdcParityError w b ⟨c, items⟩) s = .next
      (((List.range items).foldl (fun v _ => v.metPoison w b) (s.cdcError w b c)).containFree w b) := by
  refine congrArg Host.Outcome.next (if_pos ?_)
  rw [hb, decide_eq_true hw]
  rfl

/-! ### The reset of a block -/

theorem regAddr_chpWingBlkState (u i : Nat) :
    regAddr .chpWingBlkState u i = 1 * 0x10000000 + 0 * 0x100000 + u * 0x10000000 + 0x100 + 0x4 * i := rfl

theorem State.blkState_of_wing {w : Nat} (hw : 1 ≤ w) (s : State) (b : Nat) :
    s.blkState w b = s.rfld .chpWingBlkState (w - 1) b 0 3 := if_neg (by omega)

theorem State.setBlkState_of_wing {w : Nat} (hw : 1 ≤ w) (s : State) (b st : Nat) :
    s.setBlkState w b st = s.rsetFld .chpWingBlkState (w - 1) b 0 3 st := if_neg (by omega)

theorem State.blkState_setBlkState {w : Nat} (hw : 1 ≤ w) (s : State) (b : Nat) {st : Nat} (h : st < 8) :
    (s.setBlkState w b st).blkState w b = st := by
  rw [State.blkState_of_wing hw, State.setBlkState_of_wing hw, State.rfld_rsetFld_self _ _ _ _ _ (by omega)]
  exact Nat.mod_eq_of_lt h

/-- A saturating count of a field. -/
theorem State.rfld_rcount_self (s : State) (r : Reg) (u i : Nat) {lo len : Nat} (n : Nat) (h : lo + len ≤ 32) :
    (s.rcount r u i lo len n).rfld r u i lo len = min (2 ^ len - 1) (s.rfld r u i lo len + n) := by
  rw [State.rcount, State.rfld_rsetFld_self _ _ _ _ _ h, Nat.mod_eq_of_lt]
  have := Nat.two_pow_pos len
  omega

/-- The words and the wipe of a reset, with the block's losses behind it. -/
def State.markReset (s : State) (w b now : Nat) : State :=
  let s1 := (s.setBlkState w b 1).rcount .chpWingBlkState (w - 1) b 8 8 1
  ({ s1 with sup := { s1.sup with resetAt := nput s1.sup.resetAt (256 * w + b) now } }).setErr w b 6

theorem State.t_logFault (s : State) (code w b detail subject : Nat) : (s.logFault code w b detail subject).t = s.t := by
  simp only [State.t, State.logFault, State.frWrite_kept]

/-- The reset of a block of a wing (R15): the log, what the wipe loses, the marks. -/
theorem State.resetBlock_eq {w : Nat} (hw : 1 ≤ w) (s : State) (b : Nat) :
    s.resetBlock w b = ((s.logFault 0x04 w b (s.errStatus w b).toNat 0).blockLoses w b).markReset w b s.t := by
  have hw0 : w ≠ 0 := by omega
  unfold State.resetBlock State.wipeBlock State.markReset
  dsimp only
  rw [if_neg hw0, State.t_logFault]

theorem State.markReset_spec (s : State) (w b now : Nat) : s.markReset w b now =
    { s with regs := (s.markReset w b now).regs, sup := (s.markReset w b now).sup, cur := (s.markReset w b now).cur,
             mgmt := (s.markReset w b now).mgmt } := by
  unfold State.markReset
  rw [State.setErr_spec]
  unfold State.setBlkState
  split <;> rfl

theorem State.markReset_resetAt (s : State) (w b now : Nat) :
    nget (s.markReset w b now).sup.resetAt (256 * w + b) = some now := by
  unfold State.markReset
  rw [State.setErr_spec]
  exact nget_nput_self _ _ _

theorem State.markReset_sets (s : State) (w b now : Nat) : fld ((s.markReset w b now).errRaw w b) 6 1 = 1 :=
  State.setErr_sets _ w b (by omega)

/-- The RESET bit leaves the STATE word. -/
theorem State.markReset_stateWord {w : Nat} (hw : 1 ≤ w) (s : State) (b now : Nat) (hb : b < 256) :
    (s.markReset w b now).rget .chpWingBlkState (w - 1) b =
      ((s.setBlkState w b 1).rcount .chpWingBlkState (w - 1) b 8 8 1).rget .chpWingBlkState (w - 1) b := by
  have hw0 : w ≠ 0 := by omega
  refine State.rget_of_regsKept (State.regsKept_setErr _ w b 6) ?_
  rw [errAddr, if_neg hw0, regAddr_chpWingBlkState, regAddr_chpErrStatus, regAddr_curEventLost]
  simp only [List.mem_cons, List.not_mem_nil, or_false]
  omega

theorem State.markReset_blkState {w : Nat} (hw : 1 ≤ w) (s : State) (b now : Nat) (hb : b < 256) :
    (s.markReset w b now).blkState w b = 1 := by
  rw [State.blkState_of_wing hw, State.rfld, State.markReset_stateWord hw s b now hb]
  refine (State.rfld_rsetFld_field _ _ _ _ _ (by omega)).trans ?_
  rw [← State.blkState_of_wing hw, State.blkState_setBlkState hw _ _ (by omega)]

theorem State.markReset_resets {w : Nat} (hw : 1 ≤ w) (s : State) (b now : Nat) (hb : b < 256) :
    (s.markReset w b now).rfld .chpWingBlkState (w - 1) b 8 8 = min 255 (s.rfld .chpWingBlkState (w - 1) b 8 8 + 1) := by
  rw [State.rfld, State.markReset_stateWord hw s b now hb]
  refine (State.rfld_rcount_self _ _ _ _ _ (by omega)).trans ?_
  rw [State.setBlkState_of_wing hw, State.rfld_rsetFld_field _ _ _ _ _ (by omega)]
  rfl

/-- BLOCK_RESET in the order of its checks (R22). -/
theorem State.writeBlkReset_eq (s : State) (w : Nat) (v : W32) : s.writeBlkReset w v =
    if fld v 0 8 = 0 ∨ (w = 4 ∧ (fld v 0 8 = 2 ∨ fld v 0 8 = 3)) then .error stBadValue
    else if (s.m.mode ≠ .maintain ∧ s.m.mode ≠ .diagnostic ∧ s.m.mode ≠ .recovery) ∨ blockListed w (fld v 0 8) = false then
      .error stModeRefused
    else .ok (s.resetBlock w (fld v 0 8)) := by
  unfold State.writeBlkReset refuseIf
  by_cases h1 : fld v 0 8 = 0 ∨ (w = 4 ∧ (fld v 0 8 = 2 ∨ fld v 0 8 = 3))
  · simp [h1, bind, Except.bind]
  by_cases h2 : s.m.mode ≠ .maintain ∧ s.m.mode ≠ .diagnostic ∧ s.m.mode ≠ .recovery
  · simp [h1, h2, bind, Except.bind]
  by_cases h3 : blockListed w (fld v 0 8) = false
  · simp [h1, h2, h3, bind, Except.bind]
  · simp [h1, h2, h3, bind, Except.bind, pure, Except.pure]

end Sys2Proof.Machine

/-!
PROOF. What an operation of the Cloakroom or the Docent leaves alone: modes, fuses, the supervisor, and the words that say what is
in service (R21) and how far an image's application is (R92).
-/

namespace Sys2Proof.Machine

theorem regAddr_curStage (u i : Nat) : regAddr .curStage u i = 0 * 0x10000000 + 0 * 0x100000 + u * 0 + 0x304 + 0x4 * i := rfl

/-- A register word that says what is in service: a block's STATE, the stage of an image. -/
def serviceWord (a : Nat) : Prop := a = regAddr .curStage 0 0 ∨ ∃ u < 4, ∃ b < 256, a = regAddr .chpWingBlkState u b

theorem serviceWord_iff (a : Nat) : serviceWord a ↔
    a = 0x304 ∨ ∃ u < 4, ∃ b < 256, a = 0x10000100 + u * 0x10000000 + 4 * b := by
  simp only [serviceWord, regAddr_curStage, regAddr_chpWingBlkState]
  exact ⟨fun h => h.imp (by omega) fun ⟨u, hu, b, hb, e⟩ => ⟨u, hu, b, hb, by omega⟩,
    fun h => h.imp (by omega) fun ⟨u, hu, b, hb, e⟩ => ⟨u, hu, b, hb, by omega⟩⟩

/-- Modes, fuses, the supervisor and the words of what is in service are those of `s`. -/
def State.serviceKept (t s : State) : Prop :=
  t.m = s.m ∧ t.otp = s.otp ∧ t.sup = s.sup ∧ ∀ a, serviceWord a → nget t.regs a = nget s.regs a

namespace State

theorem serviceKept_refl (s : State) : s.serviceKept s := ⟨rfl, rfl, rfl, fun _ _ => rfl⟩

theorem serviceKept.trans {s t u : State} (h : u.serviceKept t) (k : t.serviceKept s) : u.serviceKept s :=
  let ⟨hm, ho, hs, hr⟩ := h
  let ⟨km, ko, ks, kr⟩ := k
  ⟨hm.trans km, ho.trans ko, hs.trans ks, fun a ha => (hr a ha).trans (kr a ha)⟩

theorem serviceKept_foldl {β : Type} {f : State → β → State} (hf : ∀ s b, (f s b).serviceKept s) (l : List β) (s : State) :
    (l.foldl f s).serviceKept s := by
  induction l generalizing s with
  | nil => exact s.serviceKept_refl
  | cons b r ih => exact (ih _).trans (hf s b)

theorem serviceKept.blkState {s t : State} (h : t.serviceKept s) {w b : Nat} (hw : w ≤ 4) (hb : b < 256) :
    t.blkState w b = s.blkState w b := by
  unfold State.blkState
  split
  · rfl
  · simp only [State.rfld, State.rget, ngetD, h.2.2.2 _ (.inr ⟨w - 1, by omega, b, hb, rfl⟩)]

theorem serviceKept.stage {s t : State} (h : t.serviceKept s) : t.stage = s.stage := by
  simp only [State.stage, State.rfld, State.rget, ngetD, h.2.2.2 _ (.inl rfl)]

/-! One part of the machine is replaced. -/

theorem serviceKept.withClo {s t : State} (h : t.serviceKept s) (x : Cloakroom) : State.serviceKept { t with clo := x } s := h
theorem serviceKept.withDoc {s t : State} (h : t.serviceKept s) (x : Docent) : State.serviceKept { t with doc := x } s := h
theorem serviceKept.withRgs {s t : State} (h : t.serviceKept s) (x : Registrar) : State.serviceKept { t with rgs := x } s := h
theorem serviceKept.cinc {s t : State} (h : t.serviceKept s) (r : Reg) (u i : Nat) : (t.cinc r u i).serviceKept s := h
theorem serviceKept.sinc {s t : State} (h : t.serviceKept s) (ty id num : Nat) : (t.sinc ty id num).serviceKept s := h

theorem serviceKept_rset (s : State) {r : Reg} {u i : Nat} (v : W32) (h : ¬ serviceWord (regAddr r u i)) :
    (s.rset r u i v).serviceKept s :=
  ⟨rfl, rfl, rfl, fun _ ha => nget_nputD_ne _ _ _ fun e => h (e ▸ ha)⟩

theorem serviceKept_of_eventsOnly {s t : State} (h : t.eventsOnly s) : t.serviceKept s := by
  obtain ⟨x, m, g, rfl, hg⟩ := h
  refine ⟨rfl, rfl, rfl, fun a ha => hg a fun e => ?_⟩
  rw [serviceWord_iff, e, regAddr_curEventLost] at ha
  omega

theorem serviceKept_flag (s : State) {r : Reg} {u i : Nat} (bit : Nat) (h : ¬ serviceWord (regAddr r u i)) :
    (s.flag r u i bit).serviceKept s := by
  unfold State.flag
  dsimp only
  split
  · exact s.serviceKept_rset _ h
  · exact (serviceKept_of_eventsOnly (State.raise_eventsOnly _ _ _ _ _)).trans (s.serviceKept_rset _ h)

theorem not_serviceWord_errAddr {w b : Nat} (hb : b < 256) : ¬ serviceWord (errAddr w b) := by
  rw [serviceWord_iff, errAddr]
  split
  · rw [regAddr_chpChipErrStatus]
    omega
  · rw [regAddr_chpErrStatus]
    omega

theorem serviceKept_setErr (s : State) (w : Nat) {b : Nat} (bit : Nat) (hb : b < 256) : (s.setErr w b bit).serviceKept s := by
  have hput (v : W32) : (s.putErr w b v).serviceKept s := by
    have h := not_serviceWord_errAddr (w := w) hb
    unfold errAddr at h
    unfold State.putErr
    split
    · rename_i h0
      exact s.serviceKept_rset _ (by simpa [h0] using h)
    · rename_i h0
      exact s.serviceKept_rset _ (by simpa [h0] using h)
  rcases s.setErr_cases w b bit with ⟨-, h⟩ | h
  · rw [h]
    exact s.serviceKept_refl
  · exact (serviceKept_of_eventsOnly h).trans (hput _)

theorem serviceKept_cellLog_clo (s : State) (p kind place : Nat) : (s.cellLog 4 2 p kind place).serviceKept s := by
  have hlog (i : Nat) (hi : i < 4) : ¬ serviceWord (regAddr .chpCellLog 3 (4 * 2 + i)) := by
    rw [serviceWord_iff, regAddr_chpCellLog]
    omega
  have hwhere (i : Nat) (hi : i < 4) : ¬ serviceWord (regAddr .chpCellWhere 3 (4 * 2 + i)) := by
    rw [serviceWord_iff, regAddr_chpCellWhere]
    omega
  unfold State.cellLog
  dsimp only
  split
  · rename_i i h
    exact s.serviceKept_rset _ (hlog i (List.mem_range.1 (List.mem_of_find?_eq_some h)))
  · split
    · rename_i i h
      have hi := List.mem_range.1 (List.mem_of_find?_eq_some h)
      exact (State.serviceKept_rset _ _ (hwhere i hi)).trans (s.serviceKept_rset _ (hlog i hi))
    · exact s.serviceKept_refl

/-! ### The Cloakroom -/

theorem not_serviceWord_of_clo {a : Nat} (h : 0x40100000 ≤ a) : ¬ serviceWord a := by
  rw [serviceWord_iff]
  omega

theorem regAddr_cloPoolLow (u i : Nat) : regAddr .cloPoolLow u i = 4 * 0x10000000 + 2 * 0x100000 + u * 0 + 0xc + 0x10 * i := rfl
theorem regAddr_cloRejLog (u i : Nat) : regAddr .cloRejLog u i = 4 * 0x10000000 + 2 * 0x100000 + u * 0 + 0x300 + 0x8 * i := rfl
theorem regAddr_cloRejDetail (u i : Nat) : regAddr .cloRejDetail u i = 4 * 0x10000000 + 2 * 0x100000 + u * 0 + 0x304 + 0x8 * i := rfl

theorem serviceKept_answerClient (s : State) (cl : Client) (code : Nat) (h : W32) : (s.answerClient cl code h).serviceKept s := by
  cases cl <;> exact ⟨rfl, rfl, rfl, fun _ _ => rfl⟩

theorem serviceKept_rejectCounted (s : State) (code : Nat) :
    ((s.cinc .cloCnt 0 7).flag .cloRejStatus 0 0 (code - 3)).serviceKept s :=
  (serviceKept_flag _ _ (not_serviceWord_of_clo (by decide))).trans s.serviceKept_refl

theorem serviceKept_rejectLogged (s : State) (i : Nat) (v x : W32) :
    ((s.rset .cloRejLog 0 i v).rset .cloRejDetail 0 i x).serviceKept s :=
  (serviceKept_rset _ _ (not_serviceWord_of_clo (by rw [regAddr_cloRejDetail]; omega))).trans
    (s.serviceKept_rset _ (not_serviceWord_of_clo (by rw [regAddr_cloRejLog]; omega)))

theorem serviceKept_cellError_clo (s : State) (p kind place : Nat) : (s.cellError 4 2 p kind place).serviceKept s :=
  (serviceKept_setErr _ _ _ (by omega)).trans (s.serviceKept_cellLog_clo _ _ _)

theorem serviceKept_reject (s : State) (d req : Nat) (h : W32) (code : Nat) : (s.reject d req h code).serviceKept s := by
  unfold State.reject
  dsimp only
  have hlog := ((serviceKept_rejectLogged ((s.cinc .cloCnt 0 7).flag .cloRejStatus 0 0 (code - 3)) s.clo.rejNext h
    (BitVec.ofNat 32 (d + 32 * req + 128 * code + 2048 * (s.us % 2097152)))).trans (s.serviceKept_rejectCounted code)).withClo
  split
  · exact (serviceKept_cellError_clo _ _ _ _).trans (hlog _)
  · exact hlog _

/-! Allocation. -/

theorem serviceKept_lowMark (s : State) (p : Nat) : (s.lowMark p).serviceKept s :=
  s.serviceKept_rset _ (not_serviceWord_of_clo (by rw [regAddr_cloPoolLow]; omega))

theorem serviceKept_takeBuffer (s : State) (p d : Nat) : (s.takeBuffer p d).2.serviceKept s := by
  unfold State.takeBuffer
  dsimp only
  split
  · exact (serviceKept_lowMark _ _).trans (s.serviceKept_refl.withClo _)
  · exact (serviceKept_lowMark _ _).trans ⟨rfl, rfl, rfl, fun _ _ => rfl⟩

theorem serviceKept_grant (s : State) (d start p : Nat) : (s.grant d start p).2.serviceKept s := by
  have h : (((s.takeBuffer p d).2.cinc .cloCnt 0 0).sinc tyPool p 0x100).serviceKept s :=
    ((s.serviceKept_takeBuffer p d).cinc _ _ _).sinc _ _ _
  unfold State.grant
  dsimp only
  split
  · exact h
  · exact (h.cinc _ _ _).sinc _ _ _

theorem serviceKept_grantOr (s : State) (d start q : Nat) : (s.grantOr d start q).2.serviceKept s := by
  have hg := s.serviceKept_grant d start q
  rw [State.grantOr]
  generalize s.grant d start q = g at hg ⊢
  obtain ⟨b, t⟩ := g
  simp only
  split
  · exact hg
  · exact s.serviceKept_reject _ _ _ _

theorem serviceKept_alloc (s : State) (d size : Nat) (yellow : Bool) : (s.alloc d size yellow).2.serviceKept s := by
  unfold State.alloc
  split
  · exact s.serviceKept_refl
  · split
    · exact s.serviceKept_refl.cinc _ _ _
    · dsimp only
      split
      · exact (s.serviceKept_refl.cinc _ _ _).sinc _ _ _
      · split
        · exact s.serviceKept_grantOr _ _ _
        · exact (s.serviceKept_refl.cinc _ _ _).sinc _ _ _

theorem serviceKept_allocNow (s : State) (cl : Client) (size : Nat) (yellow wait : Bool) :
    (s.allocNow cl size yellow wait).serviceKept s := by
  have h := s.serviceKept_alloc cl.domain size yellow
  unfold State.allocNow
  split
  · rename_i b s1 he
    rw [he] at h
    exact (serviceKept_answerClient _ _ _ _).trans h
  · rename_i code s1 he
    rw [he] at h
    split
    · exact h.withClo _
    · exact (serviceKept_answerClient _ _ _ _).trans h

theorem serviceKept_endHeld (s : State) (h : HeldAlloc) (code : Nat) (b : W32) : (s.endHeld h code b).serviceKept s := by
  unfold State.endHeld
  dsimp only
  split
  · split
    · exact s.serviceKept_refl.withClo _
    · exact s.serviceKept_refl.withClo _
  · exact (serviceKept_answerClient _ _ _ _).trans (s.serviceKept_refl.withClo _)

theorem serviceKept_retryHeld (s : State) (p : Nat) : (s.retryHeld p).serviceKept s := by
  -- the grant is made opaque, so that the kernel does not evaluate it as a match's discriminant
  obtain ⟨grant, hgrant⟩ : ∃ g, g = s.grantOr := ⟨_, rfl⟩
  have hg (d start q) : (grant d start q).2.serviceKept s := hgrant ▸ s.serviceKept_grantOr d start q
  rw [State.retryHeld, ← hgrant]
  split
  · exact s.serviceKept_refl
  · rename_i h _
    split
    · exact s.serviceKept_refl
    · rename_i q _
      specialize hg h.client.domain h.start q
      split
      · rename_i b t he
        rw [he] at hg
        exact (t.serviceKept_endHeld h 0 b).trans hg
      · rename_i c t he
        rw [he] at hg
        exact (t.serviceKept_endHeld h c 0).trans hg

/-! Reference counts. -/

theorem serviceKept_setCount {s t : State} {h : W32} {r : BufRec} {n : Nat} (e : s.setCount h r n = some t) : t.serviceKept s := by
  unfold State.setCount at e
  dsimp only at e
  split at e
  · cases e
    split <;> exact s.serviceKept_refl.withClo _
  · split at e
    · cases e
      exact s.serviceKept_refl.withClo _
    · split at e
      · cases e
      · cases e
        exact ⟨rfl, rfl, rfl, fun _ _ => rfl⟩

theorem serviceKept_freeBuffer (s : State) (h : W32) (r : BufRec) : (s.freeBuffer h r).serviceKept s := by
  unfold State.freeBuffer
  refine (serviceKept_retryHeld _ _).trans (serviceKept.cinc (serviceKept.withClo ?_ _) _ _ _)
  refine serviceKept.withClo ?_ _
  split
  · exact s.serviceKept_refl.withClo _
  · exact s.serviceKept_refl

theorem serviceKept_applyReq {s t : State} {kind : Nat} {h : W32} {arg : Nat} (e : s.applyReq kind h arg = some t) :
    t.serviceKept s := by
  unfold State.applyReq at e
  dsimp only at e
  split at e
  · exact serviceKept_setCount e
  · split at e
    · cases e
      exact s.serviceKept_freeBuffer _ _
    · exact serviceKept_setCount e
  · cases e
    exact s.serviceKept_refl.withClo _

theorem serviceKept_tryReq {s t : State} {d kind : Nat} {h : W32} {arg code : Nat} (e : s.tryReq d kind h arg = some (code, t)) :
    t.serviceKept s := by
  unfold State.tryReq at e
  split at e
  · cases e
    exact s.serviceKept_reject _ _ _ _
  · split at e
    · cases e
      exact s.serviceKept_reject _ _ _ _
    · obtain ⟨u, hu, hc⟩ := Option.map_eq_some_iff.1 e
      cases hc
      exact serviceKept_applyReq hu

/-! Answers and held requests. -/

theorem domainBlock_lt (d : Nat) : (domainBlock d).2 < 256 := by
  unfold domainBlock
  split <;> decide

theorem serviceKept_failHw (s : State) (d : Nat) (flow : ItemFlow) : (s.failHw d flow).serviceKept s := by
  have h : ((s.drop 0x26).setErr (domainBlock d).1 (domainBlock d).2 4).serviceKept s :=
    (serviceKept_setErr _ _ _ (domainBlock_lt d)).trans (s.serviceKept_refl.cinc _ _ _)
  unfold State.failHw
  cases flow with
  | stream n =>
    dsimp only
    unfold State.fenceStream
    split
    · exact h
    · exact h.withRgs _
  | sub n => exact h
  | flow f => exact h.withDoc _
  | untied => exact h

theorem serviceKept_answerReq (s : State) (q : HeldReq) (code : Nat) : (s.answerReq q code).serviceKept s := by
  unfold State.answerReq
  dsimp only
  split
  · split
    · exact s.serviceKept_answerClient _ _ _
    · exact (serviceKept_failHw _ _ _).trans (s.serviceKept_answerClient _ _ _)
  · exact s.serviceKept_answerClient _ _ _

theorem serviceKept_nextStalled {s t : State} {seen l : List HeldReq} {q : HeldReq} {code : Nat}
    (e : s.nextStalled seen l = some (q, code, t)) : t.serviceKept s := by
  induction l generalizing seen with
  | nil => cases e
  | cons a r ih =>
    unfold State.nextStalled at e
    split at e
    · rename_i x hx
      cases e
      split at hx
      · cases hx
      · exact serviceKept_tryReq hx
    · exact ih e

theorem serviceKept_full (s : State) : ((s.cinc .cloCnt 0 9).flag .cloExtStatus 0 0 13).serviceKept s :=
  (serviceKept_flag _ _ (not_serviceWord_of_clo (by decide))).trans s.serviceKept_refl

theorem serviceKept_countStalls (s : State) (seen l : List HeldReq) : (s.countStalls seen l).serviceKept s := by
  induction l generalizing s seen with
  | nil => exact s.serviceKept_refl.withClo _
  | cons q r ih =>
    unfold State.countStalls
    split
    · exact ih _ _
    · exact (ih _ _).trans s.serviceKept_full

theorem serviceKept_serveStalled (n : Nat) (s : State) : (State.serveStalled n s).serviceKept s := by
  induction n generalizing s with
  | zero => exact s.serviceKept_countStalls _ _
  | succ n ih =>
    unfold State.serveStalled
    split
    · exact s.serviceKept_countStalls _ _
    · rename_i he
      exact (ih _).trans ((serviceKept_answerReq _ _ _).trans ((serviceKept_nextStalled he).withClo _))

theorem serviceKept_settle (s : State) : s.settle.serviceKept s := by
  unfold State.settle
  split
  · exact s.serviceKept_refl
  · exact serviceKept_serveStalled _ _

theorem serviceKept_enterReq (s : State) (q : HeldReq) : (s.enterReq q).serviceKept s := by
  unfold State.enterReq
  split
  · exact s.serviceKept_allocNow _ _ _ _
  · dsimp only
    generalize hs0 : (if q.kind = 0 then s.cinc .cloCnt 0 2 else if q.kind = 1 then s.cinc .cloCnt 0 3 else s) = s0
    have h0 : s0.serviceKept s := by
      subst hs0
      split
      · exact s.serviceKept_refl
      · split <;> exact s.serviceKept_refl
    split
    · exact h0.withClo _
    · split
      · rename_i he
        exact (serviceKept_settle _).trans ((serviceKept_answerReq _ _ _).trans ((serviceKept_tryReq he).trans h0))
      · exact ((serviceKept_full _).trans h0).withClo _

theorem serviceKept_enterOver (n : Nat) (s : State) : (State.enterOver n s).serviceKept s := by
  induction n generalizing s with
  | zero => exact s.serviceKept_refl
  | succ n ih =>
    unfold State.enterOver
    split
    · exact s.serviceKept_refl
    · exact (ih _).trans ((serviceKept_enterReq _ _).trans (s.serviceKept_refl.withClo _))

/-- A request of the Cloakroom, with all that it lets go on, leaves what is in service. -/
theorem serviceKept_requestOf (s : State) (q : HeldReq) : (s.requestOf q).serviceKept s := by
  unfold State.requestOf
  split
  · exact s.serviceKept_refl.withClo _
  · dsimp only
    split
    · exact s.serviceKept_enterReq q
    · exact (serviceKept_enterOver _ _).trans (s.serviceKept_enterReq q)

/-! ### The Docent -/

theorem serviceKept_shareItem (s : State) (it : Item) (c : Nat) : (s.shareItem it c).serviceKept s := by
  unfold State.shareItem
  dsimp only
  split
  · exact s.serviceKept_requestOf _
  · exact s.serviceKept_refl

theorem regAddr_docStatus (u i : Nat) : regAddr .docStatus u i = 2 * 0x10000000 + 1 * 0x100000 + u * 0 + 0x300 + 0x4 * i := rfl

theorem serviceKept_assignByLoad (s : State) (it : Item) : (s.assignByLoad it).serviceKept s := by
  unfold State.assignByLoad
  dsimp only
  split
  · exact (serviceKept_shareItem _ _ _).trans ⟨rfl, rfl, rfl, fun _ _ => rfl⟩
  · refine (serviceKept_flag _ _ ?_).trans (s.serviceKept_refl.withDoc _)
    rw [serviceWord_iff, regAddr_docStatus]
    omega

theorem serviceKept_assignWaiting (s : State) : s.assignWaiting.serviceKept s := by
  refine serviceKept_foldl (fun s f => ?_) _ _
  dsimp only
  split
  · split
    · exact s.serviceKept_refl
    · exact (serviceKept_assignByLoad _ _).trans (s.serviceKept_refl.withDoc _)
  · exact s.serviceKept_refl.withDoc _

end State

end Sys2Proof.Machine

/-!
PROOF. A reset block comes back (R15, R59), and the errors and resets of blocks.
-/

namespace Sys2Proof.Machine

/-! ### Changes of registers, reports and events alone -/

/-- `t` is `s` but for registers, reports and events, and what is in service is that of `s`. -/
def State.limitsOnly (t s : State) : Prop :=
  t.serviceKept s ∧ t = { s with regs := t.regs, cur := t.cur, mgmt := t.mgmt }

theorem not_serviceWord_of_block {a : Nat} (h : 0x100000 ≤ a % 0x10000000) : ¬ serviceWord a := by
  rw [serviceWord_iff]
  omega

theorem regAddr_vltAesStatus (u i : Nat) : regAddr .vltAesStatus u i = 1 * 0x10000000 + 3 * 0x100000 + u * 0 + 0 + 0x4 * i := rfl
theorem regAddr_vltShaStatus (u i : Nat) : regAddr .vltShaStatus u i = 1 * 0x10000000 + 3 * 0x100000 + u * 0 + 0x4 + 0x4 * i := rfl
theorem regAddr_docMap (u i : Nat) : regAddr .docMap u i = 2 * 0x10000000 + 1 * 0x100000 + u * 0 + 0x200 + 0x4 * i := rfl
theorem regAddr_docStandby (u i : Nat) : regAddr .docStandby u i = 2 * 0x10000000 + 1 * 0x100000 + u * 0 + 0x240 + 0x4 * i := rfl
theorem regAddr_afbDecRes (u i : Nat) : regAddr .afbDecRes u i = 2 * 0x10000000 + 2 * 0x100000 + u * 0 + 0x8 + 0x4 * i := rfl
theorem regAddr_afbEncRes (u i : Nat) : regAddr .afbEncRes u i = 2 * 0x10000000 + 2 * 0x100000 + u * 0 + 0xc + 0x4 * i := rfl
theorem regAddr_dspClState (u i : Nat) :
    regAddr .dspClState u i = 2 * 0x10000000 + 0x10 * 0x100000 + u * 0x100000 + 0 + 0x4 * i := rfl
theorem regAddr_vdeRes (u i : Nat) : regAddr .vdeRes u i = 3 * 0x10000000 + 1 * 0x100000 + u * 0x100000 + 0x4 + 0x4 * i := rfl
theorem regAddr_venRes (u i : Nat) : regAddr .venRes u i = 3 * 0x10000000 + 8 * 0x100000 + u * 0x100000 + 0x4 + 0x4 * i := rfl
theorem regAddr_cmpPipeRes (u i : Nat) : regAddr .cmpPipeRes u i = 3 * 0x10000000 + 0xc * 0x100000 + u * 0 + 0x4 + 0x4 * i := rfl

namespace State

theorem limitsOnly_refl (s : State) : s.limitsOnly s := ⟨s.serviceKept_refl, rfl⟩

theorem limitsOnly.trans {s t u : State} (h : u.limitsOnly t) (k : t.limitsOnly s) : u.limitsOnly s := by
  obtain ⟨hs, hu⟩ := h
  obtain ⟨ks, kt⟩ := k
  refine ⟨hs.trans ks, ?_⟩
  rw [kt] at hu
  exact hu

theorem limitsOnly_rset (s : State) {r : Reg} {u i : Nat} (v : W32) (h : ¬ serviceWord (regAddr r u i)) :
    (s.rset r u i v).limitsOnly s := ⟨s.serviceKept_rset v h, rfl⟩

theorem limitsOnly_raise (s : State) (code subjectType subjectId : Nat) (detail : Bytes) :
    (s.raise code subjectType subjectId detail).limitsOnly s := by
  have h := s.raise_eventsOnly code subjectType subjectId detail
  refine ⟨serviceKept_of_eventsOnly h, ?_⟩
  obtain ⟨x, m, g, e, -⟩ := h
  rw [e]

theorem limitsOnly_raiseLimits (n : Nat) (s : State) (l : List (Nat × Nat)) : (State.raiseLimits n s l).limitsOnly s := by
  induction n generalizing s l with
  | zero => exact s.limitsOnly_refl
  | succ n ih =>
    unfold State.raiseLimits
    split
    · exact s.limitsOnly_refl
    · exact (ih _ _).trans (s.limitsOnly_raise _ _ _ _)

/-- Every LIMIT field of the video and audio parts lies outside the words of what is in service. -/
theorem videoLimits_not_serviceWord (s : State) :
    ∀ l ∈ s.videoLimits, ¬ serviceWord (regAddr l.2.1 l.2.2.1 l.2.2.2.1) := by
  intro l hl
  apply not_serviceWord_of_block
  simp only [State.videoLimits, List.mem_append, List.mem_cons, List.not_mem_nil, or_false, List.mem_map, List.mem_range] at hl
  rcases hl with (((rfl | rfl) | ⟨n, hn, rfl⟩) | ⟨n, hn, rfl⟩) | ⟨n, hn, rfl⟩
  · rw [regAddr_afbDecRes]
    dsimp only
    omega
  · rw [regAddr_afbEncRes]
    dsimp only
    omega
  · rw [regAddr_vdeRes]
    dsimp only
    omega
  · rw [regAddr_venRes]
    dsimp only
    omega
  · rw [regAddr_cmpPipeRes]
    dsimp only
    omega

theorem limitsOnly_setVideoLimits (s : State) : s.setVideoLimits.1.limitsOnly s := by
  unfold State.setVideoLimits
  refine List.foldlRecOn (motive := fun a : State × List (Nat × Nat) => a.1.limitsOnly s) _ _ s.limitsOnly_refl fun a ha l hl => ?_
  dsimp only
  split
  · exact ha
  · exact (limitsOnly_rset _ _ (s.videoLimits_not_serviceWord l hl)).trans ha

/-- Reporting the limits that a change of the parts in service changes adds registers, reports and events. -/
theorem limitsOnly_withLimits (s : State) (f : State → State) (more : List (Nat × Nat)) :
    (s.withLimits f more).limitsOnly (f s) :=
  (limitsOnly_raiseLimits _ _ _).trans (limitsOnly_setVideoLimits _)

/-! ### The parts of a block that comes back -/

theorem atriumBack_of_none_out {s : State} (h : s.sup.outParts = []) : s.atriumBack = s := by
  unfold State.atriumBack
  rw [h]
  rfl

theorem limitsOnly_vaultBack {s : State} (h : s.sup.outParts = []) : s.vaultBack.limitsOnly s := by
  unfold State.vaultBack
  rw [h]
  refine (limitsOnly_withLimits _ _ _).trans ((limitsOnly_rset _ _ ?_).trans (s.limitsOnly_rset _ ?_))
  · rw [serviceWord_iff, regAddr_vltShaStatus]
    omega
  · rw [serviceWord_iff, regAddr_vltAesStatus]
    omega

/-- A cluster whose block does not show 3 enters service without a word of its block. -/
theorem serviceKept_coreEntered {s u : State} (h : u.serviceKept s) {cl : Nat} (hc : cl ≤ 16) (hb : s.blkState 2 (16 + cl) ≠ 3) :
    (u.coreEntered cl).serviceKept s := by
  have hcl : ¬ serviceWord (regAddr .dspClState cl 0) := not_serviceWord_of_block (by rw [regAddr_dspClState]; omega)
  unfold State.coreEntered
  split
  · dsimp only
    rw [if_neg (by rwa [h.blkState (by omega) (by omega)])]
    exact (serviceKept_assignWaiting _).trans ((serviceKept_rset _ _ hcl).trans h)
  · exact h

theorem serviceKept_clusterBack {s : State} (h : s.sup.outParts = []) {cl : Nat} (hc : cl ≤ 16) (hb : s.blkState 2 (16 + cl) ≠ 3) :
    (s.clusterBack cl).serviceKept s := by
  have hin : s.partIsOut (.cluster cl) = false := by
    rw [State.partIsOut, h]
    rfl
  unfold State.clusterBack
  dsimp only
  rw [hin, if_neg (by decide)]
  refine (limitsOnly_withLimits _ _ _).1.trans (serviceKept_coreEntered ?_ hc hb)
  split
  · exact s.serviceKept_refl
  · split
    · rename_i n hn
      have hlt : n < 16 := List.mem_range.1 (List.mem_of_find?_eq_some hn)
      refine s.serviceKept_rset _ (not_serviceWord_of_block ?_)
      rw [regAddr_docMap]
      omega
    · split
      · exact s.serviceKept_rset _ (not_serviceWord_of_block (by rw [regAddr_docStandby]; omega))
      · exact s.serviceKept_refl

/-- With no part out of service, no part comes back with a block: what else changes is a cluster's entry into service. -/
theorem partsBack_of_none_out {s : State} (h : s.sup.outParts = []) (w : Nat) {b : Nat} (hb : b ≤ 32) (hs : s.blkState w b ≠ 3) :
    (s.partsBack w b).serviceKept s ∧ (w ≠ 2 ∨ b < 16 → (s.partsBack w b).limitsOnly s) := by
  have hin (p : Part) : s.partIsOut p = false := by
    rw [State.partIsOut, h]
    rfl
  unfold State.partsBack
  split
  · rw [atriumBack_of_none_out h]
    exact ⟨s.serviceKept_refl, fun _ => s.limitsOnly_refl⟩
  · exact ⟨(limitsOnly_vaultBack h).1, fun _ => limitsOnly_vaultBack h⟩
  · split
    · refine ⟨serviceKept_clusterBack h (by omega) ?_, fun hw => by omega⟩
      rwa [Nat.add_sub_cancel' (by assumption)]
    · exact ⟨s.serviceKept_refl, fun _ => s.limitsOnly_refl⟩
  · simp only [hin]
    split
    · exact ⟨s.serviceKept_refl, fun _ => s.limitsOnly_refl⟩
    · split <;> exact ⟨s.serviceKept_refl, fun _ => s.limitsOnly_refl⟩
  · exact ⟨s.serviceKept_refl, fun _ => s.limitsOnly_refl⟩

end State

end Sys2Proof.Machine

/-!
PROOF. The errors and resets of blocks, from the lemmas above.
-/

namespace Sys2Proof.Machine

namespace State

theorem setBlkState_kept {w : Nat} (hw : 1 ≤ w) (s : State) (b st : Nat) :
    s.setBlkState w b st = { s with regs := (s.setBlkState w b st).regs } := by
  rw [State.setBlkState_of_wing hw]
  rfl

theorem regsKept_setBlkState {w : Nat} (hw : 1 ≤ w) (s : State) (b st : Nat) :
    (s.setBlkState w b st).regsKept s [regAddr .chpWingBlkState (w - 1) b] := by
  rw [State.setBlkState_of_wing hw]
  exact s.regsKept_rset _ _ _ _

/-- No write of a block's STATE moves the stage of an image or the standby cluster. -/
theorem setBlkState_stage {w : Nat} (hw : 1 ≤ w) (s : State) (b st : Nat) : (s.setBlkState w b st).stage = s.stage := by
  have ha : regAddr .curStage 0 0 ∉ [regAddr .chpWingBlkState (w - 1) b] := by
    rw [regAddr_curStage, regAddr_chpWingBlkState, List.mem_singleton]
    omega
  rw [State.stage, State.rfld, State.rget_of_regsKept (s.regsKept_setBlkState hw b st) ha]
  rfl

theorem setBlkState_standby (s : State) {b : Nat} (hb : b ≤ 32) (st : Nat) : (s.setBlkState 2 b st).standby = s.standby := by
  have ha : regAddr .docStandby 0 0 ∉ [regAddr .chpWingBlkState (2 - 1) b] := by
    rw [regAddr_docStandby, regAddr_chpWingBlkState, List.mem_singleton]
    omega
  rw [State.standby, State.rfld, State.rget_of_regsKept (s.regsKept_setBlkState (by omega) b st) ha]
  rfl

/-- A block shows STATE 4 and its watchdog window is closed, before its parts come back. -/
def backInService (s : State) (w b : Nat) : State :=
  let s1 := s.setBlkState w b 4
  { s1 with sup := { s1.sup with wdtOpen := s1.sup.wdtOpen.filter (· ≠ 256 * w + b) } }

theorem blockReturns_eq (s : State) (w b : Nat) : s.blockReturns w b =
    (let t := (s.backInService w b).partsBack w b
    if w = 2 ∧ 16 ≤ b ∧ t.standby = some (b - 16) then t.setBlkState 2 b 6 else t) := rfl

theorem backInService_blkState {w : Nat} (hw : 1 ≤ w) (s : State) (b : Nat) : (s.backInService w b).blkState w b = 4 :=
  (State.blkState_of_wing hw _ b).trans
    ((State.blkState_of_wing hw _ b).symm.trans (s.blkState_setBlkState hw b (by omega)))

theorem not_mem_backInService (s : State) (w b : Nat) : 256 * w + b ∉ (s.backInService w b).sup.wdtOpen := by
  simp [State.backInService]

theorem backInService_spec {w : Nat} (hw : 1 ≤ w) (s : State) (b : Nat) :
    s.backInService w b = { s with regs := (s.backInService w b).regs, sup := (s.backInService w b).sup } := by
  unfold State.backInService
  rw [s.setBlkState_kept hw]

theorem backInService_outParts {w : Nat} (hw : 1 ≤ w) (s : State) (b : Nat) :
    (s.backInService w b).sup.outParts = s.sup.outParts := by
  unfold State.backInService
  rw [s.setBlkState_kept hw]

/-- What a block whose reset runs can be. -/
theorem resetRuns_bounds {s : State} {w b : Nat} (h : s.resetRuns w b = true) : 1 ≤ w ∧ w ≤ 4 ∧ b ≤ 32 := by
  simp only [State.resetRuns, State.underReset, Bool.and_eq_true, decide_eq_true_eq] at h
  obtain ⟨⟨hl, ⟨⟨⟨hst, -⟩, -⟩, -⟩, -⟩, -⟩ := h
  obtain ⟨hw, hb⟩ := le_of_blockListed hl
  refine ⟨Nat.pos_of_ne_zero ?_, hw, hb⟩
  rintro rfl
  rw [State.blkState, if_pos rfl] at hst
  omega

/-- An application goes on only in stage 4. -/
theorem applyOn_of_stage {s : State} (h : s.stage ≠ 4) : s.applyOn = s := by
  unfold State.applyOn State.applyNext
  exact if_pos h

/-- The frame of a block's return to STATE 4 with nothing but registers, reports and events after it. -/
theorem eq_of_limitsOnly_backInService {s t : State} {w b : Nat} (hw : 1 ≤ w) (h : t.limitsOnly (s.backInService w b)) :
    t = { s with regs := t.regs, sup := t.sup, cur := t.cur, mgmt := t.mgmt } := by
  obtain ⟨⟨-, -, hsup, -⟩, ht⟩ := h
  have h0 := s.backInService_spec hw b
  rw [hsup]
  generalize s.backInService w b = s2 at h0 ht ⊢
  generalize s2.regs = r, s2.sup = x at h0 ⊢
  subst h0
  exact ht

/-- A block that comes back with no part out of service. -/
theorem blockReturns_of_none_out {s : State} {w b : Nat} (hw : 1 ≤ w) (hw4 : w ≤ 4) (hb : b ≤ 32) (ho : s.sup.outParts = []) :
    ∃ t, s.blockReturns w b = t ∧ t.m = s.m ∧ t.otp = s.otp ∧ t.stage = s.stage ∧ 256 * w + b ∉ t.sup.wdtOpen ∧
      t.blkState w b = (if w = 2 ∧ 16 ≤ b ∧ t.standby = some (b - 16) then 6 else 4) ∧
      (w ≠ 2 ∨ b < 16 → t = { s with regs := t.regs, sup := t.sup, cur := t.cur, mgmt := t.mgmt }) := by
  obtain ⟨hk, hf⟩ := partsBack_of_none_out ((s.backInService_outParts hw b).trans ho) w hb
    (by rw [s.backInService_blkState hw]; omega)
  have hst : ((s.backInService w b).partsBack w b).blkState w b = 4 :=
    (hk.blkState hw4 (by omega)).trans (s.backInService_blkState hw b)
  have hstage : ((s.backInService w b).partsBack w b).stage = s.stage := hk.stage.trans (s.setBlkState_stage hw b 4)
  obtain ⟨hm, hotp, hsup, -⟩ := hk
  have hmem := s.not_mem_backInService w b
  have h0 := s.backInService_spec hw b
  rw [← hsup] at hmem
  replace hm := hm.trans (congrArg State.m h0)
  replace hotp := hotp.trans (congrArg State.otp h0)
  replace hf := fun h => eq_of_limitsOnly_backInService hw (hf h)
  rw [s.blockReturns_eq]
  generalize (s.backInService w b).partsBack w b = t at hm hotp hmem hst hstage hf ⊢
  refine ⟨_, rfl, ?_⟩
  dsimp only
  split
  · rename_i hc
    obtain ⟨rfl, hb16, hsb⟩ := hc
    rw [t.setBlkState_stage hw, t.setBlkState_standby hb, hsb, t.blkState_setBlkState hw _ (by omega), if_pos ⟨rfl, hb16, rfl⟩,
      t.setBlkState_kept hw]
    exact ⟨hm, hotp, hstage, hmem, rfl, fun h => by omega⟩
  · exact ⟨hm, hotp, hstage, hmem, hst, hf⟩

/-- BLOCK_RESET_DONE of a block whose reset runs returns it; outside stage 4 nothing goes on after it. -/
theorem exec_blockResetDone_of_runs {s : State} {w b : Nat} (hr : s.resetRuns w b = true)
    (hm : s.m.restarting.map (·.1) ≠ some w) (hs : (s.blockReturns w b).stage ≠ 4) :
    exec (.blockResetDone w b) s = .next (s.blockReturns w b) := by
  have hd : s.blockResetDone w b = s.blockReturns w b := by
    rw [State.blockResetDone, hr, if_pos (by simpa using hm)]
  have he : exec (.blockResetDone w b) s = .next (s.blockResetDone w b).applyOn := rfl
  rw [he, hd, applyOn_of_stage hs]

end State

/-- Settles O29: each clause is the lemma about its command, and a containment is `containedAs`. -/
theorem errorsAndResets : Obligations.ErrorsAndResets := by
  unfold Obligations.ErrorsAndResets
  intro contained s
  refine ⟨fun w b c p granted item hb hg => ?_, fun w b c items hb hw => ?_, fun f v w b hw hb => ?_,
    fun w b hr hm ho hs => ?_⟩
  · obtain ⟨u, hu, ht, he⟩ := exec_cellTimeout_of_granted c p item hb hg
    refine ⟨u.cellError w b c 3 p, _, he, u.cellError_sets w b c p (by decide), fun h => ?_, ?_, fun hw hfree => ?_, ?_⟩
    · rw [State.t_cellError]
      exact ht h
    · rw [State.cellError_spec, hu]
    · refine State.cellError_record hw ?_ c 3 p
      rw [hu]
      exact hfree
    · cases item with
      | sub n => rfl
      | flow f => rfl
      | stream n => exact ⟨_, rfl, rfl⟩
      | untied => exact State.containFree_contained _ w b
  · exact ⟨s.cdcError w b c, _, exec_cdcParityError_of_present s c items hb hw, s.cdcError_sets_parity c (le_of_blockPresent hb).2,
      s.cdcError_sets_wing b c hw, s.cdcError_spec w b c, State.containFree_contained _ w b⟩
  · have he : exec (.blockReset f v) s = .next (s.answerWith (s.writeBlkReset w v)) := by
      rw [hw]
      rfl
    have hw1 : 1 ≤ w := by omega
    refine ⟨_, he, ?_⟩
    rw [State.writeBlkReset_eq, ← hb]
    split
    · rfl
    · split
      · rfl
      · rename_i hl
        have hb32 := (le_of_blockListed (Bool.of_not_eq_false fun e => hl (.inr e))).2
        rw [State.resetBlock_eq hw1]
        refine ⟨_, rfl, rfl, State.markReset_blkState hw1 _ b s.t (by omega), State.markReset_sets _ w b s.t,
          State.markReset_resets hw1 _ b s.t (by omega), State.markReset_resetAt _ w b s.t, ?_⟩
        generalize (s.logFault 0x04 w b (s.errStatus w b).toNat 0).blockLoses w b = u
        exact congrArg (fun x : State => { x with answer := ⟨0, []⟩ }) (u.markReset_spec w b s.t)
  · obtain ⟨hw, hw4, hb⟩ := State.resetRuns_bounds hr
    obtain ⟨t, ht, hmode, hotp, hstage, hmem, hst, hf⟩ := State.blockReturns_of_none_out hw hw4 hb ho
    subst ht
    exact ⟨_, State.exec_blockResetDone_of_runs hr hm (hstage.trans_ne hs), hmode, hotp, hmem, hst, hf⟩

end Sys2Proof.Machine

/-!
PROOF. Power-on reset (R26, R35, R38, R54, R56), and the supply and its rails (R463, R468, R476).
-/

namespace Sys2Proof.Machine

/-! ### Power-on reset (R26, R35, R38, R54, R56) -/

/-- Settles O2, field by field of the power-on reset's state. -/
theorem resetState : Obligations.ResetState := by
  unfold Obligations.ResetState
  refine ⟨rfl, rfl, rfl, by decide, by decide, by decide, by decide, rfl, by decide, by decide, rfl, rfl, rfl, rfl, rfl, rfl,
    rfl, rfl, rfl, rfl, rfl, by decide, fun r u i => ?_, fun r u i => ?_⟩
  · rfl
  · rfl

/-- Settles O5: the fuses are those of a blank part, and every memory and table is empty. -/
theorem invariantsAtReset : Obligations.InvariantsAtReset := by
  unfold Obligations.InvariantsAtReset
  refine ⟨⟨by decide, by decide⟩, rfl, fun cl => rfl, fun c => ⟨rfl, rfl, rfl, rfl, rfl⟩, rfl, fun p => rfl, fun st => rfl, rfl, ?_⟩
  simp [State.reset]

/-! ### Input power and rails (R38, R463, R468, R476) -/

theorem State.crossed_of_lt {s : State} {v lo hi : Nat} (h : v < lo) : s.crossed v lo hi = (false, s) := by
  simp [State.crossed, h]

theorem State.crossed_of_le {s : State} {v lo hi : Nat} (h : hi ≤ v) (hlo : lo ≤ hi) : s.crossed v lo hi = (true, s) := by
  simp [State.crossed, h, Nat.not_lt.mpr (hlo.trans h)]

/-- Settles O11, a clause for the way to OFF by each of its causes, for the way out of it and for the rails. -/
theorem offAndPowerOn : Obligations.OffAndPowerOn := by
  unfold Obligations.OffAndPowerOn
  refine ⟨fun s cause hoff hc => ?_, fun s mv hoff hlo hhi => ?_, fun s rail => ⟨?_, ?_⟩⟩
  · cases cause with
    | vin mv =>
      rcases hc with hlow | hhigh
      · have hin : s.crossed mv 81000 84000 = (false, s) := State.crossed_of_lt (by omega)
        simp [execOffTransition, exec, hoff, hin, State.crossed_of_lt hlow, State.dropOff, State.powerOff]
      · have hpast : s.crossed mv 81000 84000 = (true, s) := State.crossed_of_le hhigh (by omega)
        simp [execOffTransition, exec, hoff, hpast, State.dropOff, State.powerOff]
    | porbLow ns =>
      have hlow : s.crossed ns 1000 10000 = (true, s) := State.crossed_of_le hc (by omega)
      simp [execOffTransition, exec, hoff, hlow, State.dropOff, State.powerOff]
  · have hup : s.crossed mv 8600 9000 = (true, s) := State.crossed_of_le hlo (by omega)
    have hpast : ¬ (if s.pins.overVolt then 78000 else 81000) ≤ mv := by split <;> omega
    simp [execPowerOn, exec, hoff, hup, hpast]
  · intro hm hf hs h0 hr
    simp [execRailStepTimeout, exec, hm, hf, hs, h0, hr]
  · intro hf
    simp [execRailRetry, exec, hf]

end Sys2Proof.Machine

/-!
PROOF. What nearly every operation leaves alone: the commands waiting, the mode and the fuses. One lemma per operation of the
model, in the order of the model, `…_control`; the few operations that change the mode or blow fuses stand at the end.
-/

namespace Sys2Proof.Machine

/-! ### What nearly every operation leaves alone: the commands waiting, the mode and the fuses -/

/-- The commands waiting, the mode and the fuses. -/
def State.control (s : State) : List Instr × Mode × Otp := (s.pending, s.m.mode, s.otp)

@[simp] theorem State.control_eta (s : State) : (s.pending, s.m.mode, s.otp) = s.control := by
  simp only [State.control]

@[simp] theorem State.control_mk (pending : List Instr) (draws : Nat) (regs : NMap W32) (ctrs : NMap W64) (latches :
    NMap W32) (answer : Answer) (m : ModeSt) (otp : Otp) (pins : Pins) (rails : Rails) (time : Timebase) (i2c : I2c)
    (tap : Tap) (frec : NMap Byte) (cur : Curator) (sup : Supervisor) (mgmt : NMap (List MgmtFrame)) (atr : Atrium)
    (rgs : Registrar) (vlt : Vault) (clo : Cloakroom) (stk : Stacks) (fwd : Forwarder) (tmg : Tmg) (cas : Cascade)
    (doc : Docent) (dsp : NMap Cluster) (afb : Audio) (pgr : Pager) (vde : VideoDec) (cmp : Compositor) (ven :
    VideoEnc) (mct : MemCtl) (objs : NMap (NMap Bytes)) (stats : NMap W64) (gddr : NMap Byte) (poisoned : List Nat)
    (wire : List TxFrame) (programmed : List (Nat × Bytes)) : State.control ⟨pending, draws, regs, ctrs, latches,
    answer, m, otp, pins, rails, time, i2c, tap, frec, cur, sup, mgmt, atr, rgs, vlt, clo, stk, fwd, tmg, cas, doc,
    dsp, afb, pgr, vde, cmp, ven, mct, objs, stats, gddr, poisoned, wire, programmed⟩ = (pending, m.mode, otp) := by
  simp only [State.control]

@[simp] theorem State.control_ite (c : Prop) [Decidable c] (a b : State) :
    (if c then a else b).control = if c then a.control else b.control := apply_ite ..

/-- A fold of operations that keep them keeps them. -/
@[simp] theorem State.foldl_control {β : Type} {f : State → β → State} (hf : ∀ s b, (f s b).control = s.control) (l : List β) (s : State) :
    (l.foldl f s).control = s.control :=
  List.foldlRecOn (motive := fun t : State => t.control = s.control) _ _ rfl fun t ht b _ => (hf t b).trans ht

@[simp] theorem State.elim_control {α : Type} {a : State} {f : α → State} (hf : ∀ x, (f x).control = a.control) (o : Option α) :
    (o.elim a f).control = a.control := by
  cases o with
  | none => rfl
  | some x => exact hf x

/-- The same where the fold carries more than the state. -/
theorem State.foldl_control_fst {α β : Type} {f : State × α → β → State × α} (hf : ∀ a b, (f a b).1.control = a.1.control) (l : List β)
    (a : State × α) : (l.foldl f a).1.control = a.1.control :=
  List.foldlRecOn (motive := fun t : State × α => t.1.control = a.1.control) _ _ rfl fun t ht b _ => (hf t b).trans ht

theorem State.foldl_control_snd {α β : Type} {f : α × State → β → α × State} (hf : ∀ a b, (f a b).2.control = a.2.control) (l : List β)
    (a : α × State) : (l.foldl f a).2.control = a.2.control :=
  List.foldlRecOn (motive := fun t : α × State => t.2.control = a.2.control) _ _ rfl fun t ht b _ => (hf t b).trans ht

/-- What a refusable operation answers when it is taken up. -/
def resControl (r : Res State) (s : State) : Prop := ∀ t, r = .ok t → t.control = s.control

@[simp] theorem resControl_ok {t s : State} : resControl (.ok t) s ↔ t.control = s.control :=
  ⟨fun h => h t rfl, fun h _ e => by cases e; exact h⟩

@[simp] theorem resControl_pure {t s : State} : resControl (pure t) s ↔ t.control = s.control := resControl_ok

@[simp] theorem resControl_error (e : Nat) (s : State) : resControl (.error e) s := fun _ h => nomatch h

@[simp] theorem resControl_throw (e : Nat) (s : State) : resControl (throw e) s := fun _ h => nomatch h

/-- A refusal changes nothing. -/
theorem resControl_bind {α : Type} {r : Res α} {f : α → Res State} {s : State} (h : ∀ a, r = .ok a → resControl (f a) s) :
    resControl (r >>= f) s := by
  cases r with
  | ok a => exact h a rfl
  | error e => exact resControl_error e s

@[simp] theorem resControl_refuseIf {c : Bool} {e : Nat} {f : Unit → Res State} {s : State} :
    resControl (refuseIf c e >>= f) s ↔ (c = false → resControl (f ()) s) := by
  cases c
  · exact ⟨fun h _ => h, fun h => h rfl⟩
  · exact ⟨fun _ h => (nomatch h), fun _ => resControl_error e s⟩

@[simp] theorem resControl_unit_bind {r : Res Unit} {f : Unit → Res State} {s : State} (h : resControl (f ()) s) :
    resControl (r >>= f) s := resControl_bind fun _ _ => h

@[simp] theorem resControl_ite {c : Prop} [Decidable c] {a b : Res State} {s : State} :
    resControl (if c then a else b) s ↔ (c → resControl a s) ∧ (¬ c → resControl b s) := by
  split <;> simp [*]

/-- What an operation that may come to nothing answers. -/
def optControl (o : Option State) (s : State) : Prop := ∀ t, o = some t → t.control = s.control

@[simp] theorem optControl_some {t s : State} : optControl (some t) s ↔ t.control = s.control :=
  ⟨fun h => h t rfl, fun h _ e => by cases e; exact h⟩

@[simp] theorem optControl_none (s : State) : optControl none s := fun _ h => nomatch h

@[simp] theorem optControl_ite {c : Prop} [Decidable c] {a b : Option State} {s : State} :
    optControl (if c then a else b) s ↔ (c → optControl a s) ∧ (¬ c → optControl b s) := by
  split <;> simp [*]

@[simp] theorem getD_control {o : Option State} {u s : State} (h : optControl o s) (k : u.control = s.control) :
    (o.getD u).control = s.control := by
  cases o with
  | none => exact k
  | some t => exact h t rfl

/-- What a command answers. -/
def outControl (o : Out) (s : State) : Prop := ∀ t, o = .next t → t.control = s.control

@[simp] theorem outControl_next {t s : State} : outControl (.next t) s ↔ t.control = s.control :=
  ⟨fun h => h t rfl, fun h _ e => by cases e; exact h⟩

@[simp] theorem outControl_ite {c : Prop} [Decidable c] {a b : Out} {s : State} :
    outControl (if c then a else b) s ↔ (c → outControl a s) ∧ (¬ c → outControl b s) := by
  split <;> simp [*]

/-! ### Registers, counters, the fault record, sessions, reports -/

@[simp] theorem State.rset_control (s : State) (r : Reg) (u i : Nat) (v : W32) : (s.rset r u i v).control = s.control := by
  simp [State.rset]

@[simp] theorem State.rsetFld_control (s : State) (r : Reg) (u i lo len n : Nat) :
    (s.rsetFld r u i lo len n).control = s.control := by
  simp [State.rsetFld]

@[simp] theorem State.rbit_control (s : State) (r : Reg) (u i b : Nat) : (s.rbit r u i b).control = s.control := by
  simp [State.rbit]

@[simp] theorem State.rcount_control (s : State) (r : Reg) (u i lo len n : Nat) :
    (s.rcount r u i lo len n).control = s.control := by
  simp [State.rcount]

@[simp] theorem State.cadd_control (s : State) (r : Reg) (u i n : Nat) : (s.cadd r u i n).control = s.control := by
  simp [State.cadd]

@[simp] theorem State.cinc_control (s : State) (r : Reg) (u i : Nat) : (s.cinc r u i).control = s.control := by
  simp [State.cinc]

@[simp] theorem State.frWrite_control (s : State) (off : Nat) (b : Bytes) : (s.frWrite off b).control = s.control := by
  simp [State.frWrite]

@[simp] theorem State.sendMgmt_control (s : State) (p : Peer) (payload : Bytes) : (s.sendMgmt p payload).control = s.control := by
  simp [State.sendMgmt]

@[simp] theorem State.setSession_control (s : State) (k : Nat) (x : Session) : (s.setSession k x).control = s.control := by
  simp [State.setSession]

@[simp] theorem State.report_control (s : State) (t : Trigger) : (s.report t).control = s.control := by
  simp [State.report]

/-! ### Objects -/

@[simp] theorem State.sadd_control (s : State) (ty id num n : Nat) : (s.sadd ty id num n).control = s.control := by
  simp [State.sadd]

@[simp] theorem State.sinc_control (s : State) (ty id num : Nat) : (s.sinc ty id num).control = s.control := by
  simp [State.sinc]

@[simp] theorem State.gwrite_control (s : State) (a : Nat) (b : Bytes) : (s.gwrite a b).control = s.control := by
  simp [State.gwrite]

@[simp] theorem State.setCore_control (s : State) (c : Nat) (x : DspCore) : (s.setCore c x).control = s.control := by
  simp [State.setCore]

@[simp] theorem State.setCmem_control (s : State) (cl : Nat) (m : NMap Byte) : (s.setCmem cl m).control = s.control := by
  simp [State.setCmem]

@[simp] theorem State.tick_control (s : State) : s.tick.control = s.control := by
  simp [State.tick]

@[simp] theorem State.reach_control (s : State) (deadline : Nat) : (s.reach deadline).control = s.control := by
  simp [State.reach]

@[simp] theorem State.round_control (s : State) (k period : Nat) : (s.round k period).control = s.control := by
  unfold State.round
  split <;> simp

@[simp] theorem State.draw_control (s : State) (w : Nat) : (s.draw w).2.control = s.control := by
  simp [State.draw]

@[simp] theorem State.drawBytes_control (s : State) (n : Nat) : (s.drawBytes n).2.control = s.control := by
  simp [State.drawBytes]

@[simp] theorem State.cclear_control (s : State) (r : Reg) (u i n : Nat) : (s.cclear r u i n).control = s.control := by
  simp [State.cclear]

@[simp] theorem State.answerWith_control {s : State} {r : Res State} (h : resControl r s) :
    (s.answerWith r).control = s.control := by
  cases r with
  | ok t => exact h t rfl
  | error e => exact rfl

@[simp] theorem State.drop_control (s : State) (code : Nat) : (s.drop code).control = s.control := by
  simp [State.drop]

@[simp] theorem State.storeRw_control (s : State) (r : Reg) (u i : Nat) (v : W32) : (s.storeRw r u i v).control = s.control := by
  simp [State.storeRw]

@[simp] theorem State.logFault_control (s : State) (code wing blk detail subject : Nat) :
    (s.logFault code wing blk detail subject).control = s.control := by
  simp [State.logFault]

@[simp] theorem State.pump_control (s : State) (k : Nat) : (s.pump k).control = s.control := by
  unfold State.pump
  split <;> simp

@[simp] theorem State.raise_control (s : State) (code subjectType subjectId : Nat) (detail : Bytes) :
    (s.raise code subjectType subjectId detail).control = s.control := by
  refine State.foldl_control (fun s k => ?_) _ _
  split
  · exact rfl
  · split <;> simp

@[simp] theorem State.setBlkState_control (s : State) (wing num st : Nat) : (s.setBlkState wing num st).control = s.control := by
  simp [State.setBlkState]

@[simp] theorem State.setErr_control (s : State) (wing num bit : Nat) : (s.setErr wing num bit).control = s.control := by
  simp [State.setErr]

@[simp] theorem State.cellLog_control (s : State) (wing num cell kind place : Nat) :
    (s.cellLog wing num cell kind place).control = s.control := by
  unfold State.cellLog
  dsimp only
  split
  · simp
  · split <;> simp

@[simp] theorem State.cellError_control (s : State) (wing num cell kind place : Nat) :
    (s.cellError wing num cell kind place).control = s.control := by
  simp [State.cellError]

@[simp] theorem State.metPoison_control (s : State) (wing num : Nat) : (s.metPoison wing num).control = s.control := by
  simp [State.metPoison]

@[simp] theorem State.fenceStream_control (s : State) (st : Nat) : (s.fenceStream st).control = s.control := by
  simp [State.fenceStream]

@[simp] theorem State.fenceSub_control (s : State) (id : Nat) : (s.fenceSub id).control = s.control := by
  simp [State.fenceSub]

@[simp] theorem State.flag_control (s : State) (r : Reg) (u i bit : Nat) : (s.flag r u i bit).control = s.control := by
  simp [State.flag]

@[simp] theorem State.flagEvent_control (s : State) (r : Reg) (u i bit : Nat) : (s.flagEvent r u i bit).control = s.control := by
  simp [State.flagEvent]

@[simp] theorem State.loseRequests_control (s : State) : s.loseRequests.control = s.control := by
  simp [State.loseRequests]

@[simp] theorem State.raiseLimits_control (n : Nat) (s : State) (l : List (Nat × Nat)) :
    (State.raiseLimits n s l).control = s.control := by
  induction n generalizing s l with
  | zero => exact rfl
  | succ n ih =>
    unfold State.raiseLimits
    split
    · exact rfl
    · exact (ih _ _).trans (s.raise_control ..)

@[simp] theorem State.setVideoLimits_control (s : State) : s.setVideoLimits.1.control = s.control := by
  refine State.foldl_control_fst (fun a l => ?_) _ (s, [])
  dsimp only
  split <;> simp

@[simp] theorem State.withLimits_control {s : State} {f : State → State} (hf : (f s).control = s.control) (more : List (Nat × Nat)) :
    (s.withLimits f more).control = s.control :=
  (State.raiseLimits_control _ _ _).trans ((State.setVideoLimits_control _).trans hf)

@[simp] theorem State.setOut_control (s : State) (l : List Part) : (s.setOut l).control = s.control := by
  simp [State.setOut]

@[simp] theorem State.recordOut_control (s : State) (p : Part) (cause : Nat) : (s.recordOut p cause).control = s.control := by
  simp [State.recordOut]

@[simp] theorem State.snapshot_control (s : State) (causeWord : W32) : (s.snapshot causeWord).control = s.control := by
  simp [State.snapshot]

@[simp] theorem State.wiped_control (s : State) : s.wiped.control = s.control := by
  simp [State.wiped]

@[simp] theorem State.putFrame_control (s : State) (p : Nat) (frame : Bytes) (ptp : Bool) :
    (s.putFrame p frame ptp).control = s.control := by
  simp [State.putFrame]

@[simp] theorem State.cutFrames_control (s : State) : s.cutFrames.control = s.control := by
  simp [State.cutFrames]

@[simp] theorem State.syncCore_control (s : State) (c : Nat) : (s.syncCore c).control = s.control := by
  simp [State.syncCore]

end Sys2Proof.Machine

/-!
PROOF. The same for the Cloakroom and the audio work items.
-/

namespace Sys2Proof.Machine

/-! ### The Cloakroom -/

@[simp] theorem State.setPool_control (s : State) (p : Nat) (x : Pool) : (s.setPool p x).control = s.control := by
  simp [State.setPool]

@[simp] theorem State.setRec_control (s : State) (h : W32) (r : BufRec) : (s.setRec h r).control = s.control := by
  simp [State.setRec]

@[simp] theorem State.lowMark_control (s : State) (p : Nat) : (s.lowMark p).control = s.control := by
  simp [State.lowMark]

@[simp] theorem State.answerClient_control (s : State) (cl : Client) (code : Nat) (h : W32) :
    (s.answerClient cl code h).control = s.control := by
  unfold State.answerClient
  split <;> simp

@[simp] theorem State.reject_control (s : State) (d req : Nat) (h : W32) (code : Nat) :
    (s.reject d req h code).control = s.control := by
  simp [State.reject]

@[simp] theorem State.takeBuffer_control (s : State) (p d : Nat) : (s.takeBuffer p d).2.control = s.control := by
  unfold State.takeBuffer
  dsimp only
  split <;> simp

@[simp] theorem State.grant_control (s : State) (d start p : Nat) : (s.grant d start p).2.control = s.control := by
  unfold State.grant
  dsimp only
  split <;> simp

@[simp] theorem State.grantOr_control (s : State) (d start q : Nat) : (s.grantOr d start q).2.control = s.control := by
  have hg := s.grant_control d start q
  rw [State.grantOr]
  generalize s.grant d start q = g at hg ⊢
  obtain ⟨b, t⟩ := g
  simp only
  split
  · exact hg
  · exact s.reject_control ..

@[simp] theorem State.alloc_control (s : State) (d size : Nat) (yellow : Bool) : (s.alloc d size yellow).2.control = s.control := by
  unfold State.alloc
  dsimp only
  repeat' split
  all_goals simp

@[simp] theorem State.holdAlloc_control (s : State) (cl : Client) (size : Nat) (work : Option Nat) :
    (s.holdAlloc cl size work).control = s.control := by
  simp [State.holdAlloc]

@[simp] theorem State.allocNow_control (s : State) (cl : Client) (size : Nat) (yellow wait : Bool) :
    (s.allocNow cl size yellow wait).control = s.control := by
  have h := s.alloc_control cl.domain size yellow
  unfold State.allocNow
  split <;> rename_i e <;> rw [e] at h
  · simpa using h
  · split <;> simpa using h

@[simp] theorem State.overCredit_control (s : State) (q : HeldReq) : (s.overCredit q).control = s.control := by
  simp [State.overCredit]

@[simp] theorem State.allocFor_control (s : State) (cl : Client) (size : Nat) (yellow wait : Bool) :
    (s.allocFor cl size yellow wait).control = s.control := by
  simp [State.allocFor]

@[simp] theorem State.hwAlloc_control (s : State) (d work size : Nat) : (s.hwAlloc d work size).2.control = s.control := by
  have h := s.alloc_control d size false
  unfold State.hwAlloc
  split
  · exact rfl
  · split
    · exact rfl
    · split
      · rename_i e
        rw [e] at h
        exact (State.holdAlloc_control ..).trans h
      · exact h

@[simp] theorem State.hwAllocEnd_control (s : State) (d work : Nat) : (s.hwAllocEnd d work).control = s.control := by
  simp [State.hwAllocEnd]

@[simp] theorem State.endHeld_control (s : State) (h : HeldAlloc) (code : Nat) (b : W32) :
    (s.endHeld h code b).control = s.control := by
  unfold State.endHeld
  split <;> simp

@[simp] theorem State.retryHeld_control (s : State) (p : Nat) : (s.retryHeld p).control = s.control := by
  -- the grant is made opaque, so that the kernel does not evaluate it as a match's discriminant
  obtain ⟨grant, hgrant⟩ : ∃ g, g = s.grantOr := ⟨_, rfl⟩
  have hg (d start q) : (grant d start q).2.control = s.control := hgrant ▸ s.grantOr_control d start q
  rw [State.retryHeld, ← hgrant]
  split
  · exact rfl
  · rename_i h _
    split
    · exact rfl
    · rename_i q _
      specialize hg h.client.domain h.start q
      split <;> rename_i he <;> rw [he] at hg
      · exact (State.endHeld_control ..).trans hg
      · exact (State.endHeld_control ..).trans hg

theorem State.setCount_control {s t : State} {h : W32} {r : BufRec} {n : Nat} (e : s.setCount h r n = some t) :
    t.control = s.control := by
  unfold State.setCount at e
  dsimp only at e
  split at e
  · cases e
    split <;> simp
  · split at e
    · cases e
      simp
    · split at e
      · cases e
      · cases e
        simp

@[simp] theorem State.freeBuffer_control (s : State) (h : W32) (r : BufRec) : (s.freeBuffer h r).control = s.control := by
  simp [State.freeBuffer]

theorem State.applyReq_control {s t : State} {kind : Nat} {h : W32} {arg : Nat} (e : s.applyReq kind h arg = some t) :
    t.control = s.control := by
  unfold State.applyReq at e
  dsimp only at e
  split at e
  · exact State.setCount_control e
  · split at e
    · cases e
      simp
    · exact State.setCount_control e
  · cases e
    simp

theorem State.tryReq_control {s t : State} {d kind : Nat} {h : W32} {arg code : Nat} (e : s.tryReq d kind h arg = some (code, t)) :
    t.control = s.control := by
  unfold State.tryReq at e
  split at e
  · cases e
    simp
  · split at e
    · cases e
      simp
    · obtain ⟨u, hu, he⟩ := Option.map_eq_some_iff.1 e
      cases he
      exact State.applyReq_control hu

@[simp] theorem State.failHw_control (s : State) (d : Nat) (flow : ItemFlow) : (s.failHw d flow).control = s.control := by
  unfold State.failHw
  split <;> simp

@[simp] theorem State.answerReq_control (s : State) (q : HeldReq) (code : Nat) : (s.answerReq q code).control = s.control := by
  unfold State.answerReq
  split <;> simp

theorem State.nextStalled_control {s t : State} {seen l : List HeldReq} {q : HeldReq} {code : Nat}
    (e : s.nextStalled seen l = some (q, code, t)) : t.control = s.control := by
  induction l generalizing seen with
  | nil => cases e
  | cons a r ih =>
    unfold State.nextStalled at e
    split at e
    · rename_i x hx
      cases e
      split at hx
      · cases hx
      · exact State.tryReq_control hx
    · exact ih e

@[simp] theorem State.countStalls_control (s : State) (seen l : List HeldReq) : (s.countStalls seen l).control = s.control := by
  induction l generalizing s seen with
  | nil => simp [State.countStalls]
  | cons q r ih =>
    unfold State.countStalls
    split
    · exact ih ..
    · exact (ih ..).trans (by simp)

@[simp] theorem State.serveStalled_control (n : Nat) (s : State) : (State.serveStalled n s).control = s.control := by
  induction n generalizing s with
  | zero => exact s.countStalls_control ..
  | succ n ih =>
    unfold State.serveStalled
    split
    · simp
    · rename_i e
      exact (ih _).trans (by simpa using State.nextStalled_control e)

@[simp] theorem State.settle_control (s : State) : s.settle.control = s.control := by
  simp [State.settle]

@[simp] theorem State.enterReq_control (s : State) (q : HeldReq) : (s.enterReq q).control = s.control := by
  unfold State.enterReq
  dsimp only
  generalize hu : (if q.kind = 0 then s.cinc .cloCnt 0 2 else if q.kind = 1 then s.cinc .cloCnt 0 3 else s) = u
  have hs : u.control = s.control := by
    rw [← hu]
    split
    · simp
    · split <;> simp
  split
  · simp
  · split
    · exact hs
    · split
      · rename_i e
        have h := (State.tryReq_control e).trans hs
        simpa using h
      · simpa using hs

@[simp] theorem State.enterOver_control (n : Nat) (s : State) : (State.enterOver n s).control = s.control := by
  induction n generalizing s with
  | zero => exact rfl
  | succ n ih =>
    unfold State.enterOver
    split
    · simp
    · exact (ih _).trans (by simp)

@[simp] theorem State.requestOf_control (s : State) (q : HeldReq) : (s.requestOf q).control = s.control := by
  simp [State.requestOf]

@[simp] theorem State.request_control (s : State) (cl : Client) (kind : Nat) (h : W32) (arg : Nat) :
    (s.request cl kind h arg).control = s.control := by
  simp [State.request]

@[simp] theorem State.decRef_control (s : State) (d : Nat) (h : W32) (flow : ItemFlow := .untied) :
    (s.decRef d h flow).control = s.control := by
  simp [State.decRef]

@[simp] theorem State.incRef_control (s : State) (d : Nat) (h : W32) (n : Nat) (flow : ItemFlow := .untied) :
    (s.incRef d h n flow).control = s.control := by
  simp [State.incRef]

@[simp] theorem State.hwAllocDrop_control (s : State) (d work : Nat) : (s.hwAllocDrop d work).control = s.control := by
  unfold State.hwAllocDrop
  split <;> simp

@[simp] theorem State.writeCloCntClr_control (s : State) (v : W32) : (s.writeCloCntClr v).control = s.control := by
  simp [State.writeCloCntClr]

@[simp] theorem State.writePoolCfg_control (s : State) (p : Nat) (v : W32) : resControl (s.writePoolCfg p v) s := by
  simp [State.writePoolCfg]

@[simp] theorem State.writePoolYel_control (s : State) (p : Nat) (v : W32) : resControl (s.writePoolYel p v) s := by
  simp [State.writePoolYel]

theorem execAlloc_control (client : Client) (size : Nat) (yellow wait : Bool) (s : State) :
    outControl (execAlloc client size yellow wait s) s := by
  unfold execAlloc
  split <;> simp

theorem execInc_control (client : Client) (handle : W32) (n : Nat) (s : State) : outControl (execInc client handle n s) s := by
  simp [execInc]

theorem execDec_control (client : Client) (handle : W32) (s : State) : outControl (execDec client handle s) s := by
  simp [execDec]

theorem execShare_control (client : Client) (handle mask : W32) (s : State) : outControl (execShare client handle mask s) s := by
  simp [execShare]

theorem execCloPoolCfg_control (pool : Fin 8) (v : W32) (s : State) : outControl (execCloPoolCfg pool v s) s := by
  simp [execCloPoolCfg]

theorem execCloCntClrCounters_control (s : State) : outControl (execCloCntClrCounters s) s := by
  simp [execCloCntClrCounters]

theorem execCloCntClrLow_control (s : State) : outControl (execCloCntClrLow s) s := by
  simp [execCloCntClrLow]

/-! ### Audio work items -/

@[simp] theorem State.onFrame_control (s : State) (h : W32) (f : AudFrame → AudFrame) : (s.onFrame h f).control = s.control := by
  simp [State.onFrame]

theorem State.takeLate_control {s t : State} {h : W32} (e : s.takeLate h = some t) : t.control = s.control := by
  obtain ⟨l, -, rfl⟩ := Option.map_eq_some_iff.1 e
  simp

@[simp] theorem State.audioEnded_control (s : State) (it : Item) : (s.audioEnded it).control = s.control := by
  unfold State.audioEnded
  split
  · split
    · rename_i e
      have h := State.takeLate_control e
      simpa using h
    · simp
  · simp

@[simp] theorem State.audioDiscarded_control (s : State) (it : Item) : (s.audioDiscarded it).control = s.control := by
  unfold State.audioDiscarded
  dsimp only
  split
  · generalize hu : (if it.decPkt = 0xFFFFFFFF then s else s.decRef 5 it.decPkt (.flow it.flow)) = u
    have hs : u.control = s.control := by simp [← hu]
    cases e : u.takeLate it.decFrame with
    | none => simpa using hs
    | some t => simpa using (State.takeLate_control e).trans hs
  · simp

@[simp] theorem State.discardItem_control (s : State) (it : Item) : (s.discardItem it).control = s.control := by
  simp [State.discardItem]

end Sys2Proof.Machine

/-!
PROOF. The same for the Docent and the Stacks.
-/

namespace Sys2Proof.Machine

/-! ### The Docent -/

@[simp] theorem State.setReady_control (s : State) (c : Nat) (l : List Item) : (s.setReady c l).control = s.control := by
  simp [State.setReady]

/-! ### The Stacks -/

@[simp] theorem State.setQueue_control (s : State) (q : Nat) (x : Queue) : (s.setQueue q x).control = s.control := by
  simp [State.setQueue]

@[simp] theorem State.setClState_control (s : State) (cl st : Nat) : (s.setClState cl st).control = s.control := by
  simp [State.setClState]

@[simp] theorem State.shareItem_control (s : State) (it : Item) (c : Nat) : (s.shareItem it c).control = s.control := by
  simp [State.shareItem]

@[simp] theorem State.assignByLoad_control (s : State) (it : Item) : (s.assignByLoad it).control = s.control := by
  unfold State.assignByLoad
  dsimp only
  repeat' split
  all_goals simp

@[simp] theorem State.assign_control (s : State) (it : Item) : (s.assign it).control = s.control := by
  unfold State.assign
  dsimp only
  repeat' split
  all_goals simp

@[simp] theorem State.activate_control (s : State) (it : Item) : (s.activate it).control = s.control := by
  simp [State.activate]

@[simp] theorem State.assignWaiting_control (s : State) : s.assignWaiting.control = s.control := by
  refine State.foldl_control (fun s f => ?_) _ _
  split
  · split <;> simp
  · simp

@[simp] theorem State.accept_control (s : State) (it : Item) : (s.accept it).control = s.control := by
  simp [State.accept]

@[simp] theorem State.hwPost_control (s : State) (type source : Nat) (flow prio : Option Nat) (payload : Bytes) :
    (s.hwPost type source flow prio payload).control = s.control := by
  simp [State.hwPost]

@[simp] theorem State.unblockN_control (n : Nat) (s : State) : (State.unblockN n s).control = s.control := by
  induction n generalizing s with
  | zero => exact rfl
  | succ n ih =>
    unfold State.unblockN
    split
    · exact rfl
    · split
      · exact rfl
      · exact (ih _).trans (by simp)

@[simp] theorem State.unblock_control (s : State) : s.unblock.control = s.control := State.unblockN_control ..

@[simp] theorem State.fwPost_control (s : State) (source : Nat) (b : Bytes) : (s.fwPost source b).2.control = s.control := by
  unfold State.fwPost
  dsimp only
  repeat' split
  all_goals simp

@[simp] theorem State.corePost_control (s : State) (c : Nat) : (s.corePost c).control = s.control := by
  simp [State.corePost]

@[simp] theorem State.bindHead_control (s : State) (c : Nat) : (s.bindHead c).control = s.control := by
  unfold State.bindHead
  dsimp only
  repeat' split
  all_goals simp

@[simp] theorem State.fenceFlow_control (s : State) (f cause : Nat) : (s.fenceFlow f cause).control = s.control := by
  simp [State.fenceFlow]

@[simp] theorem State.endActive_control (s : State) (f : Nat) : (s.endActive f).control = s.control := by
  unfold State.endActive
  dsimp only
  repeat' split
  all_goals simp

@[simp] theorem State.done_control (s : State) (c : Nat) (failed : Bool) : (s.done c failed).control = s.control := by
  unfold State.done
  repeat' split
  all_goals simp

@[simp] theorem State.dropItems_control (s : State) (c cause : Nat) : (s.dropItems c cause).control = s.control := by
  unfold State.dropItems
  exact (State.foldl_control (by simp) _ _).trans rfl

@[simp] theorem State.reassign_control (s : State) (cs : List Nat) : (s.reassign cs).control = s.control := by
  simp [State.reassign]

@[simp] theorem State.coreHalted_control (s : State) (c : Nat) : (s.coreHalted c).control = s.control := by
  simp [State.coreHalted]

@[simp] theorem State.reload_control (s : State) (cl id : Nat) : (s.reload cl id).control = s.control := by
  simp [State.reload]

@[simp] theorem State.reloadBlock_control (s : State) (cl id : Nat) : (s.reloadBlock cl id).control = s.control := by
  simp [State.reloadBlock]

@[simp] theorem State.coreEntered_control (s : State) (cl : Nat) : (s.coreEntered cl).control = s.control := by
  simp [State.coreEntered]

@[simp] theorem State.setPhase_control (s : State) (p : Nat) : (s.setPhase p).control = s.control := by
  simp [State.setPhase]

@[simp] theorem State.beginSwap_control (s : State) (slot src tgt id : Nat) (sup : Bool) :
    (s.beginSwap slot src tgt id sup).control = s.control := by
  simp [State.beginSwap]

@[simp] theorem State.nextSwap_control (s : State) : s.nextSwap.control = s.control := by
  unfold State.nextSwap
  repeat' split
  all_goals simp

@[simp] theorem State.endSwap_control (s : State) : s.endSwap.control = s.control := by
  simp [State.endSwap]

@[simp] theorem State.startSwap_control (s : State) (slot : Nat) : resControl (s.startSwap slot) s := by
  unfold State.startSwap
  split <;> simp

@[simp] theorem State.reloadSource_control (s : State) (src tgt : Nat) : (s.reloadSource src tgt).control = s.control := by
  simp [State.reloadSource]

@[simp] theorem State.swapLoses_control (s : State) (cl : Nat) : (s.swapLoses cl).control = s.control := by
  unfold State.swapLoses
  split <;> simp

@[simp] theorem State.takeCluster_control (s : State) (cl : Nat) : (s.takeCluster cl).control = s.control := by
  unfold State.takeCluster
  dsimp only
  repeat' split
  all_goals simp

@[simp] theorem State.writeDocCfg_control (s : State) (r : Reg) (i : Nat) (v : W32) : resControl (s.writeDocCfg r i v) s := by
  simp [State.writeDocCfg]

@[simp] theorem State.writeFenceClr_control (s : State) (v : W32) : (s.writeFenceClr v).control = s.control := by
  simp [State.writeFenceClr]

theorem execItemPost_control (type : Nat) (source : Fin 32) (flow prio : Nat) (payload : Bytes) (s : State) :
    outControl (execItemPost type source flow prio payload s) s := by
  unfold execItemPost
  split <;> simp

theorem execPostGo_control (core : Fin 273) (item : Bytes) (s : State) : outControl (execPostGo core item s) s := by
  simp [execPostGo]

theorem execItemDoneOk_control (core : Fin 273) (s : State) : outControl (execItemDoneOk core s) s := by
  simp [execItemDoneOk]

theorem execItemDoneFailed_control (core : Fin 273) (s : State) : outControl (execItemDoneFailed core s) s := by
  simp [execItemDoneFailed]

theorem execDocSwap_control (v : W32) (s : State) : outControl (execDocSwap v s) s := by
  simp [execDocSwap]

@[simp] theorem State.remapSlot_control (s : State) (slot tgt : Nat) : (s.remapSlot slot tgt).control = s.control := by
  simp [State.remapSlot]

@[simp] theorem State.swapRemap_control (s : State) : s.swapRemap.control = s.control := by
  unfold State.swapRemap
  split <;> simp

theorem execSwapDrainDone_control (s : State) : outControl (execSwapDrainDone s) s := by
  unfold execSwapDrainDone
  split <;> simp

theorem execSwapDrainTimeout_control (s : State) : outControl (execSwapDrainTimeout s) s := by
  unfold execSwapDrainTimeout
  split <;> simp

@[simp] theorem State.swapSourceReloaded_control (s : State) : s.swapSourceReloaded.control = s.control := by
  unfold State.swapSourceReloaded
  split <;> simp

theorem execDocFenceClr_control (v : W32) (s : State) : outControl (execDocFenceClr v s) s := by
  simp [execDocFenceClr]

theorem execDocCntClr_control (s : State) : outControl (execDocCntClr s) s := by
  simp [execDocCntClr]

@[simp] theorem State.slotFill_control (s : State) (q : Nat) : (s.slotFill q).control = s.control := by
  unfold State.slotFill
  dsimp only
  repeat' split
  all_goals simp

@[simp] theorem State.pushDesc_control (s : State) (q : Nat) (d : Desc) : (s.pushDesc q d).control = s.control := by
  simp [State.pushDesc]

@[simp] theorem State.ring_control (s : State) (q : Nat) : (s.ring q).control = s.control := by
  simp [State.ring]

@[simp] theorem State.countBell_control (s : State) (q : Nat) (d : Desc) : (s.countBell q d).control = s.control := by
  simp [State.countBell]

@[simp] theorem State.enqueue_control (s : State) (q d : Nat) (x : Desc) : (s.enqueue q d x).2.control = s.control := by
  unfold State.enqueue
  dsimp only
  repeat' split
  all_goals simp

@[simp] theorem State.readBurst_control (s : State) (q : Nat) : (s.readBurst q).control = s.control := by
  simp [State.readBurst]

@[simp] theorem State.refillHead_control (s : State) (q : Nat) : (s.refillHead q).control = s.control := by
  simp [State.refillHead]

theorem State.dequeue_control {s t : State} {q : Nat} {d : Desc} (e : s.dequeue q = some (d, t)) : t.control = s.control := by
  unfold State.dequeue at e
  dsimp only at e
  split at e
  · cases e
  · split at e
    · cases e
    · cases e
      split <;> simp

@[simp] theorem State.emptyQueue_control (s : State) (q : Nat) : (s.emptyQueue q).2.control = s.control := by
  simp [State.emptyQueue]

@[simp] theorem State.flushQueue_control (s : State) (q d : Nat) : (s.flushQueue q d).control = s.control := by
  simp [State.flushQueue]

@[simp] theorem State.extendDesc_control (s : State) (q len : Nat) (complete poison : Bool) :
    (s.extendDesc q len complete poison).control = s.control := by
  unfold State.extendDesc
  dsimp only
  repeat' split
  all_goals simp

@[simp] theorem State.writeQprof_control (s : State) (r : Reg) (i : Nat) (v : W32) : resControl (s.writeQprof r i v) s := by
  simp [State.writeQprof]

@[simp] theorem State.writeClassProf_control (s : State) (v : W32) : resControl (s.writeClassProf v) s := by
  simp [State.writeClassProf]

@[simp] theorem State.writeSpillCfg_control (s : State) (v : W32) : resControl (s.writeSpillCfg v) s := by
  simp [State.writeSpillCfg]

theorem execDequeue_control (queue : Fin 262144) (s : State) : outControl (execDequeue queue s) s := by
  unfold execDequeue
  split
  · rename_i e
    exact outControl_next.2 (State.dequeue_control e)
  · simp

theorem execSlotFill_control (queue : Fin 262144) (s : State) : outControl (execSlotFill queue s) s := by
  simp [execSlotFill]

theorem execQueueTimeout_control (queue : Fin 262144) (s : State) : outControl (execQueueTimeout queue s) s := by
  simp [execQueueTimeout]

theorem execStkCntClr_control (s : State) : outControl (execStkCntClr s) s := by
  simp [execStkCntClr]

end Sys2Proof.Machine

/-!
PROOF. The same for the traffic manager and the Atrium.
-/

namespace Sys2Proof.Machine

/-! ### The traffic manager -/

@[simp] theorem State.setShaper_control (s : State) (level i : Nat) (x : Shaper) : (s.setShaper level i x).control = s.control := by
  simp [State.setShaper]

@[simp] theorem State.setTags_control (s : State) (level i : Nat) (x : Tags) : (s.setTags level i x).control = s.control := by
  simp [State.setTags]

@[simp] theorem State.setVtime_control (s : State) (level i : Nat) (v : W64) : (s.setVtime level i v).control = s.control := by
  simp [State.setVtime]

/-! ### The Atrium -/

@[simp] theorem State.setPort_control (s : State) (p : Nat) (x : PortSt) : (s.setPort p x).control = s.control := by
  simp [State.setPort]

@[simp] theorem State.writeMember_control (s : State) (l : Nat) : (s.writeMember l).control = s.control := by
  simp [State.writeMember]

@[simp] theorem State.flushCopies_control (s : State) (p : CopyJob → Bool) : (s.flushCopies p).control = s.control := by
  simp [State.flushCopies]

@[simp] theorem State.flushLeg_control (s : State) (l : Nat) : (s.flushLeg l).control = s.control := by
  simp [State.flushLeg]

@[simp] theorem State.isolate_control (s : State) (l code : Nat) : (s.isolate l code).control = s.control := by
  simp [State.isolate]

@[simp] theorem State.checkerHit_control (s : State) (code l : Nat) : (s.checkerHit code l).control = s.control := by
  simp [State.checkerHit]

@[simp] theorem State.spend_control (s : State) (level i n : Nat) : (s.spend level i n).control = s.control := by
  simp [State.spend]

@[simp] theorem State.wakeOne_control (s : State) (level i parent : Nat) (eligible : Bool) :
    (s.wakeOne level i parent eligible).control = s.control := by
  simp [State.wakeOne]

@[simp] theorem State.wakeLeg_control (s : State) (l : Nat) : (s.wakeLeg l).control = s.control := by
  simp [State.wakeLeg]

@[simp] theorem State.wakePort_control (s : State) (p : Nat) : (s.wakePort p).control = s.control := by
  simp [State.wakePort]

@[simp] theorem State.served_control (s : State) (level i parent len : Nat) :
    (s.served level i parent len).control = s.control := by
  simp [State.served]

@[simp] theorem State.dropCopy_control (s : State) (l cnt legCnt : Nat) (d : Desc) :
    (s.dropCopy l cnt legCnt d).control = s.control := by
  simp [State.dropCopy]

@[simp] theorem State.admitCopy_control (s : State) (l cls domain : Nat) (d : Desc) :
    (s.admitCopy l cls domain d).control = s.control := by
  have h := s.enqueue_control (classQueue l cls) domain d
  unfold State.admitCopy
  dsimp only
  repeat' split
  · simp
  · simp
  · simp
  all_goals
    rename_i e
    rw [e] at h
    simpa using h

@[simp] theorem State.suppress_control (s : State) (l k : Nat) (d : Desc) : (s.suppress l k d).control = s.control := by
  simp [State.suppress]

@[simp] theorem State.drainLeg_control (s : State) (l : Nat) : (s.drainLeg l).control = s.control := by
  unfold State.drainLeg
  dsimp only
  refine (State.wakeLeg_control _ _).trans ?_
  refine State.foldl_control (fun t k => ?_) _ _
  have he := t.emptyQueue_control (classQueue l k)
  generalize t.emptyQueue (classQueue l k) = e at he ⊢
  split
  · exact rfl
  · refine (State.foldl_control (fun u d => ?_) e.1 _).trans (by simpa using he)
    split <;> simp

@[simp] theorem State.drainPort_control (s : State) (p : Nat) : (s.drainPort p).control = s.control := by
  simp [State.drainPort]

@[simp] theorem State.transmit_control (s : State) (p : Nat) (frame : Bytes) (ptp : Bool) :
    (s.transmit p frame ptp).control = s.control := by
  simp [State.transmit]

@[simp] theorem State.mgmtBytes_control (s : State) (p : Nat) (f : MgmtFrame) : (s.mgmtBytes p f).2.control = s.control := by
  cases f <;> simp [State.mgmtBytes]

@[simp] theorem State.releaseMgmt_control (s : State) (f : MgmtFrame) : (s.releaseMgmt f).control = s.control := by
  cases f <;> simp [State.releaseMgmt]

@[simp] theorem State.dropMgmt_control (s : State) : s.dropMgmt.control = s.control :=
  (State.foldl_control State.releaseMgmt_control _ _).trans rfl

@[simp] theorem State.sendHead_control (s : State) (p : Nat) (f : MgmtFrame) (rest : List MgmtFrame) :
    (s.sendHead p f rest).control = s.control := by
  unfold State.sendHead
  split
  · exact (State.releaseMgmt_control ..).trans (s.metPoison_control 1 5)
  · dsimp only
    refine (State.releaseMgmt_control ..).trans ?_
    simp

@[simp] theorem State.countHeld_control (s : State) (p : Nat) : (s.countHeld p).control = s.control := by
  simp [State.countHeld]

@[simp] theorem State.serveLeg_control (s : State) (p g l : Nat) : (s.serveLeg p g l).control = s.control := by
  unfold State.serveLeg
  split
  · exact rfl
  · split
    · exact rfl
    · rename_i e
      refine Eq.trans ?_ (State.dequeue_control e)
      dsimp only
      repeat' split
      all_goals simp

@[simp] theorem State.tellProducer_control (s : State) (cl : Client) (q code : Nat) :
    (s.tellProducer cl q code).control = s.control := by
  unfold State.tellProducer
  split <;> simp

@[simp] theorem State.waitEnqueue_control (s : State) (cl : Client) (q : Nat) (x : Desc) :
    (s.waitEnqueue cl q x).control = s.control := by
  simp [State.waitEnqueue]

@[simp] theorem State.enqueueNow_control (s : State) (cl : Client) (q : Nat) (x : Desc) :
    (s.enqueueNow cl q x).control = s.control := by
  unfold State.enqueueNow
  dsimp only
  repeat' split
  all_goals simp

@[simp] theorem State.enqueueMgmt_control (s : State) (cl : Client) (p : Nat) (x : Desc) :
    (s.enqueueMgmt cl p x).control = s.control := by
  unfold State.enqueueMgmt
  split <;> simp

@[simp] theorem State.enqueueFor_control (s : State) (cl : Client) (q : Nat) (x : Desc) :
    (s.enqueueFor cl q x).control = s.control := by
  simp [State.enqueueFor]

@[simp] theorem State.serveEnqs_control (n : Nat) (s : State) : (State.serveEnqs n s).control = s.control := by
  induction n generalizing s with
  | zero => exact rfl
  | succ n ih =>
    unfold State.serveEnqs
    split
    · exact rfl
    · exact (ih _).trans (by simp)

@[simp] theorem State.extendQueue_control (s : State) (q len : Nat) (complete poison : Bool) :
    (s.extendQueue q len complete poison).control = s.control :=
  (State.serveEnqs_control ..).trans (s.extendDesc_control ..)

theorem execDescriptorExtend_control (queue : Fin 262144) (len : Nat) (complete poison : Bool) (s : State) :
    outControl (execDescriptorExtend queue len complete poison s) s := by
  simp [execDescriptorExtend]

@[simp] theorem State.writeMgmtRate_control (s : State) (v : W32) : resControl (s.writeMgmtRate v) s := by
  simp [State.writeMgmtRate]

@[simp] theorem State.writeMacHi_control (s : State) (p : Nat) (v : W32) : resControl (s.writeMacHi p v) s := by
  simp [State.writeMacHi]

@[simp] theorem State.serveGroups_control (s : State) (p : Nat) : (s.serveGroups p).control = s.control := by
  unfold State.serveGroups
  repeat' split
  all_goals simp

@[simp] theorem State.portHeld_control (s : State) (p : Nat) : (s.portHeld p).control = s.control := by
  simp [State.portHeld]

theorem execDequeueDecision_control (port : Fin 96) (s : State) : outControl (execDequeueDecision port s) s := by
  unfold execDequeueDecision
  dsimp only
  repeat' split
  all_goals simp

theorem execShaperRefill_control (level : Fin 3) (index : Fin 32768) (s : State) :
    outControl (execShaperRefill level index s) s := by
  simp [execShaperRefill]

theorem execEnqueue_control (client : Client) (queue : Fin 262240) (desc : Desc) (s : State) :
    outControl (execEnqueue client queue desc s) s := by
  simp [execEnqueue]

theorem execTmgCntClr_control (s : State) : outControl (execTmgCntClr s) s := by
  simp [execTmgCntClr]

@[simp] theorem State.setPortState_control (s : State) (p n : Nat) : (s.setPortState p n).control = s.control := by
  simp [State.setPortState]

@[simp] theorem State.setPortMode_control (s : State) (p mode fec : Nat) : (s.setPortMode p mode fec).control = s.control := by
  simp [State.setPortMode]

@[simp] theorem State.releaseAgc_control (s : State) (lanes : List Nat) : (s.releaseAgc lanes).control = s.control := by
  simp [State.releaseAgc]

@[simp] theorem State.unlock_control (s : State) (p : Nat) (lanes : List Nat) : (s.unlock p lanes).control = s.control := by
  simp [State.unlock]

@[simp] theorem State.setLaneEq_control (s : State) (l : Nat) (x : LaneEq) : (s.setLaneEq l x).control = s.control := by
  simp [State.setLaneEq]

@[simp] theorem State.setCtle_control (s : State) (lanes : List Nat) (ctle : List Nat) :
    (s.setCtle lanes ctle).control = s.control := by
  simp [State.setCtle]

@[simp] theorem State.freshEq_control (s : State) (lanes : List Nat) : (s.freshEq lanes).control = s.control := by
  simp [State.freshEq]

@[simp] theorem State.settleLane_control (s : State) (l : Nat) (rx : LaneRx) : (s.settleLane l rx).control = s.control := by
  simp [State.settleLane]

@[simp] theorem State.startPort_control (s : State) (p : Nat) : (s.startPort p).control = s.control := by
  simp [State.startPort]

@[simp] theorem State.dropLink_control (s : State) (p : Nat) : (s.dropLink p).control = s.control := by
  simp [State.dropLink]

@[simp] theorem State.beginAn_control (s : State) (p : Nat) : (s.beginAn p).control = s.control := by
  simp [State.beginAn]

@[simp] theorem State.silence_control (s : State) : s.silence.control = s.control := by
  simp [State.silence]

@[simp] theorem State.endReconfig_control (s : State) (p : Nat) : (s.endReconfig p).control = s.control := by
  unfold State.endReconfig
  split <;> simp

@[simp] theorem State.reconfigure_control (s : State) (p : Nat) (cfg adv : W32) :
    (s.reconfigure p cfg adv).control = s.control := by
  simp [State.reconfigure]

@[simp] theorem State.writePort_control (s : State) (p : Nat) (cfg adv : Option W32) : resControl (s.writePort p cfg adv) s := by
  simp [State.writePort]

@[simp] theorem State.writeQuadRate_control (s : State) (q : Nat) (v : W32) : resControl (s.writeQuadRate q v) s := by
  simp [State.writeQuadRate]

@[simp] theorem State.writeTxfir_control (s : State) (l : Nat) (v : W32) : resControl (s.writeTxfir l v) s := by
  simp [State.writeTxfir]

@[simp] theorem State.writeLaneCtl_control (s : State) (l : Nat) (v : W32) : resControl (s.writeLaneCtl l v) s := by
  unfold State.writeLaneCtl
  dsimp only
  repeat' split
  all_goals simp

@[simp] theorem State.writeLinkCfg_control (s : State) (v : W32) : resControl (s.writeLinkCfg v) s := by
  simp [State.writeLinkCfg]

@[simp] theorem State.writeAtrCntClr_control (s : State) (v : W32) : resControl (s.writeAtrCntClr v) s := by
  simp [State.writeAtrCntClr]

@[simp] theorem State.restartAn_control (s : State) (p : Nat) : (s.restartAn p).control = s.control := by
  simp [State.restartAn]

@[simp] theorem State.tryHold_control (s : State) (p : Nat) : (s.tryHold p).control = s.control := by
  simp [State.tryHold]

@[simp] theorem State.againAfterLoss_control (s : State) (p : Nat) : (s.againAfterLoss p).control = s.control := by
  simp [State.againAfterLoss]

@[simp] theorem State.relink_control (s : State) (p : Nat) : (s.relink p).control = s.control := by
  simp [State.relink]

@[simp] theorem State.portLoses_control (s : State) (p : Nat) : (s.portLoses p).control = s.control := by
  unfold State.portLoses
  split <;> simp

@[simp] theorem State.refLost_control (s : State) (k : Nat) : (s.refLost k).control = s.control := by
  simp [State.refLost]

@[simp] theorem State.quadLost_control (s : State) (q : Nat) : (s.quadLost q).control = s.control := by
  simp [State.quadLost]

@[simp] theorem State.startAllPorts_control (s : State) : s.startAllPorts.control = s.control := by
  simp [State.startAllPorts]

theorem execPortReconfig_control (port : Fin 96) (cfg adv : Option W32) (s : State) :
    outControl (execPortReconfig port cfg adv s) s := by
  simp [execPortReconfig]

theorem execAtrQuadRate_control (quad : Fin 24) (v : W32) (s : State) : outControl (execAtrQuadRate quad v s) s := by
  simp [execAtrQuadRate]

theorem execAtrLaneTxfir_control (lane : Fin 96) (v : W32) (s : State) : outControl (execAtrLaneTxfir lane v s) s := by
  simp [execAtrLaneTxfir]

theorem execLaneTest_control (lane : Fin 96) (v : W32) (s : State) : outControl (execLaneTest lane v s) s := by
  simp [execLaneTest]

theorem execAgcRelease_control (lane : Fin 96) (v : W32) (s : State) : outControl (execAgcRelease lane v s) s := by
  simp [execAgcRelease]

theorem execAtrCntClr_control (v : W32) (s : State) : outControl (execAtrCntClr v s) s := by
  simp [execAtrCntClr]

theorem execBreakLinkTimerExpiry_control (port : Fin 96) (s : State) : outControl (execBreakLinkTimerExpiry port s) s := by
  simp [execBreakLinkTimerExpiry]

theorem execAnComplete_control (port : Fin 96) (partner : Option (BitVec 11)) (s : State) :
    outControl (execAnComplete port partner s) s := by
  unfold execAnComplete
  repeat' split
  all_goals simp

theorem execTrainingDone_control (port : Fin 96) (fir : List W32) (rx : TrainedRx) (s : State) :
    outControl (execTrainingDone port fir rx s) s := by
  simp [execTrainingDone]

theorem execMaxWaitTimerExpiry_control (port : Fin 96) (s : State) : outControl (execMaxWaitTimerExpiry port s) s := by
  simp [execMaxWaitTimerExpiry]

theorem execReceiverLock_control (lock : PortLock) (s : State) : outControl (execReceiverLock lock s) s := by
  simp [execReceiverLock]

theorem execReconfigLockTimeout_control (port : Fin 96) (s : State) : outControl (execReconfigLockTimeout port s) s := by
  unfold execReconfigLockTimeout
  split <;> simp

theorem execBlockLock_control (lane : Fin 96) (rx : LaneRx) (s : State) : outControl (execBlockLock lane rx s) s := by
  unfold execBlockLock
  split <;> simp

theorem execBlockLockLost_control (lane : Fin 96) (s : State) : outControl (execBlockLockLost lane s) s := by
  unfold execBlockLockLost
  repeat' split
  all_goals simp

@[simp] theorem State.hiBer_control (s : State) (p : Nat) (cause : LinkLoss) : (s.hiBer p cause).control = s.control := by
  unfold State.hiBer
  split <;> simp

theorem execLinkDown_control (port : Fin 96) (cause : LinkLoss) (s : State) : outControl (execLinkDown port cause s) s := by
  simp [execLinkDown]

theorem execLinkFailInhibitExpiry_control (port : Fin 96) (s : State) : outControl (execLinkFailInhibitExpiry port s) s := by
  simp [execLinkFailInhibitExpiry]

theorem execLinkUpHoldExpiry_control (port : Fin 96) (s : State) : outControl (execLinkUpHoldExpiry port s) s := by
  unfold execLinkUpHoldExpiry
  split <;> simp

theorem execMacReceive_control (port : Fin 96) (frame : Bytes) (fec : FecReport) (s : State) :
    outControl (execMacReceive port frame fec s) s := by
  simp [execMacReceive]

end Sys2Proof.Machine

/-!
PROOF. The same for the Registrar and the Vault.
-/

namespace Sys2Proof.Machine

/-! ### The Registrar -/

theorem State.makeRoom_control {n k : Nat} {s t : State} {slots : List Nat} (e : State.makeRoom n s slots = some (k, t)) :
    t.control = s.control := by
  induction n generalizing s slots k t with
  | zero =>
    unfold State.makeRoom at e
    split at e <;> cases e
    exact rfl
  | succ n ih =>
    unfold State.makeRoom at e
    dsimp only at e
    split at e
    · cases e
      exact rfl
    · split at e
      · cases e
      · split at e
        · cases e
        · rename_i h
          cases e
          exact Eq.trans rfl ((ih h).trans (s.draw_control 16))

@[simp] theorem State.catInsert_control (s : State) (st : Nat) : optControl (s.catInsert st) s := by
  unfold State.catInsert
  split
  · rename_i e
    simpa using State.makeRoom_control e
  · simp

/-! ### The Vault -/

@[simp] theorem State.setSlot_control (s : State) (i : Nat) (b : Bytes) : (s.setSlot i b).control = s.control := by
  simp [State.setSlot]

@[simp] theorem State.setCtx_control (s : State) (st : Nat) (c : StreamCtx) : (s.setCtx st c).control = s.control := by
  simp [State.setCtx]

@[simp] theorem State.catRemove_control (s : State) (st : Nat) : (s.catRemove st).control = s.control := by
  simp [State.catRemove]

@[simp] theorem State.writeJcpRate_control (s : State) (v : W32) : resControl (s.writeJcpRate v) s := by
  simp [State.writeJcpRate]

@[simp] theorem State.writePuntRate_control (s : State) (p : Nat) (v : W32) : resControl (s.writePuntRate p v) s := by
  simp [State.writePuntRate]

@[simp] theorem State.fillBuckets_control (s : State) : s.fillBuckets.control = s.control := by
  simp [State.fillBuckets]

@[simp] theorem State.punt_control (s : State) (p : Nat) (frame : Bytes) (inner outer : Option Layer) (ssrc : Option Nat) :
    (s.punt p frame inner outer ssrc).control = s.control := by
  unfold State.punt
  dsimp only
  repeat' split
  all_goals simp

@[simp] theorem State.peerSeen_control (s : State) (l : Nat) : (s.peerSeen l).control = s.control := by
  unfold State.peerSeen
  split <;> simp

@[simp] theorem State.tbhCommit_control (s : State) (l : Nat) (seq : W16) : optControl (s.tbhCommit l seq) s := by
  unfold State.tbhCommit
  dsimp only
  repeat' split
  all_goals simp

@[simp] theorem State.storeIn_control (s : State) (x : Staged) : (s.storeIn x).control = s.control := by
  have h := s.alloc_control 1 (x.frame.length + 4) x.yellow
  unfold State.storeIn
  split <;> rename_i e <;> rw [e] at h
  · split <;> simpa using h
  · refine Eq.trans ?_ h
    dsimp only
    repeat' split
    all_goals simp

@[simp] theorem State.store_control (s : State) (x : Staged) : (s.store x).control = s.control := by
  unfold State.store
  split
  · simp
  · refine Eq.trans ?_ (s.peerSeen_control x.leg)
    dsimp only
    split
    · simp
    · rename_i e
      refine Eq.trans ?_ (State.tbhCommit_control _ _ _ _ e)
      split <;> simp

@[simp] theorem State.police_control (s : State) (l p : Nat) (dscp : Option Nat) (n stamp : Nat) :
    (s.police l p dscp n stamp).2.control = s.control := by
  simp [State.police]

@[simp] theorem State.matched_control (s : State) (st : Nat) (k : PktIn) : (s.matched st k).control = s.control := by
  simp [State.matched]

@[simp] theorem State.defaultAction_control (s : State) (reason : Nat) (k : PktIn) (inner outer : Option Layer)
    (ssrc : Option Nat) : (s.defaultAction reason k inner outer ssrc).control = s.control := by
  unfold State.defaultAction
  dsimp only
  split
  · simp
  · simp
  · have h := (s.cinc .rgsPortCnt 0 (8 * k.port + 6)).alloc_control 1 (k.frame.length + 4) false
    split <;> rename_i e <;> rw [e] at h <;> simpa using h
  · simp

@[simp] theorem State.jcpIn_control (s : State) (d : Datagram) : (s.jcpIn d).control = s.control := by
  -- unfolded as a function and with `take` opaque, so that the kernel does not evaluate the match's discriminant
  obtain ⟨f, hf⟩ : ∃ f, f = State.jcpIn := ⟨_, rfl⟩
  obtain ⟨take, ht⟩ : ∃ g, g = Bucket.take := ⟨_, rfl⟩
  rw [← hf]
  delta State.jcpIn at hf
  rw [← ht] at hf
  rw [hf]
  dsimp only
  split <;> simp

@[simp] theorem State.mediaIn_control (s : State) (k : PktIn) (inner outer : Layer) (depth : Nat) :
    (s.mediaIn k inner outer depth).control = s.control := by
  unfold State.mediaIn
  dsimp only
  repeat' split
  all_goals simp

@[simp] theorem State.datagramIn_control (s : State) (k : PktIn) (inner outer : Layer) (depth : Nat) :
    (s.datagramIn k inner outer depth).control = s.control := by
  unfold State.datagramIn
  dsimp only
  repeat' split
  all_goals simp

@[simp] theorem State.frameIn_control (s : State) (p : Nat) (f : RxFrame) : (s.frameIn p f).control = s.control := by
  unfold State.frameIn
  dsimp only
  repeat' split
  all_goals simp

@[simp] theorem State.writePortParse_control (s : State) (p : Nat) (v : W32) : resControl (s.writePortParse p v) s := by
  simp [State.writePortParse]

@[simp] theorem State.writePortDefault_control (s : State) (p : Nat) (v : W32) : resControl (s.writePortDefault p v) s := by
  simp [State.writePortDefault]

@[simp] theorem State.writeDscpColour_control (s : State) (i : Nat) (v : W32) : resControl (s.writeDscpColour i v) s := by
  simp [State.writeDscpColour]

@[simp] theorem State.writeRgsCntClr_control (s : State) (v : W32) : resControl (s.writeRgsCntClr v) s := by
  simp [State.writeRgsCntClr]

theorem execRegistrarParse_control (port : Fin 96) (ue : List Nat) (s : State) : outControl (execRegistrarParse port ue s) s := by
  unfold execRegistrarParse
  split <;> simp

theorem execCatalogueRewrite_control (stream : Fin 131072) (s : State) : outControl (execCatalogueRewrite stream s) s := by
  simp [execCatalogueRewrite]

theorem execRgsJcpRate_control (v : W32) (s : State) : outControl (execRgsJcpRate v s) s := by
  simp [execRgsJcpRate]

theorem execRgsPuntRate_control (port : Fin 96) (v : W32) (s : State) : outControl (execRgsPuntRate port v s) s := by
  simp [execRgsPuntRate]

theorem execRgsCntClrDrops_control (s : State) : outControl (execRgsCntClrDrops s) s := by
  simp [execRgsCntClrDrops]

theorem execRgsCntClrPortGo_control (port : BitVec 7) (s : State) : outControl (execRgsCntClrPortGo port s) s := by
  simp [execRgsCntClrPortGo]

@[simp] theorem State.installKey_control (s : State) (leg slot profile lifetime : Nat) (p : Profile) (key salt : Bytes) :
    (s.installKey leg slot profile lifetime p key salt).control = s.control := by
  simp [State.installKey]

@[simp] theorem State.zeroiseLeg_control (s : State) (leg : Nat) : (s.zeroiseLeg leg).control = s.control := by
  simp [State.zeroiseLeg]

@[simp] theorem State.vaultDrop_control (s : State) (code leg : Nat) (stream : Option Nat) :
    (s.vaultDrop code leg stream).control = s.control := by
  unfold State.vaultDrop
  split <;> simp

@[simp] theorem State.rocNotice_control (s : State) (st seq : Nat) : (s.rocNotice st seq).control = s.control := by
  simp [State.rocNotice]

@[simp] theorem State.srtpIn_control (s : State) (x : Staged) (slot : Bytes) (p : Profile) : optControl (s.srtpIn x slot p) s := by
  unfold State.srtpIn
  dsimp only
  repeat' split
  all_goals simp

@[simp] theorem State.slotUe_control (s : State) (i : Nat) (ue : Bool) : (s.slotUe i ue).control = s.control := by
  simp [State.slotUe]

@[simp] theorem State.runCipher_control (s : State) (j : VaultJob) : (s.runCipher j).2.control = s.control := by
  unfold State.runCipher
  dsimp only
  repeat' split
  all_goals simp

@[simp] theorem State.ctxWrite_control (s : State) (b : Bytes) : (s.ctxWrite b).control = s.control := by
  simp [State.ctxWrite]

@[simp] theorem State.promoteJobs_control (s : State) : s.promoteJobs.control = s.control := by
  simp [State.promoteJobs]

@[simp] theorem State.submitJob_control (s : State) (c addr : Nat) : (s.submitJob c addr).control = s.control := by
  simp [State.submitJob]

@[simp] theorem State.runJob_control (s : State) (mode : Nat) : (s.runJob mode).control = s.control := by
  unfold State.runJob
  dsimp only
  repeat' split
  all_goals simp

@[simp] theorem State.submitCopy_control (s : State) (c : CopyJob) : (s.submitCopy c).control = s.control := by
  simp [State.submitCopy]

@[simp] theorem State.refillCopies_control (s : State) : s.refillCopies.control = s.control := by
  simp [State.refillCopies]

@[simp] theorem State.writeVltCntClr_control (s : State) (v : W32) : (s.writeVltCntClr v).control = s.control := by
  simp [State.writeVltCntClr]

theorem execSrtpIngress_control (ue : Bool) (s : State) : outControl (execSrtpIngress ue s) s := by
  unfold execSrtpIngress
  split
  · simp
  · split
    · simp
    · generalize hu : State.slotUe _ _ ue = u
      have hs : u.control = s.control := by simp [← hu]
      dsimp only
      split
      · simpa using hs
      · split
        · simpa using hs
        · rw [outControl_next]
          refine getD_control (fun t e => ?_) rfl
          exact (State.srtpIn_control _ _ _ _ t e).trans hs

theorem execSrtpEgress_control (ue : Bool) (s : State) : outControl (execSrtpEgress ue s) s := by
  unfold execSrtpEgress
  dsimp only
  repeat' split
  all_goals simp

theorem execKeySlotRewrite_control (slot : Fin 65536) (s : State) : outControl (execKeySlotRewrite slot s) s := by
  simp [execKeySlotRewrite]

theorem execKeySweep_control (s : State) : outControl (execKeySweep s) s := by
  simp [execKeySweep]

@[simp] theorem State.katFail_control (s : State) (r : Reg) (i bit : Nat) (p : Part) :
    (s.katFail r i bit p).control = s.control := by
  simp [State.katFail]

theorem execKatRound_control (aes ghash : List (Fin 32)) (sha : List (Fin 8)) (s : State) :
    outControl (execKatRound aes ghash sha s) s := by
  simp [execKatRound]

theorem execJobSubmit_control (core : Fin 273) (job : JobStore) (s : State) : outControl (execJobSubmit core job s) s := by
  simp [execJobSubmit]

theorem execCbcEncrypt_control (s : State) : outControl (execCbcEncrypt s) s := by
  simp [execCbcEncrypt]

theorem execCbcDecrypt_control (s : State) : outControl (execCbcDecrypt s) s := by
  simp [execCbcDecrypt]

theorem execCtr_control (s : State) : outControl (execCtr s) s := by
  simp [execCtr]

theorem execCfbEncrypt_control (s : State) : outControl (execCfbEncrypt s) s := by
  simp [execCfbEncrypt]

theorem execCfbDecrypt_control (s : State) : outControl (execCfbDecrypt s) s := by
  simp [execCfbDecrypt]

theorem execGcmEncrypt_control (s : State) : outControl (execGcmEncrypt s) s := by
  simp [execGcmEncrypt]

theorem execGcmDecrypt_control (s : State) : outControl (execGcmDecrypt s) s := by
  simp [execGcmDecrypt]

theorem execCtxWrite_control (s : State) : outControl (execCtxWrite s) s := by
  simp [execCtxWrite]

theorem execJobDone_control (s : State) : outControl (execJobDone s) s := by
  unfold execJobDone
  split <;> simp

theorem execVltCntClrDrops_control (s : State) : outControl (execVltCntClrDrops s) s := by
  simp [execVltCntClrDrops]

theorem execVltCntClrJobs_control (s : State) : outControl (execVltCntClrJobs s) s := by
  simp [execVltCntClrJobs]

end Sys2Proof.Machine

/-!
PROOF. The same for the forwarder.
-/

namespace Sys2Proof.Machine

/-! ### The forwarder -/

@[simp] theorem State.setFwdStream_control (s : State) (src : Nat) (x : FwdStream) :
    (s.setFwdStream src x).control = s.control := by
  simp [State.setFwdStream]

@[simp] theorem State.setSub_control (s : State) (id : Nat) (e : Sub) : (s.setSub id e).control = s.control := by
  simp [State.setSub]

@[simp] theorem State.setAttr_control (s : State) (ty id a : Nat) (v : Bytes) : (s.setAttr ty id a v).control = s.control := by
  simp [State.setAttr]

@[simp] theorem State.unlist_control (s : State) (src id : Nat) : (s.unlist src id).control = s.control := by
  simp [State.unlist]

@[simp] theorem State.list_control (s : State) (src id seg : Nat) : (s.list src id seg).control = s.control := by
  simp [State.list]

@[simp] theorem State.putSub_control (s : State) (id : Nat) (old e : Sub) : (s.putSub id old e).control = s.control := by
  simp [State.putSub]

@[simp] theorem State.touchSub_control (s : State) (id : Nat) : (s.touchSub id).control = s.control := by
  simp [State.touchSub]

@[simp] theorem State.feedbackOut_control (s : State) (leg : Nat) (b : Bytes) (h : W32) :
    (s.feedbackOut leg b h).control = s.control := by
  simp [State.feedbackOut]

@[simp] theorem State.feedbackTry_control (s : State) (work leg : Nat) (b : Bytes) :
    (s.feedbackTry work leg b).control = s.control := by
  have h := s.hwAlloc_control 3 work b.length
  unfold State.feedbackTry
  split <;> rename_i e <;> rw [e] at h
  · simpa using h
  · split <;> simpa using h

@[simp] theorem State.sendFeedback_control (s : State) (leg : Nat) (b : Bytes) : optControl (s.sendFeedback leg b) s := by
  simp [State.sendFeedback]

@[simp] theorem State.flushOutbox_control (s : State) : s.flushOutbox.control = s.control := by
  simp [State.flushOutbox]

@[simp] theorem State.sendKey_control (s : State) (src : Nat) : (s.sendKey src).control = s.control := by
  unfold State.sendKey
  dsimp only
  split
  · simp
  · split
    · simp
    · split
      · simp
      · rename_i e
        have h := State.sendFeedback_control _ _ _ _ e
        simpa using h

@[simp] theorem State.keyRequest_control (s : State) (src : Nat) : (s.keyRequest src).control = s.control := by
  simp [State.keyRequest]

@[simp] theorem State.sendGap_control (s : State) (st : Nat) (gap : List W16) : (s.sendGap st gap).control = s.control := by
  unfold State.sendGap
  dsimp only
  split
  · simp
  · refine Eq.trans (b := (s.setFwdStream st { s.fwdStream st with gap := none }).control) ?_ (by simp)
    split
    · simp
    · rename_i e
      have h := State.sendFeedback_control _ _ _ _ e
      simpa using h

@[simp] theorem State.noteGap_control (s : State) (st : Nat) (seq : W16) (arr : Nat) :
    (s.noteGap st seq arr).control = s.control := by
  unfold State.noteGap
  dsimp only
  repeat' split
  all_goals simp

@[simp] theorem State.ringDrop_control (s : State) (st slot : Nat) : (s.ringDrop st slot).control = s.control := by
  unfold State.ringDrop
  dsimp only
  repeat' split
  all_goals simp

@[simp] theorem State.ringPut_control (s : State) (st : Nat) (e : RingEntry) : (s.ringPut st e).control = s.control := by
  simp [State.ringPut]

@[simp] theorem State.applyPending_control (s : State) (id : Nat) (e : Sub) (p : WalkPkt) :
    (s.applyPending id e p).1.control = s.control := by
  unfold State.applyPending
  dsimp only
  repeat' split
  all_goals simp

@[simp] theorem State.judgeEntry_control (s : State) (id : Nat) (p : WalkPkt) : (s.judgeEntry id p).1.control = s.control := by
  unfold State.judgeEntry
  dsimp only
  repeat' split
  all_goals simp

@[simp] theorem State.issue_control (s : State) (c : Decided) (codec : Nat) (info : LayerInfo) (cls flags : Nat) (b : Bytes)
    (d : Desc) :
    (s.issue c codec info cls flags b d).control = s.control := by
  simp [State.issue]

@[simp] theorem State.issueAll_control (codec : Nat) (info : LayerInfo) (cls : Nat) (b : Bytes) (d : Desc) (n : Nat) (s : State)
    (l : List Decided) : (State.issueAll codec info cls b d n s l).control = s.control := by
  induction n generalizing s l with
  | zero => exact rfl
  | succ n ih =>
    unfold State.issueAll
    split
    · exact rfl
    · exact (ih _ _).trans (by simp)

@[simp] theorem State.walkList_control (s : State) (p : WalkPkt) (slots : Option (List (List Nat) × Nat)) (codec : Nat)
    (l : List Nat) : (s.walkList p slots codec l).1.control = s.control := by
  induction l generalizing s with
  | nil => exact rfl
  | cons id r ih =>
    have hj := (s.touchSub id).judgeEntry_control id p
    unfold State.walkList
    rcases slots with _ | ⟨tab, v⟩ <;> dsimp only
    all_goals
      generalize (s.touchSub id).judgeEntry id p = x at hj ⊢
      have hx := hj.trans (s.touchSub_control id)
      split
      · exact ih s
      · split
        · exact (ih _).trans (by simp)
        · split
          · exact (ih _).trans hx
          · split
            · exact (ih _).trans (by simpa using hx)
            · exact (ih _).trans (by simpa using hx)

@[simp] theorem State.walk_control (s : State) (src : Nat) (d : Desc) : (s.walk src d).control = s.control := by
  simp [State.walk]

@[simp] theorem State.walkNext_control (s : State) (src : Nat) : (s.walkNext src).control = s.control := by
  unfold State.walkNext
  split
  · exact rfl
  · split
    · split <;> simp
    · split
      · split
        · exact rfl
        · rename_i e
          have h := State.dequeue_control e
          dsimp only
          split <;> simpa using h
      · exact rfl

@[simp] theorem State.retransmit_control (s : State) (id : Nat) (o : W16) : (s.retransmit id o).control = s.control := by
  unfold State.retransmit
  dsimp only
  repeat' split
  all_goals simp

@[simp] theorem State.onFeedback_control (s : State) (leg : Nat) (b : Bytes) : (s.onFeedback leg b).control = s.control := by
  unfold State.onFeedback
  dsimp only
  split
  · split <;> simp
  · split
    · repeat' split
      all_goals simp
    · split
      · refine State.foldl_control (fun t k => ?_) _ _
        repeat' split
        all_goals simp
      · exact rfl

@[simp] theorem State.readCompound_control (n : Nat) (s : State) (leg : Nat) (b : Bytes) :
    (State.readCompound n s leg b).control = s.control := by
  induction n generalizing s b with
  | zero => exact rfl
  | succ n ih =>
    unfold State.readCompound
    dsimp only
    split
    · exact rfl
    · exact (ih _ _).trans (s.onFeedback_control ..)

@[simp] theorem State.subCreate_control (s : State) (id : Nat) : (s.subCreate id).control = s.control := by
  simp [State.subCreate]

@[simp] theorem State.subTarget_control (s : State) (id ts tt : Nat) : (s.subTarget id ts tt).control = s.control := by
  unfold State.subTarget
  split <;> simp

@[simp] theorem State.subSource_control (s : State) (id src : Nat) : (s.subSource id src).control = s.control := by
  unfold State.subSource
  split <;> simp

@[simp] theorem State.subDelete_control (s : State) (id : Nat) : (s.subDelete id).control = s.control := by
  unfold State.subDelete
  split <;> simp

@[simp] theorem State.fwdForget_control (s : State) (src : Nat) : (s.fwdForget src).control = s.control := by
  simp [State.fwdForget]

@[simp] theorem State.writeRtxCfg_control (s : State) (v : W32) : resControl (s.writeRtxCfg v) s := by
  simp [State.writeRtxCfg]

theorem execFanoutWalk_control (source : Fin 147456) (s : State) : outControl (execFanoutWalk source s) s := by
  simp [execFanoutWalk]

theorem execSubCacheFill_control (sub : Fin 1048576) (ue : Bool) (s : State) : outControl (execSubCacheFill sub ue s) s := by
  simp [execSubCacheFill]

theorem execRtcpFeedback_control (s : State) : outControl (execRtcpFeedback s) s := by
  unfold execRtcpFeedback
  split <;> simp

theorem execRtxAge_control (stream : Fin 131072) (s : State) : outControl (execRtxAge stream s) s := by
  unfold execRtxAge
  dsimp only
  repeat' split
  all_goals simp

theorem execFwdCntClr_control (s : State) : outControl (execFwdCntClr s) s := by
  simp [execFwdCntClr]

end Sys2Proof.Machine

/-!
PROOF. The same for the audio fabric.
-/

namespace Sys2Proof.Machine

/-! ### The audio fabric -/

@[simp] theorem State.setAudIn_control (s : State) (st : Nat) (x : AudIn) : (s.setAudIn st x).control = s.control := by
  simp [State.setAudIn]

@[simp] theorem State.setAudConf_control (s : State) (c : Nat) (x : AudConf) : (s.setAudConf c x).control = s.control := by
  simp [State.setAudConf]

@[simp] theorem State.setAudOut_control (s : State) (o : Nat) (x : AudOut) : (s.setAudOut o x).control = s.control := by
  simp [State.setAudOut]

@[simp] theorem State.popReleased_control (n : Nat) (s : State) (st : Nat) :
    (State.popReleased n s st).control = s.control := by
  induction n generalizing s with
  | zero => rfl
  | succ n ih =>
    unfold State.popReleased
    dsimp only
    split
    · split
      · split
        · rename_i e
          exact (ih _).trans (by simpa using State.dequeue_control e)
        · exact (ih _).trans (by simp)
      · exact (ih _).trans (by simp)
    · rfl

@[simp] theorem State.audRelease_control (s : State) (st : Nat) (h : W32) : (s.audRelease st h).control = s.control := by
  simp [State.audRelease]

@[simp] theorem State.audLate_control (s : State) (st : Nat) : (s.audLate st).control = s.control := by
  simp [State.audLate]

@[simp] theorem State.audMap_control (s : State) (st : Nat) (p : AudPkt) (ts : W32) (arr : Nat) :
    (s.audMap st p ts arr).control = s.control := by
  simp [State.audMap]

@[simp] theorem State.jitterAccept_control (s : State) (st : Nat) : (s.jitterAccept st).control = s.control := by
  unfold State.jitterAccept
  dsimp only
  repeat' split
  all_goals simp

@[simp] theorem State.levelByte_control (s : State) (lv : Int × Bool) : (s.levelByte lv).2.control = s.control := by
  unfold State.levelByte
  dsimp only
  repeat' split
  all_goals simp

@[simp] theorem State.setPhaseOf_control (s : State) (st phase hang : Nat) : (s.setPhaseOf st phase hang).control = s.control := by
  simp [State.setPhaseOf]

@[simp] theorem State.selOccupants_control (s : State) (c : Nat) (lv : Nat → Int × Bool) :
    (s.selOccupants c lv).control = s.control := by
  unfold State.selOccupants
  dsimp only
  refine (State.foldl_control_fst (fun a e => ?_) _ _).trans (State.foldl_control (fun t e => ?_) _ _)
  · split <;> simp
  · split <;> simp

@[simp] theorem State.selPending_control (s : State) (c : Nat) (ins : List Nat) (lv : Nat → Int × Bool) :
    (s.selPending c ins lv).control = s.control := by
  unfold State.selPending
  dsimp only
  repeat' split
  all_goals simp

@[simp] theorem State.enterSlot_control (s : State) (c p slot : Nat) : (s.enterSlot c p slot).control = s.control := by
  simp [State.enterSlot]

@[simp] theorem State.selEntry_control (s : State) (c : Nat) (lv : Nat → Int × Bool) : (s.selEntry c lv).control = s.control := by
  unfold State.selEntry
  dsimp only
  repeat' split
  all_goals simp

@[simp] theorem State.selStart_control (s : State) (c : Nat) (ins : List Nat) : (s.selStart c ins).control = s.control := by
  simp [State.selStart]

@[simp] theorem State.selLane_control (s : State) (c k : Nat) (st : Nat) : (s.selLane c k st).control = s.control := by
  unfold State.selLane
  repeat' split
  all_goals simp

@[simp] theorem State.selHome_control (s : State) (c k : Nat) : (s.selHome c k).control = s.control := by
  unfold State.selHome
  dsimp only
  split
  · rfl
  · split
    · simp
    · split
      · exact (State.setAudConf_control ..).trans ((State.foldl_control (by simp) _ _).trans (by simp))
      · simp

@[simp] theorem State.meterOf_control (s : State) (xs : List Int) : (s.meterOf xs).2.control = s.control := by
  -- the root is made opaque, so that the kernel does not evaluate it
  obtain ⟨root, hroot⟩ : ∃ f, f = rmsFloor := ⟨_, rfl⟩
  rw [State.meterOf, ← hroot]
  generalize root (energy xs) = r
  split <;> simp

@[simp] theorem State.meterIn_control (s : State) (st : Nat) (rms : Int) : (s.meterIn st rms).control = s.control := by
  simp [State.meterIn]

@[simp] theorem State.gainIn_control (s : State) (st : Nat) : (s.gainIn st).control = s.control := by
  simp [State.gainIn]

@[simp] theorem State.gainOut_control (s : State) (o : Nat) : (s.gainOut o).control = s.control := by
  simp [State.gainOut]

@[simp] theorem State.giveFrame_control (s : State) (c k st : Nat) (h : W32) : (s.giveFrame c k st h).control = s.control := by
  simp [State.giveFrame]

@[simp] theorem State.taskGranted_control (s : State) (h : W32) (t : AudTask) : (s.taskGranted h t).control = s.control := by
  cases t <;> simp [State.taskGranted]

@[simp] theorem State.taskOver_control (s : State) (t : AudTask) : (s.taskOver t).control = s.control := by
  unfold State.taskOver
  split <;> simp

@[simp] theorem State.runTask_control (s : State) (n : Nat) (t : AudTask) : (s.runTask n t).control = s.control := by
  have h := s.hwAlloc_control 5 n t.size
  unfold State.runTask
  split <;> rename_i e <;> rw [e] at h
  · simpa using h
  · split <;> simpa using h

@[simp] theorem State.startTask_control (s : State) (t : AudTask) : (s.startTask t).control = s.control := by
  simp [State.startTask]

@[simp] theorem State.flushTasks_control (s : State) : s.flushTasks.control = s.control := by
  simp [State.flushTasks]

@[simp] theorem State.dropTasks_control (s : State) (p : AudTask → Bool) : (s.dropTasks p).control = s.control := by
  simp [State.dropTasks]

@[simp] theorem State.candidate_control (s : State) (c k : Nat) (lv : Nat → Int × Bool) (st : Nat) (mixed : Bool)
    (slot weight : Nat) :
    (s.candidate c k lv st mixed slot weight).control = s.control := by
  simp [State.candidate]

@[simp] theorem State.assignLanes_control (s : State) (c : Nat) (sel abs : List Nat) :
    (s.assignLanes c sel abs).control = s.control := by
  unfold State.assignLanes
  dsimp only
  refine (State.setAudConf_control ..).trans
    ((State.foldl_control_fst (fun a st => ?_) _ _).trans (State.foldl_control_fst (fun a st => ?_) _ (s, _)))
  all_goals
    split
    · rfl
    · split <;> simp

@[simp] theorem State.keepShown_control (s : State) (c k : Nat) : (s.keepShown c k).control = s.control := by
  simp [State.keepShown]

@[simp] theorem State.latchRoutes_control (s : State) (c : Nat) (ins : List Nat) : (s.latchRoutes c ins).control = s.control := by
  simp [State.latchRoutes]

@[simp] theorem State.tickConf_control (s : State) (k c : Nat) : (s.tickConf k c).control = s.control := by
  simp [State.tickConf]

@[simp] theorem State.audExpire_control (s : State) (k : Nat) : (s.audExpire k).control = s.control := by
  simp [State.audExpire]

@[simp] theorem State.decodeLate_control (s : State) (st : Nat) : (s.decodeLate st).control = s.control := by
  simp [State.decodeLate]

@[simp] theorem State.frameSamples_control (s : State) (c k at_ : Nat) (f : AudFrame) :
    (s.frameSamples c k at_ f).2.control = s.control := by
  unfold State.frameSamples
  dsimp only
  repeat' split
  all_goals simp

@[simp] theorem State.readFrames_control (s : State) (c k at_ : Nat) : (s.readFrames c k at_).2.control = s.control := by
  refine State.foldl_control_snd (fun a f => ?_) _ ([], s)
  have hf := a.2.frameSamples_control c k at_ f
  dsimp only
  generalize a.2.frameSamples c k at_ f = r at hf ⊢
  exact (State.meterIn_control ..).trans ((r.2.meterOf_control r.1.1).trans hf)

@[simp] theorem State.limitSig_control (s : State) (l : Limiter) (lim : Nat) (xs : List Int) :
    (s.limitSig l lim xs).2.control = s.control := by
  unfold State.limitSig
  dsimp only
  repeat' split
  all_goals simp

@[simp] theorem State.finish_control (s : State) (o : Nat) (vs : List (List Int)) : (s.finish o vs).2.control = s.control := by
  refine State.foldl_control_snd (fun a e => ?_) _ (([], false), s)
  dsimp only
  exact (State.setAudOut_control ..).trans (State.limitSig_control ..)

@[simp] theorem State.meterOut_control (s : State) (o : Nat) (r : List (List Int) × Bool) :
    (s.meterOut o r).control = s.control := by
  simp [State.meterOut]

@[simp] theorem State.encodeOut_control (s : State) (c k o : Nat) (table : List (List Nat)) (vs : List (List Int)) :
    (s.encodeOut c k o table vs).control = s.control := by
  simp [State.encodeOut]

@[simp] theorem State.sendAudio_control (s : State) (l c k type origin ssrc pt : Nat) (ext body : Bytes) :
    (s.sendAudio l c k type origin ssrc pt ext body).control = s.control := by
  simp [State.sendAudio]

@[simp] theorem State.sendCands_control (s : State) (c k : Nat) (fr : List (AudFrame × List Int × Bool)) :
    (s.sendCands c k fr).control = s.control := by
  unfold State.sendCands
  split
  · rfl
  · refine State.foldl_control (fun t e => ?_) _ _
    split
    · rfl
    · split <;> simp

@[simp] theorem State.sendMixes_control (s : State) (c k : Nat) (vs : List (List Int)) :
    (s.sendMixes c k vs).control = s.control := by
  simp [State.sendMixes]

@[simp] theorem State.mixConf_control (s : State) (c : Nat) : (s.mixConf c).control = s.control := by
  unfold State.mixConf
  split <;> simp

@[simp] theorem State.audioTick_control (s : State) : s.audioTick.control = s.control := by
  simp [State.audioTick]

@[simp] theorem State.audForget_control (s : State) (st : Nat) : (s.audForget st).control = s.control := by
  simp [State.audForget]

@[simp] theorem State.audForgetConf_control (s : State) (c : Nat) : (s.audForgetConf c).control = s.control := by
  unfold State.audForgetConf
  refine Eq.trans (b := State.control (List.foldl ..)) rfl ((State.foldl_control (fun t f => ?_) _ _).trans (s.dropTasks_control _))
  split <;> simp

@[simp] theorem State.audForgetOut_control (s : State) (o : Nat) : (s.audForgetOut o).control = s.control := by
  simp [State.audForgetOut]

@[simp] theorem State.writeXpRow_control (s : State) (c : Nat) (b : Bytes) : (s.writeXpRow c b).control = s.control := by
  simp [State.writeXpRow]

theorem execJitterAccept_control (stream : Fin 131072) (s : State) : outControl (execJitterAccept stream s) s := by
  simp [execJitterAccept]

theorem execAudioTick_control (s : State) : outControl (execAudioTick s) s := by
  simp [execAudioTick]

theorem execMixPoint_control (conf : Fin 4096) (s : State) : outControl (execMixPoint conf s) s := by
  simp [execMixPoint]

theorem execAfbCntClr_control (s : State) : outControl (execAfbCntClr s) s := by
  simp [execAfbCntClr]

end Sys2Proof.Machine

/-!
PROOF. The same for the DSP cores, whose instructions may trap, the cascade and the pager.
-/

namespace Sys2Proof.Machine

/-- Of what an operation that may trap answers, when it does not. -/
def okAll {ε α : Type} (r : Except ε α) (p : α → Prop) : Prop := ∀ a, r = .ok a → p a

@[simp] theorem okAll_ok {ε α : Type} {p : α → Prop} {a : α} : okAll (.ok a : Except ε α) p ↔ p a :=
  ⟨fun h => h a rfl, fun h _ e => by cases e; exact h⟩

@[simp] theorem okAll_error {ε α : Type} {p : α → Prop} {e : ε} : okAll (.error e) p := fun _ h => nomatch h

@[simp] theorem okAll_bind {ε α β : Type} {p : β → Prop} {r : Except ε α} {f : α → Except ε β} :
    okAll (r >>= f) p ↔ okAll r fun a => okAll (f a) p := by
  cases r with
  | ok a => exact (okAll_ok (p := fun a => okAll (f a) p)).symm
  | error e => exact ⟨fun _ => okAll_error, fun _ => okAll_error⟩

@[simp] theorem okAll_ite {ε α : Type} {p : α → Prop} {c : Prop} [Decidable c] {a b : Except ε α} :
    okAll (if c then a else b) p ↔ (c → okAll a p) ∧ (¬ c → okAll b p) := by
  split <;> simp [*]

@[simp] theorem okAll_trapIf {p : Unit → Prop} {c : Bool} {code addr : Nat} (h : p ()) : okAll (trapIf c code addr) p :=
  fun _ _ => h

theorem okAll_mono {ε α : Type} {r : Except ε α} {p q : α → Prop} (h : okAll r p) (hpq : ∀ a, p a → q a) : okAll r q :=
  fun a e => hpq a (h a e)

/-! ### The DSP cores -/

@[simp] theorem State.haltCore_control (s : State) (c : Nat) : (s.haltCore c).control = s.control := by
  simp [State.haltCore]

@[simp] theorem State.dspTrap_control (s : State) (c code soft : Nat) (taddr next : W32) :
    (s.dspTrap c code soft taddr next).control = s.control := by
  simp [State.dspTrap]

@[simp] theorem State.dspStall_control (s : State) (c : Nat) (cluster : Bool) : (s.dspStall c cluster).control = s.control := by
  simp [State.dspStall]

@[simp] theorem State.dspFetch_control (s : State) (c a size : Nat) : (s.dspFetch c a size).control = s.control := by
  simp [State.dspFetch]

@[simp] theorem State.dspRequest_control (s : State) (c tag : Nat) : (s.dspRequest c tag).control = s.control := by
  unfold State.dspRequest
  dsimp only
  repeat' split
  all_goals simp

@[simp] theorem State.dspMove_control (s : State) (c : Nat) : (s.dspMove c).control = s.control := by
  simp [State.dspMove]

@[simp] theorem State.portLoad_control (s : State) (c off size : Nat) : (s.portLoad c off size).2.control = s.control := by
  unfold State.portLoad
  dsimp only
  repeat' split
  all_goals simp

@[simp] theorem State.portStore_control (s : State) (c off size v : Nat) : (s.portStore c off size v).control = s.control := by
  unfold State.portStore
  split <;> simp

@[simp] theorem State.localWrite_control (s : State) (c a : Nat) (b : Bytes) : (s.localWrite c a b).control = s.control := by
  unfold State.localWrite
  split <;> simp

@[simp] theorem State.dspData_control (s : State) (c a : Nat) (err : Fin 3) :
    okAll (s.dspData c a err) fun t => t.control = s.control := by
  simp [State.dspData]

@[simp] theorem State.dload_control (s : State) (c a size : Nat) (err : Fin 3) :
    okAll (s.dload c a size err) fun r => r.2.control = s.control := by
  simp [State.dload]

@[simp] theorem State.dstore_control (s : State) (c a size v : Nat) :
    okAll (s.dstore c a size v) fun t => t.control = s.control := by
  simp [State.dstore]

@[simp] theorem State.dspLand_control (s : State) (c : Nat) (writes : Landing) : (s.dspLand c writes).control = s.control := by
  simp [State.dspLand]

@[simp] theorem State.branchEnd_control (s : State) (c : Nat) (b : Branch) : (s.branchEnd c b).control = s.control := by
  unfold State.branchEnd
  dsimp only
  repeat' split
  all_goals simp

@[simp] theorem State.startCore_control (s : State) (c : Nat) : (s.startCore c).control = s.control := by
  simp [State.startCore]

@[simp] theorem State.dspEnd_control (c size : Nat) (r : DspDone) : (State.dspEnd c size r).control = r.s.control := by
  obtain ⟨s, writes, load, flow, cycles⟩ := r
  have h : (s.dspLand c writes).control = s.control := s.dspLand_control c writes
  delta State.dspEnd
  dsimp only
  generalize s.dspLand c writes = u at h ⊢
  generalize ({ u.core c with load := load } : DspCore).loopEnd ((u.core c).pc + BitVec.ofNat 32 (size - 4)) (match flow with
    | .skip a => a
    | _ => (u.core c).pc + BitVec.ofNat 32 size) = le
  cases flow with
  | wait => simp [h]
  | soft code => simp [h]
  | branch taken target reti => simp [h]
  | _ =>
    cases (u.core c).branch with
    | none => simp [h]
    | some b => simp [h]

/-- An instruction keeps them if its own effect does. -/
@[simp] theorem State.dspRun_control (s : State) (core : Fin 272) (w : W32) (imm : Option W32) (ecc : Fin 3)
    {f : State → Nat → DspCore → Traps DspDone} (hf : ∀ t c x, okAll (f t c x) fun r => r.s.control = t.control) :
    (s.dspRun core w imm ecc f).control = s.control := by
  unfold State.dspRun
  dsimp only
  have hfetch : (s.dspFetch core (s.core core).pc.toNat (dspSize (s.pmWord core (s.core core).pc.toNat))).control = s.control := by
    simp
  generalize s.dspFetch core (s.core core).pc.toNat (dspSize (s.pmWord core (s.core core).pc.toNat)) = fetched at hfetch ⊢
  have hcount : (if ecc.val = 1 then fetched.rcount .dspEcc (core.val / 16) 0 0 16 1 else fetched).control = s.control := by
    simp [hfetch]
  generalize (if ecc.val = 1 then fetched.rcount .dspEcc (core.val / 16) 0 0 16 1 else fetched) = u at hcount ⊢
  simp only [State.control_ite]
  repeat' split
  case h_2 r e => simpa [hcount] using hf _ _ _ _ e
  all_goals simp [hcount, hfetch]

/-! ### The instructions of the DSP cores -/

@[simp] theorem State.aluFlags_control (s : State) (c : Nat) (r : AluRes) : (s.aluFlags c r).1.control = s.control := by
  unfold State.aluFlags
  dsimp only
  repeat' split
  all_goals simp

@[simp] theorem State.aluOp_control (s : State) (core : Fin 272) (fn : Nat) (w : BitVec 26) (ecc : Fin 3) (f : W32 → W32 → AluRes) :
    outControl (s.aluOp core fn w ecc f) s := by
  simp [State.aluOp]

@[simp] theorem State.moveOp_control (s : State) (core : Fin 272) (word : W32) (imm : Option W32) (ecc : Fin 3) (rd : Nat)
    (f : DspCore → W32) :
    outControl (s.moveOp core word imm ecc rd f) s := by
  simp [State.moveOp]

theorem execNop_control (core : Fin 272) (w : BitVec 26) (ecc : Fin 3) (s : State) : outControl (execNop core w ecc s) s := by
  simp [execNop]

theorem execAdd_control (core : Fin 272) (w : BitVec 26) (ecc : Fin 3) (s : State) : outControl (execAdd core w ecc s) s := by
  simp [execAdd]

theorem execSub_control (core : Fin 272) (w : BitVec 26) (ecc : Fin 3) (s : State) : outControl (execSub core w ecc s) s := by
  simp [execSub]

theorem execAdds_control (core : Fin 272) (w : BitVec 26) (ecc : Fin 3) (s : State) : outControl (execAdds core w ecc s) s := by
  simp [execAdds]

theorem execSubs_control (core : Fin 272) (w : BitVec 26) (ecc : Fin 3) (s : State) : outControl (execSubs core w ecc s) s := by
  simp [execSubs]

theorem execAnd_control (core : Fin 272) (w : BitVec 26) (ecc : Fin 3) (s : State) : outControl (execAnd core w ecc s) s := by
  simp [execAnd]

theorem execOr_control (core : Fin 272) (w : BitVec 26) (ecc : Fin 3) (s : State) : outControl (execOr core w ecc s) s := by
  simp [execOr]

theorem execXor_control (core : Fin 272) (w : BitVec 26) (ecc : Fin 3) (s : State) : outControl (execXor core w ecc s) s := by
  simp [execXor]

theorem execShl_control (core : Fin 272) (w : BitVec 26) (ecc : Fin 3) (s : State) : outControl (execShl core w ecc s) s := by
  simp [execShl]

theorem execShr_control (core : Fin 272) (w : BitVec 26) (ecc : Fin 3) (s : State) : outControl (execShr core w ecc s) s := by
  simp [execShr]

theorem execAsr_control (core : Fin 272) (w : BitVec 26) (ecc : Fin 3) (s : State) : outControl (execAsr core w ecc s) s := by
  simp [execAsr]

theorem execMin_control (core : Fin 272) (w : BitVec 26) (ecc : Fin 3) (s : State) : outControl (execMin core w ecc s) s := by
  simp [execMin]

theorem execMax_control (core : Fin 272) (w : BitVec 26) (ecc : Fin 3) (s : State) : outControl (execMax core w ecc s) s := by
  simp [execMax]

theorem execAbs_control (core : Fin 272) (w : BitVec 26) (ecc : Fin 3) (s : State) : outControl (execAbs core w ecc s) s := by
  simp [execAbs]

theorem execCmp_control (core : Fin 272) (w : BitVec 26) (ecc : Fin 3) (s : State) : outControl (execCmp core w ecc s) s := by
  simp [execCmp]

theorem execMov_control (core : Fin 272) (w : BitVec 26) (ecc : Fin 3) (s : State) : outControl (execMov core w ecc s) s := by
  simp [execMov]

theorem execPack_control (core : Fin 272) (w : BitVec 26) (ecc : Fin 3) (s : State) : outControl (execPack core w ecc s) s := by
  simp [execPack]

theorem execAddi_control (core : Fin 272) (w : BitVec 26) (ecc : Fin 3) (s : State) : outControl (execAddi core w ecc s) s := by
  simp [execAddi]

theorem execCmpi_control (core : Fin 272) (w : BitVec 26) (ecc : Fin 3) (s : State) : outControl (execCmpi core w ecc s) s := by
  simp [execCmpi]

theorem execMovi_control (core : Fin 272) (w : BitVec 26) (imm : W32) (ecc : Fin 3) (s : State) :
    outControl (execMovi core w imm ecc s) s := by
  simp [execMovi]

@[simp] theorem State.readSpecial_control (s : State) (c n : Nat) : (s.readSpecial c n).2.control = s.control := by
  unfold State.readSpecial
  dsimp only
  repeat' split
  all_goals simp

theorem execMovs_control (core : Fin 272) (w : BitVec 26) (ecc : Fin 3) (s : State) : outControl (execMovs core w ecc s) s := by
  simp [execMovs]

@[simp] theorem State.setPtr_control (s : State) (c n : Nat) (v : W32) : (s.setPtr c n v).control = s.control := by
  simp [State.setPtr]

@[simp] theorem State.loadOp_control (s : State) (core : Fin 272) (op size : Nat) (w : BitVec 26) (ecc err : Fin 3) :
    outControl (s.loadOp core op size w ecc err) s := by
  simp [State.loadOp]

@[simp] theorem State.storeOp_control (s : State) (core : Fin 272) (op size : Nat) (w : BitVec 26) (ecc : Fin 3) :
    outControl (s.storeOp core op size w ecc) s := by
  simp [State.storeOp]

theorem execLd_control (core : Fin 272) (w : BitVec 26) (ecc : LoadEcc) (s : State) : outControl (execLd core w ecc s) s := by
  simp [execLd]

theorem execLdh_control (core : Fin 272) (w : BitVec 26) (ecc : LoadEcc) (s : State) : outControl (execLdh core w ecc s) s := by
  simp [execLdh]

theorem execLdd_control (core : Fin 272) (w : BitVec 26) (ecc : LoadEcc) (s : State) : outControl (execLdd core w ecc s) s := by
  simp [execLdd]

theorem execSt_control (core : Fin 272) (w : BitVec 26) (ecc : Fin 3) (s : State) : outControl (execSt core w ecc s) s := by
  simp [execSt]

theorem execSth_control (core : Fin 272) (w : BitVec 26) (ecc : Fin 3) (s : State) : outControl (execSth core w ecc s) s := by
  simp [execSth]

theorem execStd_control (core : Fin 272) (w : BitVec 26) (ecc : Fin 3) (s : State) : outControl (execStd core w ecc s) s := by
  simp [execStd]

theorem execLda_control (core : Fin 272) (w : BitVec 26) (ecc : LoadEcc) (s : State) : outControl (execLda core w ecc s) s := by
  simp [execLda]

theorem execSta_control (core : Fin 272) (w : BitVec 26) (ecc : Fin 3) (s : State) : outControl (execSta core w ecc s) s := by
  simp [execSta]

@[simp] theorem State.loadAbs_control (s : State) (core : Fin 272) (op size : Nat) (w : BitVec 26) (imm : W32) (ecc err : Fin 3) :
    outControl (s.loadAbs core op size w imm ecc err) s := by
  simp [State.loadAbs]

@[simp] theorem State.storeAbs_control (s : State) (core : Fin 272) (op size : Nat) (w : BitVec 26) (imm : W32) (ecc : Fin 3) :
    outControl (s.storeAbs core op size w imm ecc) s := by
  simp [State.storeAbs]

theorem execLdx_control (core : Fin 272) (w : BitVec 26) (imm : W32) (ecc : LoadEcc) (s : State) :
    outControl (execLdx core w imm ecc s) s := by
  simp [execLdx]

theorem execStx_control (core : Fin 272) (w : BitVec 26) (imm : W32) (ecc : Fin 3) (s : State) :
    outControl (execStx core w imm ecc s) s := by
  simp [execStx]

theorem execLddx_control (core : Fin 272) (w : BitVec 26) (imm : W32) (ecc : LoadEcc) (s : State) :
    outControl (execLddx core w imm ecc s) s := by
  simp [execLddx]

theorem execStdx_control (core : Fin 272) (w : BitVec 26) (imm : W32) (ecc : Fin 3) (s : State) :
    outControl (execStdx core w imm ecc s) s := by
  simp [execStdx]

theorem execMac_control (core : Fin 272) (w : BitVec 26) (ecc : Fin 3) (s : State) : outControl (execMac core w ecc s) s := by
  simp [execMac]

theorem execQmacr_control (core : Fin 272) (w : BitVec 26) (ecc : Fin 3) (s : State) : outControl (execQmacr core w ecc s) s := by
  simp [execQmacr]

@[simp] theorem State.qOperands_control (s : State) (c : Nat) (x : DspCore) (w : BitVec 26) (size : Nat) (ex ey : Fin 3) :
    okAll (s.qOperands c x w size ex ey) fun r => r.2.2.control = s.control := by
  simp only [State.qOperands, okAll_bind, okAll_ok]
  refine okAll_trapIf (okAll_trapIf (okAll_trapIf (okAll_trapIf ?_)))
  exact okAll_mono (State.dspData_control s _ _ _) fun t ht => okAll_mono (State.dspData_control t _ _ _) fun u hu => hu.trans ht

@[simp] theorem State.qPointers_control (s : State) (c : Nat) (w : BitVec 26) (p q : W32) :
    (s.qPointers c w p q).control = s.control := by
  simp [State.qPointers]

theorem execQmac_control (core : Fin 272) (w : BitVec 26) (ecc : MacEcc) (s : State) : outControl (execQmac core w ecc s) s := by
  simp [execQmac]

theorem execDmac_control (core : Fin 272) (w : BitVec 26) (ecc : MacEcc) (s : State) : outControl (execDmac core w ecc s) s := by
  simp [execDmac]

theorem execTapmac_control (core : Fin 272) (w : BitVec 26) (ecc : MacEcc) (s : State) :
    outControl (execTapmac core w ecc s) s := by
  simp only [execTapmac, outControl_next]
  refine State.dspRun_control _ _ _ _ _ fun t c x => ?_
  simp only [okAll_bind]
  refine okAll_mono (State.qOperands_control t c x w 2 ecc.x ecc.y) fun r hr => ?_
  simp [hr]

theorem execMova_control (core : Fin 272) (w : BitVec 26) (ecc : Fin 3) (s : State) : outControl (execMova core w ecc s) s := by
  simp [execMova]

@[simp] theorem State.accOp_control (s : State) (core : Fin 272) (fn : Nat) (w : BitVec 26) (ecc : Fin 3)
    (f : DspCore → Nat → DspCore) :
    outControl (s.accOp core fn w ecc f) s := by
  simp [State.accOp]

theorem execClra_control (core : Fin 272) (w : BitVec 26) (ecc : Fin 3) (s : State) : outControl (execClra core w ecc s) s := by
  simp [execClra]

theorem execLdad_control (core : Fin 272) (w : BitVec 26) (ecc : Fin 3) (s : State) : outControl (execLdad core w ecc s) s := by
  simp [execLdad]

theorem execSha_control (core : Fin 272) (w : BitVec 26) (ecc : Fin 3) (s : State) : outControl (execSha core w ecc s) s := by
  simp [execSha]

theorem execAdda_control (core : Fin 272) (w : BitVec 26) (ecc : Fin 3) (s : State) : outControl (execAdda core w ecc s) s := by
  simp [execAdda]

@[simp] theorem State.branchOp_control (s : State) (core : Fin 272) (op : Nat) (w : BitVec 26) (ecc : Fin 3)
    (link reti : Bool) (target : DspCore → W32) :
    outControl (s.branchOp core op w ecc link reti target) s := by
  simp [State.branchOp]

theorem execBr_control (core : Fin 272) (w : BitVec 26) (ecc : Fin 3) (s : State) : outControl (execBr core w ecc s) s := by
  simp [execBr]

theorem execCall_control (core : Fin 272) (w : BitVec 26) (ecc : Fin 3) (s : State) : outControl (execCall core w ecc s) s := by
  simp [execCall]

theorem execRet_control (core : Fin 272) (w : BitVec 26) (ecc : Fin 3) (s : State) : outControl (execRet core w ecc s) s := by
  simp [execRet]

theorem execReti_control (core : Fin 272) (w : BitVec 26) (ecc : Fin 3) (s : State) : outControl (execReti core w ecc s) s := by
  simp [execReti]

theorem execJmpr_control (core : Fin 272) (w : BitVec 26) (ecc : Fin 3) (s : State) : outControl (execJmpr core w ecc s) s := by
  simp [execJmpr]

@[simp] theorem State.jumpOp_control (s : State) (core : Fin 272) (op : Nat) (w : BitVec 26) (imm : W32) (ecc : Fin 3)
    (link : Bool) :
    outControl (s.jumpOp core op w imm ecc link) s := by
  simp [State.jumpOp]

theorem execJmpl_control (core : Fin 272) (w : BitVec 26) (imm : W32) (ecc : Fin 3) (s : State) :
    outControl (execJmpl core w imm ecc s) s := by
  simp [execJmpl]

theorem execCalll_control (core : Fin 272) (w : BitVec 26) (imm : W32) (ecc : Fin 3) (s : State) :
    outControl (execCalll core w imm ecc s) s := by
  simp [execCalll]

@[simp] theorem State.loopOp_control (s : State) (core : Fin 272) (op : Nat) (w : BitVec 26) (ecc : Fin 3) (count : DspCore → W32) :
    outControl (s.loopOp core op w ecc count) s := by
  simp [State.loopOp]

theorem execLoop_control (core : Fin 272) (w : BitVec 26) (ecc : Fin 3) (s : State) : outControl (execLoop core w ecc s) s := by
  simp [execLoop]

theorem execLoopr_control (core : Fin 272) (w : BitVec 26) (ecc : Fin 3) (s : State) : outControl (execLoopr core w ecc s) s := by
  simp [execLoopr]

theorem execEndl_control (core : Fin 272) (w : BitVec 26) (ecc : Fin 3) (s : State) : outControl (execEndl core w ecc s) s := by
  simp [execEndl]

@[simp] theorem State.dspWait_control (s : State) (core : Fin 272) (w : BitVec 26) (ecc : Fin 3) :
    (s.dspWait core w ecc).control = s.control := by
  simp [State.dspWait]

theorem execTrap_control (core : Fin 272) (w : BitVec 26) (ecc : Fin 3) (s : State) : outControl (execTrap core w ecc s) s := by
  simp [execTrap]

theorem execDi_control (core : Fin 272) (w : BitVec 26) (ecc : Fin 3) (s : State) : outControl (execDi core w ecc s) s := by
  simp [execDi]

theorem execEi_control (core : Fin 272) (w : BitVec 26) (ecc : Fin 3) (s : State) : outControl (execEi core w ecc s) s := by
  simp [execEi]

theorem execPmctlUnlockAll_control (core : Fin 272) (w : BitVec 26) (ecc : Fin 3) (s : State) :
    outControl (execPmctlUnlockAll core w ecc s) s := by
  simp [execPmctlUnlockAll]

theorem execPmctlLock_control (core : Fin 272) (w : BitVec 26) (ecc : Fin 3) (s : State) :
    outControl (execPmctlLock core w ecc s) s := by
  simp [execPmctlLock]

theorem execPmctlInvalidate_control (core : Fin 272) (w : BitVec 26) (ecc : Fin 3) (s : State) :
    outControl (execPmctlInvalidate core w ecc s) s := by
  simp [execPmctlInvalidate]

theorem execDoorbell_control (core : Fin 273) (s : State) : outControl (execDoorbell core s) s := by
  simp [execDoorbell]

theorem execResRead_control (core : Fin 272) (tag : Fin 8) (s : State) : outControl (execResRead core tag s) s := by
  simp [execResRead]

theorem execMoveGo_control (core : Fin 272) (desc : Bytes) (s : State) : outControl (execMoveGo core desc s) s := by
  simp [execMoveGo]

theorem execMoveComplete_control (move : MoveEnd) (s : State) : outControl (execMoveComplete move s) s := by
  unfold execMoveComplete
  dsimp only
  repeat' split
  all_goals simp

theorem execCoreItemWatchdog_control (core : Fin 272) (s : State) : outControl (execCoreItemWatchdog core s) s := by
  simp [execCoreItemWatchdog]

theorem execDspCntClr_control (cluster : Fin 17) (s : State) : outControl (execDspCntClr cluster s) s := by
  simp [execDspCntClr]

/-! ### The cascade -/

@[simp] theorem State.setPeerDev_control (s : State) (d : Nat) (x : PeerDev) : (s.setPeerDev d x).control = s.control := by
  simp [State.setPeerDev]

@[simp] theorem State.setPeerState_control (s : State) (d st : Nat) : (s.setPeerState d st).control = s.control := by
  simp [State.setPeerState]

@[simp] theorem State.sendHello_control (s : State) (d l : Nat) : (s.sendHello d l).control = s.control := by
  unfold State.sendHello
  dsimp only
  generalize h0 : (if ((((s.draw 16).2.draw 32).2.draw 32).2.peerState d = 0) then _ else _ : State) = s0
  have hc : s0.control = s.control := by simp [← h0]
  clear h0
  have h := s0.alloc_control 0 ([0x80, 127] ++ beBytes 2 (s.draw 16).1 ++ beBytes 4 ((s.draw 16).2.draw 32).1 ++ [0, 0, 0xFF, 0xFF] ++
    (((s.draw 16).2.draw 32).2.draw 32).2.helloOffer).length false
  split <;> rename_i e <;> rw [e] at h <;> simp_all

@[simp] theorem State.negotiate_control (s : State) (d : Nat) (p : Bytes) (seen : Bool) :
    (s.negotiate d p seen).control = s.control := by
  simp [State.negotiate]

@[simp] theorem State.writeCasCfg_control (s : State) (v : W32) : resControl (s.writeCasCfg v) s := by
  simp [State.writeCasCfg]

@[simp] theorem State.casForget_control (s : State) (l : Nat) (peer : Option Nat) : (s.casForget l peer).control = s.control := by
  unfold State.casForget
  split <;> simp

theorem execPeerHelloSend_control (s : State) : outControl (execPeerHelloSend s) s := by
  unfold execPeerHelloSend
  repeat' split
  all_goals simp

theorem execPeerHello_control (s : State) : outControl (execPeerHello s) s := by
  unfold execPeerHello
  dsimp only
  repeat' split
  all_goals simp

theorem execPeerLost_control (device : Fin 1024) (s : State) : outControl (execPeerLost device s) s := by
  simp [execPeerLost]

theorem execCurCasCntClr_control (s : State) : outControl (execCurCasCntClr s) s := by
  simp [execCurCasCntClr]

/-! ### The pager -/

@[simp] theorem State.pgLowMark_control (s : State) : s.pgLowMark.control = s.control := by
  simp [State.pgLowMark]

@[simp] theorem State.pickPages_control (n : Nat) (s : State) (used got : List Nat) :
    (State.pickPages n s used got).2.control = s.control := by
  induction n generalizing s used got with
  | zero => simp [State.pickPages]
  | succ n ih => simp [State.pickPages, ih]

theorem State.takeStore_control {s t : State} {x : Store} {id : Nat} (e : s.takeStore x = some (id, t)) :
    t.control = s.control := by
  simp only [State.takeStore] at e
  split at e
  · cases e
  · cases e
    simp

@[simp] theorem State.modStore_control (s : State) (id : Nat) (f : Store → Store) : (s.modStore id f).control = s.control := by
  simp [State.modStore]

@[simp] theorem State.freeStores_control (s : State) : s.freeStores.control = s.control := by
  simp [State.freeStores]

@[simp] theorem State.mapStores_control (s : State) (owner : Nat) (f : Store → Store) :
    (s.mapStores owner f).control = s.control := by
  simp [State.mapStores]

@[simp] theorem State.dropOwner_control (s : State) (owner : Nat) : (s.dropOwner owner).control = s.control := by
  simp [State.dropOwner]

@[simp] theorem State.placeContext_control (s : State) (owner p : Nat) : optControl (s.placeContext owner p) s := by
  simp [State.placeContext]

@[simp] theorem State.unplace_control (s : State) (owner : Nat) : (s.unplace owner).control = s.control := by
  simp [State.unplace]

@[simp] theorem State.putLuma_control (s : State) (x : Store) (y : Nat) (row : List Nat) :
    (s.putLuma x y row).control = s.control := by
  simp [State.putLuma]

@[simp] theorem State.putChroma_control (s : State) (x : Store) (y : Nat) (cb cr : List Nat) :
    (s.putChroma x y cb cr).control = s.control := by
  simp [State.putChroma]

@[simp] theorem State.putBand_control (s : State) (x : Store) (y0 h : Nat) (luma cb cr : List Nat) :
    (s.putBand x y0 h luma cb cr).control = s.control := by
  simp [State.putBand]

@[simp] theorem State.putMotion_control (s : State) (x : Store) (m : List Bytes) : (s.putMotion x m).control = s.control := by
  simp [State.putMotion]

@[simp] theorem State.writePgPool_control (s : State) (v : W32) : resControl (s.writePgPool v) s := by
  simp [State.writePgPool]

@[simp] theorem State.writePgCfg_control (s : State) (v : W32) : resControl (s.writePgCfg v) s := by
  simp [State.writePgCfg]

@[simp] theorem State.writePgCntClr_control (s : State) (v : W32) : (s.writePgCntClr v).control = s.control := by
  simp [State.writePgCntClr]

end Sys2Proof.Machine

/-!
PROOF. The same for the video engines.
-/

namespace Sys2Proof.Machine

/-! ### Video decoding -/

@[simp] theorem State.setDecCtx_control (s : State) (st : Nat) (x : DecCtx) : (s.setDecCtx st x).control = s.control := by
  simp [State.setDecCtx]

@[simp] theorem State.modDecCtx_control (s : State) (st : Nat) (f : DecCtx → DecCtx) : (s.modDecCtx st f).control = s.control := by
  simp [State.modDecCtx]

@[simp] theorem State.setDecPipe_control (s : State) (e : Nat) (l : List EnginePic) : (s.setDecPipe e l).control = s.control := by
  simp [State.setDecPipe]

theorem State.hwAlloc_control_of {s t : State} {d work size : Nat} {r : AllocRes} (e : s.hwAlloc d work size = (r, t)) :
    t.control = s.control := by
  simpa [e] using s.hwAlloc_control d work size

@[simp] theorem State.growSpare_control (n : Nat) (s : State) (st : Nat) : (State.growSpare n s st).control = s.control := by
  induction n generalizing s with
  | zero => simp [State.growSpare]
  | succ n ih =>
    have h := s.hwAlloc_control 6 st 16384
    unfold State.growSpare
    split <;> rename_i e <;> rw [e] at h <;> simpa [ih] using h

@[simp] theorem State.writeChain_control (n : Nat) (s : State) (c : List W32) (pos : Nat) (b : Bytes) :
    (State.writeChain n s c pos b).control = s.control := by
  induction n generalizing s pos b with
  | zero => simp [State.writeChain]
  | succ n ih => simp [State.writeChain, ih]

@[simp] theorem State.freeUnit_control (s : State) (u : AccessUnit) : (s.freeUnit u).control = s.control := by
  simp [State.freeUnit]

@[simp] theorem State.decKey_control (s : State) (st : Nat) : (s.decKey st).control = s.control := by
  simp [State.decKey]

@[simp] theorem State.settlePic_control (s : State) (st outcome : Nat) (key : Bool) :
    (s.settlePic st outcome key).control = s.control := by
  unfold State.settlePic
  split <;> simp

@[simp] theorem State.outcomeMark_control (s : State) (e outcome : Nat) : (s.outcomeMark e outcome).control = s.control := by
  unfold State.outcomeMark
  split <;> simp

@[simp] theorem State.notDecoded_control (s : State) (st e outcome : Nat) (u : AccessUnit) :
    (s.notDecoded st e outcome u).control = s.control := by
  simp [State.notDecoded]

@[simp] theorem State.markRefs_control (s : State) (st : Nat) : (s.markRefs st).control = s.control := by
  simp [State.markRefs]

@[simp] theorem State.loseSlots_control (s : State) (st : Nat) (sets : List Nat) : (s.loseSlots st sets).control = s.control := by
  simp [State.loseSlots]

@[simp] theorem State.loseAll_control (s : State) (st : Nat) : (s.loseAll st).control = s.control := by
  simp [State.loseAll]

@[simp] theorem State.pushUnit_control (s : State) (st : Nat) (u : AccessUnit) : (s.pushUnit st u).control = s.control := by
  unfold State.pushUnit
  split <;> simp

@[simp] theorem State.closeUnit_control (s : State) (st : Nat) : (s.closeUnit st).control = s.control := by
  unfold State.closeUnit
  repeat' split
  all_goals simp

@[simp] theorem State.closeReady_control (n : Nat) (s : State) (st : Nat) : (State.closeReady n s st).control = s.control := by
  induction n generalizing s with
  | zero => simp [State.closeReady]
  | succ n ih =>
    unfold State.closeReady
    split <;> simp [ih]

@[simp] theorem State.stoppedPic_control (s : State) (st e : Nat) : (s.stoppedPic st e).control = s.control := by
  simp [State.stoppedPic]

@[simp] theorem State.assemble_control (s : State) (st : Nat) (x : DecCtx) (b : Bytes) (stamp : Nat) :
    (s.assemble st x b stamp).2.control = s.control := by
  unfold State.assemble
  dsimp only
  repeat' split
  all_goals simp

@[simp] theorem State.flushHeldKey_control (s : State) (st : Nat) : (s.flushHeldKey st).control = s.control := by
  simp [State.flushHeldKey]

@[simp] theorem State.seenSsrc_control (s : State) (st : Nat) (b : Bytes) : (s.seenSsrc st b).control = s.control := by
  simp [State.seenSsrc]

@[simp] theorem State.assembleNext_control (s : State) (st : Nat) : (s.assembleNext st).control = s.control := by
  unfold State.assembleNext
  split
  · rfl
  · dsimp only
    split
    · rfl
    · rename_i d t e
      have h : t.control = s.control := by
        split at e
        · split at e
          · cases e
          · cases e
            simp
        · split at e
          · exact State.dequeue_control e
          · cases e
      split <;> simp [h]

@[simp] theorem State.pageIn_control (s : State) (e st : Nat) (slots : List Nat) : (s.pageIn e st slots).control = s.control := by
  simp [State.pageIn]

@[simp] theorem State.present_control (s : State) (st id : Nat) : (s.present st id).control = s.control := by
  simp [State.present]

@[simp] theorem State.bump_control (n : Nat) (s : State) (st most dpb : Nat) :
    (State.bump n s st most dpb).control = s.control := by
  induction n generalizing s with
  | zero => simp [State.bump]
  | succ n ih =>
    unfold State.bump
    repeat' split
    all_goals simp [ih]

@[simp] theorem State.priorOut_control (s : State) (st prior : Nat) : (s.priorOut st prior).control = s.control := by
  unfold State.priorOut
  split <;> simp

@[simp] theorem State.showSlot_control (s : State) (st e : Nat) (p : PicHead) (u : AccessUnit) (slot : Nat) :
    (s.showSlot st e p u slot).control = s.control := by
  unfold State.showSlot
  split <;> simp

@[simp] theorem State.startPicture_control (s : State) (e : Nat) (p : PicHead) : (s.startPicture e p).control = s.control := by
  unfold State.startPicture
  split
  · rfl
  split
  · rfl
  rename_i st x _ _ w r _
  dsimp only
  generalize hs2 : (if w.key = true then State.freeStores _ else _ : State) = s2
  have h2 : s2.control = s.control := by simp [← hs2]
  clear hs2
  split
  · simp [h2]
  · generalize hs3 : State.priorOut _ st p.prior = s3
    have h3 : s3.control = s.control := by simp [← hs3, h2]
    clear hs3
    split
    · rename_i ht
      simpa [h3] using State.takeStore_control ht
    · simp [h3]
    · simp [h3]

@[simp] theorem State.writePicture_control (s : State) (y0 : Store) (r : PicDone) : (s.writePicture y0 r).control = s.control := by
  simp [State.writePicture]

@[simp] theorem State.finishPicture_control (s : State) (e : Nat) (q : EnginePic) (r : PicDone) :
    (s.finishPicture e q r).control = s.control := by
  unfold State.finishPicture
  split <;> simp

@[simp] theorem State.dropStore_control (s : State) (id : Nat) : (s.dropStore id).control = s.control := by
  simp [State.dropStore]

@[simp] theorem State.endContext_control (s : State) (owner : Nat) : (s.endContext owner).control = s.control := by
  simp [State.endContext]

@[simp] theorem State.lastPicture_control (s : State) (e owner : Nat) (q : EnginePic) (r : Option PicDone) :
    (s.lastPicture e owner q r).control = s.control := by
  unfold State.lastPicture
  split <;> simp

@[simp] theorem State.poisonPicture_control (s : State) (e : Nat) (q : EnginePic) : (s.poisonPicture e q).control = s.control := by
  unfold State.poisonPicture
  split <;> simp

@[simp] theorem State.endPicture_control (s : State) (e : Nat) (r : PicDone) : (s.endPicture e r).control = s.control := by
  unfold State.endPicture
  repeat' split
  all_goals simp

@[simp] theorem State.decCreate_control (s : State) (st : Nat) : resControl (s.decCreate st) s := by
  unfold State.decCreate
  dsimp only
  split
  · simp
  · split
    · rename_i e
      have h := s.placeContext_control st (s.decPages st) _ e
      simpa using h
    · simp

@[simp] theorem State.dropUnits_control (s : State) (st : Nat) : (s.dropUnits st).control = s.control := by
  unfold State.dropUnits
  split <;> simp

@[simp] theorem State.endLater_control (s : State) (st : Nat) (x : DecCtx) (store : Nat) :
    (s.endLater st x store).control = s.control := by
  simp [State.endLater]

@[simp] theorem State.decEnd_control (s : State) (st : Nat) : (s.decEnd st).control = s.control := by
  unfold State.decEnd
  dsimp only
  repeat' split
  all_goals simp

@[simp] theorem State.migrate_control (s : State) (st : Nat) : (s.migrate st).control = s.control := by
  unfold State.migrate
  repeat' split
  all_goals simp

@[simp] theorem State.decMove_control (s : State) (st eng : Nat) : resControl (s.decMove st eng) s := by
  unfold State.decMove
  repeat' split
  all_goals simp

@[simp] theorem State.decStop_control (s : State) (st : Nat) : (s.decStop st).control = s.control := by
  unfold State.decStop
  split <;> simp

@[simp] theorem State.decEngineOut_control (s : State) (e : Nat) : (s.decEngineOut e).control = s.control := by
  unfold State.decEngineOut
  dsimp only
  rw [State.foldl_control fun t st => by split <;> simp]
  simp

@[simp] theorem State.decEngineBack_control (s : State) (e : Nat) : (s.decEngineBack e).control = s.control := by
  simp [State.decEngineBack]

theorem execAssemblePacket_control (stream : Fin 131072) (s : State) : outControl (execAssemblePacket stream s) s := by
  unfold execAssemblePacket
  split <;> simp

theorem execAuWaitExpiry_control (stream : Fin 131072) (s : State) : outControl (execAuWaitExpiry stream s) s := by
  unfold execAuWaitExpiry
  repeat' split
  all_goals simp

theorem execPictureStart_control (engine : Fin 4) (pic : PicHead) (s : State) : outControl (execPictureStart engine pic s) s := by
  simp [execPictureStart]

theorem execPictureDone_control (engine : Fin 4) (result : PicDone) (s : State) :
    outControl (execPictureDone engine result s) s := by
  simp [execPictureDone]

theorem execContextMigrate_control (stream : Fin 131072) (s : State) : outControl (execContextMigrate stream s) s := by
  simp [execContextMigrate]

theorem execVdeCntClr_control (engine : Fin 4) (s : State) : outControl (execVdeCntClr engine s) s := by
  simp [execVdeCntClr]

theorem execVdePgCntClrCounters_control (s : State) : outControl (execVdePgCntClrCounters s) s := by
  simp [execVdePgCntClrCounters]

theorem execVdePgCntClrLow_control (s : State) : outControl (execVdePgCntClrLow s) s := by
  simp [execVdePgCntClrLow]

/-! ### The Compositor -/

@[simp] theorem State.setSurf_control (s : State) (o : Nat) (x : Surface) : (s.setSurf o x).control = s.control := by
  simp [State.setSurf]

@[simp] theorem State.surfStart_control (s : State) (o pipe : Nat) : (s.surfStart o pipe).control = s.control := by
  simp [State.surfStart]

@[simp] theorem State.surfEnd_control (s : State) (o : Nat) : (s.surfEnd o).control = s.control := by
  simp [State.surfEnd]

@[simp] theorem State.frameDue_control (s : State) (o : Nat) : (s.frameDue o).control = s.control := by
  obtain ⟨reach, hreach⟩ : ∃ f, f = State.reach := ⟨_, rfl⟩
  obtain ⟨dueAt, hdueAt⟩ : ∃ f, f = State.dueAt := ⟨_, rfl⟩
  unfold State.frameDue
  rw [← hreach, ← hdueAt]
  generalize (if s.cmp.ending.contains o then none else s.surf? o) = x
  cases x with
  | none => rfl
  | some x =>
    dsimp only
    split <;> simp [hreach]

@[simp] theorem State.layerAbsent_control (s : State) (o : Nat) : (s.layerAbsent o).control = s.control := by
  simp [State.layerAbsent]

@[simp] theorem State.placeLayer_control (s : State) (d : DueFrame) (word : W16) (i : Nat) :
    (s.placeLayer d word i).2.control = s.control := by
  unfold State.placeLayer
  dsimp only
  repeat' split
  all_goals simp

@[simp] theorem State.placeLayers_control (s : State) (d : DueFrame) : (s.placeLayers d).2.control = s.control := by
  unfold State.placeLayers
  dsimp only
  split
  · exact State.foldl_control_snd (fun a i => by simp) _ _
  · simp

@[simp] theorem State.beginFrame_control (s : State) (p : Nat) (d : DueFrame) (rest : List DueFrame) :
    (s.beginFrame p d rest).control = s.control := by
  unfold State.beginFrame
  dsimp only
  generalize hu : State.freeStores _ = u
  have h : u.control = s.control := by simp [← hu]
  split
  · rename_i ht
    simpa [h] using State.takeStore_control ht
  · simp

@[simp] theorem State.releaseHolds_control (s : State) (f : CFrame) : (s.releaseHolds f).control = s.control := by
  simp [State.releaseHolds]

@[simp] theorem State.venCurrent_control (s : State) (e : Nat) : (s.venCurrent e).control = s.control := by
  unfold State.venCurrent
  split <;> simp

@[simp] theorem State.feed_control (n : Nat) (s : State) (e : Nat) : (State.feed n s e).control = s.control := by
  induction n generalizing s with
  | zero => simp [State.feed]
  | succ n ih =>
    unfold State.feed
    split <;> simp [ih]

@[simp] theorem State.pushRow_control (s : State) (p : Nat) (r : BlockRow) : (s.pushRow p r).control = s.control := by
  simp [State.pushRow]

@[simp] theorem State.poisonFrame_control (s : State) (p : Nat) (f : CFrame) : (s.poisonFrame p f).control = s.control := by
  simp [State.poisonFrame]

@[simp] theorem State.endFrame_control (s : State) (p : Nat) (f : CFrame) : (s.endFrame p f).control = s.control := by
  unfold State.endFrame
  split <;> simp

@[simp] theorem State.nextRow_control (s : State) (p : Nat) : (s.nextRow p).control = s.control := by
  unfold State.nextRow
  repeat' split
  all_goals simp

@[simp] theorem State.writeCoefs_control (s : State) (luma chroma : List (Nat × W32)) :
    resControl (s.writeCoefs luma chroma) s := by
  simp [State.writeCoefs]

theorem execCmpCoefWrite_control (luma : List (Fin 128 × W32)) (chroma : List (Fin 64 × W32)) (s : State) :
    outControl (execCmpCoefWrite luma chroma s) s := by
  simp [execCmpCoefWrite]

theorem execCmpCntClr_control (s : State) : outControl (execCmpCntClr s) s := by
  simp [execCmpCntClr]

/-! ### Video encoding -/

@[simp] theorem State.setEncCtx_control (s : State) (o : Nat) (x : EncCtx) : (s.setEncCtx o x).control = s.control := by
  simp [State.setEncCtx]

@[simp] theorem State.modEncCtx_control (s : State) (o : Nat) (f : EncCtx → EncCtx) : (s.modEncCtx o f).control = s.control := by
  simp [State.modEncCtx]

@[simp] theorem State.setEncFrame_control (s : State) (e : Nat) (x : Option EngineFrame) :
    (s.setEncFrame e x).control = s.control := by
  simp [State.setEncFrame]

@[simp] theorem State.baseOf_control (s : State) (o i t : Nat) (rc : RateCtl) : (s.baseOf o i t rc).2.control = s.control := by
  unfold State.baseOf
  dsimp only
  repeat' split
  all_goals simp

@[simp] theorem State.targetOf_control (s : State) (o i t : Nat) (key : Bool) (rc : RateCtl) :
    (s.targetOf o i t key rc).2.control = s.control := by
  unfold State.targetOf
  split <;> simp

@[simp] theorem State.startQ_control (s : State) (o t target : Nat) (key : Bool) (rc : RateCtl) :
    (s.startQ o t target key rc).2.control = s.control := by
  unfold State.startQ
  split <;> simp

@[simp] theorem State.takeChains_control (o : Nat) (x : EncCtx) (l : List Nat) (s : State) :
    (State.takeChains o x l s).2.control = s.control := by
  induction l generalizing s with
  | nil => simp [State.takeChains]
  | cons i r ih =>
    have h := s.hwAlloc_control 7 (8 * o + i) (max 1 (min 4194304 (s.capOf o i (ngetD {} x.rc i))))
    unfold State.takeChains
    split
    · exact ih s
    · split <;> rename_i e <;> rw [e] at h <;> simpa [ih] using h

@[simp] theorem State.dropChains_control (s : State) (o : Nat) : (s.dropChains o).control = s.control := by
  simp [State.dropChains]

theorem State.takeLayerStores_control (o : Nat) (key : Bool) (l : List Nat) {s t : State} {ids : List Nat}
    (e : State.takeLayerStores o key l s = some (ids, t)) : t.control = s.control := by
  induction l generalizing s t ids with
  | nil =>
    cases e
    rfl
  | cons i r ih =>
    simp only [State.takeLayerStores] at e
    split at e
    · cases e
    · obtain ⟨⟨id, u⟩, hu, e⟩ := Option.bind_eq_some_iff.mp e
      obtain ⟨⟨ids', v⟩, hv, e⟩ := Option.map_eq_some_iff.mp e
      cases e
      exact (ih hv).trans (State.takeStore_control hu)

@[simp] theorem State.openLayers_control (o t : Nat) (key : Bool) (x : EncCtx) (l stores : List Nat) (s : State) :
    (State.openLayers o t key x l stores s).2.control = s.control := by
  induction l generalizing s stores with
  | nil => simp [State.openLayers]
  | cons i r ih => simp [State.openLayers, ih]

@[simp] theorem State.encPageIn_control (s : State) (e o : Nat) (x : EncCtx) : (s.encPageIn e o x).control = s.control := by
  simp [State.encPageIn]

@[simp] theorem State.noStore_control (s : State) (e : Nat) (fr : EngineFrame) : (s.noStore e fr).control = s.control := by
  simp [State.noStore]

@[simp] theorem State.startFrame_control (s : State) (e : Nat) (b : BlockRow) (key : Bool) (t : Nat) (x : EncCtx)
    (stores : List Nat) :
    (s.startFrame e b key t x stores).control = s.control := by
  simp [State.startFrame]

@[simp] theorem State.openFrame_control (s : State) (e : Nat) (b : BlockRow) (fh : Nat) (x : EncCtx) :
    (s.openFrame e b fh x).2.control = s.control := by
  unfold State.openFrame
  dsimp only
  split
  · split <;> simp
  split
  · simp
  generalize hu : (if s.wantsKey b.output b.due x = true then State.freeStores _ else _ : State) = u
  have h : u.control = s.control := by
    rw [← hu]
    split <;> simp
  clear hu
  generalize (if s.wantsKey b.output b.due x = true then 0 else _ : Nat) = t
  split
  · simp [h]
  split
  · rename_i ht
    simpa [h] using State.takeLayerStores_control _ _ _ ht
  · simp [h]

@[simp] theorem State.dropBits_control (s : State) (o : Nat) (h : W32) : (s.dropBits o h).control = s.control := by
  simp [State.dropBits]

@[simp] theorem State.publish_control (s : State) (o : Nat) (f : LayerFrame) (whole : Bool) :
    (s.publish o f whole).2.control = s.control := by
  unfold State.publish
  dsimp only
  repeat' split
  all_goals simp

@[simp] theorem State.publishAll_control (o : Nat) (whole : Bool) (l : List LayerFrame) (go : Bool) (s : State) :
    (State.publishAll o whole l go s).2.control = s.control := by
  induction l generalizing s go with
  | nil => simp [State.publishAll]
  | cons f r ih => cases go <;> simp [State.publishAll, ih]

@[simp] theorem State.storeBits_control (s : State) (o : Nat) (h : W32) (pos : Nat) (us : List CodedUnit) :
    (s.storeBits o h pos us).control = s.control := by
  simp [State.storeBits]

@[simp] theorem State.closeFrame_control (s : State) (e : Nat) (fr : EngineFrame) (fs : List LayerFrame) :
    (s.closeFrame e fr fs).control = s.control := by
  unfold State.closeFrame
  dsimp only
  repeat' split
  all_goals simp

@[simp] theorem State.poisonEncode_control (s : State) (e : Nat) (fr : EngineFrame) :
    (s.poisonEncode e fr).control = s.control := by
  simp [State.poisonEncode]

@[simp] theorem State.codeLayers_control (b : BlockRow) (fr : EngineFrame) (i : Nat) (l : List LayerFrame) (given : List EncRow)
    (s : State) : (State.codeLayers b fr i l given s).2.control = s.control := by
  induction l generalizing s i given with
  | nil => simp [State.codeLayers]
  | cons f r ih =>
    unfold State.codeLayers
    dsimp only
    split
    · rw [ih]
      split <;> simp
    · exact ih ..

@[simp] theorem State.codeBlockRow_control (s : State) (e : Nat) (b : BlockRow) (fr : EngineFrame) (given : List EncRow) :
    (s.codeBlockRow e b fr given).control = s.control := by
  simp [State.codeBlockRow]

@[simp] theorem State.codeFirst_control (s : State) (e : Nat) (b : BlockRow) (given : List EncRow) :
    (s.codeFirst e b given).2.control = s.control := by
  unfold State.codeFirst
  repeat' split
  all_goals simp

@[simp] theorem State.moveDue_control (s : State) (o from_ to_ : Nat) : (s.moveDue o from_ to_).control = s.control := by
  simp [State.moveDue]

@[simp] theorem State.encGoes_control (s : State) (o k : Nat) : (s.encGoes o k).control = s.control := by
  unfold State.encGoes
  split <;> simp

@[simp] theorem State.encMoves_control (s : State) : s.encMoves.control = s.control :=
  State.foldl_control (fun t c => by split <;> simp) _ _

@[simp] theorem State.encodeRow_control (s : State) (e : Nat) (given : List EncRow) :
    (s.encodeRow e given).control = s.control := by
  unfold State.encodeRow
  split <;> simp

@[simp] theorem State.ddBytes_control (s : State) (o frame : Nat) (f : FrameBits) (first last : Bool) :
    (s.ddBytes o frame f first last).2.control = s.control := by
  unfold State.ddBytes
  split <;> simp

theorem State.emitPacket_control {s t : State} {o : Nat} {x : EncCtx} {f : FrameBits} {whole : Bool}
    (ht : s.emitPacket o x f whole = some t) : t.control = s.control := by
  unfold State.emitPacket at ht
  dsimp only at ht
  generalize hdd : (if f.ddId ≠ 0 ∧ s.vcodec o = 3 then State.ddBytes _ _ _ _ _ _ else _ : Bytes × State) = dd at ht
  have h : dd.2.control = s.control := by
    rw [← hdd]
    split <;> simp
  clear hdd
  split at ht
  · cases ht
  split at ht <;> rename_i e <;> cases ht
  · simpa [h] using State.hwAlloc_control_of e
  · simpa [h] using State.hwAlloc_control_of e

@[simp] theorem State.endBits_control (s : State) (o q : Nat) (h : W32) : (s.endBits o q h).control = s.control := by
  unfold State.endBits
  split
  · rename_i e
    simpa using State.dequeue_control e
  · rfl

@[simp] theorem State.packetise_control (s : State) (o : Nat) : (s.packetise o).control = s.control := by
  unfold State.packetise
  dsimp only
  split
  · rfl
  split
  · rfl
  split
  · split
    · rfl
    · rename_i e
      simpa using State.dequeue_control e
  split
  · split <;> simp
  split
  · simp
  split
  · split <;> simp
  split
  · split <;> simp
  · rename_i e
    have h := State.emitPacket_control e
    split <;> simp [h]

@[simp] theorem State.surfCreate_control (s : State) (o : Nat) : resControl (s.surfCreate o) s := by
  unfold State.surfCreate
  dsimp only
  simp only [resControl_ite]
  refine ⟨fun _ => by simp, fun _ => ⟨fun _ => ?_, fun _ => ?_⟩⟩
  · split <;> simp
  · split
    · rename_i e
      simpa using s.placeContext_control _ _ _ e
    · simp

/-- The deletion of an output ends its context's frames. -/
theorem State.surfDelete_encoder_control (s : State) (o : Nat) (f : Nat × EngineFrame) :
    (f.2.layers.foldl (fun (s : State) (l : LayerFrame) =>
        if l.enqueued || !s.hasBits o l.handle then s else s.decRef 7 l.handle)
      ((f.2.layers.foldl (fun (s : State) (l : LayerFrame) => l.store.elim s s.dropStore) s).setEncFrame f.1 none)).control =
      s.control := by
  rw [State.foldl_control fun t l => by split <;> simp, State.setEncFrame_control, State.foldl_control fun t l => by simp]

@[simp] theorem State.surfDelete_control (s : State) (o : Nat) : (s.surfDelete o).control = s.control := by
  unfold State.surfDelete
  dsimp only
  split
  · simp
  · generalize ha : List.foldl _ ((s.dropChains o).hwAllocDrop 7 (packetWork o)) _ = a
    have h : a.control = s.control := by
      rw [← ha, State.foldl_control fun t f => State.surfDelete_encoder_control t o f]
      simp
    simp [h]

@[simp] theorem State.encMove_control (s : State) (o eng : Nat) : resControl (s.encMove o eng) s := by
  unfold State.encMove
  repeat' split
  all_goals simp

@[simp] theorem State.cutBuffer_control (s : State) (o : Nat) : (s.cutBuffer o).control = s.control := by
  simp [State.cutBuffer]

@[simp] theorem State.endPictures_control (s : State) (e : Nat) (late : List BlockRow) :
    (s.endPictures e late).control = s.control := by
  simp [State.endPictures]

@[simp] theorem State.loseRows_control (s : State) (e : Nat) : (s.loseRows e).control = s.control := by
  simp [State.loseRows]

@[simp] theorem State.sinkMoves_control (s : State) (o e : Nat) : (s.sinkMoves o e).control = s.control := by
  unfold State.sinkMoves
  split <;> simp

@[simp] theorem State.encEngineOut_control (s : State) (e : Nat) : (s.encEngineOut e).control = s.control := by
  unfold State.encEngineOut
  dsimp only
  rw [State.foldl_control fun t o => by simp, State.foldl_control fun t o => by split <;> simp]
  split <;> simp

@[simp] theorem State.encEngineBack_control (s : State) : s.encEngineBack.control = s.control :=
  State.foldl_control (fun t o => by split <;> simp) _ _

theorem execEncodeRow_control (engine : Fin 4) (rows : List EncRow) (s : State) : outControl (execEncodeRow engine rows s) s := by
  simp [execEncodeRow]

theorem execPacketise_control (output : Fin 16384) (s : State) : outControl (execPacketise output s) s := by
  simp [execPacketise]

theorem execVenCntClr_control (engine : Fin 4) (s : State) : outControl (execVenCntClr engine s) s := by
  simp [execVenCntClr]

end Sys2Proof.Machine

/-!
PROOF. The same for the resets of blocks and the memory controller. A part that comes back may lead from DEGRADED to SERVICE.
-/

namespace Sys2Proof.Machine

/-! ### Resets of blocks -/

@[simp] theorem State.atriumLoses_control (s : State) : s.atriumLoses.control = s.control := by
  simp [State.atriumLoses]

@[simp] theorem State.registrarLoses_control (s : State) : s.registrarLoses.control = s.control := by
  simp [State.registrarLoses]

@[simp] theorem State.vaultLoses_control (s : State) : s.vaultLoses.control = s.control := by
  simp [State.vaultLoses]

@[simp] theorem State.forwarderLoses_control (s : State) : s.forwarderLoses.control = s.control := by
  simp [State.forwarderLoses]

@[simp] theorem State.tmgLoses_control (s : State) : s.tmgLoses.control = s.control := by
  simp [State.tmgLoses]

@[simp] theorem State.docentLoses_control (s : State) : s.docentLoses.control = s.control := by
  simp [State.docentLoses]

@[simp] theorem State.audioLoses_control (s : State) : s.audioLoses.control = s.control := by
  simp [State.audioLoses]

@[simp] theorem State.clusterLoses_control (s : State) (cl : Nat) : (s.clusterLoses cl).control = s.control := by
  simp [State.clusterLoses]

@[simp] theorem State.decoderLoses_control (s : State) (e : Nat) : (s.decoderLoses e).control = s.control := by
  simp [State.decoderLoses]

@[simp] theorem State.encoderLoses_control (s : State) (e : Nat) : (s.encoderLoses e).control = s.control := by
  simp [State.encoderLoses]

@[simp] theorem State.compositorLoses_control (s : State) : s.compositorLoses.control = s.control := by
  simp [State.compositorLoses]

@[simp] theorem State.blockLoses_control (s : State) (wing num : Nat) : (s.blockLoses wing num).control = s.control := by
  unfold State.blockLoses
  split <;> simp

@[simp] theorem State.wipeBlock_control (s : State) (wing num : Nat) : (s.wipeBlock wing num).control = s.control := by
  simp [State.wipeBlock]

@[simp] theorem State.resetBlock_control (s : State) (wing num : Nat) : (s.resetBlock wing num).control = s.control := by
  simp [State.resetBlock]

@[simp] theorem State.contain_control (s : State) (wing num cause : Nat) : (s.contain wing num cause).control = s.control := by
  simp [State.contain]

@[simp] theorem State.containFree_control (s : State) (wing num : Nat) : (s.containFree wing num).control = s.control := by
  simp [State.containFree]

@[simp] theorem State.failItem_control (s : State) (wing num : Nat) (it : ItemFlow) :
    (s.failItem wing num it).control = s.control := by
  cases it with
  | stream st =>
    dsimp only [State.failItem]
    split <;> simp
  | _ => simp [State.failItem]

/-! What may lead to another mode, but not out of OFF or SAFE_STOP. -/

/-- The commands waiting and the fuses stay, and OFF and SAFE_STOP are not left. -/
def Steady (a b : List Instr × Mode × Otp) : Prop := a.1 = b.1 ∧ a.2.2 = b.2.2 ∧ (b.2.1 = .off ∨ b.2.1 = .safeStop → a.2.1 = b.2.1)

@[simp] theorem Steady.refl (a : List Instr × Mode × Otp) : Steady a a := ⟨rfl, rfl, fun _ => rfl⟩

theorem Steady.trans {a b c : List Instr × Mode × Otp} (h : Steady a b) (k : Steady b c) : Steady a c := by
  obtain ⟨hpending, hotp, hmode⟩ := h
  obtain ⟨kpending, kotp, kmode⟩ := k
  exact ⟨hpending.trans kpending, hotp.trans kotp, fun hc => (hmode (kmode hc ▸ hc)).trans (kmode hc)⟩

theorem Steady.foldl {β : Type} {f : State → β → State} (hf : ∀ s b, Steady (f s b).control s.control) (l : List β) (s : State) :
    Steady (l.foldl f s).control s.control :=
  List.foldlRecOn (motive := fun t : State => Steady t.control s.control) _ _ (.refl _) fun t ht b _ => (hf t b).trans ht

/-- The same in another mode. -/
def inMode (mode : Mode) (a : List Instr × Mode × Otp) : List Instr × Mode × Otp := (a.1, mode, a.2.2)

theorem inMode_control (mode : Mode) (s : State) : (s.pending, mode, s.otp) = inMode mode s.control := by
  simp only [inMode, State.control]

theorem State.enterMode_control (s : State) (new : Mode) (num cause : Nat) :
    (s.enterMode new num cause).control = inMode new s.control := by
  unfold State.enterMode
  dsimp only
  split <;> simp [inMode_control]

theorem Steady.inMode {s : State} (h : ¬ (s.m.mode = .off ∨ s.m.mode = .safeStop)) (mode : Mode) :
    Steady (inMode mode s.control) s.control := ⟨rfl, rfl, fun hm => absurd hm h⟩

/-- A mode change elsewhere than in OFF and SAFE_STOP. -/
theorem State.enterMode_steady {s : State} (h : ¬ (s.m.mode = .off ∨ s.m.mode = .safeStop)) (new : Mode) (num cause : Nat) :
    Steady (s.enterMode new num cause).control s.control := by
  rw [State.enterMode_control]
  exact .inMode h new

theorem State.partBackBy_steady (s : State) (p : Part) {f : State → State} (hf : ∀ s, (f s).control = s.control) :
    Steady (s.partBackBy p f).control s.control := by
  unfold State.partBackBy
  split
  · dsimp only
    generalize hu : State.raise _ 4 0 0 (partDetail p 0) = u
    have h : u.control = s.control := by simp [← hu, hf]
    split
    · rename_i hm
      exact h ▸ State.enterMode_steady (by simp [hm.1]) ..
    · simp [h]
  · simp

theorem State.partBack_steady (s : State) (p : Part) : Steady (s.partBack p).control s.control :=
  s.partBackBy_steady p fun _ => rfl

theorem State.vaultBack_steady (s : State) : Steady s.vaultBack.control s.control := by
  unfold State.vaultBack
  dsimp only
  split
  · simp
  · exact (Steady.foldl State.partBack_steady _ _).trans (State.partBackBy_steady _ _ fun t => by simp)

/-- What a command answers that may change the mode. -/
def outSteady (o : Out) (s : State) : Prop := ∀ t, o = .next t → Steady t.control s.control

@[simp] theorem outSteady_next {t s : State} : outSteady (.next t) s ↔ Steady t.control s.control :=
  ⟨fun h => h t rfl, fun h _ e => by cases e; exact h⟩

@[simp] theorem outSteady_ite {c : Prop} [Decidable c] {a b : Out} {s : State} :
    outSteady (if c then a else b) s ↔ (c → outSteady a s) ∧ (¬ c → outSteady b s) := by
  split <;> simp [*]

theorem outControl.steady {o : Out} {s : State} (h : outControl o s) : outSteady o s := fun t e => h t e ▸ .refl _

theorem State.clusterBack_steady (s : State) (cl : Nat) : Steady (s.clusterBack cl).control s.control := by
  unfold State.clusterBack
  dsimp only
  split
  · refine State.partBackBy_steady _ _ fun t => ?_
    split
    · simp
    · split <;> simp
  · rw [State.withLimits_control]
    · simp
    · split
      · simp
      · split <;> simp

theorem State.atriumBack_steady (s : State) : Steady s.atriumBack.control s.control := Steady.foldl State.partBack_steady _ _

theorem State.partsBack_steady (s : State) (wing num : Nat) : Steady (s.partsBack wing num).control s.control := by
  unfold State.partsBack
  split
  · exact s.atriumBack_steady
  · exact s.vaultBack_steady
  · split
    · exact s.clusterBack_steady _
    · simp
  · split
    · split
      · simpa using s.partBack_steady _
      · simp
    · split
      · split
        · simpa using s.partBack_steady _
        · simp
      · simp
  · simp

theorem State.blockReturns_steady (s : State) (wing num : Nat) : Steady (s.blockReturns wing num).control s.control := by
  unfold State.blockReturns
  dsimp only
  generalize hu : State.partsBack _ wing num = u
  have h : Steady u.control s.control := by
    rw [← hu]
    refine (State.partsBack_steady ..).trans ?_
    simp
  split <;> simpa using h

theorem execCellTimeout_control (wing blk cell : Nat) (tx : CellTx) (s : State) :
    outControl (execCellTimeout wing blk cell tx s) s := by
  simp [execCellTimeout]

@[simp] theorem resControl_map_refuseIf {c : Bool} {e : Nat} {f : Unit → State} {s : State} :
    resControl (f <$> refuseIf c e) s ↔ (c = false → (f ()).control = s.control) := by
  cases c
  · exact ⟨fun h _ => h _ rfl, fun h t e => by cases e; exact h rfl⟩
  · exact ⟨fun _ h => (nomatch h), fun _ => resControl_error e s⟩

@[simp] theorem State.writeBlkReset_control (s : State) (wing : Nat) (v : W32) : resControl (s.writeBlkReset wing v) s := by
  simp [State.writeBlkReset]

theorem execBlockReset_control (wing : Fin 4) (v : W32) (s : State) : outControl (execBlockReset wing v s) s := by
  simp [execBlockReset]

theorem State.blockResetDone_steady (s : State) (wing blk : Nat) : Steady (s.blockResetDone wing blk).control s.control := by
  unfold State.blockResetDone
  split
  · exact s.blockReturns_steady wing blk
  · simp

theorem execCdcParityError_control (wing blk : Nat) (queue : CdcQueue) (s : State) :
    outControl (execCdcParityError wing blk queue s) s := by
  simp [execCdcParityError]

/-! ### The memory controller -/

@[simp] theorem State.wakeChannel_control (s : State) (ch : Nat) : (s.wakeChannel ch).control = s.control := by
  simp [State.wakeChannel]

@[simp] theorem State.sleepDevice_control (s : State) (d : Nat) : (s.sleepDevice d).control = s.control := by
  simp [State.sleepDevice]

@[simp] theorem State.awhile_control (s : State) (d : Nat) {f : State → State} (hf : ∀ t, (f t).control = t.control) :
    (s.awhile d f).control = s.control := by
  simp [State.awhile, hf]

@[simp] theorem State.rowAccess_control (s : State) (u : Nat) : (s.rowAccess u).control = s.control := by
  simp [State.rowAccess]

@[simp] theorem State.closeRow_control (s : State) (u : Nat) : (s.closeRow u).control = s.control := by
  simp [State.closeRow]

@[simp] theorem State.logBurst_control (s : State) (u kind source : Nat) : (s.logBurst u kind source).control = s.control := by
  simp [State.logBurst]

@[simp] theorem State.correctBurst_control (s : State) (u : Nat) : (s.correctBurst u).control = s.control := by
  simp [State.correctBurst]

@[simp] theorem State.badBurst_control (s : State) (u source : Nat) : (s.badBurst u source).control = s.control := by
  simp [State.badBurst]

@[simp] theorem State.burstRead_control (s : State) (fault source u : Nat) : (s.burstRead fault source u).control = s.control := by
  unfold State.burstRead
  split <;> simp

@[simp] theorem State.burstWrite_control (s : State) (fault source u lo : Nat) (data : Bytes) :
    (s.burstWrite fault source u lo data).control = s.control := by
  simp [State.burstWrite]

@[simp] theorem State.burstScrub_control (s : State) (fault u : Nat) : (s.burstScrub fault u).control = s.control := by
  unfold State.burstScrub
  split <;> simp

@[simp] theorem State.setChQueue_control (s : State) (c : Nat) (l : List MemEntry) : (s.setChQueue c l).control = s.control := by
  simp [State.setChQueue]

@[simp] theorem State.answerReqs_control (n : Nat) (s : State) : (State.answerReqs n s).control = s.control := by
  induction n generalizing s with
  | zero => simp [State.answerReqs]
  | succ n ih =>
    unfold State.answerReqs
    split <;> simp [ih]

@[simp] theorem State.admitStalled_control (s : State) : s.admitStalled.control = s.control := by
  simp [State.admitStalled]

@[simp] theorem State.gotBurst_control (s : State) (q : MemEntry) (data : Bytes) (bad : Bool) :
    (s.gotBurst q data bad).control = s.control := by
  simp [State.gotBurst]

@[simp] theorem State.serveEntry_control (s : State) (older : List MemEntry) (q : MemEntry) :
    (s.serveEntry older q).control = s.control := by
  unfold State.serveEntry
  split <;> simp

@[simp] theorem State.turn_control (s : State) (c : Nat) : (s.turn c).control = s.control := by
  simp [State.turn]

@[simp] theorem State.channelGrant_control (s : State) (c : Nat) : (s.channelGrant c).control = s.control := by
  unfold State.channelGrant
  dsimp only
  repeat' split
  all_goals simp

@[simp] theorem State.channelGrants_control (s : State) (l : List (Fin 48)) : (s.channelGrants l).control = s.control := by
  simp [State.channelGrants]

@[simp] theorem State.memRequest_control (s : State) (source : BitVec 16) (addr len : Nat) (data : Option Bytes)
    (faults : List BurstFault) :
    (s.memRequest source addr len data faults).control = s.control := by
  simp [State.memRequest]

@[simp] theorem State.writeMctCfg_control (s : State) (v : W32) : resControl (s.writeMctCfg v) s := by
  simp [State.writeMctCfg]

theorem execMemoryRead_control (source : BitVec 16) (addr len : Nat) (faults : List BurstFault) (grants : List (Fin 48))
    (s : State) :
    outControl (execMemoryRead source addr len faults grants s) s := by
  simp [execMemoryRead]

theorem execMemoryWrite_control (source : BitVec 16) (addr : Nat) (data : Bytes) (faults : List BurstFault) (grants : List
    (Fin 48)) (s : State) :
    outControl (execMemoryWrite source addr data faults grants s) s := by
  simp [execMemoryWrite]

theorem execRefresh_control (channel : Fin 48) (bank : Fin 16) (s : State) : outControl (execRefresh channel bank s) s := by
  simp [execRefresh]

theorem execRetrainVisit_control (read write : BitVec 8) (s : State) : outControl (execRetrainVisit read write s) s := by
  unfold execRetrainVisit
  repeat' split
  all_goals simp

theorem execScrubStep_control (channel : Fin 48) (step : ScrubRead) (s : State) : outControl (execScrubStep channel step s) s := by
  simp [execScrubStep]

theorem execDevicePowerDown_control (device : Fin 12) (s : State) : outControl (execDevicePowerDown device s) s := by
  simp [execDevicePowerDown]

theorem execMctCntClr_control (s : State) : outControl (execMctCntClr s) s := by
  simp [execMctCntClr]

end Sys2Proof.Machine

/-!
PROOF. The same for the supervisor, which changes the mode, and for power, which leads to OFF and out of it.
-/

namespace Sys2Proof.Machine

/-! ### The supervisor, watchdogs and clocks -/

@[simp] theorem State.partStops_control (s : State) (p : Part) : (s.partStops p).control = s.control := by
  cases p <;> simp [State.partStops]

@[simp] theorem State.takeOut_control (s : State) (p : Part) (cause : Nat) : (s.takeOut p cause).control = s.control := by
  unfold State.takeOut
  split
  · split <;> simp
  · simp

theorem State.recoverWing_control (s : State) (w cause : Nat) : (s.recoverWing w cause).control = inMode .recovery s.control := by
  simp [State.recoverWing, State.enterMode_control]

@[simp] theorem State.logTrigger_control (s : State) (t : Trigger) : (s.logTrigger t).control = s.control := by
  cases t <;> simp [State.logTrigger]

@[simp] theorem State.stopEgress_control (s : State) : s.stopEgress.control = s.control := by
  simp [State.stopEgress]

theorem State.safeStop_control (s : State) (cause : Nat) : (s.safeStop cause).control = inMode .safeStop s.control := by
  simp [State.safeStop, inMode_control]

theorem State.toSafeStop_control (s : State) (cause : Nat) : (s.toSafeStop cause).control = inMode .safeStop s.control := by
  simp [State.toSafeStop, State.safeStop_control]

theorem State.warmReset_control (s : State) (bit : Nat) : ∃ mode, (s.warmReset bit).control = inMode mode s.control := by
  unfold State.warmReset
  dsimp only
  split
  · exact ⟨.safeStop, by simp [State.safeStop_control]⟩
  · exact ⟨.powerUp, by simp [inMode_control]⟩

theorem State.toWarmReset_control (s : State) (bit : Nat) : ∃ mode, (s.toWarmReset bit).control = inMode mode s.control := by
  unfold State.toWarmReset
  dsimp only
  split
  · exact ⟨.safeStop, by simp [State.toSafeStop_control]⟩
  · obtain ⟨mode, hm⟩ := (s.sup.reported.foldl State.logTrigger s).stopEgress.warmReset_control bit
    exact ⟨mode, by simp [hm]⟩

theorem State.verdict_of_halted {s : State} (h : s.m.mode = .off ∨ s.m.mode = .safeStop) (t : Trigger) :
    s.verdict t = .nothing := by
  simp [State.verdict, h]

theorem State.carryOut_steady (s : State) (t : Trigger) : Steady (s.carryOut t).control s.control := by
  by_cases h : s.m.mode = .off ∨ s.m.mode = .safeStop
  · simp [State.carryOut, State.verdict_of_halted h]
  · unfold State.carryOut
    split
    · simpa [State.toSafeStop_control] using Steady.inMode h .safeStop
    · rename_i b _
      obtain ⟨mode, hm⟩ := (s.logTrigger t).toWarmReset_control b
      simpa [hm] using Steady.inMode h mode
    · simpa [State.recoverWing_control] using Steady.inMode h .recovery
    · dsimp only
      generalize hu : State.takeOut _ _ _ = u
      have hs : u.control = s.control := by simp [← hu]
      split
      · simpa [State.enterMode_control, hs] using Steady.inMode h .degraded
      · simp [hs]
    · simp

theorem State.stopAmong_of_halted {s : State} (h : s.m.mode = .off ∨ s.m.mode = .safeStop) (ts : List Trigger) :
    s.stopAmong ts = none := by
  simp [State.stopAmong, State.verdict_of_halted h]

theorem State.warmAmong_of_halted {s : State} (h : s.m.mode = .off ∨ s.m.mode = .safeStop) (ts : List Trigger) :
    s.warmAmong ts = none := by
  simp [State.warmAmong, State.verdict_of_halted h]

theorem State.supervise_steady (s : State) (ts : List Trigger) : Steady (s.supervise ts).control s.control := by
  by_cases h : s.m.mode = .off ∨ s.m.mode = .safeStop
  · simpa only [State.supervise, State.stopAmong_of_halted h, State.warmAmong_of_halted h] using
      Steady.foldl State.carryOut_steady _ s
  · unfold State.supervise
    split
    · simpa [State.toSafeStop_control] using Steady.inMode h .safeStop
    split
    · rename_i b _
      obtain ⟨mode, hm⟩ := (ts.foldl State.logTrigger s).toWarmReset_control b
      simpa [hm] using Steady.inMode h mode
    · exact Steady.foldl State.carryOut_steady _ s

theorem execSupervisorDecision_steady (faults : List Trigger) (s : State) : outSteady (execSupervisorDecision faults s) s := by
  simpa [execSupervisorDecision] using
    State.supervise_steady { s with sup := { s.sup with reported := [] } } (s.sup.reported ++ faults)

@[simp] theorem State.releaseLeg_control (s : State) (l : Nat) : (s.releaseLeg l).control = s.control := by
  simp [State.releaseLeg]

theorem execChpLegIsoClr_control (v : W32) (s : State) : outControl (execChpLegIsoClr v s) s := by
  simp [execChpLegIsoClr]

@[simp] theorem State.checkerFails_control (s : State) (code : Nat) : (s.checkerFails code).control = s.control := by
  simp [State.checkerFails]

theorem execSelftestRound_control (passed : List (Fin 8)) (s : State) : outControl (execSelftestRound passed s) s := by
  simp [execSelftestRound]

theorem execBlockWatchdogExpiry_control (wing : Nat) (watch : BlockWatch) (s : State) :
    outControl (execBlockWatchdogExpiry wing watch s) s := by
  unfold execBlockWatchdogExpiry
  dsimp only
  repeat' split
  all_goals simp

theorem execHeartbeat_control (silent : List (Fin 5)) (s : State) : outControl (execHeartbeat silent s) s := by
  simp [execHeartbeat]

theorem execHeartbeatMiss_control (wing : Fin 5) (s : State) : outControl (execHeartbeatMiss wing s) s := by
  unfold execHeartbeatMiss
  split <;> simp

theorem execWdtServicePost_control (s : State) : outControl (execWdtServicePost s) s := by
  unfold execWdtServicePost
  split <;> simp

@[simp] theorem State.kick_control (s : State) (v : W32) : (s.kick v).control = s.control := by
  simp [State.kick]

theorem execChpWdtKick_control (v : W32) (s : State) : outControl (execChpWdtKick v s) s := by
  simp [execChpWdtKick]

theorem execChipWatchdogExpiry_steady (s : State) : outSteady (execChipWatchdogExpiry s) s := by
  unfold execChipWatchdogExpiry
  split
  · simp
  · exact outSteady_next.2 ((State.supervise_steady ..).trans (by simp))

theorem execPllLossOfLock_control (pll : Fin 7) (s : State) : outControl (execPllLossOfLock pll s) s := by
  simp [execPllLossOfLock]

theorem execClockInputLost_control (input : ClockInput) (s : State) : outControl (execClockInputLost input s) s := by
  unfold execClockInputLost
  split <;> simp

theorem execLaneReferencePresent_control (k : Fin 4) (s : State) : outControl (execLaneReferencePresent k s) s := by
  simp [execLaneReferencePresent]

theorem execWingRestartDone_steady (s : State) : outSteady (execWingRestartDone s) s := by
  unfold execWingRestartDone
  split
  · simp
  · dsimp only
    split
    · rename_i w from_ _ _
      simpa using Steady.foldl (fun t b => t.blockReturns_steady w b) (wingBlocks w) s
    · simp

theorem execRecoveryWindowExpiry_steady (s : State) : outSteady (execRecoveryWindowExpiry s) s := by
  obtain ⟨reach, hreach⟩ : ∃ f, f = State.reach := ⟨_, rfl⟩
  obtain ⟨enter, henter⟩ : ∃ f, f = State.enterMode := ⟨_, rfl⟩
  unfold execRecoveryWindowExpiry
  rw [← hreach, ← henter]
  split
  · simp
  split
  · rename_i hm
    have hr (n : Nat) : (reach s n).control = s.control := by simp [hreach]
    have he (t : State) (new : Mode) (num cause : Nat) : (enter t new num cause).control = inMode new t.control := by
      simp [henter, State.enterMode_control]
    simpa [he, hr] using Steady.inMode (s := s) (by simp [hm]) _
  · simp

/-! ### Supply, life cycle, management target, test port, time -/

@[simp] theorem State.crossed_control (s : State) (v lo hi : Nat) : (s.crossed v lo hi).2.control = s.control := by
  unfold State.crossed
  repeat' split
  all_goals simp

theorem State.dropOff_control (s : State) (p : Pins) : (s.dropOff p).control = inMode .off s.control := by
  simp [State.dropOff, State.powerOff, inMode_control]

/-- Only OFF_TRANSITION leads to OFF. -/
theorem execOffTransition_control {cause : OffCause} {s t : State} (h : execOffTransition cause s = .next t) :
    t.control = s.control ∨ t.control = inMode .off s.control := by
  have hd (s : State) (p : Pins) := s.dropOff_control p
  unfold execOffTransition at h
  dsimp only at h
  split at h
  · split at h
    · cases h; simp
    split at h
    · cases h; right; simp [hd]
    split at h
    · cases h; left; simp
    · cases h; right; simp [hd]
  · split at h
    · cases h; left; simp
    split at h
    · cases h; left; simp
    · cases h; right; simp [hd]

/-- Only POWER_ON leaves OFF. -/
theorem execPowerOn_control {mv : Nat} {porb : Bool} {s t : State} (h : execPowerOn mv porb s = .next t) :
    t.control = s.control ∨ s.m.mode = .off ∧ t.control = inMode .powerUp s.control := by
  unfold execPowerOn at h
  generalize decide ((if s.pins.overVolt then 78000 else 81000) ≤ mv) = past at h
  dsimp only at h
  split at h
  · cases h; simp
  rename_i hm
  split at h
  · cases h
    exact .inr ⟨not_not.mp hm, by simp [inMode_control, State.reset]⟩
  · cases h; left; simp

theorem execRailStepTimeout_control (rail : Nat) (s : State) : outControl (execRailStepTimeout rail s) s := by
  simp [execRailStepTimeout]

theorem execRailRetry_control (s : State) : outControl (execRailRetry s) s := by
  simp [execRailRetry]

@[simp] theorem State.judgeTap_control (s : State) : s.judgeTap.control = s.control := by
  simp [State.judgeTap]

@[simp] theorem inMode_pending (m : Mode) (a : List Instr × Mode × Otp) : (inMode m a).1 = a.1 := rfl

/-- A life-cycle change blows fuses, nothing else of OTP. -/
theorem State.changeLife_control (s : State) (target : Nat) :
    ∃ mode, (s.changeLife target).control = (s.pending, mode, (s.blow target).otp) := by
  have h : s.stopEgress.control = s.control := by simp
  simp only [State.control, Prod.mk.injEq] at h
  obtain ⟨hp, -, ho⟩ := h
  unfold State.changeLife
  dsimp only
  generalize hu : State.judgeTap _ = u
  have hc : u.control = (s.pending, s.stopEgress.m.mode, (s.blow target).otp) := by
    rw [← hu, State.judgeTap_control]
    simp [State.blow, State.control, hp, ho]
  obtain ⟨mode, hm⟩ := u.toWarmReset_control 4
  exact ⟨mode, by rw [hm, hc, inMode]⟩

@[simp] theorem State.i2cByte_control (s : State) : s.i2cByte.control = s.control := by
  simp [State.i2cByte]

theorem execI2cRead_control (addr : Nat) (ptr : Option (BitVec 13)) (count : Nat) (s : State) :
    outControl (execI2cRead addr ptr count s) s := by
  simp [execI2cRead]

theorem execI2cWrite_control (addr : Nat) (ptr : BitVec 13) (data : Bytes) (s : State) :
    outControl (execI2cWrite addr ptr data s) s := by
  simp [execI2cWrite]

@[simp] theorem State.loadTap_control (s : State) (op : BitVec 8) : (s.loadTap op).control = s.control := by
  simp [State.loadTap]

theorem execBypass_control (s : State) : outControl (execBypass s) s := by
  simp [execBypass]

theorem execIdcode_control (s : State) : outControl (execIdcode s) s := by
  simp [execIdcode]

theorem execSamplePreload_control (cells : List Bool) (s : State) : outControl (execSamplePreload cells s) s := by
  simp [execSamplePreload]

theorem execExtest_control (s : State) : outControl (execExtest s) s := by
  simp [execExtest]

theorem execClamp_control (s : State) : outControl (execClamp s) s := by
  simp [execClamp]

theorem execHighz_control (s : State) : outControl (execHighz s) s := by
  simp [execHighz]

theorem execExtestPulse_control (s : State) : outControl (execExtestPulse s) s := by
  simp [execExtestPulse]

theorem execExtestTrain_control (s : State) : outControl (execExtestTrain s) s := by
  simp [execExtestTrain]

theorem execDebugInstruction_control (opcode : BitVec 8) (s : State) : outControl (execDebugInstruction opcode s) s := by
  simp [execDebugInstruction]

theorem execTapReset_control (s : State) : outControl (execTapReset s) s := by
  simp [execTapReset]

theorem execPtpLoss_control (s : State) : outControl (execPtpLoss s) s := by
  simp [execPtpLoss]

theorem execPpsInEdge_control (highNs : Nat) (s : State) : outControl (execPpsInEdge highNs s) s := by
  simp [execPpsInEdge]

theorem execPpsOutRise_control (s : State) : outControl (execPpsOutRise s) s := by
  simp [execPpsOutRise]

theorem execPpsOutFall_control (s : State) : outControl (execPpsOutFall s) s := by
  unfold execPpsOutFall
  split <;> simp

@[simp] theorem State.snapTimebase_control (s : State) (v : W32) : (s.snapTimebase v).control = s.control := by
  simp [State.snapTimebase]

theorem execChpTbSnap_control (v : W32) (s : State) : outControl (execChpTbSnap v s) s := by
  simp [execChpTbSnap]

end Sys2Proof.Machine

/-!
PROOF. The same for registers, objects, the image and JCP: a datagram changes what its command changes.
-/

namespace Sys2Proof.Machine

/-! ### Register access -/

@[simp] theorem State.readWord_control (s : State) (a : Nat) : (s.readWord a).2.control = s.control := by
  unfold State.readWord
  dsimp only
  repeat' split
  all_goals simp

@[simp] theorem okAll_pure {ε α : Type} {p : α → Prop} {a : α} : okAll (pure a : Except ε α) p ↔ p a := okAll_ok

@[simp] theorem okAll_map {ε α β : Type} {p : β → Prop} {r : Except ε α} {f : α → β} :
    okAll (f <$> r) p ↔ okAll r fun a => p (f a) := by
  cases r with
  | ok a => exact okAll_ok.trans (okAll_ok (p := fun a => p (f a))).symm
  | error e => exact ⟨fun _ => okAll_error, fun _ => okAll_error⟩

@[simp] theorem okAll_const {ε α : Type} {p : Prop} {r : Except ε α} (h : p) : okAll r fun _ => p := fun _ _ => h

@[simp] theorem okAll_resControl {r : Res State} {s : State} : (okAll r fun t => t.control = s.control) ↔ resControl r s := Iff.rfl

theorem resControl.trans {r : Res State} {t s : State} (h : resControl r t) (ht : t.control = s.control) : resControl r s :=
  fun u e => (h u e).trans ht

theorem resControl.bind {r : Res State} {f : State → Res State} {s : State} (h : resControl r s) (hf : ∀ t, resControl (f t) t) :
    resControl (r >>= f) s :=
  resControl_bind fun t e => (hf t).trans (h t e)

theorem resControl.map {r : Res State} {f : State → State} {s : State} (h : resControl r s) (hf : ∀ t, (f t).control = t.control) :
    resControl (f <$> r) s :=
  h.bind fun t => resControl_ok.2 (hf t)

@[simp] theorem resControl_map {α : Type} {r : Res α} {f : α → State} {s : State} (hf : ∀ a, (f a).control = s.control) :
    resControl (f <$> r) s :=
  resControl_bind fun a _ => resControl_ok.2 (hf a)

theorem resControl_foldlM {β : Type} {f : State → β → Res State} (hf : ∀ t b, resControl (f t b) t) (l : List β) (s : State) :
    resControl (l.foldlM f s) s := by
  induction l generalizing s with
  | nil => exact resControl_ok.2 rfl
  | cons b l ih => exact (hf s b).bind fun t => ih t

@[simp] theorem State.readWords_control (s : State) (a n : Nat) : (s.readWords a n).2.control = s.control :=
  State.foldl_control_snd (fun x k => by simp) _ _

@[simp] theorem State.writeTempTh_control (s : State) (v : W32) : resControl (s.writeTempTh v) s := by
  simp [State.writeTempTh]

@[simp] theorem State.writeWdtBlk_control (s : State) (u i : Nat) (v : W32) : resControl (s.writeWdtBlk u i v) s := by
  simp [State.writeWdtBlk]

@[simp] theorem State.writeClr_control (s : State) (r : Reg) (u : Nat) (v : W32) : (s.writeClr r u v).control = s.control := by
  simp [State.writeClr]

@[simp] theorem State.regWrite_control (s : State) (r : Reg) (u i : Nat) (v : W32) : resControl (s.regWrite r u i v) s := by
  unfold State.regWrite
  split <;> simp

@[simp] theorem State.writeWords_control (s : State) (ws : List (RegRef × W32)) : resControl (s.writeWords ws) s := by
  unfold State.writeWords
  refine resControl_unit_bind (resControl_unit_bind ?_)
  refine (resControl_foldlM (fun t e => ?_) _ _).bind fun t => ?_
  · split <;> simp
  refine (resControl_foldlM (fun t p => by simp) _ _).bind fun u => ?_
  dsimp only
  split <;> simp

@[simp] theorem State.writeRun_control (s : State) (a : Nat) (vs : List W32) (mask : Option (List W32)) :
    resControl (s.writeRun a vs mask) s := by
  simp [State.writeRun]

theorem execRegisterWrite_control (addr v : W32) (s : State) : outControl (execRegisterWrite addr v s) s := by
  simp [execRegisterWrite]

theorem execCounterLowRead_control (addr : W32) (s : State) : outControl (execCounterLowRead addr s) s := by
  unfold execCounterLowRead
  split <;> simp

/-! ### Attributes of objects -/

@[simp] theorem State.putAttrs_control (s : State) (ty id : Nat) (l : List (Nat × Bytes)) :
    (s.putAttrs ty id l).control = s.control := by
  simp [State.putAttrs]

@[simp] theorem State.modifyPool_control (s : State) (p : Nat) (l : List (Nat × Bytes)) : resControl (s.modifyPool p l) s := by
  simp [State.modifyPool]

/-! ### Operations on objects -/

@[simp] theorem State.writeXpRows_control (s : State) (c : Nat) (l : List (Nat × Bytes)) :
    (s.writeXpRows c l).control = s.control := by
  simp [State.writeXpRows]

@[simp] theorem State.legStart_control (s : State) (l : Nat) : (s.legStart l).control = s.control := by
  simp [State.legStart]

theorem State.streamStart_control {s n : State} (h : n.control = s.control) (st : Nat) :
    (s.streamStart n st).2.control = s.control := by
  unfold State.streamStart
  dsimp only
  generalize hu : (if (n.attr? tyStream st 0x109).isNone then State.setAttr _ _ _ _ _ else _ : State) = u
  have hc : u.control = s.control := by
    rw [← hu]
    split <;> simp [h]
  clear hu
  have hd : resControl (if State.wantsContext { u with vlt := { u.vlt with ctx := ndel u.vlt.ctx st } } st then
      State.decCreate { u with vlt := { u.vlt with ctx := ndel u.vlt.ctx st } } st
      else .ok { u with vlt := { u.vlt with ctx := ndel u.vlt.ctx st } }) s := by
    split
    · exact (State.decCreate_control _ _).trans (by simp [hc])
    · simp [hc]
  split
  · rfl
  · rename_i n2 e
    have h2 := hd n2 e
    split
    · rename_i n3 e3
      exact (State.catInsert_control n2 st n3 e3).trans h2
    · simp

@[simp] theorem State.objCreate_control (s : State) (ty id : Nat) (l : List (Nat × Bytes)) :
    (s.objCreate ty id l).2.control = s.control := by
  unfold State.objCreate
  dsimp only
  split
  · rfl
  · split
    · simp
    · exact State.streamStart_control (by simp) _
    · simp
    · simp
    · split
      · simp
      · split
        · rename_i e
          simpa using State.surfCreate_control _ _ _ e
        · rfl
    · simp

@[simp] theorem State.legMove_control (s : State) (l old : Nat) : (s.legMove l old).control = s.control := by
  simp [State.legMove]

@[simp] theorem State.legChange_control (s n : State) (l : Nat) : (s.legChange n l).control = n.control := by
  unfold State.legChange
  dsimp only
  split <;> split <;> simp

theorem State.streamChange_control (s n : State) (st : Nat) (given : List Nat) : resControl (s.streamChange n st given) n := by
  unfold State.streamChange
  dsimp only
  generalize hu : (if n.attr tyStream st 0x401 0 = 0 then List.foldl _ _ _ else _ : State) = u
  have hc : u.control = n.control := by
    rw [← hu]
    simp
  refine resControl.trans ?_ hc
  repeat' split
  all_goals exact resControl.bind (by simp) fun n4 => resControl.bind (by simp) fun n5 => by simp

@[simp] theorem State.subChange_control (n : State) (i : Nat) (given : List Nat) : (n.subChange i given).control = n.control := by
  simp [State.subChange]

@[simp] theorem State.outputChange_control (n : State) (o : Nat) (given : List Nat) : resControl (n.outputChange o given) n := by
  unfold State.outputChange
  dsimp only
  split
  · refine resControl.trans (State.encMove_control _ _ _) ?_
    split <;> simp
  · simp

@[simp] theorem State.shaperChange_control (n : State) (id : Nat) : (n.shaperChange id).control = n.control := by
  simp [State.shaperChange]

@[simp] theorem State.objModify_control (s : State) (ty id : Nat) (l : List (Nat × Bytes)) :
    resControl (s.objModify ty id l) s := by
  unfold State.objModify
  refine resControl_unit_bind (resControl_unit_bind (resControl_unit_bind ?_))
  dsimp only
  split
  · simp
  refine resControl_unit_bind ?_
  split
  · simp
  · exact (State.streamChange_control s _ id _).trans (State.putAttrs_control ..)
  · simp
  · simp
  · exact (State.outputChange_control _ id _).trans (State.putAttrs_control ..)
  · simp
  · simp

@[simp] theorem State.dropObj_control (s : State) (ty id : Nat) : (s.dropObj ty id).control = s.control := by
  simp [State.dropObj]

@[simp] theorem State.deleteSub_control (s : State) (i : Nat) : (s.deleteSub i).control = s.control := by
  simp [State.deleteSub]

@[simp] theorem State.deleteStream_control (s : State) (st : Nat) : (s.deleteStream st).control = s.control := by
  simp [State.deleteStream]

@[simp] theorem State.deleteLeg_control (s : State) (l : Nat) : (s.deleteLeg l).control = s.control := by
  simp [State.deleteLeg]

@[simp] theorem State.deleteOutput_control (s : State) (o : Nat) : (s.deleteOutput o).control = s.control := by
  simp [State.deleteOutput]

@[simp] theorem State.endOutput_control (s : State) (o : Nat) : (s.endOutput o).control = s.control := by
  simp [State.endOutput]

@[simp] theorem State.endOutputs_control (s : State) : s.endOutputs.control = s.control := by
  simp [State.endOutputs]

@[simp] theorem State.objDelete_control (s : State) (ty id : Nat) : okAll (s.objDelete ty id) fun r => r.1.control = s.control := by
  unfold State.objDelete
  simp only [okAll_bind]
  refine okAll_const (okAll_const ?_)
  split <;> simp

@[simp] theorem State.frameBegin_control (s : State) (p : Nat) : (s.frameBegin p).control = s.control := by
  unfold State.frameBegin
  repeat' split
  all_goals simp

theorem execFrameDue_control (output : Fin 16384) (s : State) : outControl (execFrameDue output s) s := by
  simp [execFrameDue]

theorem execFrameBegin_control (pipe : Fin 4) (s : State) : outControl (execFrameBegin pipe s) s := by
  simp [execFrameBegin]

theorem execBlockRowDone_control (pipe : Fin 4) (s : State) : outControl (execBlockRowDone pipe s) s := by
  simp [execBlockRowDone]

/-! ### The image -/

@[simp] theorem State.jcpSection_control (s : State) (p : Bytes) : resControl (s.jcpSection p) s := by
  unfold State.jcpSection
  refine resControl_unit_bind (resControl_unit_bind (resControl_bind fun l _ => resControl_unit_bind ?_))
  simp

@[simp] theorem State.keyRecord_control (s : State) (r : Bytes) : resControl (s.keyRecord r) s := by
  unfold State.keyRecord
  split <;> simp

@[simp] theorem State.keySection_control (s : State) (p : Bytes) : resControl (s.keySection p) s := by
  unfold State.keySection
  exact resControl_unit_bind (resControl_foldlM (fun t k => by simp) _ _)

@[simp] theorem State.regSection_control (s : State) (t : Nat) (p : Bytes) : resControl (s.regSection t p) s := by
  unfold State.regSection
  refine resControl_bind fun l _ => ?_
  dsimp only
  split
  · rename_i e
    refine resControl_ok.2 ?_
    exact ((resControl_foldlM (fun t e => by simp) _ _).bind fun t => by simp) _ e
  · simp

@[simp] theorem State.createFrom_control (s : State) (l : List (Nat × Bytes)) : (s.createFrom l).2.control = s.control := by
  unfold State.createFrom
  split <;> simp

@[simp] theorem State.objSection_control (s : State) (p : Bytes) : resControl (s.objSection p) s := by
  unfold State.objSection
  split
  · simp
  · refine resControl_foldlM (fun t k => ?_) _ _
    dsimp only
    split <;> simp

@[simp] theorem State.applySection_control (s : State) (x : Section) : resControl (s.applySection x) s := by
  unfold State.applySection
  split
  · exact resControl_map fun c => by simp
  · simp
  · simp
  · simp
  · simp
  · split <;> simp
  · simp

@[simp] theorem State.placeRegions_control (s : State) : resControl s.placeRegions s := by
  unfold State.placeRegions
  dsimp only
  split
  · simp
  · exact resControl_ok.2 (State.foldl_control_fst (fun a e => by simp) _ _)

@[simp] theorem State.readyBlocks_control (s : State) : s.readyBlocks.control = s.control := by
  simp [State.readyBlocks]

@[simp] theorem State.applyImage_control (s : State) (i : ImageInfo) : resControl (s.applyImage i) s := by
  unfold State.applyImage
  refine ((resControl_foldlM State.applySection_control _ _).trans (by simp)).bind fun t => t.placeRegions_control.bind fun u => ?_
  refine ((resControl_foldlM (fun v x => v.objSection_control _) _ _).trans u.readyBlocks_control).bind fun v => ?_
  exact resControl_ok.2 (State.foldl_control (fun w cl => by simp) _ _)

/-! ### JCP -/

@[simp] theorem State.finishRunning_control (s : State) (k opcode status : Nat) (tlvs : Bytes) :
    (s.finishRunning k opcode status tlvs).control = s.control := by
  unfold State.finishRunning
  split <;> simp

@[simp] theorem State.openWindow_control (s : State) : s.openWindow.control = s.control := by
  simp [State.openWindow]

@[simp] theorem State.helloIn_control (s : State) (k : Nat) (x : Session) (d : Datagram) :
    (s.helloIn k x d).control = s.control := by
  unfold State.helloIn
  dsimp only
  repeat' split
  all_goals simp

@[simp] theorem State.confirm_control (s : State) (k : Nat) (x : Session) (h : PendingHello) :
    (s.confirm k x h).control = s.control := by
  simp [State.confirm]

@[simp] theorem State.sendAll_control (s : State) (p : Nat) : (s.sendAll p).control = s.control :=
  State.foldl_control (fun t _ => by split <;> simp) _ _

@[simp] theorem State.jcpDrop_control (s : State) (k : Nat) : (s.jcpDrop k).control = s.control := by
  simp [State.jcpDrop]

/-- How a command's answer may change the commands waiting, the mode and the fuses. -/
def JcpDone.leads (R : List Instr × Mode × Otp → List Instr × Mode × Otp → Prop) (x : JcpDone) (s : State) : Prop :=
  match x with
  | .reply _ _ t | .later t => R t.control s.control
  | .first _ act => ∀ t : State, t.control = s.control → R (act t).control t.control

theorem State.jcpAnswer_leads {R : List Instr × Mode × Otp → List Instr × Mode × Otp → Prop} (hR : ∀ a, R a a) {s : State}
    (c : JcpCmd) (d : Datagram) {x : JcpDone} (hx : x.leads R s) : R (s.jcpAnswer c d x).control s.control := by
  cases x with
  | later t =>
    have h : R t.control s.control := hx
    dsimp only [State.jcpAnswer]
    split <;> simpa using h
  | reply status tlvs t =>
    dsimp only [State.jcpAnswer]
    generalize hu : (if decide (32 + tlvs.length ≤ c.ep.maxMsg) then t else s : State) = u
    have h : R u.control s.control := by
      rw [← hu]
      split
      · exact hx
      · exact hR _
    split <;> simpa using h
  | first tlvs act =>
    have h (m : Bytes) : ((s.sendMgmt (peerOf d) m).sendAll d.port).control = s.control := by simp
    exact h _ ▸ hx _ (h _)

theorem State.jcpWindow_leads {R : List Instr × Mode × Otp → List Instr × Mode × Otp → Prop} (hR : ∀ a, R a a) (s : State)
    (k : Nat) (x : Session) (ep : Epoch) (d : Datagram) {run : State → JcpCmd → JcpDone}
    (hrun : ∀ t c, t.jcpOn = true → (run t c).leads R t) : R (s.jcpWindow k x ep d run).control s.control := by
  have hmgmt (m : Bytes) : R (s.sendMgmt (peerOf d) m).control s.control := by simpa using hR _
  have hset (y : Session) : R (s.setSession k y).control s.control := by simpa using hR _
  have hanswer (y : Session) (c : JcpCmd) {z : JcpDone} (hz : z.leads R (s.setSession k y)) :
      R ((s.setSession k y).jcpAnswer c d z).control s.control := by
    simpa using State.jcpAnswer_leads hR c d hz
  unfold State.jcpWindow
  dsimp only
  split
  · exact hmgmt _
  split
  · exact hmgmt _
  split
  · exact hset _
  split
  · exact hmgmt _
  split
  · exact hanswer _ _ (hR _)
  rename_i hon
  split
  · exact hanswer _ _ (hR _)
  · exact hanswer _ _ (hrun _ _ (by simpa using hon))

@[simp] theorem State.ackEvent_control (s : State) (k : Nat) (seq : W32) : (s.ackEvent k seq).control = s.control := by
  unfold State.ackEvent
  split <;> simp

theorem State.jcpUnder_leads {R : List Instr × Mode × Otp → List Instr × Mode × Otp → Prop} (hR : ∀ a, R a a) (s : State)
    (k : Nat) (ep : Epoch) (d : Datagram) {run : State → JcpCmd → JcpDone}
    (hrun : ∀ t c, t.jcpOn = true → (run t c).leads R t) : R (s.jcpUnder k ep d run).control s.control := by
  unfold State.jcpUnder
  split
  · simpa using hR _
  split
  · simpa using hR _
  have hnext (u : State) (h : u.control = s.control) : R (match u.cur.sessions[k]? with
      | none => u
      | some x => if jcpRow d.payload = some 0x60 then u.ackEvent k (jSeq d.payload) else u.jcpWindow k x ep d run).control
      s.control := by
    rw [← h]
    split
    · exact hR _
    split
    · simpa using hR _
    · exact u.jcpWindow_leads hR _ _ _ _ hrun
  refine hnext _ ?_
  repeat' split
  all_goals simp

theorem State.jcpIngress_leads {R : List Instr × Mode × Otp → List Instr × Mode × Otp → Prop} (hR : ∀ a, R a a) (s : State)
    (d : Datagram) {run : State → JcpCmd → JcpDone} (hrun : ∀ t c, t.jcpOn = true → (run t c).leads R t) :
    R (s.jcpIngress d run).control s.control := by
  have hdrop (n : Nat) : R (s.jcpDrop n).control s.control := by simpa using hR _
  unfold State.jcpIngress
  dsimp only
  split
  · exact hdrop _
  split
  · exact hdrop _
  split
  · exact hdrop _
  split
  · exact hR _
  split
  · exact hdrop _
  split
  · exact hdrop _
  split
  · split
    · exact hdrop _
    split
    · exact hdrop _
    · simpa using hR _
  split
  · exact s.jcpUnder_leads hR _ _ _ hrun
  · exact hdrop _

theorem State.jcpNoRow_leads {R : List Instr × Mode × Otp → List Instr × Mode × Otp → Prop} (hR : ∀ a, R a a) (op : Nat)
    (s : State) (c : JcpCmd) : (State.jcpNoRow op s c).leads R s := by
  unfold State.jcpNoRow
  split
  · split <;> exact hR _
  · exact hR _
  · exact hR _

/-- A datagram changes what its row's command changes. -/
theorem State.jcpReceive_leads {R : List Instr × Mode × Otp → List Instr × Mode × Otp → Prop} (hR : ∀ a, R a a) (s : State)
    (d : Datagram) (row : Nat) {run : State → JcpCmd → JcpDone} (hrun : ∀ t c, t.jcpOn = true → (run t c).leads R t) :
    R (s.jcpReceive d row run).control s.control := by
  have hin (u : State) (h : u.control = s.control) {run : State → JcpCmd → JcpDone}
      (hrun : ∀ t c, t.jcpOn = true → (run t c).leads R t) : R (u.jcpIngress d run).control s.control :=
    h ▸ u.jcpIngress_leads hR d hrun
  unfold State.jcpReceive
  dsimp only
  split
  · split
    · split
      · exact hin _ (by simp) hrun
      · exact hR _
    · exact hin _ (by simp) fun t c _ => State.jcpNoRow_leads hR _ t c
  · exact hR _

/-- A datagram whose command leaves them alone. -/
theorem State.jcpReceive_control (s : State) (d : Datagram) (row : Nat) {run : State → JcpCmd → JcpDone}
    (hrun : ∀ t c, (run t c).leads Eq t) : (s.jcpReceive d row run).control = s.control :=
  s.jcpReceive_leads (fun _ => rfl) d row fun t c _ => hrun t c

theorem answered_leads {R : List Instr × Mode × Otp → List Instr × Mode × Otp → Prop} (hR : ∀ a, R a a) {s : State}
    {r : Res (Bytes × State)} (h : okAll r fun x => R x.2.control s.control) : (answered s r).leads R s := by
  unfold answered
  split
  · exact h _ rfl
  · exact hR _

@[simp] theorem State.clearStats_control (s : State) (ty id : Nat) : (s.clearStats ty id).control = s.control := by
  simp [State.clearStats]

theorem State.jcpRead_leads (s : State) (c : JcpCmd) : (s.jcpRead c).leads Eq s := by
  refine answered_leads (fun _ => rfl) ?_
  simp

theorem State.jcpWrite_leads (s : State) (c : JcpCmd) : (s.jcpWrite c).leads Eq s := by
  refine answered_leads (fun _ => rfl) ?_
  simp

theorem State.jcpCreate_leads (s : State) (c : JcpCmd) : (s.jcpCreate c).leads Eq s := by
  unfold State.jcpCreate
  split
  · rfl
  · exact s.createFrom_control _

theorem State.jcpModify_leads (s : State) (c : JcpCmd) : (s.jcpModify c).leads Eq s := by
  refine answered_leads (fun _ => rfl) ?_
  simp

theorem State.jcpDelete_leads (s : State) (c : JcpCmd) : (s.jcpDelete c).leads Eq s := by
  refine answered_leads (fun _ => rfl) ?_
  simp

theorem State.jcpKey_leads (s : State) (c : JcpCmd) : (s.jcpKey c).leads Eq s := by
  refine answered_leads (fun _ => rfl) ?_
  simp only [okAll_bind]
  refine okAll_const (okAll_const (okAll_const ?_))
  split <;> simp

theorem State.jcpStats_leads (s : State) (c : JcpCmd) : (s.jcpStats c).leads Eq s := by
  refine answered_leads (fun _ => rfl) ?_
  simp only [okAll_bind]
  refine okAll_const (okAll_const (okAll_const (okAll_const (okAll_const (okAll_const ?_)))))
  simp

theorem execHello_control (d : Datagram) (s : State) : outControl (execHello d s) s :=
  outControl_next.2 (s.jcpReceive_control d _ fun _ _ => rfl)

theorem execRead_control (d : Datagram) (s : State) : outControl (execRead d s) s :=
  outControl_next.2 (s.jcpReceive_control d _ State.jcpRead_leads)

theorem execWrite_control (d : Datagram) (s : State) : outControl (execWrite d s) s :=
  outControl_next.2 (s.jcpReceive_control d _ State.jcpWrite_leads)

theorem execObjCreate_control (d : Datagram) (s : State) : outControl (execObjCreate d s) s :=
  outControl_next.2 (s.jcpReceive_control d _ State.jcpCreate_leads)

theorem execObjModify_control (d : Datagram) (s : State) : outControl (execObjModify d s) s :=
  outControl_next.2 (s.jcpReceive_control d _ State.jcpModify_leads)

theorem execObjDelete_control (d : Datagram) (s : State) : outControl (execObjDelete d s) s :=
  outControl_next.2 (s.jcpReceive_control d _ State.jcpDelete_leads)

theorem execKeyInstall_control (d : Datagram) (s : State) : outControl (execKeyInstall d s) s :=
  outControl_next.2 (s.jcpReceive_control d _ State.jcpKey_leads)

theorem execStats_control (d : Datagram) (s : State) : outControl (execStats d s) s :=
  outControl_next.2 (s.jcpReceive_control d _ State.jcpStats_leads)

theorem execEventAck_control (d : Datagram) (s : State) : outControl (execEventAck d s) s :=
  outControl_next.2 (s.jcpReceive_control d _ fun _ _ => rfl)

theorem execEventResend_control (session seq : Nat) (s : State) : outControl (execEventResend session seq s) s := by
  unfold execEventResend
  repeat' split
  all_goals simp

end Sys2Proof.Machine

/-!
PROOF. The same for the image update and the boot, and what blows fuses: the life cycle (R56) and COMMIT_VERSION (R94).
-/

namespace Sys2Proof.Machine

/-! ### Image update, mode requests, entry to service -/

@[simp] theorem State.setStage_control (s : State) (n : Nat) : (s.setStage n).control = s.control := by
  simp [State.setStage]

@[simp] theorem State.unverify_control (s : State) : s.unverify.control = s.control := by
  simp [State.unverify]

@[simp] theorem State.endOp_control (s : State) (status : Nat) : (s.endOp status).control = s.control := by
  unfold State.endOp
  split <;> simp

theorem execImageVerifyDone_control (s : State) : outControl (execImageVerifyDone s) s := by
  unfold execImageVerifyDone
  repeat' split
  all_goals simp

@[simp] theorem State.setMixed_control (s : State) : s.setMixed.control = s.control := by
  simp [State.setMixed]

@[simp] theorem State.takeSections_control (s : State) (i : ImageInfo) (t : Nat) : (s.takeSections i t).control = s.control := by
  unfold State.takeSections
  split <;> simp

@[simp] theorem State.applyStart_control (s : State) (i : ImageInfo) (x : Nat) : resControl (s.applyStart i x) s := by
  unfold State.applyStart
  split
  · simp
  split
  · simp
  dsimp only
  split
  · simp
  · rename_i t e
    have h : t.control = s.control := resControl_foldlM State.applySection_control _ _ t e
    split
    · simp [h]
    split
    · simp [h]
    · refine resControl_ok.2 ?_
      split <;> simp [h]

@[simp] theorem State.applyFinish_control (s : State) (status : Nat) : (s.applyFinish status).control = s.control := by
  unfold State.applyFinish
  dsimp only
  repeat' split
  all_goals simp

@[simp] theorem State.applyNext_control (n : Nat) (s : State) : (State.applyNext n s).control = s.control := by
  induction n generalizing s with
  | zero => simp [State.applyNext]
  | succ n ih =>
    unfold State.applyNext
    split
    · rfl
    split
    · split
      · simp [ih]
      · rfl
    split
    · split
      · rename_i e
        simpa [ih] using State.applyStart_control _ _ _ _ e
      · simp
    · simp

@[simp] theorem State.applyOn_control (s : State) : s.applyOn.control = s.control := by
  simp [State.applyOn]

@[simp] theorem State.beginApply_control (s : State) (ts : List Nat) (all : Bool) : (s.beginApply ts all).control = s.control := by
  simp [State.beginApply]

@[simp] theorem State.imageEvent_control (s : State) (action : Nat) : (s.imageEvent action).control = s.control := by
  simp [State.imageEvent]

@[simp] theorem State.programEnd_control (s : State) (ok : Bool) : (s.programEnd ok).control = s.control := by
  unfold State.programEnd
  split <;> simp

@[simp] theorem State.endModeReqs_control (s : State) : s.endModeReqs.control = s.control := by
  simp [State.endModeReqs]

theorem State.tryService_steady (s : State) : Steady s.tryService.control s.control := by
  unfold State.tryService
  split
  · rename_i h
    have hm : ¬ (s.m.mode = .off ∨ s.m.mode = .safeStop) := by
      simp only [State.serviceReady, Bool.and_eq_true, decide_eq_true_eq] at h
      obtain ⟨⟨⟨hmode, -⟩, -⟩, -⟩ := h
      simp [hmode]
    rw [State.endModeReqs_control]
    split <;> exact State.enterMode_steady hm ..
  · simp

theorem startOp_leads {s : State} (k : Nat) {r : Res State} (h : resControl r s) : (startOp s k r).leads Eq s := by
  unfold startOp
  split
  · exact (by simp : State.control _ = _).trans (h _ rfl)
  · rfl

theorem State.jcpStage_leads (s : State) (c : JcpCmd) : (s.jcpStage c).leads Eq s := by
  refine answered_leads (fun _ => rfl) ?_
  simp

theorem State.jcpVerify_leads (s : State) (c : JcpCmd) : (s.jcpVerify c).leads Eq s := by
  refine startOp_leads _ (resControl_unit_bind (resControl_unit_bind ?_))
  simp

theorem State.jcpApplyBlock_leads (s : State) (c : JcpCmd) : (s.jcpApplyBlock c).leads Eq s := by
  refine startOp_leads _ (resControl_unit_bind (resControl_unit_bind (resControl_unit_bind (resControl_bind fun i _ => ?_))))
  refine resControl_unit_bind (resControl_unit_bind (resControl_unit_bind (resControl_unit_bind ?_)))
  simp

theorem State.jcpApplyAll_leads (s : State) (c : JcpCmd) : (s.jcpApplyAll c).leads Eq s := by
  refine startOp_leads _ (resControl_unit_bind (resControl_unit_bind (resControl_bind fun i _ => ?_)))
  refine resControl_unit_bind (resControl_unit_bind (resControl_unit_bind (resControl_unit_bind ?_)))
  simp

theorem State.jcpAbort_leads (s : State) (c : JcpCmd) : (s.jcpAbort c).leads Eq s := by
  refine answered_leads (fun _ => rfl) ?_
  simp only [okAll_bind]
  refine okAll_const (okAll_pure.2 ?_)
  dsimp only
  split <;> simp

theorem State.jcpProgram_leads (action : Nat) (other : FlashCopy) (s : State) (c : JcpCmd) :
    (State.jcpProgram action other s c).leads Eq s := by
  refine answered_leads (fun _ => rfl) ?_
  simp only [okAll_bind]
  refine okAll_const (okAll_const (okAll_const ?_))
  split <;> simp

theorem execImageStage_control (d : Datagram) (s : State) : outControl (execImageStage d s) s :=
  outControl_next.2 (s.jcpReceive_control d _ State.jcpStage_leads)

theorem execVerify_control (d : Datagram) (s : State) : outControl (execVerify d s) s :=
  outControl_next.2 (s.jcpReceive_control d _ State.jcpVerify_leads)

theorem execApplyBlock_control (d : Datagram) (s : State) : outControl (execApplyBlock d s) s :=
  outControl_next.2 ((State.applyOn_control _).trans (s.jcpReceive_control d _ State.jcpApplyBlock_leads))

theorem execApplyAll_control (d : Datagram) (s : State) : outControl (execApplyAll d s) s :=
  outControl_next.2 ((State.applyOn_control _).trans (s.jcpReceive_control d _ State.jcpApplyAll_leads))

theorem execAbort_control (d : Datagram) (s : State) : outControl (execAbort d s) s :=
  outControl_next.2 (s.jcpReceive_control d _ State.jcpAbort_leads)

theorem execProgramA_control (d : Datagram) (other : FlashCopy) (s : State) : outControl (execProgramA d other s) s :=
  outControl_next.2 (s.jcpReceive_control d _ (State.jcpProgram_leads 5 other))

theorem execProgramB_control (d : Datagram) (other : FlashCopy) (s : State) : outControl (execProgramB d other s) s :=
  outControl_next.2 (s.jcpReceive_control d _ (State.jcpProgram_leads 6 other))

theorem execImageProgramDone_control (ok : Bool) (s : State) : outControl (execImageProgramDone ok s) s := by
  simp [execImageProgramDone]

theorem execProgramTimeout_control (s : State) : outControl (execProgramTimeout s) s := by
  unfold execProgramTimeout
  split <;> simp

/-! What may blow fuses. -/

/-- The life-cycle state by the groups RETURNED, DEPLOYED and PROVISIONED. -/
def lifeOf (r d p : Bool) : Nat := if r then 3 else if d then 2 else if p then 1 else 0

/-- The life-cycle state that fuses stand for. -/
def Otp.life (o : Otp) : Nat := lifeOf (groupBlown o.returned) (groupBlown o.deployed) (groupBlown o.provisioned)

theorem State.lifeCycle_eq (s : State) : s.lifeCycle = s.otp.life := rfl

/-- The fuse invariant (`State.otpSafe`). -/
def Otp.safe (o : Otp) : Prop := o.secVersion ≤ 64 ∧ (o.life = 3 → (if o.ownerRevoked then none else o.ownerHash) = none)

theorem State.otpSafe_iff (s : State) : s.otpSafe ↔ s.otp.safe := Iff.rfl

/-- Fuses `b` follow fuses `a`: they only moved forward, and keep the fuse invariant. -/
def Otp.precedes (a b : Otp) : Prop := a.onlyForward b ∧ a.life ≤ b.life ∧ (a.safe → b.safe)

theorem Otp.precedes_refl (a : Otp) : a.precedes a :=
  ⟨⟨BitVec.and_self, BitVec.and_self, BitVec.and_self, id, le_refl _, rfl, rfl⟩, le_refl _, id⟩

theorem groupBlown_seven : groupBlown 7 = true := by decide

theorem and_seven (g : BitVec 3) : g &&& 7 = g := BitVec.and_allOnes

/-- Blown fuses only move the life cycle forward. -/
theorem State.blow_precedes (s : State) (target : Nat) : s.otp.precedes (s.blow target).otp := by
  unfold State.blow
  split
  · have hlife : Otp.life { s.otp with provisioned := 7 } = lifeOf (groupBlown s.otp.returned) (groupBlown s.otp.deployed) true := by
      rw [Otp.life, groupBlown_seven]
    have hmono : ∀ r d p, lifeOf r d p ≤ lifeOf r d true := by decide
    have hlast : ∀ r d p, lifeOf r d true = 3 → lifeOf r d p = 3 := by decide
    exact ⟨⟨and_seven _, BitVec.and_self, BitVec.and_self, id, le_refl _, rfl, rfl⟩, hlife ▸ hmono ..,
      fun ⟨hv, hk⟩ => ⟨hv, fun h => hk (hlast _ _ _ (hlife ▸ h))⟩⟩
  · have hlife : Otp.life { s.otp with deployed := 7 } = lifeOf (groupBlown s.otp.returned) true (groupBlown s.otp.provisioned) := by
      rw [Otp.life, groupBlown_seven]
    have hmono : ∀ r d p, lifeOf r d p ≤ lifeOf r true p := by decide
    have hlast : ∀ r d p, lifeOf r true p = 3 → lifeOf r d p = 3 := by decide
    exact ⟨⟨BitVec.and_self, and_seven _, BitVec.and_self, id, le_refl _, rfl, rfl⟩, hlife ▸ hmono ..,
      fun ⟨hv, hk⟩ => ⟨hv, fun h => hk (hlast _ _ _ (hlife ▸ h))⟩⟩
  · have hlife : Otp.life { s.otp with returned := 7, ownerRevoked := true } = 3 := by
      rw [Otp.life, groupBlown_seven]
      rfl
    have hmost : ∀ r d p, lifeOf r d p ≤ 3 := by decide
    exact ⟨⟨BitVec.and_self, BitVec.and_self, and_seven _, fun _ => rfl, le_refl _, rfl, rfl⟩,
      (hmost _ _ _ : s.otp.life ≤ 3).trans hlife.ge,
      fun ⟨hv, _⟩ => ⟨hv, fun _ => rfl⟩⟩

/-- The commands waiting stay, the fuses move forward, and OFF and SAFE_STOP are not left. -/
def Onward (a b : List Instr × Mode × Otp) : Prop :=
  a.1 = b.1 ∧ b.2.2.precedes a.2.2 ∧ (b.2.1 = .off ∨ b.2.1 = .safeStop → a.2.1 = b.2.1)

@[simp] theorem Onward.refl (a : List Instr × Mode × Otp) : Onward a a := ⟨rfl, a.2.2.precedes_refl, fun _ => rfl⟩

theorem Steady.onward {a b : List Instr × Mode × Otp} (h : Steady a b) : Onward a b := by
  obtain ⟨hpending, hotp, hmode⟩ := h
  exact ⟨hpending, hotp ▸ a.2.2.precedes_refl, hmode⟩

theorem State.changeLife_onward {s : State} (h : ¬ (s.m.mode = .off ∨ s.m.mode = .safeStop)) (target : Nat) :
    Onward (s.changeLife target).control s.control := by
  obtain ⟨mode, hm⟩ := s.changeLife_control target
  rw [hm]
  exact ⟨rfl, s.blow_precedes target, fun k => absurd k h⟩

/-- What a command answers that may change the mode or blow fuses. -/
def outOnward (o : Out) (s : State) : Prop := ∀ t, o = .next t → Onward t.control s.control

@[simp] theorem outOnward_next {t s : State} : outOnward (.next t) s ↔ Onward t.control s.control :=
  ⟨fun h => h t rfl, fun h _ e => by cases e; exact h⟩

theorem outSteady.onward {o : Out} {s : State} (h : outSteady o s) : outOnward o s := fun t e => (h t e).onward

theorem outControl.onward {o : Out} {s : State} (h : outControl o s) : outOnward o s := h.steady.onward

theorem execJtagProvision_onward (hash : Bytes) (s : State) : outOnward (execJtagProvision hash s) s := by
  unfold execJtagProvision
  rw [outOnward_next]
  split
  · rename_i h
    obtain ⟨hlife, -, hoff, hstop⟩ := h
    obtain ⟨mode, hm⟩ := State.changeLife_control { s with otp := { s.otp with ownerHash := some hash } } 1
    have hlife1 : Otp.life { s.otp with ownerHash := some hash, provisioned := 7 } =
        lifeOf (groupBlown s.otp.returned) (groupBlown s.otp.deployed) true := by
      rw [Otp.life, groupBlown_seven]
    have hfirst : ∀ r d p, lifeOf r d p = 0 → lifeOf r d true = 1 := by decide
    have hone := hlife1.trans (hfirst _ _ _ (s.lifeCycle_eq ▸ hlife))
    rw [hm]
    exact ⟨rfl, ⟨⟨and_seven _, BitVec.and_self, BitVec.and_self, id, le_refl _, rfl, rfl⟩,
      s.lifeCycle_eq ▸ hlife ▸ Nat.zero_le _, fun ⟨hv, _⟩ => ⟨hv, fun h3 => absurd (hone.symm.trans h3) (by decide)⟩⟩,
      fun k => k.elim (fun h => absurd h hoff) fun h => absurd h hstop⟩
  · simp

theorem execJtagReturn_onward (msg : Bytes) (qx qy r sg : Nat) (s : State) : outOnward (execJtagReturn msg qx qy r sg s) s := by
  unfold execJtagReturn
  rw [outOnward_next]
  split
  · rename_i h
    obtain ⟨-, hoff, hstop, -⟩ := h
    exact State.changeLife_onward (by simp [hoff, hstop]) 3
  · simp

theorem State.not_halted_of_jcpOn {s : State} (h : s.jcpOn = true) : ¬ (s.m.mode = .off ∨ s.m.mode = .safeStop) := by
  rintro (hm | hm) <;> simp [State.jcpOn, State.egressOn, hm] at h

/-- COMMIT_VERSION raises the security version to the running image's, at most 64 (R94). -/
theorem State.jcpCommit_leads (copyA copyB : FlashCopy) (s : State) (c : JcpCmd) :
    (State.jcpCommit copyA copyB s c).leads Onward s := by
  refine answered_leads Onward.refl ?_
  simp only [okAll_bind]
  refine okAll_const (okAll_const ?_)
  split
  · rename_i i a b _ _ _
    simp only [okAll_bind]
    refine okAll_const ?_
    rw [refuseIf]
    split
    · simp
    · rename_i hi
      have hle : i.secVersion ≤ 64 := by simpa using hi
      simp only [okAll_ok, okAll_pure]
      exact ⟨rfl, ⟨⟨BitVec.and_self, BitVec.and_self, BitVec.and_self, id, le_max_left _ _, rfl, rfl⟩, le_refl _,
        fun ⟨hv, hk⟩ => ⟨max_le hv hle, hk⟩⟩, fun _ => rfl⟩
  · simp

theorem State.modeDone_leads {s : State} (h : s.jcpOn = true) (m : Mode) (num : Nat) : (s.modeDone m num).leads Steady s :=
  State.enterMode_steady (State.not_halted_of_jcpOn h) ..

theorem State.modeReq_leads {s : State} (h : s.jcpOn = true) (m : Mode) : (s.modeReq m).leads Steady s := by
  have hs := State.not_halted_of_jcpOn h
  have hact (t : State) (ht : t.control = s.control) : ¬ (t.m.mode = .off ∨ t.m.mode = .safeStop) := by
    have hm : t.m.mode = s.m.mode := congrArg (fun a => a.2.1) ht
    rwa [hm]
  unfold State.modeReq
  dsimp only
  split
  · exact Steady.refl _
  split
  · intro t ht
    rw [State.toSafeStop_control]
    exact .inMode (hact t ht) _
  · intro t ht
    obtain ⟨mode, hm⟩ := t.toWarmReset_control 2
    rw [hm]
    exact .inMode (hact t ht) _
  · split
    · exact State.modeDone_leads h ..
    · exact Steady.refl _
  · split
    · exact State.modeDone_leads h ..
    · exact Steady.refl _
  · split
    · split
      · refine (State.tryService_steady _).trans ?_
        simp
      · show Steady (State.control _) _
        simp
    · split
      · exact Steady.refl _
      · exact State.modeDone_leads h ..
    · split
      · exact Steady.refl _
      · exact State.modeDone_leads h ..
    · exact Steady.refl _
  · exact Steady.refl _

theorem State.jcpMode_leads {s : State} (h : s.jcpOn = true) (c : JcpCmd) : (s.jcpMode c).leads Steady s := by
  unfold State.jcpMode
  split
  · exact Steady.refl _
  · split
    · exact State.modeReq_leads h _
    · exact Steady.refl _

theorem State.jcpLife_leads {s : State} (h : s.jcpOn = true) (c : JcpCmd) : (s.jcpLife c).leads Onward s := by
  unfold State.jcpLife
  split
  · exact Onward.refl _
  · intro t ht
    have hm : t.m.mode = s.m.mode := congrArg (fun a => a.2.1) ht
    exact State.changeLife_onward (hm ▸ State.not_halted_of_jcpOn h) _

theorem execCommitVersion_onward (d : Datagram) (copyA copyB : FlashCopy) (s : State) :
    outOnward (execCommitVersion d copyA copyB s) s :=
  outOnward_next.2 (s.jcpReceive_leads Onward.refl d _ fun t c _ => State.jcpCommit_leads copyA copyB t c)

theorem execModeReq_steady (d : Datagram) (s : State) : outSteady (execModeReq d s) s :=
  outSteady_next.2 (s.jcpReceive_leads Steady.refl d _ fun _ c h => State.jcpMode_leads h c)

theorem execLcTarget_onward (d : Datagram) (s : State) : outOnward (execLcTarget d s) s :=
  outOnward_next.2 (s.jcpReceive_leads Onward.refl d _ fun _ c h => State.jcpLife_leads h c)

theorem execEnterService_steady (s : State) : outSteady (execEnterService s) s :=
  outSteady_next.2 s.tryService_steady

theorem execCuratorFirmwareRestarted_control (s : State) : outControl (execCuratorFirmwareRestarted s) s := by
  simp [execCuratorFirmwareRestarted]

theorem execWait_control (core : Fin 272) (w : BitVec 26) (ecc : Fin 3) (s : State) : outControl (execWait core w ecc s) s := by
  simp [execWait]

theorem execBlockResetDone_steady (wing blk : Nat) (s : State) : outSteady (execBlockResetDone wing blk s) s := by
  rw [execBlockResetDone, outSteady_next, State.applyOn_control]
  exact s.blockResetDone_steady wing blk

theorem execSwapRemap_control (s : State) : outControl (execSwapRemap s) s := by
  simp [execSwapRemap]

theorem execSwapSourceReloaded_control (s : State) : outControl (execSwapSourceReloaded s) s := by
  simp [execSwapSourceReloaded]

/-! ### Boot -/

@[simp] theorem State.allBlkState_control (s : State) (st : Nat) : (s.allBlkState st).control = s.control := by
  simp [State.allBlkState]

theorem State.bootPhase_control (s : State) (m : Mode) (num : Nat) (next : Option Mode) :
    (s.bootPhase m num next).control = inMode m s.control := by
  have h := s.enterMode_control m num 0
  simp [State.bootPhase, h]

@[simp] theorem State.trained_control (s : State) (r : PowerUpReport) : (s.trained r).control = s.control := by
  simp [State.trained]

theorem State.trainFails_control (s : State) (l : List Nat) : (s.trainFails l).control = inMode .safeStop s.control := by
  unfold State.trainFails
  dsimp only
  rw [State.toSafeStop_control]
  simp

theorem execPowerUpDone_steady (report : PowerUpReport) (s : State) : outSteady (execPowerUpDone report s) s := by
  rw [execPowerUpDone, outSteady_next]
  split
  · rename_i h
    have hm : ¬ (s.m.mode = .off ∨ s.m.mode = .safeStop) := by simp [h.1]
    dsimp only
    split
    · simpa [State.trainFails_control] using Steady.inMode hm _
    · simpa [State.bootPhase_control] using Steady.inMode hm _
  · simp

theorem execWipeDone_control (ms : Nat) (s : State) : outControl (execWipeDone ms s) s := by
  simp [execWipeDone]

theorem execReadbackDone_steady (sram : List (Nat × Nat)) (gddr : List Nat) (s : State) :
    outSteady (execReadbackDone sram gddr s) s := by
  rw [execReadbackDone, outSteady_next]
  split
  · rename_i h
    have hm : ¬ (s.m.mode = .off ∨ s.m.mode = .safeStop) := by simp [h.1]
    dsimp only
    generalize hu : ({ (s.draw 32).2 with m := { s.m with readback := false } } : State) = u
    have hc : u.control = s.control := by simp [← hu, State.draw]
    clear hu
    split
    · simpa [State.bootPhase_control, hc] using Steady.inMode hm _
    split
    · simpa [State.toSafeStop_control, hc] using Steady.inMode hm _
    · simp [hc]
  · simp

theorem State.loadCopy_control {s t : State} {c : FlashCopy} {i : ImageInfo} (e : s.loadCopy c = .ok (i, t)) :
    t.control = s.control := by
  have h : okAll (s.loadCopy c) fun x => x.2.control = s.control := by
    unfold State.loadCopy
    simp
  exact h _ e

@[simp] theorem State.copyFails_control (s : State) (k reason : Nat) : (s.copyFails k reason).control = s.control := by
  simp [State.copyFails]

theorem State.loaded_control (s : State) (copy : Nat) (i : ImageInfo) : (s.loaded copy i).control = inMode .selfTest s.control := by
  unfold State.loaded
  dsimp only
  rw [State.bootPhase_control]
  split <;> simp

theorem execLoadDone_steady (copyA copyB : FlashCopy) (s : State) : outSteady (execLoadDone copyA copyB s) s := by
  rw [execLoadDone, outSteady_next]
  split
  · rename_i h
    have hm : ¬ (s.m.mode = .off ∨ s.m.mode = .safeStop) := by simp [h]
    split
    · rename_i e
      rw [State.loaded_control, State.loadCopy_control e]
      exact .inMode hm _
    · dsimp only
      split
      · rename_i e
        rw [State.loaded_control, State.loadCopy_control e, State.copyFails_control]
        exact .inMode hm _
      · simpa [State.toSafeStop_control] using Steady.inMode hm _
  · simp

@[simp] theorem State.selfTestOut_control (s : State) (p : Part) : (s.selfTestOut p).control = s.control := by
  unfold State.selfTestOut
  split
  · simp
  · dsimp only
    split <;> simp

theorem State.toLinkUp_control (s : State) : s.toLinkUp.control = inMode .linkUp s.control := by
  have h := s.bootPhase_control .linkUp 6 none
  simp [State.toLinkUp, h]

theorem execSelftestDone_steady (failed : List Part) (s : State) : outSteady (execSelftestDone failed s) s := by
  rw [execSelftestDone, outSteady_next]
  split
  · rename_i h
    have hm : ¬ (s.m.mode = .off ∨ s.m.mode = .safeStop) := by simp [h]
    dsimp only
    split
    · simpa [State.toSafeStop_control] using Steady.inMode hm _
    split
    · simpa [State.toSafeStop_control] using Steady.inMode hm _
    · simpa [State.toLinkUp_control] using Steady.inMode hm _
  · simp

theorem State.toWarmReset_steady {s : State} (h : ¬ (s.m.mode = .off ∨ s.m.mode = .safeStop)) (bit : Nat) :
    Steady (s.toWarmReset bit).control s.control := by
  obtain ⟨mode, hm⟩ := s.toWarmReset_control bit
  rw [hm]
  exact .inMode h mode

theorem execBootPhaseTimeout_steady (s : State) : outSteady (execBootPhaseTimeout s) s := by
  rw [execBootPhaseTimeout, outSteady_next]
  split
  · split
    · exact State.toWarmReset_steady (by simp [*]) 3
    · simp
  · exact State.toWarmReset_steady (by simp [*]) 3
  · exact State.toWarmReset_steady (by simp [*]) 3
  · exact State.toWarmReset_steady (by simp [*]) 3
  · simp

theorem execLinkUpLimitExpiry_steady (s : State) : outSteady (execLinkUpLimitExpiry s) s := by
  obtain ⟨reach, hreach⟩ : ∃ f, f = State.reach := ⟨_, rfl⟩
  rw [execLinkUpLimitExpiry, outSteady_next, ← hreach]
  have hr (n : Nat) : (reach s n).control = s.control := by simp [hreach]
  split
  · dsimp only
    split
    · refine (State.tryService_steady _).trans ?_
      simp [hr]
    · simp [hr]
  · simp

/-! ### The monitors -/

@[simp] theorem State.monitorEvent_control (s : State) : s.monitorEvent.control = s.control := by
  simp [State.monitorEvent]

@[simp] theorem State.sampleSensor_control (s : State) (i : Nat) (v : Int) : (s.sampleSensor i v).control = s.control := by
  simp [State.sampleSensor]

@[simp] theorem State.sampleTemps_control (s : State) (readings : List Int) : (s.sampleTemps readings).control = s.control := by
  unfold State.sampleTemps
  dsimp only
  repeat' split
  all_goals simp

@[simp] theorem State.setThrottle_control (s : State) (lv : Nat) : (s.setThrottle lv).control = s.control := by
  simp [State.setThrottle]

@[simp] theorem State.sampleRail_control (s : State) (r mv : Nat) : (s.sampleRail r mv).control = s.control := by
  simp [State.sampleRail]

@[simp] theorem State.sampleProcess_control (s : State) (i n : Nat) : (s.sampleProcess i n).control = s.control := by
  simp [State.sampleProcess]

theorem execTempSample_control (readings : List Int) (s : State) : outControl (execTempSample readings s) s := by
  simp [execTempSample]

theorem execThrottleRise_control (s : State) : outControl (execThrottleRise s) s := by
  unfold execThrottleRise
  split <;> simp

theorem execThrottleFall_control (s : State) : outControl (execThrottleFall s) s := by
  unfold execThrottleFall
  split <;> simp

theorem execVoltageSample_control (readings : List Nat) (s : State) : outControl (execVoltageSample readings s) s := by
  simp [execVoltageSample]

theorem execProcessSample_control (readings : List Nat) (s : State) : outControl (execProcessSample readings s) s := by
  simp [execProcessSample]

end Sys2Proof.Machine

/-!
PROOF. The way of the fuses and the modes in every command, and what follows from it.
-/

namespace Sys2Proof.Machine

/-! ### Every command -/

/-- Every command but OFF_TRANSITION and POWER_ON. -/
theorem exec_onward {c : Instr} (hoff : ∀ cause, c ≠ .offTransition cause) (hon : ∀ mv porb, c ≠ .powerOn mv porb) (s : State) :
    outOnward (exec c s) s := by
  cases c with
  | offTransition cause => exact absurd rfl (hoff cause)
  | powerOn mv porb => exact absurd rfl (hon mv porb)
  -- what blows fuses
  | commitVersion d copyA copyB => exact execCommitVersion_onward d copyA copyB s
  | lcTarget d => exact execLcTarget_onward d s
  | jtagProvision hash => exact execJtagProvision_onward hash s
  | jtagReturn msg qx qy r sg => exact execJtagReturn_onward msg qx qy r sg s
  -- what may change the mode
  | powerUpDone report => exact (execPowerUpDone_steady report s).onward
  | readbackDone sram gddr => exact (execReadbackDone_steady sram gddr s).onward
  | loadDone copyA copyB => exact (execLoadDone_steady copyA copyB s).onward
  | selftestDone failed => exact (execSelftestDone_steady failed s).onward
  | bootPhaseTimeout => exact (execBootPhaseTimeout_steady s).onward
  | enterService => exact (execEnterService_steady s).onward
  | linkUpLimitExpiry => exact (execLinkUpLimitExpiry_steady s).onward
  | wingRestartDone => exact (execWingRestartDone_steady s).onward
  | recoveryWindowExpiry => exact (execRecoveryWindowExpiry_steady s).onward
  | modeReq d => exact (execModeReq_steady d s).onward
  | blockResetDone wing blk => exact (execBlockResetDone_steady wing blk s).onward
  | supervisorDecision faults => exact (execSupervisorDecision_steady faults s).onward
  | chipWatchdogExpiry => exact (execChipWatchdogExpiry_steady s).onward
  -- what leaves both alone
  | railRetry => exact (execRailRetry_control s).onward
  | wipeDone ms => exact (execWipeDone_control ms s).onward
  | hello d => exact (execHello_control d s).onward
  | read d => exact (execRead_control d s).onward
  | write d => exact (execWrite_control d s).onward
  | registerWrite addr v => exact (execRegisterWrite_control addr v s).onward
  | objCreate d => exact (execObjCreate_control d s).onward
  | objModify d => exact (execObjModify_control d s).onward
  | objDelete d => exact (execObjDelete_control d s).onward
  | keyInstall d => exact (execKeyInstall_control d s).onward
  | imageStage d => exact (execImageStage_control d s).onward
  | verify d => exact (execVerify_control d s).onward
  | imageVerifyDone => exact (execImageVerifyDone_control s).onward
  | applyBlock d => exact (execApplyBlock_control d s).onward
  | applyAll d => exact (execApplyAll_control d s).onward
  | abort d => exact (execAbort_control d s).onward
  | programA d other => exact (execProgramA_control d other s).onward
  | programB d other => exact (execProgramB_control d other s).onward
  | imageProgramDone ok => exact (execImageProgramDone_control ok s).onward
  | programTimeout => exact (execProgramTimeout_control s).onward
  | stats d => exact (execStats_control d s).onward
  | eventAck d => exact (execEventAck_control d s).onward
  | eventResend session seq => exact (execEventResend_control session seq s).onward
  | cellTimeout wing blk cell tx => exact (execCellTimeout_control wing blk cell tx s).onward
  | blockReset wing v => exact (execBlockReset_control wing v s).onward
  | cdcParityError wing blk queue => exact (execCdcParityError_control wing blk queue s).onward
  | pllLossOfLock pll => exact (execPllLossOfLock_control pll s).onward
  | clockInputLost input => exact (execClockInputLost_control input s).onward
  | chpTbSnap v => exact (execChpTbSnap_control v s).onward
  | ptpLoss => exact (execPtpLoss_control s).onward
  | ppsInEdge highNs => exact (execPpsInEdge_control highNs s).onward
  | ppsOutRise => exact (execPpsOutRise_control s).onward
  | ppsOutFall => exact (execPpsOutFall_control s).onward
  | counterLowRead addr => exact (execCounterLowRead_control addr s).onward
  | portReconfig port cfg adv => exact (execPortReconfig_control port cfg adv s).onward
  | atrQuadRate quad v => exact (execAtrQuadRate_control quad v s).onward
  | atrLaneTxfir lane v => exact (execAtrLaneTxfir_control lane v s).onward
  | laneTest lane v => exact (execLaneTest_control lane v s).onward
  | agcRelease lane v => exact (execAgcRelease_control lane v s).onward
  | atrCntClr v => exact (execAtrCntClr_control v s).onward
  | breakLinkTimerExpiry port => exact (execBreakLinkTimerExpiry_control port s).onward
  | anComplete port partner => exact (execAnComplete_control port partner s).onward
  | trainingDone port fir rx => exact (execTrainingDone_control port fir rx s).onward
  | maxWaitTimerExpiry port => exact (execMaxWaitTimerExpiry_control port s).onward
  | receiverLock lock => exact (execReceiverLock_control lock s).onward
  | reconfigLockTimeout port => exact (execReconfigLockTimeout_control port s).onward
  | blockLock lane rx => exact (execBlockLock_control lane rx s).onward
  | blockLockLost lane => exact (execBlockLockLost_control lane s).onward
  | linkDown port cause => exact (execLinkDown_control port cause s).onward
  | linkFailInhibitExpiry port => exact (execLinkFailInhibitExpiry_control port s).onward
  | linkUpHoldExpiry port => exact (execLinkUpHoldExpiry_control port s).onward
  | macReceive port frame fec => exact (execMacReceive_control port frame fec s).onward
  | registrarParse port ue => exact (execRegistrarParse_control port ue s).onward
  | catalogueRewrite stream => exact (execCatalogueRewrite_control stream s).onward
  | rgsJcpRate v => exact (execRgsJcpRate_control v s).onward
  | rgsPuntRate port v => exact (execRgsPuntRate_control port v s).onward
  | rgsCntClrDrops => exact (execRgsCntClrDrops_control s).onward
  | rgsCntClrPortGo port => exact (execRgsCntClrPortGo_control port s).onward
  | srtpIngress ue => exact (execSrtpIngress_control ue s).onward
  | srtpEgress ue => exact (execSrtpEgress_control ue s).onward
  | keySlotRewrite slot => exact (execKeySlotRewrite_control slot s).onward
  | keySweep => exact (execKeySweep_control s).onward
  | katRound aes ghash sha => exact (execKatRound_control aes ghash sha s).onward
  | jobSubmit core job => exact (execJobSubmit_control core job s).onward
  | cbcEncrypt => exact (execCbcEncrypt_control s).onward
  | cbcDecrypt => exact (execCbcDecrypt_control s).onward
  | ctr => exact (execCtr_control s).onward
  | cfbEncrypt => exact (execCfbEncrypt_control s).onward
  | cfbDecrypt => exact (execCfbDecrypt_control s).onward
  | gcmEncrypt => exact (execGcmEncrypt_control s).onward
  | gcmDecrypt => exact (execGcmDecrypt_control s).onward
  | ctxWrite => exact (execCtxWrite_control s).onward
  | jobDone => exact (execJobDone_control s).onward
  | vltCntClrDrops => exact (execVltCntClrDrops_control s).onward
  | vltCntClrJobs => exact (execVltCntClrJobs_control s).onward
  | alloc client size yellow wait => exact (execAlloc_control client size yellow wait s).onward
  | inc client handle n => exact (execInc_control client handle n s).onward
  | dec client handle => exact (execDec_control client handle s).onward
  | share client handle mask => exact (execShare_control client handle mask s).onward
  | cloPoolCfg pool v => exact (execCloPoolCfg_control pool v s).onward
  | cloCntClrCounters => exact (execCloCntClrCounters_control s).onward
  | cloCntClrLow => exact (execCloCntClrLow_control s).onward
  | enqueue client queue desc => exact (execEnqueue_control client queue desc s).onward
  | descriptorExtend queue len complete poison => exact (execDescriptorExtend_control queue len complete poison s).onward
  | dequeue queue => exact (execDequeue_control queue s).onward
  | slotFill queue => exact (execSlotFill_control queue s).onward
  | queueTimeout queue => exact (execQueueTimeout_control queue s).onward
  | stkCntClr => exact (execStkCntClr_control s).onward
  | fanoutWalk source => exact (execFanoutWalk_control source s).onward
  | subCacheFill sub ue => exact (execSubCacheFill_control sub ue s).onward
  | rtcpFeedback => exact (execRtcpFeedback_control s).onward
  | rtxAge stream => exact (execRtxAge_control stream s).onward
  | fwdCntClr => exact (execFwdCntClr_control s).onward
  | dequeueDecision port => exact (execDequeueDecision_control port s).onward
  | shaperRefill level index => exact (execShaperRefill_control level index s).onward
  | tmgCntClr => exact (execTmgCntClr_control s).onward
  | nop core w ecc => exact (execNop_control core w ecc s).onward
  | add core w ecc => exact (execAdd_control core w ecc s).onward
  | sub core w ecc => exact (execSub_control core w ecc s).onward
  | adds core w ecc => exact (execAdds_control core w ecc s).onward
  | subs core w ecc => exact (execSubs_control core w ecc s).onward
  | and core w ecc => exact (execAnd_control core w ecc s).onward
  | or core w ecc => exact (execOr_control core w ecc s).onward
  | xor core w ecc => exact (execXor_control core w ecc s).onward
  | shl core w ecc => exact (execShl_control core w ecc s).onward
  | shr core w ecc => exact (execShr_control core w ecc s).onward
  | asr core w ecc => exact (execAsr_control core w ecc s).onward
  | min core w ecc => exact (execMin_control core w ecc s).onward
  | max core w ecc => exact (execMax_control core w ecc s).onward
  | abs core w ecc => exact (execAbs_control core w ecc s).onward
  | cmp core w ecc => exact (execCmp_control core w ecc s).onward
  | mov core w ecc => exact (execMov_control core w ecc s).onward
  | pack core w ecc => exact (execPack_control core w ecc s).onward
  | addi core w ecc => exact (execAddi_control core w ecc s).onward
  | cmpi core w ecc => exact (execCmpi_control core w ecc s).onward
  | movs core w ecc => exact (execMovs_control core w ecc s).onward
  | ld core w ecc => exact (execLd_control core w ecc s).onward
  | ldh core w ecc => exact (execLdh_control core w ecc s).onward
  | ldd core w ecc => exact (execLdd_control core w ecc s).onward
  | st core w ecc => exact (execSt_control core w ecc s).onward
  | sth core w ecc => exact (execSth_control core w ecc s).onward
  | std core w ecc => exact (execStd_control core w ecc s).onward
  | lda core w ecc => exact (execLda_control core w ecc s).onward
  | sta core w ecc => exact (execSta_control core w ecc s).onward
  | mac core w ecc => exact (execMac_control core w ecc s).onward
  | qmacr core w ecc => exact (execQmacr_control core w ecc s).onward
  | qmac core w ecc => exact (execQmac_control core w ecc s).onward
  | dmac core w ecc => exact (execDmac_control core w ecc s).onward
  | tapmac core w ecc => exact (execTapmac_control core w ecc s).onward
  | mova core w ecc => exact (execMova_control core w ecc s).onward
  | clra core w ecc => exact (execClra_control core w ecc s).onward
  | ldad core w ecc => exact (execLdad_control core w ecc s).onward
  | sha core w ecc => exact (execSha_control core w ecc s).onward
  | adda core w ecc => exact (execAdda_control core w ecc s).onward
  | br core w ecc => exact (execBr_control core w ecc s).onward
  | call core w ecc => exact (execCall_control core w ecc s).onward
  | ret core w ecc => exact (execRet_control core w ecc s).onward
  | reti core w ecc => exact (execReti_control core w ecc s).onward
  | jmpr core w ecc => exact (execJmpr_control core w ecc s).onward
  | loop core w ecc => exact (execLoop_control core w ecc s).onward
  | loopr core w ecc => exact (execLoopr_control core w ecc s).onward
  | endl core w ecc => exact (execEndl_control core w ecc s).onward
  | wait core w ecc => exact (execWait_control core w ecc s).onward
  | trap core w ecc => exact (execTrap_control core w ecc s).onward
  | di core w ecc => exact (execDi_control core w ecc s).onward
  | ei core w ecc => exact (execEi_control core w ecc s).onward
  | pmctlUnlockAll core w ecc => exact (execPmctlUnlockAll_control core w ecc s).onward
  | pmctlLock core w ecc => exact (execPmctlLock_control core w ecc s).onward
  | pmctlInvalidate core w ecc => exact (execPmctlInvalidate_control core w ecc s).onward
  | movi core w imm ecc => exact (execMovi_control core w imm ecc s).onward
  | jmpl core w imm ecc => exact (execJmpl_control core w imm ecc s).onward
  | calll core w imm ecc => exact (execCalll_control core w imm ecc s).onward
  | ldx core w imm ecc => exact (execLdx_control core w imm ecc s).onward
  | stx core w imm ecc => exact (execStx_control core w imm ecc s).onward
  | lddx core w imm ecc => exact (execLddx_control core w imm ecc s).onward
  | stdx core w imm ecc => exact (execStdx_control core w imm ecc s).onward
  | doorbell core => exact (execDoorbell_control core s).onward
  | resRead core tag => exact (execResRead_control core tag s).onward
  | moveGo core desc => exact (execMoveGo_control core desc s).onward
  | moveComplete move => exact (execMoveComplete_control move s).onward
  | coreItemWatchdog core => exact (execCoreItemWatchdog_control core s).onward
  | dspCntClr cluster => exact (execDspCntClr_control cluster s).onward
  | itemPost type source flow prio payload => exact (execItemPost_control type source flow prio payload s).onward
  | postGo core item => exact (execPostGo_control core item s).onward
  | itemDoneOk core => exact (execItemDoneOk_control core s).onward
  | itemDoneFailed core => exact (execItemDoneFailed_control core s).onward
  | docSwap v => exact (execDocSwap_control v s).onward
  | swapRemap => exact (execSwapRemap_control s).onward
  | swapDrainDone => exact (execSwapDrainDone_control s).onward
  | swapDrainTimeout => exact (execSwapDrainTimeout_control s).onward
  | swapSourceReloaded => exact (execSwapSourceReloaded_control s).onward
  | docFenceClr v => exact (execDocFenceClr_control v s).onward
  | docCntClr => exact (execDocCntClr_control s).onward
  | jitterAccept stream => exact (execJitterAccept_control stream s).onward
  | audioTick => exact (execAudioTick_control s).onward
  | mixPoint conf => exact (execMixPoint_control conf s).onward
  | afbCntClr => exact (execAfbCntClr_control s).onward
  | peerHelloSend => exact (execPeerHelloSend_control s).onward
  | peerHello => exact (execPeerHello_control s).onward
  | peerLost device => exact (execPeerLost_control device s).onward
  | curCasCntClr => exact (execCurCasCntClr_control s).onward
  | assemblePacket stream => exact (execAssemblePacket_control stream s).onward
  | auWaitExpiry stream => exact (execAuWaitExpiry_control stream s).onward
  | pictureStart engine pic => exact (execPictureStart_control engine pic s).onward
  | pictureDone engine result => exact (execPictureDone_control engine result s).onward
  | contextMigrate stream => exact (execContextMigrate_control stream s).onward
  | vdeCntClr engine => exact (execVdeCntClr_control engine s).onward
  | vdePgCntClrCounters => exact (execVdePgCntClrCounters_control s).onward
  | vdePgCntClrLow => exact (execVdePgCntClrLow_control s).onward
  | frameDue output => exact (execFrameDue_control output s).onward
  | frameBegin pipe => exact (execFrameBegin_control pipe s).onward
  | blockRowDone pipe => exact (execBlockRowDone_control pipe s).onward
  | cmpCoefWrite luma chroma => exact (execCmpCoefWrite_control luma chroma s).onward
  | cmpCntClr => exact (execCmpCntClr_control s).onward
  | encodeRow engine rows => exact (execEncodeRow_control engine rows s).onward
  | packetise output => exact (execPacketise_control output s).onward
  | venCntClr engine => exact (execVenCntClr_control engine s).onward
  | memoryRead source addr len faults grants => exact (execMemoryRead_control source addr len faults grants s).onward
  | memoryWrite source addr data faults grants => exact (execMemoryWrite_control source addr data faults grants s).onward
  | refresh channel bank => exact (execRefresh_control channel bank s).onward
  | retrainVisit read write => exact (execRetrainVisit_control read write s).onward
  | scrubStep channel step => exact (execScrubStep_control channel step s).onward
  | devicePowerDown device => exact (execDevicePowerDown_control device s).onward
  | mctCntClr => exact (execMctCntClr_control s).onward
  | chpLegIsoClr v => exact (execChpLegIsoClr_control v s).onward
  | selftestRound passed => exact (execSelftestRound_control passed s).onward
  | blockWatchdogExpiry wing watch => exact (execBlockWatchdogExpiry_control wing watch s).onward
  | heartbeat silent => exact (execHeartbeat_control silent s).onward
  | heartbeatMiss wing => exact (execHeartbeatMiss_control wing s).onward
  | wdtServicePost => exact (execWdtServicePost_control s).onward
  | chpWdtKick v => exact (execChpWdtKick_control v s).onward
  | tempSample readings => exact (execTempSample_control readings s).onward
  | throttleRise => exact (execThrottleRise_control s).onward
  | throttleFall => exact (execThrottleFall_control s).onward
  | voltageSample readings => exact (execVoltageSample_control readings s).onward
  | processSample readings => exact (execProcessSample_control readings s).onward
  | i2cRead addr ptr count => exact (execI2cRead_control addr ptr count s).onward
  | i2cWrite addr ptr data => exact (execI2cWrite_control addr ptr data s).onward
  | bypass => exact (execBypass_control s).onward
  | idcode => exact (execIdcode_control s).onward
  | samplePreload cells => exact (execSamplePreload_control cells s).onward
  | extest => exact (execExtest_control s).onward
  | clamp => exact (execClamp_control s).onward
  | highz => exact (execHighz_control s).onward
  | extestPulse => exact (execExtestPulse_control s).onward
  | extestTrain => exact (execExtestTrain_control s).onward
  | debugInstruction opcode => exact (execDebugInstruction_control opcode s).onward
  | tapReset => exact (execTapReset_control s).onward
  | laneReferencePresent k => exact (execLaneReferencePresent_control k s).onward
  | curatorFirmwareRestarted => exact (execCuratorFirmwareRestarted_control s).onward
  | railStepTimeout rail => exact (execRailStepTimeout_control rail s).onward

/-- In every command the fuses only move forward and keep the fuse invariant. -/
theorem exec_otp {c : Instr} {s t : State} (h : exec c s = .next t) : s.otp.precedes t.otp := by
  by_cases hoff : ∃ cause, c = .offTransition cause
  · obtain ⟨cause, rfl⟩ := hoff
    have ho : t.otp = s.otp := by
      rcases execOffTransition_control (h : execOffTransition cause s = .next t) with ht | ht
      · exact congrArg (fun a => a.2.2) ht
      · exact congrArg (fun a => a.2.2) ht
    exact ho ▸ s.otp.precedes_refl
  by_cases hon : ∃ mv porb, c = .powerOn mv porb
  · obtain ⟨mv, porb, rfl⟩ := hon
    have ho : t.otp = s.otp := by
      rcases execPowerOn_control (h : execPowerOn mv porb s = .next t) with ht | ⟨-, ht⟩
      · exact congrArg (fun a => a.2.2) ht
      · exact congrArg (fun a => a.2.2) ht
    exact ho ▸ s.otp.precedes_refl
  · obtain ⟨-, hotp, -⟩ := exec_onward (fun cause e => hoff ⟨cause, e⟩) (fun mv porb e => hon ⟨mv, porb, e⟩) s t h
    exact hotp

/-- So in every step. -/
theorem step_otp {s t : State} (h : step s = .next t) : s.otp.precedes t.otp := by
  unfold step at h
  split at h
  · cases h
    exact s.otp.precedes_refl
  · have hotp := exec_otp h
    exact hotp

/-- Settles O6, from the fuses' way forward in every command. -/
theorem stepKeepsFusesSafe : Obligations.StepKeepsFusesSafe := by
  unfold Obligations.StepKeepsFusesSafe
  intro s t hs h
  obtain ⟨-, -, hsafe⟩ := step_otp h
  exact hsafe hs

/-- Settles O8, from the fuses' way forward in every command. -/
theorem lifeCycleOnlyForward : Obligations.LifeCycleOnlyForward := by
  unfold Obligations.LifeCycleOnlyForward
  intro s t h
  obtain ⟨hforward, hlife, -⟩ := step_otp h
  exact ⟨hforward, hlife⟩

/-- Settles O9: OFF_TRANSITION leads to OFF or keeps the mode, POWER_ON acts in OFF only, and no other command leaves
SAFE_STOP. -/
theorem safeStopLeftOnlyByOff : Obligations.SafeStopLeftOnlyByOff := by
  unfold Obligations.SafeStopLeftOnlyByOff
  intro c s t hm h
  by_cases hoff : ∃ cause, c = .offTransition cause
  · obtain ⟨cause, rfl⟩ := hoff
    rcases execOffTransition_control (h : execOffTransition cause s = .next t) with ht | ht
    · exact .inl ((congrArg (fun a => a.2.1) ht).trans hm)
    · exact .inr ⟨congrArg (fun a => a.2.1) ht, cause, rfl⟩
  by_cases hon : ∃ mv porb, c = .powerOn mv porb
  · obtain ⟨mv, porb, rfl⟩ := hon
    rcases execPowerOn_control (h : execPowerOn mv porb s = .next t) with ht | ⟨ho, -⟩
    · exact .inl ((congrArg (fun a => a.2.1) ht).trans hm)
    · exact absurd (hm.symm.trans ho) (by decide)
  · obtain ⟨-, -, hmode⟩ := exec_onward (fun cause e => hoff ⟨cause, e⟩) (fun mv porb e => hon ⟨mv, porb, e⟩) s t h
    exact .inl ((hmode (.inr hm)).trans hm)

/-- Settles O10: OFF_TRANSITION leads to OFF or keeps the mode, POWER_ON keeps it or leads from OFF to POWER_UP, and no other
command leaves OFF. -/
theorem offLeftOnlyByPowerOn : Obligations.OffLeftOnlyByPowerOn := by
  unfold Obligations.OffLeftOnlyByPowerOn
  intro c s t hm h
  by_cases hoff : ∃ cause, c = .offTransition cause
  · obtain ⟨cause, rfl⟩ := hoff
    rcases execOffTransition_control (h : execOffTransition cause s = .next t) with ht | ht
    · exact .inl ((congrArg (fun a => a.2.1) ht).trans hm)
    · exact .inl (congrArg (fun a => a.2.1) ht)
  by_cases hon : ∃ mv porb, c = .powerOn mv porb
  · obtain ⟨mv, porb, rfl⟩ := hon
    rcases execPowerOn_control (h : execPowerOn mv porb s = .next t) with ht | ⟨-, ht⟩
    · exact .inl ((congrArg (fun a => a.2.1) ht).trans hm)
    · exact .inr ⟨congrArg (fun a => a.2.1) ht, mv, porb, rfl⟩
  · obtain ⟨-, -, hmode⟩ := exec_onward (fun cause e => hoff ⟨cause, e⟩) (fun mv porb e => hon ⟨mv, porb, e⟩) s t h
    exact .inl ((hmode (.inl hm)).trans hm)

end Sys2Proof.Machine

/-!
PROOF. What stays while blocks return and while the egress stops (`…_still`, in the order of the model), and a wing's restart with the
recovery window that follows it (O16).
-/

namespace Sys2Proof.Machine

/-! ### What stays while blocks return and while the egress stops -/

/-- The first 1 KiB of the fault record, before its entries. -/
def recHead (frec : NMap Byte) : Fin 0x400 → Byte := fun a => ngetD 0 frec a

/-- The key slots, the rails, the management target, the test port, the programmed sectors, the answer, the time and the fault
record's head. -/
def State.still (s : State) : NMap Bytes × Rails × I2c × Tap × List (Nat × Bytes) × Answer × Timebase × (Fin 0x400 → Byte) :=
  (s.vlt.slots, s.rails, s.i2c, s.tap, s.programmed, s.answer, s.time, recHead s.frec)

@[simp] theorem State.still_eta (s : State) :
    (s.vlt.slots, s.rails, s.i2c, s.tap, s.programmed, s.answer, s.time, recHead s.frec) = s.still := by
  simp only [State.still]

@[simp] theorem State.still_mk (pending : List Instr) (draws : Nat) (regs : NMap W32) (ctrs : NMap W64) (latches :
    NMap W32) (answer : Answer) (m : ModeSt) (otp : Otp) (pins : Pins) (rails : Rails) (time : Timebase) (i2c : I2c)
    (tap : Tap) (frec : NMap Byte) (cur : Curator) (sup : Supervisor) (mgmt : NMap (List MgmtFrame)) (atr : Atrium)
    (rgs : Registrar) (vlt : Vault) (clo : Cloakroom) (stk : Stacks) (fwd : Forwarder) (tmg : Tmg) (cas : Cascade)
    (doc : Docent) (dsp : NMap Cluster) (afb : Audio) (pgr : Pager) (vde : VideoDec) (cmp : Compositor) (ven :
    VideoEnc) (mct : MemCtl) (objs : NMap (NMap Bytes)) (stats : NMap W64) (gddr : NMap Byte) (poisoned : List Nat)
    (wire : List TxFrame) (programmed : List (Nat × Bytes)) : State.still ⟨pending, draws, regs, ctrs, latches,
    answer, m, otp, pins, rails, time, i2c, tap, frec, cur, sup, mgmt, atr, rgs, vlt, clo, stk, fwd, tmg, cas, doc,
    dsp, afb, pgr, vde, cmp, ven, mct, objs, stats, gddr, poisoned, wire, programmed⟩ =
    (vlt.slots, rails, i2c, tap, programmed, answer, time, recHead frec) := by
  simp only [State.still]

@[simp] theorem State.still_ite (c : Prop) [Decidable c] (a b : State) :
    (if c then a else b).still = if c then a.still else b.still := apply_ite ..

/-- A fold of operations that keep them keeps them. -/
@[simp] theorem State.foldl_still {β : Type} {f : State → β → State} (hf : ∀ s b, (f s b).still = s.still) (l : List β) (s :
    State) :
    (l.foldl f s).still = s.still :=
  List.foldlRecOn (motive := fun t : State => t.still = s.still) _ _ rfl fun t ht b _ => (hf t b).trans ht

@[simp] theorem State.elim_still {α : Type} {a : State} {f : α → State} (hf : ∀ x, (f x).still = a.still) (o : Option α) :
    (o.elim a f).still = a.still := by
  cases o with
  | none => rfl
  | some x => exact hf x

theorem State.foldl_still_fst {α β : Type} {f : State × α → β → State × α} (hf : ∀ a b, (f a b).1.still = a.1.still) (l : List β)
    (a : State × α) : (l.foldl f a).1.still = a.1.still :=
  List.foldlRecOn (motive := fun t : State × α => t.1.still = a.1.still) _ _ rfl fun t ht b _ => (hf t b).trans ht

@[simp] theorem State.draw_still (s : State) (w : Nat) : (s.draw w).2.still = s.still := by
  simp [State.draw]

@[simp] theorem State.rset_still (s : State) (r : Reg) (u i : Nat) (v : W32) : (s.rset r u i v).still = s.still := by
  simp [State.rset]

@[simp] theorem State.rsetFld_still (s : State) (r : Reg) (u i lo len n : Nat) : (s.rsetFld r u i lo len n).still = s.still := by
  simp [State.rsetFld]

@[simp] theorem State.rbit_still (s : State) (r : Reg) (u i b : Nat) : (s.rbit r u i b).still = s.still := by
  simp [State.rbit]

@[simp] theorem State.rcount_still (s : State) (r : Reg) (u i lo len n : Nat) : (s.rcount r u i lo len n).still = s.still := by
  simp [State.rcount]

@[simp] theorem State.cadd_still (s : State) (r : Reg) (u i n : Nat) : (s.cadd r u i n).still = s.still := by
  simp [State.cadd]

@[simp] theorem State.cinc_still (s : State) (r : Reg) (u i : Nat) : (s.cinc r u i).still = s.still := by
  simp [State.cinc]

@[simp] theorem State.drop_still (s : State) (code : Nat) : (s.drop code).still = s.still := by
  simp [State.drop]

/-- Bytes from 0x400 on are an entry's. -/
@[simp] theorem State.frWrite_still {off : Nat} (h : 0x400 ≤ off) (s : State) (b : Bytes) : (s.frWrite off b).still = s.still := by
  have hhead : recHead (s.frWrite off b).frec = recHead s.frec := by
    funext a
    have ha := a.isLt
    refine List.foldlRecOn (motive := fun f : NMap Byte => ngetD 0 f a = ngetD 0 s.frec a) _ _ rfl fun f hf e _ => ?_
    rw [ngetD_nputD_ne _ _ _ (by omega), hf]
  rw [← State.still_eta, ← s.still_eta, hhead]
  rfl

@[simp] theorem State.logFault_still (s : State) (code wing blk detail subject : Nat) :
    (s.logFault code wing blk detail subject).still = s.still := by
  simp [State.logFault]

@[simp] theorem State.sendMgmt_still (s : State) (p : Peer) (payload : Bytes) : (s.sendMgmt p payload).still = s.still := by
  simp [State.sendMgmt]

@[simp] theorem State.setSession_still (s : State) (k : Nat) (x : Session) : (s.setSession k x).still = s.still := by
  simp [State.setSession]

@[simp] theorem State.pump_still (s : State) (k : Nat) : (s.pump k).still = s.still := by
  unfold State.pump
  split <;> simp

@[simp] theorem State.raise_still (s : State) (code subjectType subjectId : Nat) (detail : Bytes) :
    (s.raise code subjectType subjectId detail).still = s.still := by
  refine State.foldl_still (fun s k => ?_) _ _
  split
  · exact rfl
  · split <;> simp

@[simp] theorem State.setBlkState_still (s : State) (wing num st : Nat) : (s.setBlkState wing num st).still = s.still := by
  simp [State.setBlkState]

@[simp] theorem State.setErr_still (s : State) (wing num bit : Nat) : (s.setErr wing num bit).still = s.still := by
  simp [State.setErr]

@[simp] theorem State.cellLog_still (s : State) (wing num cell kind place : Nat) : (s.cellLog wing num cell kind place).still =
    s.still := by
  unfold State.cellLog
  dsimp only
  split
  · simp
  · split <;> simp

@[simp] theorem State.cellError_still (s : State) (wing num cell kind place : Nat) :
    (s.cellError wing num cell kind place).still = s.still := by
  simp [State.cellError]

@[simp] theorem State.fenceStream_still (s : State) (st : Nat) : (s.fenceStream st).still = s.still := by
  simp [State.fenceStream]

@[simp] theorem State.fenceSub_still (s : State) (id : Nat) : (s.fenceSub id).still = s.still := by
  simp [State.fenceSub]

@[simp] theorem State.report_still (s : State) (t : Trigger) : (s.report t).still = s.still := by
  simp [State.report]

@[simp] theorem State.flag_still (s : State) (r : Reg) (u i bit : Nat) : (s.flag r u i bit).still = s.still := by
  simp [State.flag]

@[simp] theorem State.enterMode_still (s : State) (new : Mode) (num cause : Nat) : (s.enterMode new num cause).still = s.still := by
  unfold State.enterMode
  dsimp only
  split <;> simp

@[simp] theorem State.raiseLimits_still (n : Nat) (s : State) (l : List (Nat × Nat)) : (State.raiseLimits n s l).still =
    s.still := by
  induction n generalizing s l with
  | zero => exact rfl
  | succ n ih =>
    unfold State.raiseLimits
    split
    · exact rfl
    · exact (ih _ _).trans (s.raise_still ..)

@[simp] theorem State.setVideoLimits_still (s : State) : s.setVideoLimits.1.still = s.still := by
  refine State.foldl_still_fst (fun a l => ?_) _ (s, [])
  dsimp only
  split <;> simp

@[simp] theorem State.withLimits_still {s : State} {f : State → State} (hf : (f s).still = s.still) (more : List (Nat × Nat)) :
    (s.withLimits f more).still = s.still :=
  (State.raiseLimits_still _ _ _).trans ((State.setVideoLimits_still _).trans hf)

@[simp] theorem State.setOut_still (s : State) (l : List Part) : (s.setOut l).still = s.still := by
  simp [State.setOut]

theorem State.partBackBy_still (s : State) (p : Part) {f : State → State} (hf : ∀ s, (f s).still = s.still) :
    (s.partBackBy p f).still = s.still := by
  unfold State.partBackBy
  split
  · dsimp only
    generalize hu : State.raise _ 4 0 0 (partDetail p 0) = u
    have h : u.still = s.still := by simp [← hu, hf]
    split <;> simp [h]
  · rfl

@[simp] theorem State.partBack_still (s : State) (p : Part) : (s.partBack p).still = s.still :=
  s.partBackBy_still p fun _ => rfl

@[simp] theorem State.cutFrames_still (s : State) : s.cutFrames.still = s.still := by
  simp [State.cutFrames]

@[simp] theorem State.sadd_still (s : State) (ty id num n : Nat) : (s.sadd ty id num n).still = s.still := by
  simp [State.sadd]

@[simp] theorem State.sinc_still (s : State) (ty id num : Nat) : (s.sinc ty id num).still = s.still := by
  simp [State.sinc]

@[simp] theorem State.setCore_still (s : State) (c : Nat) (x : DspCore) : (s.setCore c x).still = s.still := by
  simp [State.setCore]

@[simp] theorem State.setPool_still (s : State) (p : Nat) (x : Pool) : (s.setPool p x).still = s.still := by
  simp [State.setPool]

@[simp] theorem State.setRec_still (s : State) (h : W32) (r : BufRec) : (s.setRec h r).still = s.still := by
  simp [State.setRec]

@[simp] theorem State.lowMark_still (s : State) (p : Nat) : (s.lowMark p).still = s.still := by
  simp [State.lowMark]

@[simp] theorem State.answerClient_still (s : State) (cl : Client) (code : Nat) (h : W32) : (s.answerClient cl code h).still =
    s.still := by
  unfold State.answerClient
  split <;> simp

@[simp] theorem State.reject_still (s : State) (d req : Nat) (h : W32) (code : Nat) : (s.reject d req h code).still = s.still := by
  simp [State.reject]

@[simp] theorem State.takeBuffer_still (s : State) (p d : Nat) : (s.takeBuffer p d).2.still = s.still := by
  unfold State.takeBuffer
  dsimp only
  split <;> simp

@[simp] theorem State.grant_still (s : State) (d start p : Nat) : (s.grant d start p).2.still = s.still := by
  unfold State.grant
  dsimp only
  split <;> simp

@[simp] theorem State.grantOr_still (s : State) (d start q : Nat) : (s.grantOr d start q).2.still = s.still := by
  have hg := s.grant_still d start q
  rw [State.grantOr]
  generalize s.grant d start q = g at hg ⊢
  obtain ⟨b, t⟩ := g
  simp only
  split
  · exact hg
  · exact s.reject_still ..

@[simp] theorem State.alloc_still (s : State) (d size : Nat) (yellow : Bool) : (s.alloc d size yellow).2.still = s.still := by
  unfold State.alloc
  dsimp only
  repeat' split
  all_goals simp

@[simp] theorem State.holdAlloc_still (s : State) (cl : Client) (size : Nat) (work : Option Nat) :
    (s.holdAlloc cl size work).still = s.still := by
  simp [State.holdAlloc]

@[simp] theorem State.allocNow_still (s : State) (cl : Client) (size : Nat) (yellow wait : Bool) :
    (s.allocNow cl size yellow wait).still = s.still := by
  have h := s.alloc_still cl.domain size yellow
  unfold State.allocNow
  split <;> rename_i e <;> rw [e] at h
  · simpa using h
  · split <;> simpa using h

@[simp] theorem State.overCredit_still (s : State) (q : HeldReq) : (s.overCredit q).still = s.still := by
  simp [State.overCredit]

@[simp] theorem State.hwAllocEnd_still (s : State) (d work : Nat) : (s.hwAllocEnd d work).still = s.still := by
  simp [State.hwAllocEnd]

@[simp] theorem State.endHeld_still (s : State) (h : HeldAlloc) (code : Nat) (b : W32) : (s.endHeld h code b).still = s.still := by
  unfold State.endHeld
  split <;> simp

@[simp] theorem State.retryHeld_still (s : State) (p : Nat) : (s.retryHeld p).still = s.still := by
  -- the grant is made opaque, so that the kernel does not evaluate it as a match's discriminant
  obtain ⟨grant, hgrant⟩ : ∃ g, g = s.grantOr := ⟨_, rfl⟩
  have hg (d start q) : (grant d start q).2.still = s.still := hgrant ▸ s.grantOr_still d start q
  rw [State.retryHeld, ← hgrant]
  split
  · exact rfl
  · rename_i h _
    split
    · exact rfl
    · rename_i q _
      specialize hg h.client.domain h.start q
      split <;> rename_i he <;> rw [he] at hg
      · exact (State.endHeld_still ..).trans hg
      · exact (State.endHeld_still ..).trans hg

theorem State.setCount_still {s t : State} {h : W32} {r : BufRec} {n : Nat} (e : s.setCount h r n = some t) : t.still =
    s.still := by
  unfold State.setCount at e
  dsimp only at e
  split at e
  · cases e
    split <;> simp
  · split at e
    · cases e
      simp
    · split at e
      · cases e
      · cases e
        simp

@[simp] theorem State.freeBuffer_still (s : State) (h : W32) (r : BufRec) : (s.freeBuffer h r).still = s.still := by
  simp [State.freeBuffer]

theorem State.applyReq_still {s t : State} {kind : Nat} {h : W32} {arg : Nat} (e : s.applyReq kind h arg = some t) :
    t.still = s.still := by
  unfold State.applyReq at e
  dsimp only at e
  split at e
  · exact State.setCount_still e
  · split at e
    · cases e
      simp
    · exact State.setCount_still e
  · cases e
    simp

theorem State.tryReq_still {s t : State} {d kind : Nat} {h : W32} {arg code : Nat} (e : s.tryReq d kind h arg = some (code, t)) :
    t.still = s.still := by
  unfold State.tryReq at e
  split at e
  · cases e
    simp
  · split at e
    · cases e
      simp
    · obtain ⟨u, hu, he⟩ := Option.map_eq_some_iff.1 e
      cases he
      exact State.applyReq_still hu

@[simp] theorem State.failHw_still (s : State) (d : Nat) (flow : ItemFlow) : (s.failHw d flow).still = s.still := by
  unfold State.failHw
  split <;> simp

@[simp] theorem State.answerReq_still (s : State) (q : HeldReq) (code : Nat) : (s.answerReq q code).still = s.still := by
  unfold State.answerReq
  split <;> simp

theorem State.nextStalled_still {s t : State} {seen l : List HeldReq} {q : HeldReq} {code : Nat}
    (e : s.nextStalled seen l = some (q, code, t)) : t.still = s.still := by
  induction l generalizing seen with
  | nil => cases e
  | cons a r ih =>
    unfold State.nextStalled at e
    split at e
    · rename_i x hx
      cases e
      split at hx
      · cases hx
      · exact State.tryReq_still hx
    · exact ih e

@[simp] theorem State.countStalls_still (s : State) (seen l : List HeldReq) : (s.countStalls seen l).still = s.still := by
  induction l generalizing s seen with
  | nil => simp [State.countStalls]
  | cons q r ih =>
    unfold State.countStalls
    split
    · exact ih ..
    · exact (ih ..).trans (by simp)

@[simp] theorem State.serveStalled_still (n : Nat) (s : State) : (State.serveStalled n s).still = s.still := by
  induction n generalizing s with
  | zero => exact s.countStalls_still ..
  | succ n ih =>
    unfold State.serveStalled
    split
    · simp
    · rename_i e
      exact (ih _).trans (by simpa using State.nextStalled_still e)

@[simp] theorem State.settle_still (s : State) : s.settle.still = s.still := by
  simp [State.settle]

@[simp] theorem State.enterReq_still (s : State) (q : HeldReq) : (s.enterReq q).still = s.still := by
  unfold State.enterReq
  dsimp only
  generalize hu : (if q.kind = 0 then s.cinc .cloCnt 0 2 else if q.kind = 1 then s.cinc .cloCnt 0 3 else s) = u
  have hs : u.still = s.still := by
    rw [← hu]
    split
    · simp
    · split <;> simp
  split
  · simp
  · split
    · exact hs
    · split
      · rename_i e
        have h := (State.tryReq_still e).trans hs
        simpa using h
      · simpa using hs

@[simp] theorem State.enterOver_still (n : Nat) (s : State) : (State.enterOver n s).still = s.still := by
  induction n generalizing s with
  | zero => exact rfl
  | succ n ih =>
    unfold State.enterOver
    split
    · simp
    · exact (ih _).trans (by simp)

@[simp] theorem State.requestOf_still (s : State) (q : HeldReq) : (s.requestOf q).still = s.still := by
  simp [State.requestOf]

@[simp] theorem State.request_still (s : State) (cl : Client) (kind : Nat) (h : W32) (arg : Nat) :
    (s.request cl kind h arg).still = s.still := by
  simp [State.request]

@[simp] theorem State.decRef_still (s : State) (d : Nat) (h : W32) (flow : ItemFlow := .untied) : (s.decRef d h flow).still =
    s.still := by
  simp [State.decRef]

@[simp] theorem State.hwAllocDrop_still (s : State) (d work : Nat) : (s.hwAllocDrop d work).still = s.still := by
  unfold State.hwAllocDrop
  split <;> simp

@[simp] theorem State.setClState_still (s : State) (cl st : Nat) : (s.setClState cl st).still = s.still := by
  simp [State.setClState]

@[simp] theorem State.setReady_still (s : State) (c : Nat) (l : List Item) : (s.setReady c l).still = s.still := by
  simp [State.setReady]

@[simp] theorem State.shareItem_still (s : State) (it : Item) (c : Nat) : (s.shareItem it c).still = s.still := by
  simp [State.shareItem]

@[simp] theorem State.assignByLoad_still (s : State) (it : Item) : (s.assignByLoad it).still = s.still := by
  unfold State.assignByLoad
  dsimp only
  repeat' split
  all_goals simp

@[simp] theorem State.assignWaiting_still (s : State) : s.assignWaiting.still = s.still := by
  refine State.foldl_still (fun s f => ?_) _ _
  split
  · split <;> simp
  · simp

@[simp] theorem State.coreEntered_still (s : State) (cl : Nat) : (s.coreEntered cl).still = s.still := by
  simp [State.coreEntered]

@[simp] theorem State.setQueue_still (s : State) (q : Nat) (x : Queue) : (s.setQueue q x).still = s.still := by
  simp [State.setQueue]

@[simp] theorem State.slotFill_still (s : State) (q : Nat) : (s.slotFill q).still = s.still := by
  unfold State.slotFill
  dsimp only
  repeat' split
  all_goals simp

@[simp] theorem State.emptyQueue_still (s : State) (q : Nat) : (s.emptyQueue q).2.still = s.still := by
  simp [State.emptyQueue]

@[simp] theorem State.flushQueue_still (s : State) (q d : Nat) : (s.flushQueue q d).still = s.still := by
  simp [State.flushQueue]

@[simp] theorem State.writeMember_still (s : State) (l : Nat) : (s.writeMember l).still = s.still := by
  simp [State.writeMember]

@[simp] theorem State.flushCopies_still (s : State) (p : CopyJob → Bool) : (s.flushCopies p).still = s.still := by
  simp [State.flushCopies]

@[simp] theorem State.flushLeg_still (s : State) (l : Nat) : (s.flushLeg l).still = s.still := by
  simp [State.flushLeg]

@[simp] theorem State.isolate_still (s : State) (l code : Nat) : (s.isolate l code).still = s.still := by
  simp [State.isolate]

@[simp] theorem State.checkerHit_still (s : State) (code l : Nat) : (s.checkerHit code l).still = s.still := by
  simp [State.checkerHit]

@[simp] theorem State.setTags_still (s : State) (level i : Nat) (x : Tags) : (s.setTags level i x).still = s.still := by
  simp [State.setTags]

@[simp] theorem State.wakeOne_still (s : State) (level i parent : Nat) (eligible : Bool) :
    (s.wakeOne level i parent eligible).still = s.still := by
  simp [State.wakeOne]

@[simp] theorem State.wakeLeg_still (s : State) (l : Nat) : (s.wakeLeg l).still = s.still := by
  simp [State.wakeLeg]

@[simp] theorem State.dropCopy_still (s : State) (l cnt legCnt : Nat) (d : Desc) : (s.dropCopy l cnt legCnt d).still = s.still := by
  simp [State.dropCopy]

@[simp] theorem State.suppress_still (s : State) (l k : Nat) (d : Desc) : (s.suppress l k d).still = s.still := by
  simp [State.suppress]

@[simp] theorem State.drainLeg_still (s : State) (l : Nat) : (s.drainLeg l).still = s.still := by
  unfold State.drainLeg
  dsimp only
  refine (State.wakeLeg_still _ _).trans ?_
  refine State.foldl_still (fun t k => ?_) _ _
  have he := t.emptyQueue_still (classQueue l k)
  generalize t.emptyQueue (classQueue l k) = e at he ⊢
  split
  · exact rfl
  · refine (State.foldl_still (fun u d => ?_) e.1 _).trans (by simpa using he)
    split <;> simp

@[simp] theorem State.drainPort_still (s : State) (p : Nat) : (s.drainPort p).still = s.still := by
  simp [State.drainPort]

@[simp] theorem State.setPort_still (s : State) (p : Nat) (x : PortSt) : (s.setPort p x).still = s.still := by
  simp [State.setPort]

@[simp] theorem State.setPortState_still (s : State) (p n : Nat) : (s.setPortState p n).still = s.still := by
  simp [State.setPortState]

@[simp] theorem State.releaseAgc_still (s : State) (lanes : List Nat) : (s.releaseAgc lanes).still = s.still := by
  simp [State.releaseAgc]

@[simp] theorem State.unlock_still (s : State) (p : Nat) (lanes : List Nat) : (s.unlock p lanes).still = s.still := by
  simp [State.unlock]

@[simp] theorem State.dropLink_still (s : State) (p : Nat) : (s.dropLink p).still = s.still := by
  simp [State.dropLink]

@[simp] theorem State.silence_still (s : State) : s.silence.still = s.still := by
  simp [State.silence]

@[simp] theorem State.modDecCtx_still (s : State) (st : Nat) (f : DecCtx → DecCtx) : (s.modDecCtx st f).still = s.still := by
  simp [State.modDecCtx]

@[simp] theorem State.decEngineBack_still (s : State) (e : Nat) : (s.decEngineBack e).still = s.still := by
  simp [State.decEngineBack]

@[simp] theorem State.modEncCtx_still (s : State) (o : Nat) (f : EncCtx → EncCtx) : (s.modEncCtx o f).still = s.still := by
  simp [State.modEncCtx]

@[simp] theorem State.encEngineBack_still (s : State) : s.encEngineBack.still = s.still :=
  State.foldl_still (fun t o => by split <;> simp) _ _

@[simp] theorem State.vaultBack_still (s : State) : s.vaultBack.still = s.still := by
  unfold State.vaultBack
  dsimp only
  split
  · simp
  · exact (State.foldl_still State.partBack_still _ _).trans (State.partBackBy_still _ _ fun t => by simp)

@[simp] theorem State.clusterBack_still (s : State) (cl : Nat) : (s.clusterBack cl).still = s.still := by
  unfold State.clusterBack
  dsimp only
  split
  · refine State.partBackBy_still _ _ fun t => ?_
    split
    · simp
    · split <;> simp
  · rw [State.withLimits_still]
    split
    · simp
    · split <;> simp

@[simp] theorem State.atriumBack_still (s : State) : s.atriumBack.still = s.still := State.foldl_still State.partBack_still _ _

@[simp] theorem State.partsBack_still (s : State) (wing num : Nat) : (s.partsBack wing num).still = s.still := by
  unfold State.partsBack
  repeat' split
  all_goals simp

@[simp] theorem State.blockReturns_still (s : State) (wing num : Nat) : (s.blockReturns wing num).still = s.still := by
  simp [State.blockReturns]

@[simp] theorem State.logTrigger_still (s : State) (t : Trigger) : (s.logTrigger t).still = s.still := by
  cases t <;> simp [State.logTrigger]

@[simp] theorem State.stopEgress_still (s : State) : s.stopEgress.still = s.still := by
  simp [State.stopEgress]

end Sys2Proof.Machine

namespace Sys2Proof.Machine

/-- A mode change is the new mode and its event. -/
theorem State.enterMode_eventsOnly (s : State) (new : Mode) (num cause : Nat) :
    (s.enterMode new num cause).eventsOnly { s with m := { s.m with mode := new, prev := s.m.mode, target := none, num := num } } := by
  unfold State.enterMode
  dsimp only
  split
  · exact State.raise_eventsOnly ..
  · exact State.eventsOnly_refl _

theorem State.frWrite_spec (s : State) (off : Nat) (b : Bytes) : ∃ f, s.frWrite off b = { s with frec := f } := ⟨_, rfl⟩

theorem State.logFault_spec (s : State) (code w b detail subject : Nat) :
    ∃ f, s.logFault code w b detail subject = { s with frec := f } := by
  unfold State.logFault
  dsimp only
  obtain ⟨f, hf⟩ := s.frWrite_spec (0x400 + 16 * if s.frField 0x400 2 = 0 then 1 else s.frField 0x400 2)
    (leBytes 4 s.ms ++ [byteOf code, byteOf (modeCode s.m.mode), byteOf w, byteOf b] ++ leBytes 4 detail ++ leBytes 2 subject ++
      leBytes 2 (min 0xFFFFFFFF (s.frField 0x404 4 + 1)))
  rw [hf]
  obtain ⟨g, hg⟩ := State.frWrite_spec { s with frec := f } 0x400 (leBytes 2
    (if (if s.frField 0x400 2 = 0 then 1 else s.frField 0x400 2) = 191 then 1
     else (if s.frField 0x400 2 = 0 then 1 else s.frField 0x400 2) + 1))
  rw [hg]
  exact State.frWrite_spec { s with frec := g } _ _

theorem execWingRestartDone_of_ready {s : State} {w at_ : Nat} (hm : s.m.mode = .recovery) (hr : s.m.restarting = some (w, at_))
    (hready : w ≠ 2 ∨ ∀ cl < 17, s.partIsOut (.cluster cl) = true ∨ s.clusterEntered cl = true) :
    execWingRestartDone s = .next (let u := (wingBlocks w).foldl (fun s b => s.blockReturns w b) s
      { u with m := { u.m with restarting := none, windowFrom := some s.t, restartUs := (s.t - at_) / 1000 } }) := by
  have hall : (decide (w ≠ 2) || (List.range 17).all fun cl => s.partIsOut (.cluster cl) || s.clusterEntered cl) = true := by
    simpa using hready
  rw [execWingRestartDone, hr]
  exact if_pos ⟨hm, hall⟩

theorem exec_wingRestartDone_of_ready {s : State} {w at_ : Nat} (hm : s.m.mode = .recovery)
    (hr : s.m.restarting = some (w, at_))
    (hready : w ≠ 2 ∨ ∀ cl < 17, s.partIsOut (.cluster cl) = true ∨ s.clusterEntered cl = true) :
    ∃ t, exec .wingRestartDone s = .next t ∧ t.m.restarting = none ∧ t.m.windowFrom = some s.t ∧
      t.m.restartUs = (s.t - at_) / 1000 ∧ t.otp = s.otp ∧ t.vlt.slots = s.vlt.slots := by
  refine ⟨_, execWingRestartDone_of_ready hm hr hready, rfl, rfl, rfl, ?_, ?_⟩
  · have h := Steady.foldl (fun t b => t.blockReturns_steady w b) (wingBlocks w) s
    exact h.2.1
  · exact congrArg Prod.fst (State.foldl_still (fun t b => t.blockReturns_still w b) (wingBlocks w) s)

/-- The recovery window has elapsed, before the mode changes. -/
def State.windowEnded (s : State) (x : Nat) : State :=
  let s1 := (s.reach (x + s.cur.chip.recovery * 100000000)).logFault 0x08 s.m.recoveryWing 0 s.m.restartUs 0
  { s1 with m := { s1.m with windowFrom := none, recovered := nput s1.m.recovered s1.m.recoveryWing s1.t } }

theorem execRecoveryWindowExpiry_of_running {s : State} {x : Nat} (hm : s.m.mode = .recovery) (hx : s.m.windowFrom = some x) :
    execRecoveryWindowExpiry s = .next ((s.windowEnded x).enterMode (s.windowEnded x).landing 16 0) := by
  rw [execRecoveryWindowExpiry, hx]
  exact if_pos hm

theorem State.windowEnded_spec (s : State) (x : Nat) :
    ∃ time frec, s.windowEnded x = { s with
        m := { s.m with windowFrom := none, recovered := nput s.m.recovered s.m.recoveryWing time.t.toNat }, time := time, frec := frec } ∧
      (x + s.cur.chip.recovery * 100000000 < 2 ^ 64 → x + s.cur.chip.recovery * 100000000 ≤ time.t.toNat) := by
  obtain ⟨hu, ht, -⟩ := s.reach_spec (x + s.cur.chip.recovery * 100000000)
  unfold State.windowEnded
  generalize x + s.cur.chip.recovery * 100000000 = d at hu ht ⊢
  generalize s.reach d = u at hu ht ⊢
  obtain ⟨f, hf⟩ := u.logFault_spec 8 s.m.recoveryWing 0 s.m.restartUs 0
  rw [hf]
  obtain ⟨time, htime⟩ : ∃ x, x = u.time := ⟨_, rfl⟩
  rw [← htime] at hu
  subst hu
  exact ⟨time, f, rfl, ht⟩

theorem exec_recoveryWindowExpiry_of_running {s : State} {x : Nat} (hm : s.m.mode = .recovery) (hx : s.m.windowFrom = some x) :
    ∃ t, exec .recoveryWindowExpiry s = .next t ∧
      t.m.mode = (if s.sup.outParts = [] then .service else .degraded) ∧ t.m.prev = .recovery ∧ t.m.num = 16 ∧
      t.m.windowFrom = none ∧ (x + s.cur.chip.recovery * 100000000 < 2 ^ 64 → x + s.cur.chip.recovery * 100000000 ≤ t.t) ∧
      nget t.m.recovered s.m.recoveryWing = some t.t ∧
      t = { s with m := t.m, cur := t.cur, mgmt := t.mgmt, regs := t.regs, time := t.time, frec := t.frec } := by
  refine ⟨_, execRecoveryWindowExpiry_of_running hm hx, ?_⟩
  obtain ⟨time, frec, hu, ht⟩ := s.windowEnded_spec x
  obtain ⟨ses, mg, rg, he, -⟩ := (s.windowEnded x).enterMode_eventsOnly (s.windowEnded x).landing 16 0
  rw [he]
  rw [hu]
  exact ⟨rfl, hm, rfl, rfl, ht, nget_nput_self _ _ _, rfl⟩

/-- Settles O16, by the lemmas on its two commands. -/
theorem recoveryEnds : Obligations.RecoveryEnds := by
  unfold Obligations.RecoveryEnds
  exact fun s hm => ⟨fun w at_ => exec_wingRestartDone_of_ready hm, fun x => exec_recoveryWindowExpiry_of_running hm⟩

end Sys2Proof.Machine

/-!
PROOF. The way to service: entering SERVICE from LINK_UP (O15), and from LOAD through SELF_TEST to LINK_UP (O13).
-/

namespace Sys2Proof.Machine

theorem State.sendMgmt_eventsOnly (s : State) (p : Peer) (b : Bytes) : (s.sendMgmt p b).eventsOnly s := ⟨_, _, _, rfl, fun _ _ => rfl⟩

/-- An answer at a command's end is a reply in a session. -/
theorem State.finishRunning_eventsOnly (s : State) (k opcode status : Nat) (tlvs : Bytes) :
    (s.finishRunning k opcode status tlvs).eventsOnly s := by
  unfold State.finishRunning
  split
  · exact s.eventsOnly_refl
  · refine State.eventsOnly_trans (State.foldl_eventsOnly _ (fun t c => t.sendMgmt_eventsOnly _ _) _ _) ?_
    exact ⟨_, _, _, rfl, fun _ _ => rfl⟩

theorem State.endModeReqs_eventsOnly (s : State) : s.endModeReqs.eventsOnly s :=
  State.foldl_eventsOnly _ (fun t k => t.finishRunning_eventsOnly k 0x40 stOk _) _ _

/-- The conditions of R48. -/
theorem State.serviceReady_iff {s : State} (hm : s.m.mode = .linkUp) : s.serviceReady = true ↔
    s.m.windowOpen = true ∧ (s.m.limitDone = true ∨ ∀ p ∈ s.cur.chip.reqPorts, s.portState p = 5) ∧
      (s.m.serviceAsked = true ∨ ∃ i, s.cur.running = some i ∧ i.flags % 2 = 1) := by
  have hrun : (s.cur.running.elim false fun i => decide (i.flags % 2 = 1)) = true ↔
      ∃ i, s.cur.running = some i ∧ i.flags % 2 = 1 := by
    cases s.cur.running <;> simp
  simp [State.serviceReady, hm, State.portHasLink, hrun, and_assoc]

/-- Transition 7, or 8 with a part out of service or the limit past. -/
def State.inService (s : State) : State :=
  if s.sup.outParts = [] ∧ s.m.limitDone = false then
    { s with m := { s.m with mode := .service, prev := s.m.mode, target := none, num := 7 } }
  else { s with m := { s.m with mode := .degraded, prev := s.m.mode, target := none, num := 8 } }

theorem State.tryService_of_ready {s : State} (h : s.serviceReady = true) : s.tryService.eventsOnly s.inService := by
  unfold State.tryService State.inService
  rw [if_pos h]
  refine State.eventsOnly_trans (State.endModeReqs_eventsOnly _) ?_
  split <;> exact State.enterMode_eventsOnly ..

theorem exec_enterService (s : State) (hm : s.m.mode = .linkUp) :
    ∃ t, exec .enterService s = .next t ∧
      if s.m.windowOpen = true ∧ (s.m.limitDone = true ∨ ∀ p ∈ s.cur.chip.reqPorts, s.portState p = 5) ∧
          (s.m.serviceAsked = true ∨ ∃ i, s.cur.running = some i ∧ i.flags % 2 = 1) then
        t.m.target = none ∧ t.m.prev = .linkUp ∧
          (if s.sup.outParts = [] ∧ s.m.limitDone = false then t.m.mode = .service ∧ t.m.num = 7
           else t.m.mode = .degraded ∧ t.m.num = 8) ∧
          t = { s with m := t.m, cur := t.cur, mgmt := t.mgmt, regs := t.regs }
      else t = s := by
  refine ⟨s.tryService, rfl, ?_⟩
  split
  · rename_i h
    obtain ⟨ses, mg, rg, ht, -⟩ := State.tryService_of_ready ((State.serviceReady_iff hm).2 h)
    rw [ht]
    unfold State.inService
    split
    · exact ⟨rfl, hm, ⟨rfl, rfl⟩, rfl⟩
    · exact ⟨rfl, hm, ⟨rfl, rfl⟩, rfl⟩
  · rename_i h
    exact if_neg fun hr => h ((State.serviceReady_iff hm).1 hr)

/-- A try to enter service changes modes, sessions, management queues and registers only. -/
theorem State.tryService_spec (s : State) :
    s.tryService = { s with m := s.tryService.m, cur := s.tryService.cur, mgmt := s.tryService.mgmt, regs := s.tryService.regs } := by
  by_cases h : s.serviceReady = true
  · obtain ⟨ses, mg, rg, ht, -⟩ := State.tryService_of_ready h
    rw [ht]
    unfold State.inService
    split <;> rfl
  · rw [State.tryService, if_neg h]

/-- The link-up limit is past: LINK_TIMEOUT and its event. -/
def State.limitPast (s : State) : State :=
  (State.flag { s with m := { s.m with limitDone := true } } .curBootStatus 0 0 13).raise 7 0 0 s.missingPorts

theorem State.limitPast_spec (s : State) : s.limitPast = { s with
    m := { s.m with limitDone := true }, cur := s.limitPast.cur, mgmt := s.limitPast.mgmt, regs := s.limitPast.regs } := by
  unfold State.limitPast
  obtain ⟨hf, -⟩ := State.flag_spec { s with m := { s.m with limitDone := true } } .curBootStatus 0 0 13
  generalize State.flag { s with m := { s.m with limitDone := true } } .curBootStatus 0 0 13 = u at hf ⊢
  obtain ⟨ses, mg, rg, hr, -⟩ := u.raise_eventsOnly 7 0 0 s.missingPorts
  rw [hr]
  generalize hc : u.cur = c, hq : u.mgmt = q, hg : u.regs = g at hf
  subst hf
  rfl

theorem State.limitPast_sets (s : State) : s.limitPast.rfld .curBootStatus 0 0 13 1 = 1 := by
  have ha : regAddr .curBootStatus 0 0 ≠ regAddr .curEventLost 0 0 := by decide
  rw [State.limitPast, State.rfld, State.rget_raise _ _ _ _ _ _ _ _ ha]
  exact State.flag_sets _ _ _ _ (by omega) ha

theorem exec_linkUpLimitExpiry_eq {s : State} (hm : s.m.mode = .linkUp) (hl : s.m.limitDone = false) :
    exec .linkUpLimitExpiry s = .next (let u := s.reach (s.m.linkUpAt + s.cur.chip.linkLimit * 1000000000)
      if u.cur.sessions.any fun x => x.confirmed.isSome then u.limitPast.tryService else u) := by
  have he : exec .linkUpLimitExpiry s = execLinkUpLimitExpiry s := rfl
  rw [he, execLinkUpLimitExpiry, if_pos ⟨hm, hl⟩]
  rfl

theorem exec_linkUpLimitExpiry {s : State} (hm : s.m.mode = .linkUp) (hl : s.m.limitDone = false) :
    ∃ t u : State, exec .linkUpLimitExpiry s = .next t ∧
      if s.cur.sessions.any fun x => x.confirmed.isSome then
        exec .enterService u = .next t ∧ u.m = { s.m with limitDone := true } ∧ u.rfld .curBootStatus 0 0 13 1 = 1 ∧
          u = { s with m := u.m, cur := u.cur, mgmt := u.mgmt, regs := u.regs, time := u.time } ∧
          t = { s with m := t.m, cur := t.cur, mgmt := t.mgmt, regs := t.regs, time := t.time }
      else t = { s with time := t.time } := by
  obtain ⟨hr, -, -⟩ := s.reach_spec (s.m.linkUpAt + s.cur.chip.linkLimit * 1000000000)
  rw [exec_linkUpLimitExpiry_eq hm hl]
  generalize s.reach (s.m.linkUpAt + s.cur.chip.linkLimit * 1000000000) = r at hr ⊢
  obtain ⟨time, htime⟩ : ∃ x, x = r.time := ⟨_, rfl⟩
  rw [← htime] at hr
  subst hr
  have hu := State.limitPast_spec { s with time := time }
  have hb := State.limitPast_sets { s with time := time }
  by_cases h : (s.cur.sessions.any fun x => x.confirmed.isSome) = true
  · refine ⟨_, State.limitPast { s with time := time }, congrArg _ (if_pos h), ?_⟩
    rw [if_pos h]
    generalize State.limitPast { s with time := time } = u at hu hb ⊢
    have ht := u.tryService_spec
    generalize u.cur = c, u.mgmt = q, u.regs = g at hu
    subst hu
    refine ⟨rfl, rfl, hb, rfl, ?_⟩
    generalize State.tryService _ = t at ht ⊢
    generalize t.m = m, t.cur = c, t.mgmt = q, t.regs = g at ht
    subst ht
    rfl
  · refine ⟨_, s, congrArg _ (if_neg h), ?_⟩
    rw [if_neg h]

/-- Settles O15, by the lemmas on its two commands. -/
theorem serviceEntry : Obligations.ServiceEntry := by
  unfold Obligations.ServiceEntry
  exact fun s hm => ⟨exec_enterService s hm, exec_linkUpLimitExpiry hm⟩

end Sys2Proof.Machine

namespace Sys2Proof.Machine

/-! ### Registers through a boot phase -/

/-- A register at another address than the wings' STATE words is as it was when every block shows a STATE. -/
theorem State.rget_allBlkState (s : State) (st : Nat) {r : Reg} {u i : Nat} (h : ∀ w b, regAddr r u i ≠ regAddr .chpWingBlkState w b) :
    (s.allBlkState st).rget r u i = s.rget r u i := by
  refine List.foldlRecOn (motive := fun t : State => t.rget r u i = s.rget r u i) _ _ rfl fun t ht e he => ?_
  have hw : 1 ≤ e.1 := Nat.pos_of_ne_zero (by simpa [wingBlockList] using (List.mem_filter.1 he).2)
  rw [State.rget_of_regsKept (State.regsKept_setBlkState hw t e.2 st) (by simpa using h _ _)]
  exact ht

theorem State.rget_bootPhase (s : State) (m : Mode) (num : Nat) (next : Option Mode) {r : Reg} {u i : Nat}
    (h : regAddr r u i ≠ regAddr .curEventLost 0 0) : (s.bootPhase m num next).rget r u i = s.rget r u i := by
  obtain ⟨ses, mg, rg, he, hr⟩ := s.enterMode_eventsOnly m num 0
  rw [State.bootPhase, he]
  simp only [State.rget, ngetD, hr _ h]

/-- A boot phase begins. -/
theorem State.bootPhase_mode (s : State) (m : Mode) (num : Nat) (next : Option Mode) :
    (s.bootPhase m num next).m.mode = m ∧ (s.bootPhase m num next).m.target = next := by
  obtain ⟨ses, mg, rg, he, -⟩ := s.enterMode_eventsOnly m num 0
  rw [State.bootPhase, he]
  exact ⟨rfl, rfl⟩

theorem regAddr_ne_blkState {r : Reg} {a : Nat} (ha : regAddr r 0 0 = a) (h : a < 0x10000000) (w b : Nat) :
    regAddr r 0 0 ≠ regAddr .chpWingBlkState w b := by
  rw [ha, regAddr_chpWingBlkState]
  omega

/-- The registers of a copy in use. -/
theorem State.loaded_spec (s : State) {copy : Nat} (hc : copy < 4) (i : ImageInfo) :
    (s.loaded copy i).m.mode = .selfTest ∧ (s.loaded copy i).m.target = some .linkUp ∧
      (s.loaded copy i).rfld .curBootStatus 0 0 0 2 = copy ∧ (s.loaded copy i).rget .curImageId 0 0 = BitVec.ofNat 32 i.buildId := by
  have hboot := regAddr_ne_blkState (r := .curBootStatus) rfl (by decide)
  have hid := regAddr_ne_blkState (r := .curImageId) rfl (by decide)
  unfold State.loaded
  dsimp only
  generalize hu : State.rset _ .curImageSkip 0 0 (BitVec.ofNat 32 (min 255 i.skipped)) = u
  have hb : u.rfld .curBootStatus 0 0 0 2 = copy := by
    rw [← hu, State.rfld, State.rget_rset_ne _ _ (by decide), State.rget_rset_ne _ _ (by decide)]
    exact (State.rfld_rsetFld_self s _ 0 0 copy (by omega)).trans (Nat.mod_eq_of_lt hc)
  have hi : u.rget .curImageId 0 0 = BitVec.ofNat 32 i.buildId := by
    rw [← hu, State.rget_rset_ne _ _ (by decide), State.rget_rset_self]
  clear hu
  have key (v : State) (hv : ∀ r, (∀ w b, regAddr r 0 0 ≠ regAddr .chpWingBlkState w b) → v.rget r 0 0 = u.rget r 0 0) :
      let t := v.bootPhase .selfTest 5 (some .linkUp)
      t.m.mode = .selfTest ∧ t.m.target = some .linkUp ∧ t.rfld .curBootStatus 0 0 0 2 = copy ∧
        t.rget .curImageId 0 0 = BitVec.ofNat 32 i.buildId := by
    obtain ⟨hmode, htarget⟩ := v.bootPhase_mode .selfTest 5 (some .linkUp)
    refine ⟨hmode, htarget, ?_, ?_⟩
    · rw [State.rfld, State.rget_bootPhase _ _ _ _ (by decide), hv _ hboot]
      exact hb
    · rw [State.rget_bootPhase _ _ _ _ (by decide), hv _ hid, hi]
  split
  · refine key _ fun r h => ?_
    rw [State.rget_of_regsKept (State.regsKept_setBlkState (by omega) _ _ _) (by simpa using h _ _), State.rget_allBlkState _ _ h]
  · exact key _ fun r h => State.rget_allBlkState _ _ h

theorem State.toSafeStop_mode (s : State) (cause : Nat) : (s.toSafeStop cause).m.mode = .safeStop :=
  congrArg (fun a => a.2.1) (s.toSafeStop_control cause)

/-- LOAD ends with the first copy that is good. -/
theorem exec_loadDone {s : State} (hm : s.m.mode = .load) (copyA copyB : FlashCopy) :
    ∃ t, exec (.loadDone copyA copyB) s = .next t ∧
      match s.loadCopy copyA with
      | .ok (i, _) => t.m.mode = .selfTest ∧ t.m.target = some .linkUp ∧ t.rfld .curBootStatus 0 0 0 2 = 1 ∧
          t.rget .curImageId 0 0 = BitVec.ofNat 32 i.buildId
      | .error a =>
        match (s.copyFails 0 a).loadCopy copyB with
        | .ok (i, _) => t.m.mode = .selfTest ∧ t.m.target = some .linkUp ∧ t.rfld .curBootStatus 0 0 0 2 = 2 ∧
            t.rget .curImageId 0 0 = BitVec.ofNat 32 i.buildId
        | .error _ => t.m.mode = .safeStop := by
  refine ⟨_, congrArg Host.Outcome.next (if_pos hm), ?_⟩
  cases s.loadCopy copyA with
  | ok r => exact r.2.loaded_spec (by omega) r.1
  | error a =>
    dsimp only
    cases (s.copyFails 0 a).loadCopy copyB with
    | ok r => exact r.2.loaded_spec (by omega) r.1
    | error b => exact State.toSafeStop_mode ..

/-! ### Ports start -/

/-- Registers and ports alone changed. -/
def State.portsOnly (t s : State) : Prop := ∃ r a, t = { s with regs := r, atr := a }

theorem State.portsOnly_foldl {β : Type} {f : State → β → State} (hf : ∀ s b, (f s b).portsOnly s) (l : List β) (s : State) :
    (l.foldl f s).portsOnly s := by
  refine List.foldlRecOn (motive := fun t : State => t.portsOnly s) _ _ ⟨_, _, rfl⟩ fun t ht b _ => ?_
  obtain ⟨r, a, h⟩ := hf t b
  obtain ⟨r', a', rfl⟩ := ht
  exact ⟨r, a, h⟩

theorem State.portsOnly_trans {s t u : State} (h : u.portsOnly t) (k : t.portsOnly s) : u.portsOnly s := by
  obtain ⟨r, a, h⟩ := h
  obtain ⟨r', a', rfl⟩ := k
  exact ⟨r, a, h⟩

theorem State.startPort_portsOnly (s : State) (p : Nat) : (s.startPort p).portsOnly s := by
  have hfld (t : State) (r : Reg) (u i lo len n : Nat) : (t.rsetFld r u i lo len n).portsOnly t := ⟨_, _, rfl⟩
  have hagc (t : State) (l : List Nat) : (t.releaseAgc l).portsOnly t := State.portsOnly_foldl (fun t l => hfld ..) _ _
  have heq (t : State) (l : List Nat) : (t.freshEq l).portsOnly t := State.portsOnly_foldl (fun t l => ⟨_, _, rfl⟩) _ _
  have hunlock (t : State) (l : List Nat) : (t.unlock p l).portsOnly t :=
    State.portsOnly_trans (State.portsOnly_foldl (fun t l => hfld ..) _ _) (State.portsOnly_foldl (fun t l => hfld ..) _ _)
  have hu : (State.unlock (State.freshEq (State.releaseAgc (s.setPort p { s.port p with ready := false, holdFrom := none })
      (s.portLanes p)) (s.portLanes p)) p (s.portLanes p)).portsOnly s :=
    State.portsOnly_trans (hunlock _ _) (State.portsOnly_trans (heq _ _) (State.portsOnly_trans (hagc _ _) ⟨_, _, rfl⟩))
  unfold State.startPort
  dsimp only
  split
  · exact State.portsOnly_trans (hfld ..) hu
  · exact State.portsOnly_trans (hfld ..) (State.portsOnly_trans (hfld ..) (State.portsOnly_trans (hfld ..) hu))

theorem State.startAllPorts_portsOnly (s : State) : s.startAllPorts.portsOnly s := by
  refine State.portsOnly_foldl (fun t p => ?_) _ _
  split
  · exact State.portsOnly_trans (State.portsOnly_trans ⟨_, _, rfl⟩ ⟨_, _, rfl⟩) (t.startPort_portsOnly p)
  · exact t.startPort_portsOnly p

/-! ### SELF_TEST -/

/-- The entry into LINK_UP arms the chip watchdog for 2 s (R450). -/
theorem State.toLinkUp_spec (s : State) : s.toLinkUp.m.mode = .linkUp ∧ s.toLinkUp.m.linkUpAt = s.toLinkUp.t ∧
    s.toLinkUp.sup.deadline = some (s.toLinkUp.t + 2000000000) := by
  obtain ⟨hmode, -⟩ := s.bootPhase_mode .linkUp 6 none
  unfold State.toLinkUp
  dsimp only
  generalize s.bootPhase .linkUp 6 none = u at hmode ⊢
  obtain ⟨r, a, h⟩ := State.startAllPorts_portsOnly { u with
    m := { u.m with linkUpAt := u.t }, sup := { u.sup with deadline := some (u.t + 2000000000) } }
  rw [h]
  exact ⟨hmode, rfl, rfl⟩

/-- A failed checker is irreplaceable. -/
theorem filterMap_checker_of_all {failed : List Part} (h : (failed.all fun p => (selfTestPart p).isSome) = true) {f : Part → Option Nat}
    (hf : ∀ p c, f p = some c → selfTestPart p = none) : failed.filterMap f = [] := by
  rw [List.filterMap_eq_nil_iff]
  intro p hp
  have hs := List.all_eq_true.1 h p hp
  cases hc : f p with
  | none => rfl
  | some c => simp [hf p c hc] at hs

theorem exec_selftestDone {s : State} (hm : s.m.mode = .selfTest) (failed : List Part) :
    ∃ t, exec (.selftestDone failed) s = .next t ∧
      if failed.all fun p => (selfTestPart p).isSome then
        t.m.mode = .linkUp ∧ t.m.linkUpAt = t.t ∧ t.sup.deadline = some (t.t + 2000000000) ∧ t.otp = s.otp
      else t.m.mode = .safeStop := by
  refine ⟨_, congrArg Host.Outcome.next (if_pos hm), ?_⟩
  dsimp only
  split
  · rename_i h
    have hnone : (failed.any fun p => (selfTestPart p).isNone) = false := by
      rw [List.any_eq_false]
      intro p hp
      simpa [Option.isSome_iff_ne_none] using List.all_eq_true.1 h p hp
    rw [if_neg (not_not.2 (filterMap_checker_of_all h fun p c hc => ?_)), if_neg (by simp [hnone])]
    swap
    · cases p with
      | checker c => rfl
      | _ => cases hc
    obtain ⟨hmode, hat, hdog⟩ := State.toLinkUp_spec ((failed.filterMap selfTestPart).foldl State.selfTestOut s)
    refine ⟨hmode, hat, hdog, ?_⟩
    have hc := State.toLinkUp_control ((failed.filterMap selfTestPart).foldl State.selfTestOut s)
    rw [State.foldl_control State.selfTestOut_control] at hc
    exact congrArg (fun a => a.2.2) hc
  · rename_i h
    split
    · exact State.toSafeStop_mode ..
    · rw [if_pos]
      · exact State.toSafeStop_mode ..
      · simpa using h

/-- Settles O13, by the lemmas on its two commands. -/
theorem loadAndSelfTest : Obligations.LoadAndSelfTest := by
  unfold Obligations.LoadAndSelfTest
  exact fun s copyA copyB failed => ⟨fun hm => exec_loadDone hm copyA copyB, fun hm => exec_selftestDone hm failed⟩

end Sys2Proof.Machine

/-!
PROOF. A request that changes the life cycle while the egress drains into a failure (O38).
-/

namespace Sys2Proof.Machine

/-- A session that may ask for anything, its epoch confirmed with every feature. -/
def lifeSession : Session :=
  { id := 7, perm := 0x1FF, srcAddr := 0x0A000000, family := 4, plen := 8, imageKey := zeros 32
    confirmed := some ⟨zeros 16, zeros 32, 0x0101, 0x1F, 1400⟩ }

/-- The epoch of that session. -/
def lifeEpoch : Epoch := ⟨zeros 16, zeros 32, 0x0101, 0x1F, 1400⟩

/-- Its LC_TARGET naming RETURNED. -/
def returnRequest : Datagram :=
  ⟨0, zeros 6, false, 0x0A000002, 0x0A000001, 9, 47800, jcpMessage lifeEpoch.key 0x0101 0 0x40 7 1 0 (tlv 0x51 [3])⟩

/-- A PROVISIONED part in SERVICE, North's RECOVERY ended less than 60 s ago. Port 3 is up, and leg 7 behind it holds a packet whose
membership word no longer checks. The leg has met its checker three times within the last millisecond, and 63 other legs were isolated
within the last second. Nothing is reported. -/
def beforeIsolation : State :=
  { m := { mode := .service, recovered := [(1, 0)] }
    otp := { provisioned := 7 }
    cur := { sessions := [lifeSession], chip := { mgmt4 := [0x0A000001] } }
    regs := [(regAddr .atrPortStatus 0 3, 5)]
    objs := [(objKey tyLeg 7, [(0x500, [3])])]
    stk := { queues := [(classQueue 7 0, { head := [{ handle := 7 }] })] }
    sup := { hits := [(7, [0, 0, 0])], isoTimes := (List.range 63).map fun i => (0, 8 + i) } }

theorem beforeIsolation_takesCmd :
    beforeIsolation.takesCmd returnRequest 0x4001 0 lifeSession lifeEpoch [(0x51, [byteOf 3])] :=
  ⟨⟨by decide +kernel, by decide, rfl, by decide +kernel, by decide, by decide +kernel, by decide +kernel, by decide +kernel,
    by decide +kernel, by decide, rfl, fun _ h => absurd h (Nat.not_lt_zero _), by decide +kernel, by decide +kernel, rfl, rfl,
    by decide +kernel, by decide +kernel⟩, by decide, by decide +kernel, by decide, by decide +kernel⟩

/-- No warm reset within 60 s and nothing reported: the statement awaits POWER_UP. -/
theorem beforeIsolation_clear : ¬ (beforeIsolation.thirdReset ∨ beforeIsolation.stopAmong beforeIsolation.sup.reported ≠ none) := by
  decide +kernel

/-- The drain finds the damaged word: the fourth hit isolates leg 7, the 64th isolation within the second, and North's failure is
reported. It is judged before the warm reset, and as North's second it leads to SAFE_STOP. -/
theorem beforeIsolation_stopped :
    (beforeIsolation.jcpReceive returnRequest 0x4001 State.jcpLife).m.mode = .safeStop := by
  decide +kernel

/-- Refutes O38 in its last clause. The warm reset of LC_TARGET is judged after the egress has stopped, and draining the ports can itself
report a failure that leads to SAFE_STOP: there with no reset before it and no trigger reported the part ends in SAFE_STOP. -/
theorem not_modeRequests : ¬ Obligations.ModeRequests := by
  unfold Obligations.ModeRequests
  intro h
  obtain ⟨t, ht, -, -, -, hmode⟩ := (h beforeIsolation returnRequest 0 lifeSession lifeEpoch).2 3 (by decide) (by decide)
    beforeIsolation_takesCmd (.inr ⟨rfl, .inl (by decide)⟩)
  obtain rfl : beforeIsolation.jcpReceive returnRequest 0x4001 State.jcpLife = t := by injection ht
  rw [if_neg beforeIsolation_clear, beforeIsolation_stopped] at hmode
  exact absurd hmode.1 (by decide)

end Sys2Proof.Machine

/-!
PROOF. What a warm reset leaves, for a boot phase that overruns and for the chip watchdog (O14).
-/

namespace Sys2Proof.Machine

/-! ### Warm resets -/

theorem State.frField_of_still {s t : State} (h : t.still = s.still) {off n : Nat} (hn : off + n ≤ 0x400) :
    t.frField off n = s.frField off n := by
  have hhead : recHead t.frec = recHead s.frec := congrArg (fun x => x.2.2.2.2.2.2.2) h
  have hbyte : (List.range n).map (fun i => ngetD 0 t.frec (off + i)) = (List.range n).map fun i => ngetD 0 s.frec (off + i) :=
    List.map_congr_left fun i hi => congrFun hhead ⟨off + i, by have := List.mem_range.1 hi; omega⟩
  rw [State.frField, State.frField, hbyte]

theorem State.time_of_still {s t : State} (h : t.still = s.still) : t.time = s.time :=
  congrArg (fun x => x.2.2.2.2.2.2.1) h

theorem State.thirdReset_of_still {s t : State} (h : t.still = s.still) : t.thirdReset = s.thirdReset := by
  rw [State.thirdReset, State.thirdReset, State.frField_of_still h (show 4 + 4 ≤ 0x400 by decide),
    State.frField_of_still h (show 0xC + 4 ≤ 0x400 by decide), State.ms, State.ms, State.t, State.t, State.time_of_still h]

theorem State.thirdReset_iff (s : State) : s.thirdReset = true ↔ s.frField 4 4 ≥ 2 ∧
    (s.ms % 4294967296 + 4294967296 - s.frField 0xC 4) % 4294967296 < 60000 := by
  rw [State.thirdReset, decide_eq_true_iff]

/-- The third warm reset within 60 s is SAFE_STOP instead. -/
theorem State.warmReset_of_third {s : State} (h : s.thirdReset = true) (bit : Nat) :
    s.warmReset bit = (s.rbit .curResetCause 0 0 5).safeStop 0x13 := by
  unfold State.warmReset
  dsimp only
  rw [if_pos (s.thirdReset_iff.1 h)]

theorem State.stopped_of_control {s t : State} (h : t.control = inMode .safeStop s.control) :
    t.m.mode = .safeStop ∧ t.otp = s.otp := by
  simp only [State.control, inMode, Prod.mk.injEq] at h
  exact h.2

/-- What a warm reset of `s` for a cause leaves. -/
def State.warmAfter (s t : State) (bit : Nat) : Prop :=
  if s.thirdReset then t.m.mode = .safeStop ∧ t.otp = s.otp
  else t.rget .curResetCause 0 0 = BitVec.ofNat 32 (2 ^ bit + 256 * min 255 (min 0xFFFFFFFF (s.frField 4 4 + 1))) ∧
    (∀ a, a ≠ regAddr .curResetCause 0 0 → a ≠ regAddr .chpClkLock 0 0 →
      (∀ u < 4, ∀ b < 256, a ≠ regAddr .chpWingBlkState u b) → nget t.regs a = none) ∧
    t = { State.reset with
      m := { mode := .powerUp, prev := s.m.mode, target := some .wipe, num := 3 }
      otp := s.otp, rails := s.rails, i2c := s.i2c, tap := s.tap, programmed := s.programmed, pending := s.pending
      answer := s.answer, draws := t.draws, regs := t.regs, pins := t.pins, time := t.time, frec := t.frec
      wire := t.wire, mct := t.mct }

/-- Only these matter to it. -/
theorem State.warmAfter_of_kept {s u t : State} {bit : Nat} (hc : u.control = s.control) (hs : u.still = s.still)
    (h : u.warmAfter t bit) : s.warmAfter t bit := by
  simp only [State.control, State.still, Prod.mk.injEq] at hc hs
  obtain ⟨hpending, hmode, hotp⟩ := hc
  have hthird := State.thirdReset_of_still (by simpa only [State.still, Prod.mk.injEq] using hs)
  have hcount := State.frField_of_still (by simpa only [State.still, Prod.mk.injEq] using hs) (show 4 + 4 ≤ 0x400 by decide)
  obtain ⟨-, hrails, hi2c, htap, hprog, hans, -, -⟩ := hs
  simpa only [State.warmAfter, hthird, hcount, hpending, hmode, hotp, hrails, hi2c, htap, hprog, hans] using h

/-- The blocks' RESETS are put back. -/
def putResets (resets : List (Nat × Nat × Nat)) (s : State) : State :=
  resets.foldl (fun s e => s.rsetFld .chpWingBlkState e.1 e.2.1 8 8 e.2.2) s

theorem putResets_spec {resets : List (Nat × Nat × Nat)} (hr : ∀ e ∈ resets, e.1 < 4 ∧ e.2.1 < 256) (s : State) :
    ∃ regs, putResets resets s = { s with regs := regs } ∧
      ∀ a, (∀ u < 4, ∀ b < 256, a ≠ regAddr .chpWingBlkState u b) → nget regs a = nget s.regs a := by
  refine List.foldlRecOn (motive := fun t : State => ∃ regs, t = { s with regs := regs } ∧
    ∀ a, (∀ u < 4, ∀ b < 256, a ≠ regAddr .chpWingBlkState u b) → nget regs a = nget s.regs a) resets _ ⟨s.regs, rfl, fun _ _ => rfl⟩ ?_
  rintro t ⟨regs, rfl, hregs⟩ e he
  refine ⟨_, rfl, fun a ha => ?_⟩
  exact (nget_nputD_ne _ _ _ (ha _ (hr e he).1 _ (hr e he).2)).trans (hregs a ha)

/-- What a warm reset keeps of the state before it, the fault record written and three registers still to be put back. -/
def State.restarted (s : State) (frec : NMap Byte) : State :=
  { State.reset with
    pending := s.pending, draws := s.draws, answer := s.answer, otp := s.otp, rails := s.rails, i2c := s.i2c, tap := s.tap
    frec := frec, wire := s.wire, programmed := s.programmed, mct := s.loseRequests.mct
    m := { mode := .powerUp, prev := s.m.mode, target := some .wipe, num := 3 }
    pins := { s.pins with ppsOut := false }
    time := { s.time with inc := 0x100000000, ppsIn := none, ppsRise := none } }

/-- The fault record at a warm reset. -/
theorem State.recorded_spec (s : State) (word : W32) (b : Bytes) :
    ∃ f, (((s.logFault 0x0A 0 0 word.toNat 0).frWrite 0x004 b).snapshot word) = { s with frec := f } := by
  obtain ⟨f, hf⟩ := s.logFault_spec 0x0A 0 0 word.toNat 0
  obtain ⟨g, hg⟩ := State.frWrite_spec { s with frec := f } 0x004 b
  rw [hf, hg]
  exact State.frWrite_spec _ _ _

theorem State.warmReset_eq {s : State} (h : ¬ s.thirdReset = true) (bit : Nat) :
    ∃ frec resets, (∀ e ∈ resets, e.1 < 4 ∧ e.2.1 < 256) ∧
      s.warmReset bit = putResets resets (((s.restarted frec).rset .curResetCause 0 0
        (BitVec.ofNat 32 (2 ^ bit + 256 * min 255 (min 0xFFFFFFFF (s.frField 4 4 + 1))))).rset .chpClkLock 0 0
          (s.rget .chpClkLock 0 0)) := by
  have hcond := mt s.thirdReset_iff.2 h
  unfold State.warmReset
  dsimp only
  rw [if_neg hcond]
  generalize BitVec.ofNat 32 (2 ^ bit + 256 * min 255 (min 0xFFFFFFFF (s.frField 4 4 + 1))) = word
  generalize leBytes 4 (min 0xFFFFFFFF (s.frField 4 4 + 1)) ++ (leBytes 4 _ ++ leBytes 4 _ ++ leBytes 4 _) = b
  obtain ⟨f, hf⟩ := s.recorded_spec word b
  rw [hf]
  refine ⟨_, _, ?_, rfl⟩
  intro e he
  simp only [List.mem_flatMap, List.mem_filterMap, List.mem_range] at he
  obtain ⟨u, hu, b, hb, he⟩ := he
  split at he
  · cases he
  · cases he
    exact ⟨hu, hb⟩

theorem regAddr_curResetCause : regAddr .curResetCause 0 0 = 0x108 := rfl

theorem State.warmReset_of_first {s : State} (h : ¬ s.thirdReset = true) (bit : Nat) :
    ∃ frec regs, s.warmReset bit = { s.restarted frec with regs := regs } ∧
      ngetD (regReset .curResetCause 0 0) regs (regAddr .curResetCause 0 0) =
        BitVec.ofNat 32 (2 ^ bit + 256 * min 255 (min 0xFFFFFFFF (s.frField 4 4 + 1))) ∧
      ∀ a, a ≠ regAddr .curResetCause 0 0 → a ≠ regAddr .chpClkLock 0 0 →
        (∀ u < 4, ∀ b < 256, a ≠ regAddr .chpWingBlkState u b) → nget regs a = none := by
  obtain ⟨frec, resets, hr, he⟩ := State.warmReset_eq h bit
  generalize BitVec.ofNat 32 (2 ^ bit + 256 * min 255 (min 0xFFFFFFFF (s.frField 4 4 + 1))) = word at he ⊢
  generalize s.rget .chpClkLock 0 0 = lock at he
  obtain ⟨regs, hp, hregs⟩ := putResets_spec hr (((s.restarted frec).rset .curResetCause 0 0 word).rset .chpClkLock 0 0 lock)
  refine ⟨frec, regs, he.trans hp, ?_, fun a hcause hlock hblk => ?_⟩
  · have hblk : ∀ u < 4, ∀ b < 256, regAddr .curResetCause 0 0 ≠ regAddr .chpWingBlkState u b := fun u _ b _ => by
      rw [regAddr_chpWingBlkState, regAddr_curResetCause]
      omega
    have hlock := State.rget_rset_ne ((s.restarted frec).rset .curResetCause 0 0 word) lock
      (show regAddr .curResetCause 0 0 ≠ regAddr .chpClkLock 0 0 by decide)
    rw [ngetD, hregs _ hblk]
    exact hlock.trans (State.rget_rset_self ..)
  · exact (hregs a hblk).trans ((nget_nputD_ne _ _ _ hlock).trans (nget_nputD_ne _ _ _ hcause))

theorem State.warmReset_warmAfter (s : State) (bit : Nat) : s.warmAfter (s.warmReset bit) bit := by
  unfold State.warmAfter
  split
  case isTrue h =>
    have hc := (s.rbit .curResetCause 0 0 5).safeStop_control 0x13
    rw [State.rbit_control] at hc
    rw [State.warmReset_of_third h]
    exact State.stopped_of_control hc
  case isFalse h =>
    obtain ⟨frec, regs, he, hcause, hregs⟩ := State.warmReset_of_first h bit
    rw [he]
    exact ⟨hcause, hregs, rfl⟩

/-- A warm reset asked for, with no trigger reported that leads to SAFE_STOP. -/
theorem State.toWarmReset_warmAfter {s : State} (h : s.stopAmong s.sup.reported = none) (bit : Nat) :
    s.warmAfter (s.toWarmReset bit) bit := by
  have hc : (s.sup.reported.foldl State.logTrigger s).stopEgress.control = s.control := by simp
  have hs : (s.sup.reported.foldl State.logTrigger s).stopEgress.still = s.still := by simp
  unfold State.toWarmReset
  rw [h]
  exact State.warmAfter_of_kept hc hs (State.warmReset_warmAfter ..)

/-- With such a trigger it is SAFE_STOP. -/
theorem State.toWarmReset_stopped {s : State} (h : s.stopAmong s.sup.reported ≠ none) (bit : Nat) :
    (s.toWarmReset bit).m.mode = .safeStop ∧ (s.toWarmReset bit).otp = s.otp := by
  obtain ⟨c, hc⟩ := Option.ne_none_iff_exists'.1 h
  have hstop := (s.sup.reported.foldl State.logTrigger s).toSafeStop_control c
  rw [State.foldl_control State.logTrigger_control] at hstop
  unfold State.toWarmReset
  rw [hc]
  exact State.stopped_of_control hstop

/-! ### The chip watchdog -/

theorem State.verdict_watchdog {s : State} (hoff : s.m.mode ≠ .off) (hstop : s.m.mode ≠ .safeStop) :
    s.verdict .watchdog = .warm 1 := by
  simp [State.verdict, hoff, hstop]

/-- Its expiry with nothing else reported is a warm reset. -/
theorem State.supervise_watchdog {s : State} (hoff : s.m.mode ≠ .off) (hstop : s.m.mode ≠ .safeStop) :
    s.supervise [.watchdog] = s.toWarmReset 1 := by
  simp [State.supervise, State.stopAmong, State.warmAmong, State.verdict_watchdog hoff hstop, State.logTrigger]

/-- A reported trigger that leads to SAFE_STOP comes before the watchdog's. -/
theorem State.supervise_stopped {s : State} {ts : List Trigger} (h : s.stopAmong ts ≠ none) (more : List Trigger) :
    (s.supervise (ts ++ more)).m.mode = .safeStop ∧ (s.supervise (ts ++ more)).otp = s.otp := by
  obtain ⟨c, hc⟩ := Option.ne_none_iff_exists'.1 h
  have hall : s.stopAmong (ts ++ more) = some c := by
    rw [State.stopAmong, List.map_append, List.findSome?_append, ← State.stopAmong, hc]
    rfl
  have hstop := ((ts ++ more).foldl State.logTrigger s).toSafeStop_control c
  rw [State.foldl_control State.logTrigger_control] at hstop
  unfold State.supervise
  rw [hall]
  exact State.stopped_of_control hstop

/-- The state in which the watchdog's expiry is decided on: its deadline has come and the reports are taken. -/
def State.expired (s : State) (d : Nat) : State := { s.reach d with sup := { (s.reach d).sup with reported := [] } }

theorem execChipWatchdogExpiry_of_armed {s : State} {d : Nat} (h : s.sup.deadline = some d) :
    execChipWatchdogExpiry s = .next ((s.expired d).supervise (s.sup.reported ++ [.watchdog])) := by
  obtain ⟨he, -, -⟩ := s.reach_spec d
  have hsup : (s.reach d).sup = s.sup := by rw [he]
  unfold execChipWatchdogExpiry State.expired
  rw [h, ← hsup]

theorem execBootPhaseTimeout_of_boot {s : State}
    (h : s.m.mode = .wipe ∨ s.m.mode = .load ∨ s.m.mode = .selfTest ∨ (s.m.mode = .powerUp ∧ s.railsRun = true)) :
    execBootPhaseTimeout s = .next (s.toWarmReset 3) := by
  unfold execBootPhaseTimeout
  rcases h with hm | hm | hm | ⟨hm, hrun⟩ <;> rw [hm]
  exact congrArg Host.Outcome.next (if_pos hrun)

/-- Settles O14: both commands by the warm reset they ask for. -/
theorem warmResets : Obligations.WarmResets := by
  unfold Obligations.WarmResets
  refine fun s => ⟨fun hboot => ⟨_, execBootPhaseTimeout_of_boot hboot, ?_⟩,
    fun d hd hoff hstop => ⟨_, execChipWatchdogExpiry_of_armed hd, fun hnone => ?_, fun hsome => ?_⟩⟩
  · split
    case isTrue h => exact State.toWarmReset_warmAfter h 3
    case isFalse h => exact State.toWarmReset_stopped h 3
  · obtain ⟨he, -, -⟩ := s.reach_spec d
    have hm : (s.expired d).m = s.m := by rw [State.expired, he]
    rw [hnone, List.nil_append, State.supervise_watchdog (hm ▸ hoff) (hm ▸ hstop)]
    exact State.warmAfter_of_kept (u := s.expired d) rfl rfl (State.toWarmReset_warmAfter rfl 1)
  · have hotp : (s.expired d).otp = s.otp := (congrArg State.otp (s.reach_spec d).1 :)
    have hstopped := State.supervise_stopped (s := s.expired d) hsome [.watchdog]
    rwa [hotp] at hstopped

end Sys2Proof.Machine

/-!
PROOF. Datagrams on the management port that no key of their session authenticates (R74, R75).
-/

namespace Sys2Proof.Machine

/-! ### Datagrams that no key authenticates (R74, R75) -/

/-- The session that a message names is the first one of its number. -/
theorem State.find_session {s : State} {b : Bytes} {k : Nat} {x : Session} (hx : s.cur.sessions[k]? = some x)
    (hfirst : ∀ j < k, ∀ y, s.cur.sessions[j]? = some y → y.id ≠ x.id) (hid : x.id = jSession b) :
    ((List.range s.cur.sessions.length).find? fun j =>
      (s.cur.sessions[j]?).elim false fun y => decide (y.id = jSession b)) = some k := by
  refine List.find?_range_eq_some.2 ⟨by simp [hx, hid], ?_, fun j hj => ?_⟩
  · exact List.mem_range.2 (List.getElem?_eq_some_iff.1 hx).1
  · cases hy : s.cur.sessions[j]? with
    | none => rfl
    | some y => simpa [hid] using hfirst j hj y hy

theorem State.regsKept_rsetFld (s : State) (r : Reg) (u i lo len n : Nat) :
    (s.rsetFld r u i lo len n).regsKept s [regAddr r u i] := s.regsKept_rset r u i _

theorem State.regsKept_rcount (s : State) (r : Reg) (u i lo len n : Nat) :
    (s.rcount r u i lo len n).regsKept s [regAddr r u i] := s.regsKept_rsetFld r u i lo len _

/-- Of the registers kept apart from some, any more may be named. -/
theorem State.regsKept.mono {s t : State} {l m : List Nat} (h : t.regsKept s l) (hlm : l ⊆ m) : t.regsKept s m :=
  fun a ha => h a fun hl => ha (hlm hl)

/-- What a datagram does that is only dropped and counted: it is not one for the processor, or it is no longer waiting and the
counter of one of two reasons of R75, a bad MAC and no epoch yet, goes up. -/
def State.droppedOnly (t s : State) (d : Datagram) : Prop :=
  t = s ∨ (t.regsKept s [regAddr .curJcpDrop 0 0, regAddr .curJcpDrop 0 5] ∧
    t = { s with cur := { s.cur with rx := s.cur.rx.erase d }, regs := t.regs })

theorem State.droppedOnly_jcpDrop (s : State) (d : Datagram) {n : Nat} (hn : n = 0 ∨ n = 5) :
    ((s.unreceived d).jcpDrop n).droppedOnly s d := by
  refine .inr ⟨(State.regsKept_rcount (s.unreceived d) .curJcpDrop 0 n 0 32 1).mono ?_, rfl⟩
  rcases hn with rfl | rfl <;> simp

theorem State.droppedOnly.stage {s t : State} {d : Datagram} (h : t.droppedOnly s d) : t.stage = s.stage := by
  rcases h with rfl | ⟨hk, -⟩
  · rfl
  · rw [State.stage, State.rfld, State.rget_of_regsKept hk (by decide)]
    rfl

section

variable {s : State} {d : Datagram} {k : Nat} {x : Session} (hrun : s.cur.restarting = false)
  (hx : s.cur.sessions[k]? = some x) (hfirst : ∀ j < k, ∀ y, s.cur.sessions[j]? = some y → y.id ≠ x.id)
  (hid : x.id = jSession d.payload) (hcov : x.covers d = true) (hlen : 32 ≤ d.payload.length)
  (hwhole : d.payload.length = 32 + jLength d.payload) (hmax : d.payload.length ≤ s.cur.maxMsg)
  (himage : macOk x.imageKey d.payload = false) (hconf : ∀ ep, x.confirmed = some ep → macOk ep.key d.payload = false)
  (hhello : ∀ h, x.hello = some h → macOk h.epoch.key d.payload = false)

include hrun hx hfirst hid hcov hlen hwhole hmax himage hconf hhello

/-- The checks of R75 drop such a datagram, whatever its command would do. -/
theorem State.jcpIngress_of_badMac (run : State → JcpCmd → JcpDone) :
    ∃ n, (n = 0 ∨ n = 5) ∧ s.jcpIngress d run = s.jcpDrop n := by
  have hkeys : ((x.confirmed.toList ++ x.hello.toList.map (·.epoch)).find? fun ep => macOk ep.key d.payload) = none := by
    refine List.find?_eq_none.2 fun ep hep => ?_
    simp only [List.mem_append, Option.mem_toList, List.mem_map] at hep
    rcases hep with hep | ⟨h, hh, rfl⟩
    · simp [hconf ep hep]
    · simp [hhello h hh]
  by_cases hop : jOpcode d.payload = 1
  · exact ⟨0, .inl rfl, by simp [State.jcpIngress, hrun, Nat.not_lt.2 hlen, State.find_session hx hfirst hid, hx, hcov,
      ← hwhole, Nat.not_lt.2 hmax, hop, himage]⟩
  · refine ⟨if x.confirmed.isNone ∧ x.hello.isNone then 5 else 0, by split <;> simp, ?_⟩
    simp [State.jcpIngress, hrun, Nat.not_lt.2 hlen, State.find_session hx hfirst hid, hx, hcov, ← hwhole,
      Nat.not_lt.2 hmax, hop, hkeys]

theorem State.jcpReceive_of_badMac (row : Nat) (run : State → JcpCmd → JcpDone) : (s.jcpReceive d row run).droppedOnly s d := by
  have hin (run : State → JcpCmd → JcpDone) : ((s.unreceived d).jcpIngress d run).droppedOnly s d := by
    obtain ⟨n, hn, he⟩ := State.jcpIngress_of_badMac (s := s.unreceived d) hrun hx hfirst hid hcov hlen hwhole hmax himage
      hconf hhello run
    exact he ▸ s.droppedOnly_jcpDrop d hn
  unfold State.jcpReceive
  dsimp only
  split
  · split
    · split
      · exact hin run
      · exact .inl rfl
    · exact hin _
  · exact .inl rfl

end

/-- Settles O34: the checks of R75 come before the command's meaning, and without a key they end in a drop. -/
theorem unauthenticDropped : Obligations.UnauthenticDropped := by
  intro s c d k x hc hst hrun hx hfirst hid hcov hlen hwhole hmax himage hconf hhello
  have hrec := State.jcpReceive_of_badMac hrun hx hfirst hid hcov hlen hwhole hmax himage hconf hhello
  have happly (row : Nat) (run : State → JcpCmd → JcpDone) : (s.jcpReceive d row run).applyOn = s.jcpReceive d row run :=
    State.applyOn_of_stage ((hrec row run).stage.trans_ne hst)
  cases c with
  | hello | read | write | objCreate | objModify | objDelete | keyInstall | imageStage | verify | abort | programA | programB
    | commitVersion | modeReq | lcTarget | stats | eventAck =>
    cases hc
    exact ⟨_, rfl, hrec _ _⟩
  | applyBlock | applyAll =>
    cases hc
    exact ⟨_, congrArg Host.Outcome.next (happly _ _), hrec _ _⟩
  | _ => exact nomatch hc

end Sys2Proof.Machine

/-!
PROOF. Commands that the processor takes afresh and answers (R79 to R83), and READ and WRITE of registers (R84).
-/

namespace Sys2Proof.Machine

/-! ### Commands that are answered -/

@[simp] theorem length_leBytes (n v : Nat) : (leBytes n v).length = n := by
  induction n generalizing v with
  | zero => rfl
  | succ n ih => simp [leBytes, ih]

@[simp] theorem length_beBytes (n v : Nat) : (beBytes n v).length = n := by simp [beBytes]

/-- A TLV is its header and its value, padded by less than a word. -/
theorem length_tlv_lt (t : Nat) (v : Bytes) : (tlv t v).length < v.length + 8 := by
  simp only [tlv, padTo, zeros, List.length_append, length_beBytes, List.length_replicate]
  omega

@[simp] theorem Session.advance_id (x : Session) (seq : W32) : (x.advance seq).id = x.id := by
  unfold Session.advance
  split <;> rfl

theorem State.takesCmd.maxMsg {s : State} {d : Datagram} {row k : Nat} {x : Session} {ep : Epoch} {l : List (Nat × Bytes)}
    (h : s.takesCmd d row k x ep l) : 1280 ≤ ep.maxMsg := by
  obtain ⟨⟨-, -, -, -, -, -, -, -, -, hmax, -⟩, -⟩ := h
  exact hmax

theorem State.takesCmd.begun_session {s : State} {d : Datagram} {row k : Nat} {x : Session} {ep : Epoch}
    {l : List (Nat × Bytes)} (h : s.takesCmd d row k x ep l) :
    (s.begun d k x).cur.sessions[k]? = some (x.advance (jSeq d.payload)) := by
  obtain ⟨⟨-, -, -, -, -, -, -, -, -, -, hx, -⟩, -⟩ := h
  have hk : k < s.cur.sessions.length := (List.getElem?_eq_some_iff.1 hx).1
  exact (lset_get _ _ _ _).trans (if_pos ⟨rfl, hk⟩)

/-- A command whose meaning is a reply that fits the session's messages is answered with it. -/
theorem State.takesCmd.answers {s u : State} {d : Datagram} {row k : Nat} {x : Session} {ep : Epoch} {l : List (Nat × Bytes)}
    (h : s.takesCmd d row k x ep l) {run : State → JcpCmd → JcpDone} {st : Nat} {tlvs : Bytes}
    (hrun : run (s.begun d k x) (cmdOf d k x ep l) = .reply st tlvs u) (hu : (u.cur.sessions[k]?).isSome = true)
    (hfit : 32 + tlvs.length ≤ ep.maxMsg) : (s.jcpReceive d row run).answers u d x ep st tlvs := by
  rw [State.jcpReceive_of_takesCmd h run, hrun]
  exact State.jcpAnswer_answers _ x l st hu hfit

/-- The same where the reply carries a status and nothing else. -/
theorem State.takesCmd.answers_status {s u : State} {d : Datagram} {row k : Nat} {x : Session} {ep : Epoch}
    {l : List (Nat × Bytes)} (h : s.takesCmd d row k x ep l) {run : State → JcpCmd → JcpDone} {st : Nat}
    (hrun : run (s.begun d k x) (cmdOf d k x ep l) = .reply st [] u) (hu : (u.cur.sessions[k]?).isSome = true) :
    (s.jcpReceive d row run).answers u d x ep st [] := by
  have hmax := h.maxMsg
  exact h.answers hrun hu (by rw [List.length_nil]; omega)

/-- What such a command is carried out with: the session's permissions are those it had. -/
theorem cmdOf_allows {d : Datagram} {k : Nat} {x : Session} {ep : Epoch} {l : List (Nat × Bytes)} {p : Nat}
    (h : x.perm.getLsbD p = true) : (cmdOf d k x ep l).allows p none = .ok () :=
  JcpCmd.allows_of_perm ((congrArg (·.getLsbD p) (x.advance_perm _)).trans h)

theorem cmdOf_allows_feature {d : Datagram} {k : Nat} {x : Session} {ep : Epoch} {l : List (Nat × Bytes)} {p f : Nat}
    (h : x.perm.getLsbD p = true) (hf : ep.features.getLsbD f = true) : (cmdOf d k x ep l).allows p (some f) = .ok () := by
  have hp : (x.advance (jSeq d.payload)).perm.getLsbD p = true := (congrArg (·.getLsbD p) (x.advance_perm _)).trans h
  simp [JcpCmd.allows, cmdOf, hp, hf, refuseIf]

/-! ### READ and WRITE (R84) -/

/-- Words of one block in service may be accessed (R19, R20). -/
theorem State.accessOk_of_up {s : State} {a n : Nat} (hn : 0 < n) (ha : mappedAddr a = true)
    (hlast : mappedAddr (a + 4 * (n - 1)) = true) (hblk : a / 0x100000 = (a + 4 * (n - 1)) / 0x100000)
    (hb : s.blkUp (addrWing a) (addrBlk a) = true) : s.accessOk a n = .ok () := by
  simp [State.accessOk, refuseIf, ha, hn, hlast, ← hblk, hb, bind, Except.bind]

/-- Reads change latches only. -/
theorem State.readWord_spec (s : State) (a : Nat) : (s.readWord a).2 = { s with latches := (s.readWord a).2.latches } := by
  unfold State.readWord
  dsimp only
  repeat' split
  all_goals rfl

theorem State.readWords_spec (s : State) (a n : Nat) :
    (s.readWords a n).1.length = n ∧ (s.readWords a n).2 = { s with latches := (s.readWords a n).2.latches } := by
  induction n with
  | zero => exact ⟨rfl, rfl⟩
  | succ n ih =>
    obtain ⟨hlen, hst⟩ := ih
    have hsucc : s.readWords a (n + 1) = ((s.readWords a n).1 ++ [((s.readWords a n).2.readWord (a + 4 * n)).1],
        ((s.readWords a n).2.readWord (a + 4 * n)).2) := by
      simp [State.readWords, List.range_succ]
    rw [hsucc]
    refine ⟨by simp [hlen], ?_⟩
    rw [State.readWord_spec, hst]

/-- READ of such words from a session with the permission. -/
theorem State.jcpRead_of_ok {s : State} {d : Datagram} {k : Nat} {x : Session} {ep : Epoch} {ra rn : Bytes}
    (hperm : x.perm.getLsbD 0 = true) (hra : ra.length = 4) (hrn : rn.length = 4) (h1 : 1 ≤ beNat rn) (h256 : beNat rn ≤ 256)
    (h : s.accessOk (beNat ra) (beNat rn) = .ok ()) :
    s.jcpRead (cmdOf d k x ep [(0x10, ra), (0x11, rn)]) =
      .reply 0 (tlv 0x12 ((s.readWords (beNat ra) (beNat rn)).1.flatMap fun w => beBytes 4 w.toNat))
        (s.readWords (beNat ra) (beNat rn)).2 := by
  have h0 : beNat rn ≠ 0 := by omega
  have hallow := cmdOf_allows (d := d) (k := k) (ep := ep) (l := [(0x10, ra), (0x11, rn)]) hperm
  rw [State.jcpRead, hallow]
  simp [answered, cmdOf, JcpCmd.num, JcpCmd.val, refuseIf, tlvsOk, tlvOf, hra, hrn, h0, Nat.not_lt.2 h256, h, bind,
    Except.bind, pure, Except.pure, stOk]

/-- WRITE without a mask comes to its run of words. -/
theorem State.jcpWrite_eq {s : State} {d : Datagram} {k : Nat} {x : Session} {ep : Epoch} {wa wd : Bytes}
    (hperm : x.perm.getLsbD 1 = true) (hwa : wa.length = 4) (h4 : wd.length % 4 = 0) (hlo : 4 ≤ wd.length) (hhi : wd.length ≤ 1024) :
    s.jcpWrite (cmdOf d k x ep [(0x10, wa), (0x12, wd)]) =
      match s.writeRun (beNat wa) (wordsOf wd) none with
      | .ok u => .reply 0 [] u
      | .error e => .reply e [] s := by
  have hallow := cmdOf_allows (d := d) (k := k) (ep := ep) (l := [(0x10, wa), (0x12, wd)]) hperm
  have hmask : (cmdOf d k x ep [(0x10, wa), (0x12, wd)]).has 0x13 = false := rfl
  rw [State.jcpWrite, hmask, if_neg Bool.false_ne_true, hallow]
  cases hrun : s.writeRun (beNat wa) (wordsOf wd) none <;>
    simp [answered, cmdOf, JcpCmd.num, JcpCmd.val, refuseIf, tlvsOk, tlvOf, hwa, h4, hlo, hhi, hrun, bind, Except.bind,
      pure, Except.pure, stOk]

/-- The words of one word's value. -/
theorem wordsOf_word {b : Bytes} (h : b.length = 4) : wordsOf b = [BitVec.ofNat 32 (beNat b)] := by
  match b, h with
  | [b0, b1, b2, b3], _ => simp [wordsOf, beField, beNat, byteN, byteAt, List.range_succ]

/-- Settles O30: READ is `readWords`, WRITE is `writeRun`, and a plain register's write one `storeRw`. -/
theorem jcpRegisters : Obligations.JcpRegisters := by
  intro s d k x ep
  refine ⟨fun ra rn a n h hperm hra hrn ha hn h1 h256 hma hml hblk hb => ?read, fun wa wd h hperm hwa h4 hlo hhi => ⟨?write, ?word⟩⟩
  case read =>
    subst ha hn
    have hacc : (s.begun d k x).accessOk (beNat ra) (beNat rn) = .ok () := State.accessOk_of_up h1 hma hml hblk hb
    obtain ⟨hlen, hst⟩ := (s.begun d k x).readWords_spec (beNat ra) (beNat rn)
    have hans := h.answers (u := ((s.begun d k x).readWords (beNat ra) (beNat rn)).2)
      (State.jcpRead_of_ok hperm hra hrn h1 h256 hacc) (by rw [hst]; simp [h.begun_session]) (by
        have htlv := length_tlv_lt 0x12 (((s.begun d k x).readWords (beNat ra) (beNat rn)).1.flatMap fun w => beBytes 4 w.toNat)
        have hmax := h.maxMsg
        simp only [List.length_flatMap, length_beBytes, List.map_const', List.sum_replicate, hlen, smul_eq_mul] at htlv
        omega)
    refine ⟨_, rfl, hans, ?_⟩
    obtain ⟨-, ht, -⟩ := hans
    rw [ht, hst]
    rfl
  case write =>
    have heq := State.jcpWrite_eq (s := s.begun d k x) (d := d) (k := k) (ep := ep) hperm hwa h4 hlo hhi
    cases hrun : (s.begun d k x).writeRun (beNat wa) (wordsOf wd) none with
    | ok u => exact fun hu => ⟨_, rfl, h.answers_status (by rw [heq, hrun]) hu⟩
    | error e => exact ⟨_, rfl, h.answers_status (by rw [heq, hrun]) (by simp [h.begun_session])⟩
  case word =>
    intro a r u i v ha hv hlen hma hb hf hw hr
    subst ha hv
    have heq := State.jcpWrite_eq (s := s.begun d k x) (d := d) (k := k) (ep := ep) hperm hwa h4 hlo hhi
    rw [wordsOf_word hlen, State.writeRun_of_plainReg (s := s.begun d k x) _ (State.accessOk_word hma hb) hf hw hr] at heq
    obtain ⟨hrep, ht, -⟩ := h.answers_status heq (by simp [State.storeRw, h.begun_session])
    generalize hv : BitVec.ofNat 32 (beNat wd) = v at *
    have hregs : (s.jcpReceive d 3 State.jcpWrite).regs = (s.storeRw r u i v).regs := by rw [ht]; rfl
    refine ⟨_, rfl, hrep, fun a ha => ?_, ?_, fun j hj => ?_⟩
    · rw [hregs]
      exact s.storeRw_regsKept r u i v a ha
    · rw [ht]
      rfl
    · rw [State.rget, hregs]
      exact s.getLsbD_rget_storeRw r u i v hj

end Sys2Proof.Machine

/-!
PROOF. IMAGE_STAGE, VERIFY, ABORT, flash programming and COMMIT_VERSION (R92 to R94).
-/

namespace Sys2Proof.Machine

/-! ### What replies and events of the sessions change -/

/-- Apart from the sessions and the management queues the state is `s`. -/
def State.mailOnly (t s : State) : Prop :=
  ∃ (x : List Session) (m : NMap (List MgmtFrame)), t = { s with cur := { s.cur with sessions := x }, mgmt := m }

theorem State.mailOnly_refl (s : State) : s.mailOnly s := ⟨_, _, rfl⟩

theorem State.mailOnly.trans {s t u : State} (h : u.mailOnly t) (k : t.mailOnly s) : u.mailOnly s := by
  obtain ⟨x, m, rfl⟩ := h
  obtain ⟨x', m', rfl⟩ := k
  exact ⟨x, m, rfl⟩

theorem State.mailOnly.regs {s t : State} (h : t.mailOnly s) : t.regs = s.regs := by
  obtain ⟨_, _, rfl⟩ := h
  rfl

theorem State.mailOnly.gddr {s t : State} (h : t.mailOnly s) : t.gddr = s.gddr := by
  obtain ⟨_, _, rfl⟩ := h
  rfl

theorem State.mailOnly.rget {s t : State} (h : t.mailOnly s) (r : Reg) (u i : Nat) : t.rget r u i = s.rget r u i := by
  rw [State.rget, h.regs]
  rfl

theorem State.mailOnly.rfld {s t : State} (h : t.mailOnly s) (r : Reg) (u i lo len : Nat) :
    t.rfld r u i lo len = s.rfld r u i lo len := congrArg (fld · lo len) (h.rget r u i)

theorem State.mailOnly.stage {s t : State} (h : t.mailOnly s) : t.stage = s.stage := h.rfld _ _ _ _ _

theorem State.mailOnly.stageOwner {s t : State} (h : t.mailOnly s) : t.stageOwner = s.stageOwner := by
  simp only [State.stageOwner, h.rfld]

theorem State.mailOnly.regsKept {s t u : State} {l : List Nat} (h : t.mailOnly u) (hu : u.regsKept s l) : t.regsKept s l :=
  fun a ha => (congrArg (nget · a) h.regs).trans (hu a ha)

theorem State.mailOnly_sendMgmt (s : State) (p : Peer) (b : Bytes) : (s.sendMgmt p b).mailOnly s := ⟨_, _, rfl⟩

theorem State.mailOnly_setSession (s : State) (k : Nat) (x : Session) : (s.setSession k x).mailOnly s := ⟨_, _, rfl⟩

theorem State.mailOnly_foldl {β : Type} {f : State → β → State} (hf : ∀ s b, (f s b).mailOnly s) (l : List β) (s : State) :
    (l.foldl f s).mailOnly s :=
  List.foldlRecOn (motive := fun t : State => t.mailOnly s) _ _ s.mailOnly_refl fun t ht b _ => (hf t b).trans ht

theorem State.mailOnly_finishRunning (s : State) (k opcode status : Nat) (tlvs : Bytes) :
    (s.finishRunning k opcode status tlvs).mailOnly s := by
  unfold State.finishRunning
  split
  · exact s.mailOnly_refl
  · exact (State.mailOnly_foldl (fun t c => t.mailOnly_sendMgmt _ _) _ _).trans (s.mailOnly_setSession _ _)

theorem State.answers.mailOnly {t u : State} {d : Datagram} {x : Session} {ep : Epoch} {st : Nat} {tlvs : Bytes}
    (h : t.answers u d x ep st tlvs) : t.mailOnly u := ⟨_, _, h.2.1⟩

/-- The running action's answer ends it. -/
theorem State.mailOnly_endOp (s : State) (status : Nat) :
    (s.endOp status).mailOnly { s with cur := { s.cur with imageOp := none } } := by
  unfold State.endOp
  split
  · exact State.mailOnly_finishRunning _ _ _ _ _
  · rename_i h
    refine ⟨s.cur.sessions, s.mgmt, ?_⟩
    conv_rhs => rw [← h]

/-- An answer is a reply, and a state that differs in the sessions and the management queues. -/
theorem State.answers.exists_eq {t u : State} {d : Datagram} {x : Session} {ep : Epoch} {st : Nat} {tlvs : Bytes}
    (h : t.answers u d x ep st tlvs) : ∃ ses mg, t = { u with cur := { u.cur with sessions := ses }, mgmt := mg } ∧
      State.replied { u with cur := { u.cur with sessions := ses }, mgmt := mg } d x ep st tlvs := by
  obtain ⟨hrep, ht, -⟩ := h
  exact ⟨_, _, ht, ht ▸ hrep⟩

/-- A command that is accepted and answered later joins the running ones of its session. -/
theorem State.takesCmd.accepted {s u : State} {d : Datagram} {row k : Nat} {x : Session} {ep : Epoch} {l : List (Nat × Bytes)}
    (h : s.takesCmd d row k x ep l) {run : State → JcpCmd → JcpDone}
    (hrun : run (s.begun d k x) (cmdOf d k x ep l) = .later u) (hu : u.cur.sessions = (s.begun d k x).cur.sessions) :
    s.jcpReceive d row run = u.setSession k { x.advance (jSeq d.payload) with
      running := x.running ++ [⟨jSeq d.payload, jOpcode d.payload, ep.key, ep.version, peerOf d⟩] } := by
  have hrunning : (x.advance (jSeq d.payload)).running = x.running := by
    unfold Session.advance
    split <;> rfl
  have hses : u.cur.sessions[k]? = some (x.advance (jSeq d.payload)) := hu ▸ h.begun_session
  rw [State.jcpReceive_of_takesCmd h run, hrun]
  simp only [State.jcpAnswer, cmdOf, hses, hrunning]

/-- The session of an accepted command afterwards. -/
theorem State.takesCmd.session_setSession {s u : State} {d : Datagram} {row k : Nat} {x : Session} {ep : Epoch}
    {l : List (Nat × Bytes)} (h : s.takesCmd d row k x ep l) (hu : u.cur.sessions = (s.begun d k x).cur.sessions) (y : Session) :
    (u.setSession k y).cur.sessions[k]? = some y := by
  have hk : k < u.cur.sessions.length := by
    rw [hu]
    exact (List.getElem?_eq_some_iff.1 h.begun_session).1
  exact (lset_get _ _ _ _).trans (if_pos ⟨rfl, hk⟩)

/-! ### The stage (R92) -/

theorem regAddr_curStageId (u i : Nat) : regAddr .curStageId u i = 0 * 0x10000000 + 0 * 0x100000 + u * 0 + 0x308 + 0x4 * i := rfl

theorem State.stage_setStage (s : State) (n : Nat) : (s.setStage n).stage = n % 8 :=
  s.rfld_rsetFld_self .curStage 0 0 n (by decide)

/-- Another field of CUR_STAGE does not move its STATE. -/
theorem State.stage_rsetFld (s : State) {lo : Nat} (len n : Nat) (h : 3 ≤ lo) : (s.rsetFld .curStage 0 0 lo len n).stage = s.stage :=
  s.rfld_rsetFld_field .curStage 0 0 n (.inl h)

theorem State.stage_unverify (s : State) : s.unverify.stage = s.stage :=
  congrArg (fld · 0 3) (State.rget_rset_ne { s with cur := { s.cur with staged := none } } 0 (by decide))

theorem State.regsKept.trans {s t u : State} {l : List Nat} (h : u.regsKept t l) (k : t.regsKept s l) : u.regsKept s l :=
  fun a ha => (h a ha).trans (k a ha)

theorem State.regsKept_setStage (s : State) (n : Nat) : (s.setStage n).regsKept s [regAddr .curStage 0 0] :=
  s.regsKept_rsetFld _ _ _ _ _ _

theorem State.regsKept_unverify (s : State) : s.unverify.regsKept s [regAddr .curStageId 0 0] :=
  State.regsKept_rset { s with cur := { s.cur with staged := none } } .curStageId 0 0 0

/-- A stage whose STATE is none of three is not busy. -/
theorem State.stageBusy_eq_false {s : State} (h2 : s.stage ≠ 2) (h4 : s.stage ≠ 4) (h6 : s.stage ≠ 6) : s.stageBusy = false := by
  simp [State.stageBusy, h2, h4, h6]

/-- The stage with a session's bytes in it: LOADING and the session's. -/
def State.stagedWith (s : State) (k a : Nat) (b : Bytes) : State :=
  (((s.gwrite (s.regionBase 1 + a) b).unverify.setStage 1).rsetFld .curStage 0 0 9 4 k).rsetFld .curStage 0 0 13 1 1

theorem State.jcpStage_of_ok {s : State} {d : Datagram} {k : Nat} {x : Session} {ep : Epoch} {bo data : Bytes}
    (hperm : x.perm.getLsbD 4 = true) (hfeat : ep.features.getLsbD 2 = true) (hbo : bo.length = 4) (hdata : data ≠ [])
    (hfit : beNat bo + data.length ≤ 67108864) (hbusy : s.stageBusy = false) (hown : s.stageOwner = none ∨ s.stageOwner = some k) :
    s.jcpStage (cmdOf d k x ep [(0x40, bo), (0x41, data)]) = .reply 0 [] (s.stagedWith k (beNat bo) data) := by
  have hallow := cmdOf_allows_feature (d := d) (k := k) (l := [(0x40, bo), (0x41, data)]) hperm hfeat
  have hlen : 1 ≤ data.length := List.length_pos_of_ne_nil hdata
  rw [State.jcpStage, hallow]
  rcases hown with hown | hown <;> simp [answered, cmdOf, JcpCmd.num, JcpCmd.val, refuseIf, tlvsOk, stageSpec, tlvOf, hbo, hlen, Nat.not_lt.2 hfit, hbusy,
    bind, Except.bind, pure, Except.pure, stOk, State.stagedWith, hown]

theorem State.stagedWith_spec (s : State) (k a : Nat) (b : Bytes) : s.stagedWith k a b = { s with
    cur := { s.cur with staged := none }, regs := (s.stagedWith k a b).regs, gddr := (s.stagedWith k a b).gddr,
    poisoned := (s.stagedWith k a b).poisoned } := rfl

theorem State.stagedWith_stage (s : State) (k a : Nat) (b : Bytes) : (s.stagedWith k a b).stage = 1 := by
  rw [State.stagedWith, State.stage_rsetFld _ _ _ (by decide), State.stage_rsetFld _ _ _ (by decide), State.stage_setStage]

theorem State.stagedWith_owner (s : State) {k : Nat} (hk : k < 16) (a : Nat) (b : Bytes) : (s.stagedWith k a b).stageOwner = some k := by
  unfold State.stageOwner State.stagedWith
  rw [State.rfld_rsetFld_self _ _ _ _ _ (by decide), State.rfld_rsetFld_field _ _ _ _ _ (.inl (by decide)),
    State.rfld_rsetFld_self _ _ _ _ _ (by decide), Nat.mod_eq_of_lt (b := 2 ^ 4) hk]
  rfl

theorem State.stagedWith_regsKept (s : State) (k a : Nat) (b : Bytes) :
    (s.stagedWith k a b).regsKept s [regAddr .curStage 0 0, regAddr .curStageId 0 0] := by
  have hset (u : State) (lo len n : Nat) :
      (u.rsetFld .curStage 0 0 lo len n).regsKept u [regAddr .curStage 0 0, regAddr .curStageId 0 0] :=
    (u.regsKept_rsetFld .curStage 0 0 lo len n).mono (by simp)
  exact (hset _ _ _ _).trans ((hset _ _ _ _).trans ((hset _ _ _ _).trans
    ((State.regsKept_unverify (s.gwrite (s.regionBase 1 + a) b)).mono (by simp))))

theorem State.stagedWith_stageId (s : State) (k a : Nat) (b : Bytes) : (s.stagedWith k a b).rget .curStageId 0 0 = 0 := by
  have hkept (u : State) (lo len n : Nat) : (u.rsetFld .curStage 0 0 lo len n).rget .curStageId 0 0 = u.rget .curStageId 0 0 :=
    State.rget_of_regsKept (u.regsKept_rsetFld .curStage 0 0 lo len n) (by decide)
  rw [State.stagedWith, hkept, hkept, State.setStage, hkept, State.unverify, State.rget_rset_self]

theorem State.regionBase_congr {s t : State} (h : t.regs = s.regs) (r : Nat) : t.regionBase r = s.regionBase r := by
  simp only [State.regionBase, State.rfld, State.rget, h]

/-- The bytes stand where they were put, and every other byte of GDDR7 is as it was. -/
theorem State.stagedWith_gddr {s : State} (h : nsorted s.gddr = true) (k a : Nat) (b : Bytes) :
    (s.stagedWith k a b).gread (s.regionBase 1 + a) b.length = b ∧ (s.stagedWith k a b).gddrKept s (s.regionBase 1 + a) b.length := by
  refine ⟨State.gread_gwrite h _ _, fun y hy => (ngetD_memWrite h _ _ _).trans (if_neg (by omega))⟩

theorem State.exec_imageStage {s : State} {d : Datagram} {k : Nat} {x : Session} {ep : Epoch} {bo data : Bytes}
    (h : s.takesCmd d 0x30 k x ep [(0x40, bo), (0x41, data)]) (hperm : x.perm.getLsbD 4 = true) (hfeat : ep.features.getLsbD 2 = true)
    (hbo : bo.length = 4) (hdata : data ≠ []) (hfit : beNat bo + data.length ≤ 67108864) (hbusy : s.stageBusy = false)
    (hown : s.stageOwner = none ∨ s.stageOwner = some k) :
    ∃ t, exec (.imageStage d) s = .next t ∧ t.answers ((s.begun d k x).stagedWith k (beNat bo) data) d x ep 0 [] :=
  ⟨_, rfl, h.answers_status (State.jcpStage_of_ok hperm hfeat hbo hdata hfit hbusy hown)
    (Option.isSome_iff_exists.2 ⟨_, h.begun_session⟩)⟩

/-! ### VERIFY and ABORT (R93) -/

theorem cmdOf_allowsApply {d : Datagram} {k : Nat} {x : Session} {ep : Epoch} {l : List (Nat × Bytes)}
    (hperm : x.perm.getLsbD 4 = true) (hfeat : ep.features.getLsbD 2 = true) (hl : tlvsOk applySpec l = true) :
    (cmdOf d k x ep l).allowsApply = .ok () := by
  have hl' : tlvsOk applySpec (cmdOf d k x ep l).tlvs = true := hl
  rw [JcpCmd.allowsApply, cmdOf_allows_feature hperm hfeat, hl']
  rfl

/-- The rows of IMAGE_APPLY have its opcode. -/
theorem jOpcode_of_imageApply {b : Bytes} {a : Nat} (ha : a < 256) (h : jcpRow b = some (0x3100 + a)) : jOpcode b = 0x31 := by
  unfold jcpRow at h
  split at h
  case h_1 hop => exact hop
  case h_2 =>
    dsimp only at h
    split at h <;> simp at h <;> omega
  case h_3 => split at h <;> simp at h; omega
  case h_4 =>
    split at h
    · rename_i hc
      simp only [Option.some.injEq] at h
      rw [h] at hc
      simp at hc
      omega
    · cases h

theorem State.takesCmd.jOpcode_of_imageApply {s : State} {d : Datagram} {a k : Nat} {x : Session} {ep : Epoch}
    {l : List (Nat × Bytes)} (h : s.takesCmd d (0x3100 + a) k x ep l) (ha : a < 256) : jOpcode d.payload = 0x31 := by
  obtain ⟨⟨-, -, -, hrow, -⟩, -⟩ := h
  exact Machine.jOpcode_of_imageApply ha hrow

theorem State.jcpVerify_of_ok {s : State} {d : Datagram} {k : Nat} {x : Session} {ep : Epoch} {l : List (Nat × Bytes)}
    (hallow : (cmdOf d k x ep l).allowsApply = .ok ()) (hbusy : s.stageBusy = false) :
    s.jcpVerify (cmdOf d k x ep l) =
      .later { s.unverify.setStage 2 with cur := { (s.unverify.setStage 2).cur with imageOp := some k } } := by
  rw [State.jcpVerify, hallow, hbusy]
  rfl

/-- An ABORT's state before the answer. -/
def State.aborted (s : State) : State :=
  let s1 := ((s.unverify.setStage 0).rsetFld .curStage 0 0 9 4 0).rsetFld .curStage 0 0 13 1 0
  { s1 with cur := { s1.cur with applying := [], applyNow := none, programming := none } }

theorem State.aborted_spec (s : State) : s.aborted = { s with cur := s.aborted.cur, regs := s.aborted.regs } := rfl

theorem State.aborted_stage (s : State) : s.aborted.stage = 0 :=
  (State.stage_rsetFld _ _ _ (by decide)).trans
    ((State.stage_rsetFld _ _ _ (by decide)).trans (State.stage_setStage _ _))

theorem State.aborted_owner (s : State) : s.aborted.stageOwner = none := by
  have h : s.aborted.rfld .curStage 0 0 13 1 = 0 :=
    (((s.unverify.setStage 0).rsetFld .curStage 0 0 9 4 0).rfld_rsetFld_self .curStage 0 0 (lo := 13) (len := 1) 0 (by decide) :)
  rw [State.stageOwner, h]
  rfl

theorem State.jcpAbort_of_idle {s : State} {d : Datagram} {k : Nat} {x : Session} {ep : Epoch} {l : List (Nat × Bytes)}
    (hallow : (cmdOf d k x ep l).allowsApply = .ok ()) (hop : s.cur.imageOp = none) (hprog : s.cur.programming = none) :
    s.jcpAbort (cmdOf d k x ep l) = .reply 0 s.aborted.stageTlv s.aborted := by
  have hend : s.aborted.endOp stImageInvalid = s.aborted := by
    have hop' : s.aborted.cur.imageOp = none := hop
    rw [State.endOp, hop']
  have hdo : s.jcpAbort (cmdOf d k x ep l) = answered s (do
      (cmdOf d k x ep l).allowsApply
      let s4 := match s.cur.programming with
        | some (a, _) => (s.aborted.endOp stImageInvalid).imageEvent a
        | none => s.aborted.endOp stImageInvalid
      return (s4.stageTlv, s4)) := rfl
  rw [hdo, hallow, hprog, hend]
  rfl

theorem State.length_stageTlv (s : State) : s.stageTlv.length < 12 := by
  have h := length_tlv_lt 0x44 (beBytes 4 (s.rget .curStage 0 0).toNat)
  rw [length_beBytes] at h
  exact h

/-! ### Verification ends (R93) -/

theorem execImageVerifyDone_of_ok {s : State} {i : ImageInfo} (hs : s.stage = 2) (hv : s.verifyStage = .ok i) :
    execImageVerifyDone s = .next (State.endOp ((({ s with cur := { s.cur with staged := some i } }).rset .curStageId 0 0
      (BitVec.ofNat 32 i.buildId)).setStage 3) stOk) := by
  rw [execImageVerifyDone, if_neg (not_not.2 hs), hv]

theorem execImageVerifyDone_of_error {s : State} {r : Nat} (hs : s.stage = 2) (hv : s.verifyStage = .error r) :
    execImageVerifyDone s = .next (((s.rsetFld .curStage 0 0 4 4 r).setStage 5).endOp stImageInvalid) := by
  rw [execImageVerifyDone, if_neg (not_not.2 hs), hv]

/-- Settles O35, a clause for each command; the stage's fields are those of CUR_STAGE. -/
theorem imageStaging : Obligations.ImageStaging := by
  intro s d k x ep hperm hfeat
  refine ⟨fun bo data h hbo hdata hfit hbusy hown hk hg => ?stage, fun h hbusy => ?verify, fun hs => ?done, fun h hop hprog => ?abort⟩
  case stage =>
    obtain ⟨t, he, hans⟩ := State.exec_imageStage h hperm hfeat hbo hdata hfit hbusy hown
    obtain ⟨hread, hkept⟩ := State.stagedWith_gddr (s := s.begun d k x) hg k (beNat bo) data
    have hm := hans.mailOnly
    obtain ⟨hrep, ht, -⟩ := hans
    rw [State.regionBase_congr (s := s) (t := s.begun d k x) rfl] at hread hkept
    refine ⟨t, he, hrep, hm.stage.trans (State.stagedWith_stage _ _ _ _), hm.stageOwner.trans (State.stagedWith_owner _ hk _ _), ?_, ?_,
      ?_, (hm.rget _ _ _).trans (State.stagedWith_stageId _ _ _ _), hm.regsKept (State.stagedWith_regsKept _ _ _ _), ?_⟩
    · rwa [State.gread, hm.gddr]
    · rwa [State.gddrKept, hm.gddr]
    · rw [ht]
      rfl
    · rw [ht, State.stagedWith_spec]
      rfl
  case verify =>
    have hacc := h.accepted (State.jcpVerify_of_ok (s := s.begun d k x) (cmdOf_allowsApply hperm hfeat rfl) hbusy) rfl
    have hop : jOpcode d.payload = 0x31 := State.takesCmd.jOpcode_of_imageApply (a := 1) h (by decide)
    refine ⟨_, congrArg Host.Outcome.next hacc, State.stage_setStage _ 2, rfl, rfl, rfl, ⟨_, h.session_setSession rfl _, ?_⟩, rfl⟩
    rw [hop]
  case done =>
    cases hv : s.verifyStage with
    | ok i =>
      obtain ⟨ses, mg, he⟩ := State.mailOnly_endOp ((({ s with cur := { s.cur with staged := some i } }).rset .curStageId 0 0
        (BitVec.ofNat 32 i.buildId)).setStage 3) stOk
      refine ⟨_, (execImageVerifyDone_of_ok hs hv).trans (congrArg _ he), rfl, rfl, State.stage_setStage _ 3, rfl, ?_⟩
      exact (State.rget_of_regsKept (State.regsKept_setStage _ 3) (by decide)).trans (State.rget_rset_self _ _ _ _ _)
    | error r =>
      obtain ⟨ses, mg, he⟩ := State.mailOnly_endOp ((s.rsetFld .curStage 0 0 4 4 r).setStage 5) stImageInvalid
      refine ⟨_, (execImageVerifyDone_of_error hs hv).trans (congrArg _ he), rfl, rfl, State.stage_setStage _ 5, ?_⟩
      exact (State.rfld_rsetFld_field _ .curStage 0 0 _ (.inr (by decide))).trans (State.rfld_rsetFld_self s .curStage 0 0 r (by decide))
  case abort =>
    have hrun := State.jcpAbort_of_idle (s := s.begun d k x) (x := x) (cmdOf_allowsApply (d := d) (k := k) (l := [(0x42, [4])])
      hperm hfeat rfl) hop hprog
    have hans := h.answers hrun (Option.isSome_iff_exists.2 ⟨_, h.begun_session⟩) (by
      have hlen := (s.begun d k x).aborted.length_stageTlv
      have hmax := h.maxMsg
      omega)
    have hm := hans.mailOnly
    obtain ⟨hrep, ht, -⟩ := hans
    refine ⟨_, rfl, hm.stage.trans (State.aborted_stage _), hm.stageOwner.trans (State.aborted_owner _), ?_, ?_, ?_, ?_⟩
    · rw [ht]
      rfl
    · rw [ht]
      rfl
    · rw [hm.rget]
      exact hrep
    · rw [ht, State.aborted_spec]
      rfl

end Sys2Proof.Machine

/-!
PROOF. Flash programming and COMMIT_VERSION (R93, R94).
-/

namespace Sys2Proof.Machine

/-- A VERIFIED stage has what the actions on its image need. -/
theorem State.needVerified_of_verified {s : State} {i : ImageInfo} (hs : s.stage = 3) (hi : s.cur.staged = some i) :
    s.needVerified = .ok i := by
  have hbusy : s.stageBusy = false := State.stageBusy_eq_false (by omega) (by omega) (by omega)
  rw [State.needVerified, hbusy, hi, hs]
  rfl

/-- Programming under way: the action and its start are noted, the stage is PROGRAMMING. -/
def State.programming (s : State) (a : Nat) : State :=
  State.setStage { s with cur := { s.cur with programming := some (a, s.t) } } 6

theorem State.jcpProgram_of_ok {s : State} {a : Nat} {other : FlashCopy} {c : JcpCmd} {i j : ImageInfo}
    (hallow : c.allowsApply = .ok ()) (hmode : s.serviceModes = true) (hs : s.stage = 3) (hi : s.cur.staged = some i)
    (hother : s.checkCopy other = .ok j) :
    State.jcpProgram a other s c = .reply 0 (s.programming a).stageTlv (s.programming a) := by
  rw [State.jcpProgram, hallow, hmode, State.needVerified_of_verified hs hi, hother]
  rfl

theorem State.jcpCommit_of_ok {s : State} {copyA copyB : FlashCopy} {c : JcpCmd} {i a b : ImageInfo}
    (hallow : c.allowsApply = .ok ()) (hmode : s.serviceModes = true) (hi : s.cur.running = some i) (ha : s.checkCopy copyA = .ok a)
    (hb : s.checkCopy copyB = .ok b) (hia : i.secVersion ≤ a.secVersion) (hib : i.secVersion ≤ b.secVersion) (h64 : i.secVersion ≤ 64) :
    State.jcpCommit copyA copyB s c =
      .reply 0 s.stageTlv { s with otp := { s.otp with secVersion := max s.otp.secVersion i.secVersion } } := by
  have hver : ¬ (a.secVersion < i.secVersion ∨ b.secVersion < i.secVersion) := by omega
  rw [State.jcpCommit, hallow, hmode, hi, ha, hb]
  simp [answered, refuseIf, hver, Nat.not_lt.2 h64, bind, Except.bind, pure, Except.pure, stOk]

/-- A PROGRAM_A or PROGRAM_B, by its row. -/
theorem State.takesCmd.program {s : State} {d : Datagram} {a k : Nat} {x : Session} {ep : Epoch} {other : FlashCopy}
    {i j : ImageInfo} {l : List (Nat × Bytes)} (h : s.takesCmd d (0x3100 + a) k x ep l) (hl : tlvsOk applySpec l = true)
    (hperm : x.perm.getLsbD 4 = true) (hfeat : ep.features.getLsbD 2 = true) (hmode : s.serviceModes = true) (hs : s.stage = 3)
    (hi : s.cur.staged = some i) (hother : (s.begun d k x).checkCopy other = .ok j) :
    (s.jcpReceive d (0x3100 + a) (State.jcpProgram a other)).answers ((s.begun d k x).programming a) d x ep 0
      ((s.begun d k x).programming a).stageTlv :=
  h.answers (State.jcpProgram_of_ok (s := s.begun d k x) (cmdOf_allowsApply hperm hfeat hl) hmode hs hi hother)
    (Option.isSome_iff_exists.2 ⟨_, h.begun_session⟩) (by
      have hlen := ((s.begun d k x).programming a).length_stageTlv
      have hmax := h.maxMsg
      omega)

/-- Programming's end before its event: what was programmed is recorded, or the stage is no verified image any more. -/
def State.programDone (s : State) (a : Nat) (ok : Bool) : State :=
  let s1 : State := { s with
    cur := { s.cur with programming := none }
    programmed := if ok then s.programmed ++ [(a - 5, s.stagedBytes)] else s.programmed }
  if ok then s1.setStage 3 else s1.unverify.setStage 5

theorem State.programEnd_eq {s : State} {a at_ : Nat} (h : s.cur.programming = some (a, at_)) (ok : Bool) :
    s.programEnd ok = (s.programDone a ok).imageEvent a := by
  rw [State.programEnd, h]
  cases ok <;> rfl

theorem State.programDone_spec (s : State) (a : Nat) (ok : Bool) :
    (s.programDone a ok).stage = (if ok then 3 else 5) ∧ (s.programDone a ok).cur.programming = none ∧
      (s.programDone a ok).programmed = (if ok then s.programmed ++ [(a - 5, s.stagedBytes)] else s.programmed) ∧
      s.programDone a ok = { s with
        cur := (s.programDone a ok).cur, regs := (s.programDone a ok).regs, programmed := (s.programDone a ok).programmed } := by
  cases ok with
  | true => exact ⟨State.stage_setStage _ 3, rfl, rfl, rfl⟩
  | false => exact ⟨State.stage_setStage _ 5, rfl, rfl, rfl⟩

/-- An event moves no stage. -/
theorem State.stage_imageEvent (s : State) (a : Nat) : (s.imageEvent a).stage = s.stage :=
  congrArg (fld · 0 3) (State.rget_raise _ _ _ _ _ _ _ _ (by decide))

theorem State.programEnd_spec {s : State} {a at_ : Nat} (h : s.cur.programming = some (a, at_)) (ok : Bool) :
    (s.programEnd ok).cur.programming = none ∧ (s.programEnd ok).stage = (if ok then 3 else 5) ∧
      (s.programEnd ok).programmed = (if ok then s.programmed ++ [(a - 5, s.stagedBytes)] else s.programmed) ∧
      s.programEnd ok = { s with
        cur := (s.programEnd ok).cur, mgmt := (s.programEnd ok).mgmt, regs := (s.programEnd ok).regs,
        programmed := (s.programEnd ok).programmed } := by
  rw [State.programEnd_eq h]
  obtain ⟨hstage, hprog, hflash, hst⟩ := s.programDone_spec a ok
  have hevent := (s.programDone a ok).stage_imageEvent a
  obtain ⟨ses, mg, rg, he, -⟩ := State.raise_eventsOnly (s.programDone a ok) 0x0C 0 0
    ([byteOf a, 0, 0, 0] ++ beBytes 4 ((s.programDone a ok).rget .curStage 0 0).toNat)
  have he' : (s.programDone a ok).imageEvent a = _ := he
  refine ⟨?_, hevent.trans hstage, ?_, ?_⟩
  · rw [he']
    exact hprog
  · rw [he']
    exact hflash
  · rw [he', hst]

/-- Settles O37: programming begins with `programming` and ends with `programDone` and an event. -/
theorem imageProgramming : Obligations.ImageProgramming := by
  intro s
  refine ⟨fun d k x ep hperm hfeat hmode => ⟨fun other i j c a hs hi hother hc h => ?start,
    fun copyA copyB i a b hi ha hb hia hib h64 h => ?commit⟩, fun a at_ hp => ⟨fun ok => ?done, ?timeout⟩⟩
  case start =>
    have hans := h.program rfl hperm hfeat hmode hs hi hother
    have hexec : exec c s = .next (s.jcpReceive d (0x3100 + a) (State.jcpProgram a other)) := by
      rcases hc with ⟨rfl, rfl⟩ | ⟨rfl, rfl⟩ <;> rfl
    have hm := hans.mailOnly
    obtain ⟨hrep, ht, -⟩ := hans
    refine ⟨_, hexec, hm.stage.trans (State.stage_setStage _ 6), ?_, ?_, hm.regsKept (State.regsKept_setStage _ 6), ?_⟩
    · rw [ht]
      rfl
    · rw [hm.rget]
      exact hrep
    · rw [ht]
      rfl
  case commit =>
    have hans := h.answers (State.jcpCommit_of_ok (s := s.begun d k x) (cmdOf_allowsApply hperm hfeat rfl) hmode hi ha hb hia hib h64)
      (Option.isSome_iff_exists.2 ⟨_, h.begun_session⟩) (by
        have hlen := (s.begun d k x).length_stageTlv
        have hmax := h.maxMsg
        omega)
    obtain ⟨hrep, ht, -⟩ := hans
    refine ⟨_, rfl, ?_, hrep, ?_⟩
    · rw [ht]
      rfl
    · rw [ht]
      rfl
  case done =>
    obtain ⟨hprog, hstage, hflash, hst⟩ := State.programEnd_spec hp ok
    exact ⟨_, rfl, hprog, hstage, hflash, hst⟩
  case timeout =>
    obtain ⟨hu, ht, -⟩ := s.reach_spec (at_ + 60000000000)
    have hexec : exec .programTimeout s = .next ((s.reach (at_ + 60000000000)).programEnd false) := by
      show execProgramTimeout s = _
      rw [execProgramTimeout, hp]
    rw [hexec]
    generalize s.reach (at_ + 60000000000) = u at hu ht
    obtain ⟨time, htime⟩ : ∃ time, time = u.time := ⟨_, rfl⟩
    rw [← htime] at hu
    subst hu
    obtain ⟨hprog, hstage, hflash, hst⟩ := State.programEnd_spec (s := { s with time := time }) hp false
    have htime : (State.programEnd { s with time := time } false).time = time := by rw [hst]
    refine ⟨_, rfl, hprog, hstage, hflash, fun hlt => ?_, ?_⟩
    · rw [State.t, htime]
      exact ht hlt
    · rw [hflash] at hst
      rw [htime]
      exact hst

end Sys2Proof.Machine

/-!
PROOF. HELLO (R77, R78), and events acknowledged and sent again (R90).
-/

namespace Sys2Proof.Machine

/-! ### HELLO -/

/-- The row of HELLO has its opcode. -/
theorem jOpcode_of_hello {b : Bytes} (h : jcpRow b = some 1) : jOpcode b = 1 := by
  unfold jcpRow at h
  split at h
  case h_1 => dsimp only at h; split at h <;> simp at h; omega
  case h_2 => dsimp only at h; split at h <;> simp at h
  case h_3 => split at h <;> simp at h
  case h_4 =>
    split at h
    · simpa using h
    · cases h

/-- A HELLO that passes the checks of R75. -/
theorem State.jcpIngress_of_hello {s : State} {d : Datagram} {k : Nat} {x : Session} (hrun : s.cur.restarting = false)
    (hop : jOpcode d.payload = 1) (hlen : 32 ≤ d.payload.length) (hwhole : d.payload.length = 32 + jLength d.payload)
    (hmax : d.payload.length ≤ s.cur.maxMsg) (hx : s.cur.sessions[k]? = some x)
    (hfirst : ∀ j < k, ∀ y, s.cur.sessions[j]? = some y → y.id ≠ x.id) (hid : x.id = jSession d.payload)
    (hcov : x.covers d = true) (hmac : macOk x.imageKey d.payload = true) (hflag : jFlags d.payload % 2 = 0)
    (run : State → JcpCmd → JcpDone) : s.jcpIngress d run = s.helloIn k x d := by
  simp [State.jcpIngress, hrun, Nat.not_lt.2 hlen, State.find_session hx hfirst hid, hx, hcov, ← hwhole, Nat.not_lt.2 hmax,
    hop, hmac, hflag]

/-- The reply to a HELLO with what has been negotiated (log 100). -/
def helloReply (x : Session) (seq : W32) (v : Nat) (feat own : Bytes) (most : Nat) : Bytes :=
  replyMessage x.imageKey 0x0100 1 x.id seq 0 (tlv 5 (beBytes 2 v) ++
    tlv 2 (beBytes 8 (BitVec.ofNat 64 (beNat feat) &&& versionFeatures v).toNat) ++ tlv 3 own ++ tlv 4 (beBytes 2 most))

/-- The epoch that it opens. -/
def helloEpoch (x : Session) (v : Nat) (feat nonce own : Bytes) (most : Nat) : Epoch :=
  ⟨nonce, trafficKey x.imageKey nonce own x.id, v, BitVec.ofNat 64 (beNat feat) &&& versionFeatures v, most⟩

/-- A HELLO with a common version, of a session without a pending epoch, opens one and is answered. -/
theorem State.helloIn_of_common {s : State} {d : Datagram} (k : Nat) {x : Session} {offer feat nonce most : Bytes} {v : Nat}
    (hl : tlvsOf d.payload.length (jArea d.payload) = some [(1, offer), (2, feat), (3, nonce), (4, most)])
    (heven : offer.length % 2 = 0) (h2 : 2 ≤ offer.length) (h16 : offer.length ≤ 16) (hfeat : feat.length = 8)
    (hnonce : nonce.length = 16) (hmost : most.length = 2) (hlo : 1280 ≤ beNat most) (hhi : beNat most ≤ 8960)
    (hhello : x.hello = none) (hv : commonVersion offer = some v) :
    s.helloIn k x d =
      (((s.drawBytes 16).2.setSession k { x with
        hello := some ⟨helloEpoch x v feat nonce (s.drawBytes 16).1 (min (beNat most) s.cur.maxMsg),
          helloReply x (jSeq d.payload) v feat (s.drawBytes 16).1 (min (beNat most) s.cur.maxMsg), jSeq d.payload, peerOf d⟩ }).sendMgmt
        (peerOf d) (helloReply x (jSeq d.payload) v feat (s.drawBytes 16).1 (min (beNat most) s.cur.maxMsg))).openWindow := by
  have hspec : tlvsOk helloSpec [(1, offer), (2, feat), (3, nonce), (4, most)] = true := by
    simp [tlvsOk, helloSpec, heven, h2, h16, hfeat, hnonce, hmost]
  simp [State.helloIn, hl, hspec, tlvOf, Nat.not_lt.2 hlo, Nat.not_lt.2 hhi, hhello, hv, helloReply, helloEpoch, stOk]

theorem State.openWindow_eq (s : State) :
    s.openWindow = { s with m := if s.m.mode = .linkUp then { s.m with windowOpen := true } else s.m } := by
  unfold State.openWindow
  split <;> rfl

/-! ### Events in flight (R90) -/

/-- The events in flight of `x` stay in flight, and the others carry numbers from its next one on. -/
def Session.sendsOn (y x : Session) : Prop :=
  ∃ new : List InFlight, y.inFlight = x.inFlight ++ new ∧ (∀ e ∈ new, x.eventSeq ≤ e.seq) ∧ x.eventSeq ≤ y.eventSeq

theorem Session.sendsOn_refl (x : Session) : x.sendsOn x := ⟨[], by simp, by simp, Nat.le_refl _⟩

theorem Session.sendsOn.trans {x y z : Session} (h : z.sendsOn y) (k : y.sendsOn x) : z.sendsOn x := by
  obtain ⟨new, hin, hnew, hseq⟩ := h
  obtain ⟨new', hin', hnew', hseq'⟩ := k
  refine ⟨new' ++ new, by rw [hin, hin', List.append_assoc], fun e he => ?_, hseq'.trans hseq⟩
  rcases List.mem_append.1 he with he | he
  · exact hnew' e he
  · exact hseq'.trans (hnew e he)

/-- An event that the window takes gets the next number. -/
theorem Session.sendsOn_send (x : Session) (e : InFlight) (r : List Event) (he : e.seq = x.eventSeq) :
    Session.sendsOn { x with queue := r, inFlight := x.inFlight ++ [e], eventSeq := x.eventSeq + 1 } x :=
  ⟨[e], rfl, by simp [he], Nat.le_succ _⟩

theorem pumpEvents_sendsOn (now n : Nat) (x : Session) (out : List (Peer × Bytes)) : (pumpEvents now n x out).1.sendsOn x := by
  induction n generalizing x out with
  | zero => exact x.sendsOn_refl
  | succ n ih =>
    unfold pumpEvents
    split
    · split
      · exact (ih _ _).trans (Session.sendsOn_send x _ _ rfl)
      · exact x.sendsOn_refl
    · exact x.sendsOn_refl

theorem queueLost_sendsOn (now : Nat) (x : Session) : (queueLost now x).sendsOn x := by
  unfold queueLost
  split
  · exact x.sendsOn_refl
  · exact ⟨[], by simp, by simp, Nat.le_refl _⟩

theorem State.foldl_sendMgmt_cur (l : List (Peer × Bytes)) (s : State) : (l.foldl (fun s o => s.sendMgmt o.1 o.2) s).cur = s.cur :=
  List.foldlRecOn (motive := fun t : State => t.cur = s.cur) _ _ rfl fun _ ht _ _ => ht

theorem State.mailOnly_pump (s : State) (k : Nat) : (s.pump k).mailOnly s := by
  unfold State.pump
  split
  · exact s.mailOnly_refl
  · exact (State.mailOnly_foldl (fun t o => t.mailOnly_sendMgmt _ _) _ _).trans (s.mailOnly_setSession _ _)

/-- A session that sends what its window allows. -/
theorem State.pump_session {s : State} {k : Nat} {x : Session} (hx : s.cur.sessions[k]? = some x) :
    ∃ y, (s.pump k).cur.sessions[k]? = some y ∧ y.sendsOn x := by
  have hk : k < s.cur.sessions.length := (List.getElem?_eq_some_iff.1 hx).1
  unfold State.pump
  rw [hx]
  dsimp only
  rw [State.foldl_sendMgmt_cur]
  refine ⟨_, (lset_get _ _ _ _).trans (if_pos ⟨rfl, hk⟩), ?_⟩
  exact (pumpEvents_sendsOn _ _ _ _).trans ((queueLost_sendsOn _ _).trans (pumpEvents_sendsOn _ _ _ _))

/-- An authentic acknowledgement reaches its event. -/
theorem State.jcpReceive_of_ack {s : State} {d : Datagram} {k : Nat} {x : Session} {ep : Epoch} (h : s.authentic d 0x60 k x ep)
    (run : State → JcpCmd → JcpDone) : s.jcpReceive d 0x60 run = (s.unreceived d).ackEvent k (jSeq d.payload) := by
  have hfind := State.authentic_find h
  obtain ⟨haddr, hon, hrun, hr, hne, hlen, hwhole, hmax, hepmax, -, hx, -, hid, hcov, hconf, hhello, hmac, hflag⟩ := h
  have hop : jOpcode d.payload ≠ 1 := fun e => hne (by simpa [jcpRow_of_hello e] using hr.symm)
  have hunder : (s.unreceived d).jcpUnder k ep d run = (s.unreceived d).ackEvent k (jSeq d.payload) := by
    simp [State.jcpUnder, State.unreceived, hflag, Nat.not_lt.2 hepmax, hx, hhello, hr]
  have hin : (s.unreceived d).jcpIngress d run = (s.unreceived d).jcpUnder k ep d run := by
    simp [State.jcpIngress, State.unreceived, hrun, Nat.not_lt.2 hlen, hfind, hx, hcov, ← hwhole, Nat.not_lt.2 hmax, hop, hconf,
      hhello, hmac]
  rw [← hunder, ← hin]
  simp [State.jcpReceive, haddr, hon, hr, State.unreceived]

theorem State.ackEvent_eq {s : State} {k : Nat} {x : Session} (hx : s.cur.sessions[k]? = some x) (seq : W32) :
    s.ackEvent k seq =
      (s.setSession k { x with inFlight := x.inFlight.filter fun e => decide (e.seq % 4294967296 ≠ seq.toNat) }).pump k := by
  rw [State.ackEvent, hx]

theorem State.setSession_session {s : State} {k : Nat} {x : Session} (hx : s.cur.sessions[k]? = some x) (y : Session) :
    (s.setSession k y).cur.sessions[k]? = some y :=
  (lset_get _ _ _ _).trans (if_pos ⟨rfl, (List.getElem?_eq_some_iff.1 hx).1⟩)

/-- EVENT_RESEND of an event in flight, by the times it was sent. -/
theorem exec_eventResend {s : State} {k n : Nat} {x : Session} {e : InFlight} {ep : Epoch} {p : Peer}
    (hx : s.cur.sessions[k]? = some x) (he : (x.inFlight.find? fun f => decide (f.seq = n)) = some e)
    (hconf : x.confirmed = some ep) (hpeer : x.peer = some p) :
    exec (.eventResend k n) s = .next (if 11 ≤ e.sends then
      (((s.reach (e.sentAt + 100000000)).setSession k { x with
        inFlight := x.inFlight.filter fun f => decide (f.seq ≠ n) }).rcount .curEventLost 0 0 0 32 1).pump k
    else ((s.reach (e.sentAt + 100000000)).setSession k { x with inFlight := x.inFlight.map fun f =>
        if f.seq = n then { f with sends := f.sends + 1, sentAt := (s.reach (e.sentAt + 100000000)).t } else f }).sendMgmt p
        (eventMessage x.id ep n e.event)) := by
  show execEventResend k n s = _
  rw [execEventResend, hx]
  simp only [he, hconf, hpeer]

/-- Settles O33: a HELLO's epoch and reply, and what an acknowledgement and a resend do to the events in flight. -/
theorem helloAndEvents : Obligations.HelloAndEvents := by
  intro s k x
  refine ⟨fun d offer feat nonce most v haddr hmode hrun hrow hlen hwhole hmax hx hfirst hid hcov hmac hflag hhello hl heven h2 h16
    hfeat hnonce hmost hlo hhi hv => ?hello, fun d ep h => ?ack, fun e ep p n hx he hconf hpeer => ?resend⟩
  case hello =>
    have hin := State.jcpIngress_of_hello (s := s.unreceived d) hrun (jOpcode_of_hello hrow) hlen hwhole hmax hx hfirst hid hcov hmac
      hflag fun t _ => .later t
    have hrec : s.jcpReceive d 1 (fun t _ => .later t) = (s.unreceived d).jcpIngress d fun t _ => .later t := by
      have hon : (s.jcpOn || decide (s.m.mode = .linkUp)) = true := by simpa using hmode
      simp [State.jcpReceive, haddr, hon, hrow, State.unreceived]
    rw [State.helloIn_of_common k hl heven h2 h16 hfeat hnonce hmost hlo hhi hhello hv, State.openWindow_eq] at hin
    exact ⟨_, ((s.unreceived d).drawBytes 16).1, _, min (beNat most) s.cur.maxMsg, congrArg Host.Outcome.next (hrec.trans hin),
      length_beBytes 16 _, rfl, rfl, nget_nput_self _ _ _, rfl, rfl, rfl⟩
  case ack =>
    have hrec := State.jcpReceive_of_ack h fun t _ => .later t
    obtain ⟨-, -, -, -, -, -, -, -, -, -, hx, -⟩ := h
    have hx' : (s.unreceived d).cur.sessions[k]? = some x := hx
    rw [State.ackEvent_eq hx'] at hrec
    obtain ⟨y, hy, new, hin, hnew, -⟩ := State.pump_session (State.setSession_session hx' { x with
      inFlight := x.inFlight.filter fun e => decide (e.seq % 4294967296 ≠ (jSeq d.payload).toNat) })
    obtain ⟨ses, mg, hm⟩ := (State.mailOnly_pump _ k).trans ((s.unreceived d).mailOnly_setSession k { x with
      inFlight := x.inFlight.filter fun e => decide (e.seq % 4294967296 ≠ (jSeq d.payload).toNat) })
    refine ⟨_, y, congrArg Host.Outcome.next hrec, hy, fun e he hne => ?_, fun e he hlt => ?_, ?_⟩
    · rw [hin]
      exact List.mem_append_left _ (List.mem_filter.2 ⟨he, by simpa using hne⟩)
    · rw [hin] at he
      rcases List.mem_append.1 he with he | he
      · simpa using List.mem_filter.1 he
      · exact absurd (hnew e he) (Nat.not_le.2 hlt)
    · rw [hm]
      rfl
  case resend =>
    rw [exec_eventResend hx he hconf hpeer]
    obtain ⟨hu, -, -⟩ := s.reach_spec (e.sentAt + 100000000)
    generalize s.reach (e.sentAt + 100000000) = u at hu ⊢
    obtain ⟨time, htime⟩ : ∃ time, time = u.time := ⟨_, rfl⟩
    rw [← htime] at hu
    subst hu
    by_cases hs : e.sends < 11
    · rw [if_neg (Nat.not_le.2 hs)]
      exact ⟨_, rfl, rfl, (if_pos hs).mpr
        ⟨nget_nput_self _ _ _, rfl, _, State.setSession_session (s := { s with time := time }) hx _, rfl⟩⟩
    · rw [if_pos (Nat.not_lt.1 hs)]
      obtain ⟨y, hy, new, hin, hnew, -⟩ := State.pump_session (s := (State.setSession { s with time := time } k { x with
        inFlight := x.inFlight.filter fun f => decide (f.seq ≠ n) }).rcount .curEventLost 0 0 0 32 1)
        (State.setSession_session (s := { s with time := time }) hx _)
      have hm := State.mailOnly_pump ((State.setSession { s with time := time } k { x with
        inFlight := x.inFlight.filter fun f => decide (f.seq ≠ n) }).rcount .curEventLost 0 0 0 32 1) k
      refine ⟨_, rfl, ?_, (if_neg hs).mpr
        ⟨(hm.rget _ _ _).trans (State.rget_rset_self _ _ _ _ _), fun hlt z hz f hf => ?_⟩⟩
      · obtain ⟨ses, mg, hm⟩ := hm
        rw [hm]
        rfl
      · obtain rfl : y = z := Option.some.inj (hy.symm.trans hz)
        rw [hin] at hf
        rcases List.mem_append.1 hf with hf | hf
        · simpa using (List.mem_filter.1 hf).2
        · have := hnew f hf
          dsimp only at this
          omega

end Sys2Proof.Machine

/-!
PROOF. KEY_INSTALL (R89, R152 to R158) and STATS (R84).
-/

namespace Sys2Proof.Machine

/-! ### Little-endian fields -/

theorem byteN_append_cons (a : Bytes) (v : Nat) (b : Bytes) : byteN (a ++ byteOf v :: b) a.length = v % 256 := by
  simp [byteN, byteAt, byteOf]

/-- A field reads back the number that was put there. -/
theorem leField_append (a : Bytes) (n v : Nat) (b : Bytes) : leField (a ++ leBytes n v ++ b) a.length n = v % 256 ^ n := by
  induction n generalizing a v with
  | zero => simp [leField, Nat.mod_one]
  | succ n ih =>
    have hrest := ih (a ++ [byteOf v]) (v / 256)
    have hbyte := byteN_append_cons a v (leBytes n (v / 256) ++ b)
    simp only [List.append_assoc, List.length_append, List.length_singleton, List.nil_append,
      List.cons_append] at hrest
    rw [leField, leBytes, List.append_assoc, List.cons_append, hbyte, hrest, pow_succ']
    exact (Nat.mod_mul ..).symm

/-! ### Key slots -/

theorem slotCheck_lt (b : Bytes) (leg : Nat) : slotCheck b leg < 65536 := by
  unfold slotCheck
  dsimp only
  split
  · decide
  · exact BitVec.isLt _

/-- Sealing a slot writes bytes 10 and 11. -/
theorem sealSlot_eq {pre : Bytes} (hpre : pre.length = 10) (old post : Bytes) (hold : old.length = 2) :
    sealSlot (pre ++ old ++ post) =
      pre ++ leBytes 2 (slotCheck (pre ++ old ++ post) (leField (pre ++ old ++ post) 2 2 % 32768)) ++ post := by
  simp [sealSlot, patch, hpre, hold, List.drop_append]

/-- The check code does not cover its own bytes (R155). -/
theorem slotCheck_congr {pre : Bytes} (hpre : pre.length = 10) {a b : Bytes} (ha : a.length = 2) (hb : b.length = 2)
    (post : Bytes) (leg : Nat) : slotCheck (pre ++ a ++ post) leg = slotCheck (pre ++ b ++ post) leg := by
  simp [slotCheck, hpre, ha, hb, List.take_append, List.drop_append]

theorem profileOf_lt {n : Nat} {p : Profile} (h : profileOf n = some p) : n < 256 := by
  unfold profileOf at h
  split at h
  case h_7 => cases h
  all_goals decide

/-- A sealed slot with STATE 1 passes the check for its leg under its profile. -/
theorem judgeSlot_sealSlot {profile leg : Nat} {p : Profile} (hp : profileOf profile = some p) (hleg : leg < 32768)
    {mid : Bytes} (hmid : mid.length = 6) (post : Bytes) :
    judgeSlot (sealSlot ([1, byteOf profile] ++ leBytes 2 leg ++ mid ++ [0, 0] ++ post)) leg = .ok p := by
  have hpre : ([1, byteOf profile] ++ leBytes 2 leg ++ mid).length = 10 := by simp [hmid]
  have hfield : leField ([1, byteOf profile] ++ leBytes 2 leg ++ mid ++ [0, 0] ++ post) 2 2 % 32768 = leg := by
    have h := leField_append [1, byteOf profile] 2 leg (mid ++ [0, 0] ++ post)
    simp only [List.append_assoc, List.length_cons, List.length_nil] at h ⊢
    rw [h]
    omega
  rw [sealSlot_eq hpre _ _ rfl, hfield]
  generalize hc : slotCheck ([1, byteOf profile] ++ leBytes 2 leg ++ mid ++ [0, 0] ++ post) leg = c
  have hlt : c < 65536 := hc ▸ slotCheck_lt _ _
  have hgood : leField ([1, byteOf profile] ++ leBytes 2 leg ++ mid ++ leBytes 2 c ++ post) 10 2 =
      slotCheck ([1, byteOf profile] ++ leBytes 2 leg ++ mid ++ leBytes 2 c ++ post) leg := by
    have h := leField_append ([1, byteOf profile] ++ leBytes 2 leg ++ mid) 2 c post
    rw [hpre] at h
    rw [h, slotCheck_congr hpre (length_leBytes 2 c) (b := [0, 0]) rfl, hc]
    omega
  have hstate : byteN ([1, byteOf profile] ++ leBytes 2 leg ++ mid ++ leBytes 2 c ++ post) 0 = 1 := rfl
  have hprofile : byteN ([1, byteOf profile] ++ leBytes 2 leg ++ mid ++ leBytes 2 c ++ post) 1 = profile :=
    (byteN_append_cons [1] profile _).trans (Nat.mod_eq_of_lt (profileOf_lt hp))
  have hzero : allZero ([1, byteOf profile] ++ leBytes 2 leg ++ mid ++ leBytes 2 c ++ post) = false := rfl
  rw [judgeSlot, hzero, hstate, hprofile, hp, hgood]
  simp

theorem judgeSlot_freshSlot {profile leg : Nat} {p : Profile} (hp : profileOf profile = some p) (hleg : leg < 32768)
    (expiry gen : Nat) (key salt : Bytes) : judgeSlot (freshSlot profile leg expiry gen p key salt) leg = .ok p := by
  rw [freshSlot]
  simp only [List.append_assoc]
  have h := judgeSlot_sealSlot hp hleg (mid := leBytes 4 expiry ++ leBytes 2 gen) (by simp)
  simp only [List.append_assoc] at h
  exact h _

/-- What installing a key does (R154, R157): the slot holds the derived keys, no other slot changes. -/
theorem State.installKey_spec (s : State) (leg slot profile lifetime : Nat) (p : Profile) (key salt : Bytes) :
    (∃ expiry gen, (s.installKey leg slot profile lifetime p key salt).slot (2 * leg + slot) =
      freshSlot profile leg expiry gen p key salt) ∧
    (∀ i, i ≠ 2 * leg + slot → (s.installKey leg slot profile lifetime p key salt).slot i = s.slot i) ∧
    s.installKey leg slot profile lifetime p key salt =
      { s with vlt := (s.installKey leg slot profile lifetime p key salt).vlt } := by
  have hslots : (s.installKey leg slot profile lifetime p key salt).vlt.slots = nputD (zeros 192) s.vlt.slots (2 * leg + slot)
      (freshSlot profile leg (if lifetime = 0 then 0 else (s.t / 1000000000 + lifetime) % 4294967296)
        ((leField (s.slot (2 * leg + slot)) 8 2 + 1) % 65536) p key salt) := by
    unfold State.installKey
    dsimp only
    split <;> rfl
  have hself := ngetD_nputD_self (zeros 192) s.vlt.slots (2 * leg + slot) (freshSlot profile leg
    (if lifetime = 0 then 0 else (s.t / 1000000000 + lifetime) % 4294967296)
    ((leField (s.slot (2 * leg + slot)) 8 2 + 1) % 65536) p key salt)
  rw [← hslots] at hself
  refine ⟨⟨_, _, hself⟩, fun i hi => ?_, ?_⟩
  · rw [State.slot, hslots, ngetD_nputD_ne _ _ _ hi]
    rfl
  · unfold State.installKey
    dsimp only
    split <;> rfl

theorem State.jcpKey_of_ok {s : State} {d : Datagram} {k : Nat} {x : Session} {ep : Epoch} {bl bs bp key salt : Bytes} {p : Profile}
    (hperm : x.perm.getLsbD 3 = true) (hbl : bl.length = 2) (hbs : bs.length = 1) (hbp : bp.length = 1) (hleg : beNat bl < 32768)
    (hslot : beNat bs < 2) (hp : profileOf (beNat bp) = some p) (hkey : key.length = p.key) (hsalt : salt.length = p.salt)
    (hex : s.objExists tyLeg (beNat bl) = true) :
    s.jcpKey (cmdOf d k x ep [(0x30, bl), (0x31, bs), (0x32, bp), (0x33, key), (0x34, salt)]) =
      .reply 0 [] (s.installKey (beNat bl) (beNat bs) (beNat bp) 0 p key salt) := by
  have hallow := cmdOf_allows (d := d) (k := k) (ep := ep)
    (l := [(0x30, bl), (0x31, bs), (0x32, bp), (0x33, key), (0x34, salt)]) hperm
  have hkeys : (p.key = 16 ∨ p.key = 32) ∧ (p.salt = 12 ∨ p.salt = 14) := by
    unfold profileOf at hp
    split at hp
    case h_7 => cases hp
    all_goals
      cases hp
      decide
  have hspec : tlvsOk keySpec [(0x30, bl), (0x31, bs), (0x32, bp), (0x33, key), (0x34, salt)] = true := by
    simp [tlvsOk, keySpec, hbl, hbs, hbp, hkey, hsalt, hkeys]
  have hrange : ¬ (32767 < beNat bl ∨ 1 < beNat bs) := by omega
  have hnever : beNat [] = 0 := rfl
  rw [State.jcpKey, hallow]
  simp [answered, cmdOf, JcpCmd.num, JcpCmd.val, refuseIf, hspec, tlvOf, hrange, hp, hkey, hsalt, hex, bind, Except.bind, pure,
    Except.pure, stOk, hnever]

/-! ### STATS -/

/-- Entries taken out of a table, those of a list's items but the spared ones. -/
theorem nget_foldl_ndel {α : Type} (key : Nat → Nat) (spared : Nat → Bool) (l : List Nat) (m : NMap α) (j : Nat) :
    nget (l.foldl (fun m n => if spared n then m else ndel m (key n)) m) j =
      if ∃ n ∈ l, spared n = false ∧ key n = j then none else nget m j := by
  induction l generalizing m with
  | nil => simp
  | cons a r ih =>
    rw [List.foldl_cons, ih]
    by_cases hr : ∃ n ∈ r, spared n = false ∧ key n = j
    · rw [if_pos hr, if_pos (by obtain ⟨n, hn, h⟩ := hr; exact ⟨n, List.mem_cons_of_mem _ hn, h⟩)]
    · rw [if_neg hr]
      cases hs : spared a with
      | true =>
        have h : ¬ ∃ n ∈ a :: r, spared n = false ∧ key n = j := by simpa [hs] using hr
        rw [if_neg h]
        rfl
      | false =>
        rw [if_neg Bool.false_ne_true, nget_ndel]
        by_cases hj : j = key a
        · rw [if_pos hj, if_pos ⟨a, List.mem_cons_self, hs, hj.symm⟩]
        · have h : ¬ ∃ n ∈ a :: r, spared n = false ∧ key n = j := by
            simpa [hs, Ne.symm hj] using hr
          rw [if_neg hj, if_neg h]

/-- Clearing an object's counters clears those that count, and no other object's. -/
theorem State.clearStats_spec (s : State) (ty id : Nat) :
    (∀ n ∈ s.statsOf ty id, s.statNow ty id n = none → ngetD 0 (s.clearStats ty id).stats (statKey ty id n) = 0) ∧
      ∀ key, (∀ n ∈ s.statsOf ty id, key ≠ statKey ty id n) → nget (s.clearStats ty id).stats key = nget s.stats key := by
  have hget := nget_foldl_ndel (statKey ty id) (fun n => (s.statNow ty id n).isSome) (s.statsOf ty id) s.stats
  refine ⟨fun n hn hnow => ?_, fun key hkey => ?_⟩
  · exact congrArg (·.getD 0) ((hget _).trans (if_pos ⟨n, hn, by rw [hnow]; rfl, rfl⟩))
  · exact (hget _).trans (if_neg fun ⟨n, hn, _, he⟩ => hkey n hn he.symm)

/-- The sessions and the waiting datagrams do not show in a counter. -/
theorem State.statNow_begun (s : State) (d : Datagram) (k : Nat) (x : Session) (ty id n : Nat) :
    (s.begun d k x).statNow ty id n = s.statNow ty id n := rfl

theorem State.statsOf_begun (s : State) (d : Datagram) (k : Nat) (x : Session) (ty id : Nat) :
    (s.begun d k x).statsOf ty id = s.statsOf ty id := rfl

theorem State.countersTlv_begun (s : State) (d : Datagram) (k : Nat) (x : Session) (ty id : Nat) :
    (s.begun d k x).countersTlv ty id = s.countersTlv ty id := rfl

/-- STATS of one existing object. -/
theorem State.jcpStats_of_ok {s : State} {d : Datagram} {k : Nat} {x : Session} {ep : Epoch} {bt bi bc : Bytes}
    (hperm : x.perm.getLsbD 7 = true) (hbt : bt.length = 1) (hbi : bi.length = 4) (hbc : bc.length = 1) (hc : beNat bc ≤ 1)
    (hlo : 1 ≤ beNat bt) (hhi : beNat bt ≤ 8) (hex : s.statsExist (beNat bt) (beNat bi) = true) :
    s.jcpStats (cmdOf d k x ep [(0x20, bt), (0x21, bi), (0x61, bc)]) = .reply 0 (s.countersTlv (beNat bt) (beNat bi))
      (if beNat bc = 1 then s.clearStats (beNat bt) (beNat bi) else s) := by
  have hallow := cmdOf_allows (d := d) (k := k) (ep := ep) (l := [(0x20, bt), (0x21, bi), (0x61, bc)]) hperm
  have hid : idOk (beNat bt) (beNat bi) = true := by
    rw [State.statsExist, Bool.and_eq_true] at hex
    exact hex.1
  have hjudge : judgeId (beNat bt) (beNat bi) true = .ok () := by
    have h0 : ¬ (beNat bt = 0 ∨ 8 < beNat bt) := by omega
    simp [judgeId, refuseIf, h0, hid, bind, Except.bind]
  have hrange : (cmdOf d k x ep [(0x20, bt), (0x21, bi), (0x61, bc)]).has 0x60 = false := rfl
  rw [State.jcpStats, hrange, if_neg Bool.false_ne_true, hallow]
  simp [answered, cmdOf, JcpCmd.num, JcpCmd.val, refuseIf, tlvsOk, objSpec, tlvOf, hbt, hbi, hbc, Nat.not_lt.2 hc, hjudge, hex,
    bind, Except.bind, pure, Except.pure, stOk]

/-- Settles O32: the installed slot passes its check, and the counters cleared are the object's that count. -/
theorem jcpKeysAndStats : Obligations.JcpKeysAndStats := by
  intro s d k x ep
  refine ⟨fun bl bs bp key salt p leg slot h hperm hbl hbs hbp hleg hslot hlt hslt hp hkey hsalt hex => ?key,
    fun bt bi bc ty id h hperm hbt hbi hbc hty hid hc hlo hhi hex hfit => ?stats⟩
  case key =>
    subst hleg hslot
    obtain ⟨⟨expiry, gen, hself⟩, hother, hst⟩ :=
      (s.begun d k x).installKey_spec (beNat bl) (beNat bs) (beNat bp) 0 p key salt
    have hcur : ((s.begun d k x).installKey (beNat bl) (beNat bs) (beNat bp) 0 p key salt).cur = (s.begun d k x).cur :=
      (congrArg State.cur hst :)
    have hans := h.answers_status (State.jcpKey_of_ok (s := s.begun d k x) hperm hbl hbs hbp hlt hslt hp hkey hsalt hex)
      (by rw [hcur, h.begun_session]; rfl)
    have hvlt : (s.jcpReceive d 0x20 State.jcpKey).vlt =
        ((s.begun d k x).installKey (beNat bl) (beNat bs) (beNat bp) 0 p key salt).vlt := by rw [hans.2.1]
    refine ⟨_, rfl, hans, ?_, fun i hi => ?_, ?_⟩
    · rw [State.slot, hvlt]
      exact (congrArg (judgeSlot · _) hself).trans (judgeSlot_freshSlot hp hlt _ _ _ _)
    · rw [State.slot, hvlt]
      exact hother i hi
    · rw [hans.2.1, hst]
      rfl
  case stats =>
    subst hty hid
    have hans := h.answers (State.jcpStats_of_ok (s := s.begun d k x) hperm hbt hbi hbc hc hlo hhi hex)
      (by split <;> simp [State.clearStats, h.begun_session]) (by rwa [State.countersTlv_begun])
    have hstats : (s.jcpReceive d 0x50 State.jcpStats).stats =
        if beNat bc = 1 then ((s.begun d k x).clearStats (beNat bt) (beNat bi)).stats else s.stats := by
      rw [hans.2.1]
      split <;> rfl
    refine ⟨_, rfl, hans.1, ?_, fun h0 => ?_, fun h1 => ?_⟩
    · rw [hans.2.1]
      split <;> rfl
    · rw [hstats, if_neg (by omega)]
    · rw [hstats, if_pos h1]
      exact (s.begun d k x).clearStats_spec (beNat bt) (beNat bi)

end Sys2Proof.Machine

/-!
PROOF. What nearly every operation leaves alone: the restart of the Curator's firmware, and which objects exist
(`…_standing`, in the order of the model, as far as creation, deletion and the Docent's assignment need it).
-/

namespace Sys2Proof.Machine

/-- Whether the Curator's firmware restarts, and which objects exist. -/
def State.standing (s : State) : Bool × (Nat → Bool) := (s.cur.restarting, nhas s.objs)

@[simp] theorem State.standing_eta (s : State) : (s.cur.restarting, nhas s.objs) = s.standing := by
  simp only [State.standing]

@[simp] theorem State.standing_mk (pending : List Instr) (draws : Nat) (regs : NMap W32) (ctrs : NMap W64) (latches :
    NMap W32) (answer : Answer) (m : ModeSt) (otp : Otp) (pins : Pins) (rails : Rails) (time : Timebase) (i2c : I2c)
    (tap : Tap) (frec : NMap Byte) (cur : Curator) (sup : Supervisor) (mgmt : NMap (List MgmtFrame)) (atr : Atrium)
    (rgs : Registrar) (vlt : Vault) (clo : Cloakroom) (stk : Stacks) (fwd : Forwarder) (tmg : Tmg) (cas : Cascade)
    (doc : Docent) (dsp : NMap Cluster) (afb : Audio) (pgr : Pager) (vde : VideoDec) (cmp : Compositor) (ven :
    VideoEnc) (mct : MemCtl) (objs : NMap (NMap Bytes)) (stats : NMap W64) (gddr : NMap Byte) (poisoned : List Nat)
    (wire : List TxFrame) (programmed : List (Nat × Bytes)) : State.standing ⟨pending, draws, regs, ctrs, latches,
    answer, m, otp, pins, rails, time, i2c, tap, frec, cur, sup, mgmt, atr, rgs, vlt, clo, stk, fwd, tmg, cas, doc,
    dsp, afb, pgr, vde, cmp, ven, mct, objs, stats, gddr, poisoned, wire, programmed⟩ = (cur.restarting, nhas objs) := by
  simp only [State.standing]

@[simp] theorem State.standing_ite (c : Prop) [Decidable c] (a b : State) :
    (if c then a else b).standing = if c then a.standing else b.standing := apply_ite ..

/-- A fold of operations that keep them keeps them. -/
@[simp] theorem State.foldl_standing {β : Type} {f : State → β → State} (hf : ∀ s b, (f s b).standing = s.standing) (l : List β) (s : State) :
    (l.foldl f s).standing = s.standing :=
  List.foldlRecOn (motive := fun t : State => t.standing = s.standing) _ _ rfl fun t ht b _ => (hf t b).trans ht

/-! ### Registers, counters, reports -/

@[simp] theorem State.rset_standing (s : State) (r : Reg) (u i : Nat) (v : W32) : (s.rset r u i v).standing = s.standing := by
  simp [State.rset]

@[simp] theorem State.rsetFld_standing (s : State) (r : Reg) (u i lo len n : Nat) :
    (s.rsetFld r u i lo len n).standing = s.standing := by
  simp [State.rsetFld]

@[simp] theorem State.rbit_standing (s : State) (r : Reg) (u i b : Nat) : (s.rbit r u i b).standing = s.standing := by
  simp [State.rbit]

@[simp] theorem State.rcount_standing (s : State) (r : Reg) (u i lo len n : Nat) :
    (s.rcount r u i lo len n).standing = s.standing := by
  simp [State.rcount]

@[simp] theorem State.cadd_standing (s : State) (r : Reg) (u i n : Nat) : (s.cadd r u i n).standing = s.standing := by
  simp [State.cadd]

@[simp] theorem State.cinc_standing (s : State) (r : Reg) (u i : Nat) : (s.cinc r u i).standing = s.standing := by
  simp [State.cinc]

@[simp] theorem State.sendMgmt_standing (s : State) (p : Peer) (payload : Bytes) : (s.sendMgmt p payload).standing = s.standing := by
  simp [State.sendMgmt]

@[simp] theorem State.setSession_standing (s : State) (k : Nat) (x : Session) : (s.setSession k x).standing = s.standing := by
  simp [State.setSession]

@[simp] theorem State.sadd_standing (s : State) (ty id num n : Nat) : (s.sadd ty id num n).standing = s.standing := by
  simp [State.sadd]

@[simp] theorem State.sinc_standing (s : State) (ty id num : Nat) : (s.sinc ty id num).standing = s.standing := by
  simp [State.sinc]

@[simp] theorem State.gwrite_standing (s : State) (a : Nat) (b : Bytes) : (s.gwrite a b).standing = s.standing := by
  simp [State.gwrite]

@[simp] theorem State.setCore_standing (s : State) (c : Nat) (x : DspCore) : (s.setCore c x).standing = s.standing := by
  simp [State.setCore]

@[simp] theorem State.draw_standing (s : State) (w : Nat) : (s.draw w).2.standing = s.standing := by
  simp [State.draw]

@[simp] theorem State.drop_standing (s : State) (code : Nat) : (s.drop code).standing = s.standing := by
  simp [State.drop]

@[simp] theorem State.pump_standing (s : State) (k : Nat) : (s.pump k).standing = s.standing := by
  unfold State.pump
  split <;> simp

@[simp] theorem State.raise_standing (s : State) (code subjectType subjectId : Nat) (detail : Bytes) :
    (s.raise code subjectType subjectId detail).standing = s.standing := by
  refine State.foldl_standing (fun s k => ?_) _ _
  split
  · exact rfl
  · split <;> simp

@[simp] theorem State.setErr_standing (s : State) (wing num bit : Nat) : (s.setErr wing num bit).standing = s.standing := by
  simp [State.setErr]

@[simp] theorem State.cellLog_standing (s : State) (wing num cell kind place : Nat) :
    (s.cellLog wing num cell kind place).standing = s.standing := by
  unfold State.cellLog
  dsimp only
  split
  · simp
  · split <;> simp

@[simp] theorem State.cellError_standing (s : State) (wing num cell kind place : Nat) :
    (s.cellError wing num cell kind place).standing = s.standing := by
  simp [State.cellError]

@[simp] theorem State.fenceStream_standing (s : State) (st : Nat) : (s.fenceStream st).standing = s.standing := by
  simp [State.fenceStream]

@[simp] theorem State.fenceSub_standing (s : State) (id : Nat) : (s.fenceSub id).standing = s.standing := by
  simp [State.fenceSub]

@[simp] theorem State.flag_standing (s : State) (r : Reg) (u i bit : Nat) : (s.flag r u i bit).standing = s.standing := by
  simp [State.flag]

/-! ### The Cloakroom -/

@[simp] theorem State.setPool_standing (s : State) (p : Nat) (x : Pool) : (s.setPool p x).standing = s.standing := by
  simp [State.setPool]

@[simp] theorem State.setRec_standing (s : State) (h : W32) (r : BufRec) : (s.setRec h r).standing = s.standing := by
  simp [State.setRec]

@[simp] theorem State.lowMark_standing (s : State) (p : Nat) : (s.lowMark p).standing = s.standing := by
  simp [State.lowMark]

@[simp] theorem State.answerClient_standing (s : State) (cl : Client) (code : Nat) (h : W32) :
    (s.answerClient cl code h).standing = s.standing := by
  unfold State.answerClient
  split <;> simp

@[simp] theorem State.reject_standing (s : State) (d req : Nat) (h : W32) (code : Nat) :
    (s.reject d req h code).standing = s.standing := by
  simp [State.reject]

@[simp] theorem State.takeBuffer_standing (s : State) (p d : Nat) : (s.takeBuffer p d).2.standing = s.standing := by
  unfold State.takeBuffer
  dsimp only
  split <;> simp

@[simp] theorem State.grant_standing (s : State) (d start p : Nat) : (s.grant d start p).2.standing = s.standing := by
  unfold State.grant
  dsimp only
  split <;> simp

@[simp] theorem State.grantOr_standing (s : State) (d start q : Nat) : (s.grantOr d start q).2.standing = s.standing := by
  have hg := s.grant_standing d start q
  rw [State.grantOr]
  generalize s.grant d start q = g at hg ⊢
  obtain ⟨b, t⟩ := g
  simp only
  split
  · exact hg
  · exact s.reject_standing ..

@[simp] theorem State.alloc_standing (s : State) (d size : Nat) (yellow : Bool) : (s.alloc d size yellow).2.standing = s.standing := by
  unfold State.alloc
  dsimp only
  repeat' split
  all_goals simp

@[simp] theorem State.holdAlloc_standing (s : State) (cl : Client) (size : Nat) (work : Option Nat) :
    (s.holdAlloc cl size work).standing = s.standing := by
  simp [State.holdAlloc]

@[simp] theorem State.allocNow_standing (s : State) (cl : Client) (size : Nat) (yellow wait : Bool) :
    (s.allocNow cl size yellow wait).standing = s.standing := by
  have h := s.alloc_standing cl.domain size yellow
  unfold State.allocNow
  split <;> rename_i e <;> rw [e] at h
  · simpa using h
  · split <;> simpa using h

@[simp] theorem State.overCredit_standing (s : State) (q : HeldReq) : (s.overCredit q).standing = s.standing := by
  simp [State.overCredit]

@[simp] theorem State.hwAlloc_standing (s : State) (d work size : Nat) : (s.hwAlloc d work size).2.standing = s.standing := by
  have h := s.alloc_standing d size false
  unfold State.hwAlloc
  split
  · exact rfl
  · split
    · exact rfl
    · split
      · rename_i e
        rw [e] at h
        exact (State.holdAlloc_standing ..).trans h
      · exact h

@[simp] theorem State.hwAllocEnd_standing (s : State) (d work : Nat) : (s.hwAllocEnd d work).standing = s.standing := by
  simp [State.hwAllocEnd]

@[simp] theorem State.endHeld_standing (s : State) (h : HeldAlloc) (code : Nat) (b : W32) :
    (s.endHeld h code b).standing = s.standing := by
  unfold State.endHeld
  split <;> simp

@[simp] theorem State.retryHeld_standing (s : State) (p : Nat) : (s.retryHeld p).standing = s.standing := by
  -- the grant is made opaque, so that the kernel does not evaluate it as a match's discriminant
  obtain ⟨grant, hgrant⟩ : ∃ g, g = s.grantOr := ⟨_, rfl⟩
  have hg (d start q) : (grant d start q).2.standing = s.standing := hgrant ▸ s.grantOr_standing d start q
  rw [State.retryHeld, ← hgrant]
  split
  · exact rfl
  · rename_i h _
    split
    · exact rfl
    · rename_i q _
      specialize hg h.client.domain h.start q
      split <;> rename_i he <;> rw [he] at hg
      · exact (State.endHeld_standing ..).trans hg
      · exact (State.endHeld_standing ..).trans hg

theorem State.setCount_standing {s t : State} {h : W32} {r : BufRec} {n : Nat} (e : s.setCount h r n = some t) :
    t.standing = s.standing := by
  unfold State.setCount at e
  dsimp only at e
  split at e
  · cases e
    split <;> simp
  · split at e
    · cases e
      simp
    · split at e
      · cases e
      · cases e
        simp

@[simp] theorem State.freeBuffer_standing (s : State) (h : W32) (r : BufRec) : (s.freeBuffer h r).standing = s.standing := by
  simp [State.freeBuffer]

theorem State.applyReq_standing {s t : State} {kind : Nat} {h : W32} {arg : Nat} (e : s.applyReq kind h arg = some t) :
    t.standing = s.standing := by
  unfold State.applyReq at e
  dsimp only at e
  split at e
  · exact State.setCount_standing e
  · split at e
    · cases e
      simp
    · exact State.setCount_standing e
  · cases e
    simp

theorem State.tryReq_standing {s t : State} {d kind : Nat} {h : W32} {arg code : Nat} (e : s.tryReq d kind h arg = some (code, t)) :
    t.standing = s.standing := by
  unfold State.tryReq at e
  split at e
  · cases e
    simp
  · split at e
    · cases e
      simp
    · obtain ⟨u, hu, he⟩ := Option.map_eq_some_iff.1 e
      cases he
      exact State.applyReq_standing hu

@[simp] theorem State.failHw_standing (s : State) (d : Nat) (flow : ItemFlow) : (s.failHw d flow).standing = s.standing := by
  unfold State.failHw
  split <;> simp

@[simp] theorem State.answerReq_standing (s : State) (q : HeldReq) (code : Nat) : (s.answerReq q code).standing = s.standing := by
  unfold State.answerReq
  split <;> simp

theorem State.nextStalled_standing {s t : State} {seen l : List HeldReq} {q : HeldReq} {code : Nat}
    (e : s.nextStalled seen l = some (q, code, t)) : t.standing = s.standing := by
  induction l generalizing seen with
  | nil => cases e
  | cons a r ih =>
    unfold State.nextStalled at e
    split at e
    · rename_i x hx
      cases e
      split at hx
      · cases hx
      · exact State.tryReq_standing hx
    · exact ih e

@[simp] theorem State.countStalls_standing (s : State) (seen l : List HeldReq) : (s.countStalls seen l).standing = s.standing := by
  induction l generalizing s seen with
  | nil => simp [State.countStalls]
  | cons q r ih =>
    unfold State.countStalls
    split
    · exact ih ..
    · exact (ih ..).trans (by simp)

@[simp] theorem State.serveStalled_standing (n : Nat) (s : State) : (State.serveStalled n s).standing = s.standing := by
  induction n generalizing s with
  | zero => exact s.countStalls_standing ..
  | succ n ih =>
    unfold State.serveStalled
    split
    · simp
    · rename_i e
      exact (ih _).trans (by simpa using State.nextStalled_standing e)

@[simp] theorem State.settle_standing (s : State) : s.settle.standing = s.standing := by
  simp [State.settle]

@[simp] theorem State.enterReq_standing (s : State) (q : HeldReq) : (s.enterReq q).standing = s.standing := by
  unfold State.enterReq
  dsimp only
  generalize hu : (if q.kind = 0 then s.cinc .cloCnt 0 2 else if q.kind = 1 then s.cinc .cloCnt 0 3 else s) = u
  have hs : u.standing = s.standing := by
    rw [← hu]
    split
    · simp
    · split <;> simp
  split
  · simp
  · split
    · exact hs
    · split
      · rename_i e
        have h := (State.tryReq_standing e).trans hs
        simpa using h
      · simpa using hs

@[simp] theorem State.enterOver_standing (n : Nat) (s : State) : (State.enterOver n s).standing = s.standing := by
  induction n generalizing s with
  | zero => exact rfl
  | succ n ih =>
    unfold State.enterOver
    split
    · simp
    · exact (ih _).trans (by simp)

@[simp] theorem State.requestOf_standing (s : State) (q : HeldReq) : (s.requestOf q).standing = s.standing := by
  simp [State.requestOf]

@[simp] theorem State.request_standing (s : State) (cl : Client) (kind : Nat) (h : W32) (arg : Nat) :
    (s.request cl kind h arg).standing = s.standing := by
  simp [State.request]

@[simp] theorem State.decRef_standing (s : State) (d : Nat) (h : W32) (flow : ItemFlow := .untied) :
    (s.decRef d h flow).standing = s.standing := by
  simp [State.decRef]

@[simp] theorem State.hwAllocDrop_standing (s : State) (d work : Nat) : (s.hwAllocDrop d work).standing = s.standing := by
  unfold State.hwAllocDrop
  split <;> simp

@[simp] theorem State.onFrame_standing (s : State) (h : W32) (f : AudFrame → AudFrame) : (s.onFrame h f).standing = s.standing := by
  simp [State.onFrame]

theorem State.takeLate_standing {s t : State} {h : W32} (e : s.takeLate h = some t) : t.standing = s.standing := by
  obtain ⟨l, -, rfl⟩ := Option.map_eq_some_iff.1 e
  simp

@[simp] theorem State.audioDiscarded_standing (s : State) (it : Item) : (s.audioDiscarded it).standing = s.standing := by
  unfold State.audioDiscarded
  dsimp only
  split
  · generalize hu : (if it.decPkt = 0xFFFFFFFF then s else s.decRef 5 it.decPkt (.flow it.flow)) = u
    have hs : u.standing = s.standing := by simp [← hu]
    cases e : u.takeLate it.decFrame with
    | none => simpa using hs
    | some t => simpa using (State.takeLate_standing e).trans hs
  · simp

@[simp] theorem State.discardItem_standing (s : State) (it : Item) : (s.discardItem it).standing = s.standing := by
  simp [State.discardItem]

/-! ### The Docent and the Stacks -/

@[simp] theorem State.setReady_standing (s : State) (c : Nat) (l : List Item) : (s.setReady c l).standing = s.standing := by
  simp [State.setReady]

@[simp] theorem State.setQueue_standing (s : State) (q : Nat) (x : Queue) : (s.setQueue q x).standing = s.standing := by
  simp [State.setQueue]

@[simp] theorem State.shareItem_standing (s : State) (it : Item) (c : Nat) : (s.shareItem it c).standing = s.standing := by
  simp [State.shareItem]

@[simp] theorem State.assignByLoad_standing (s : State) (it : Item) : (s.assignByLoad it).standing = s.standing := by
  unfold State.assignByLoad
  dsimp only
  repeat' split
  all_goals simp

@[simp] theorem State.assign_standing (s : State) (it : Item) : (s.assign it).standing = s.standing := by
  unfold State.assign
  dsimp only
  repeat' split
  all_goals simp

@[simp] theorem State.activate_standing (s : State) (it : Item) : (s.activate it).standing = s.standing := by
  simp [State.activate]

@[simp] theorem State.assignWaiting_standing (s : State) : s.assignWaiting.standing = s.standing := by
  refine State.foldl_standing (fun s f => ?_) _ _
  split
  · split <;> simp
  · simp

@[simp] theorem State.accept_standing (s : State) (it : Item) : (s.accept it).standing = s.standing := by
  simp [State.accept]

@[simp] theorem State.hwPost_standing (s : State) (type source : Nat) (flow prio : Option Nat) (payload : Bytes) :
    (s.hwPost type source flow prio payload).standing = s.standing := by
  simp [State.hwPost]

@[simp] theorem State.slotFill_standing (s : State) (q : Nat) : (s.slotFill q).standing = s.standing := by
  unfold State.slotFill
  dsimp only
  repeat' split
  all_goals simp

@[simp] theorem State.pushDesc_standing (s : State) (q : Nat) (d : Desc) : (s.pushDesc q d).standing = s.standing := by
  simp [State.pushDesc]

@[simp] theorem State.ring_standing (s : State) (q : Nat) : (s.ring q).standing = s.standing := by
  simp [State.ring]

@[simp] theorem State.countBell_standing (s : State) (q : Nat) (d : Desc) : (s.countBell q d).standing = s.standing := by
  simp [State.countBell]

@[simp] theorem State.enqueue_standing (s : State) (q d : Nat) (x : Desc) : (s.enqueue q d x).2.standing = s.standing := by
  unfold State.enqueue
  dsimp only
  repeat' split
  all_goals simp

@[simp] theorem State.emptyQueue_standing (s : State) (q : Nat) : (s.emptyQueue q).2.standing = s.standing := by
  simp [State.emptyQueue]

@[simp] theorem State.flushQueue_standing (s : State) (q d : Nat) : (s.flushQueue q d).standing = s.standing := by
  simp [State.flushQueue]

/-! ### The traffic manager -/

@[simp] theorem State.setTags_standing (s : State) (level i : Nat) (x : Tags) : (s.setTags level i x).standing = s.standing := by
  simp [State.setTags]

@[simp] theorem State.writeMember_standing (s : State) (l : Nat) : (s.writeMember l).standing = s.standing := by
  simp [State.writeMember]

@[simp] theorem State.flushCopies_standing (s : State) (p : CopyJob → Bool) : (s.flushCopies p).standing = s.standing := by
  simp [State.flushCopies]

@[simp] theorem State.flushLeg_standing (s : State) (l : Nat) : (s.flushLeg l).standing = s.standing := by
  simp [State.flushLeg]

@[simp] theorem State.wakeOne_standing (s : State) (level i parent : Nat) (eligible : Bool) :
    (s.wakeOne level i parent eligible).standing = s.standing := by
  simp [State.wakeOne]

@[simp] theorem State.wakeLeg_standing (s : State) (l : Nat) : (s.wakeLeg l).standing = s.standing := by
  simp [State.wakeLeg]

@[simp] theorem State.dropCopy_standing (s : State) (l cnt legCnt : Nat) (d : Desc) :
    (s.dropCopy l cnt legCnt d).standing = s.standing := by
  simp [State.dropCopy]

@[simp] theorem State.admitCopy_standing (s : State) (l cls domain : Nat) (d : Desc) :
    (s.admitCopy l cls domain d).standing = s.standing := by
  have h := s.enqueue_standing (classQueue l cls) domain d
  unfold State.admitCopy
  dsimp only
  repeat' split
  · simp
  · simp
  · simp
  all_goals
    rename_i e
    rw [e] at h
    simpa using h

/-! ### The Registrar and the Vault -/

theorem State.makeRoom_standing {n k : Nat} {s t : State} {slots : List Nat} (e : State.makeRoom n s slots = some (k, t)) :
    t.standing = s.standing := by
  induction n generalizing s slots k t with
  | zero =>
    unfold State.makeRoom at e
    split at e <;> cases e
    exact rfl
  | succ n ih =>
    unfold State.makeRoom at e
    dsimp only at e
    split at e
    · cases e
      exact rfl
    · split at e
      · cases e
      · split at e
        · cases e
        · rename_i h
          cases e
          exact Eq.trans rfl ((ih h).trans (s.draw_standing 16))

theorem State.catInsert_standing {s t : State} {st : Nat} (e : s.catInsert st = some t) : t.standing = s.standing := by
  unfold State.catInsert at e
  split at e
  · rename_i h
    cases e
    simpa using State.makeRoom_standing h
  · split at e <;> cases e
    simp

@[simp] theorem State.setSlot_standing (s : State) (i : Nat) (b : Bytes) : (s.setSlot i b).standing = s.standing := by
  simp [State.setSlot]

@[simp] theorem State.zeroiseLeg_standing (s : State) (leg : Nat) : (s.zeroiseLeg leg).standing = s.standing := by
  simp [State.zeroiseLeg]

@[simp] theorem State.submitCopy_standing (s : State) (c : CopyJob) : (s.submitCopy c).standing = s.standing := by
  simp [State.submitCopy]

/-! ### The forwarder -/

@[simp] theorem State.setFwdStream_standing (s : State) (src : Nat) (x : FwdStream) :
    (s.setFwdStream src x).standing = s.standing := by
  simp [State.setFwdStream]

@[simp] theorem State.setSub_standing (s : State) (id : Nat) (e : Sub) : (s.setSub id e).standing = s.standing := by
  simp [State.setSub]

/-- Values are set in objects that exist only. -/
@[simp] theorem State.setAttr_standing (s : State) (ty id a : Nat) (v : Bytes) : (s.setAttr ty id a v).standing = s.standing := by
  have hhas : nhas (nmodify s.objs (objKey ty id) fun o => nput o a v) = nhas s.objs := by
    funext k
    simp only [nhas, nget_nmodify]
    split <;> simp [*]
  exact congrArg (Prod.mk s.cur.restarting) hhas

@[simp] theorem State.list_standing (s : State) (src id seg : Nat) : (s.list src id seg).standing = s.standing := by
  simp [State.list]

@[simp] theorem State.feedbackOut_standing (s : State) (leg : Nat) (b : Bytes) (h : W32) :
    (s.feedbackOut leg b h).standing = s.standing := by
  simp [State.feedbackOut]

@[simp] theorem State.feedbackTry_standing (s : State) (work leg : Nat) (b : Bytes) :
    (s.feedbackTry work leg b).standing = s.standing := by
  have h := s.hwAlloc_standing 3 work b.length
  unfold State.feedbackTry
  split <;> rename_i e <;> rw [e] at h
  · simpa using h
  · split <;> simpa using h

theorem State.sendFeedback_standing {s t : State} {leg : Nat} {b : Bytes} (e : s.sendFeedback leg b = some t) :
    t.standing = s.standing := by
  unfold State.sendFeedback at e
  split at e <;> cases e
  simp

@[simp] theorem State.sendKey_standing (s : State) (src : Nat) : (s.sendKey src).standing = s.standing := by
  unfold State.sendKey
  dsimp only
  split
  · simp
  · split
    · simp
    · split
      · simp
      · rename_i e
        simpa using State.sendFeedback_standing e

@[simp] theorem State.keyRequest_standing (s : State) (src : Nat) : (s.keyRequest src).standing = s.standing := by
  simp [State.keyRequest]

@[simp] theorem State.subCreate_standing (s : State) (id : Nat) : (s.subCreate id).standing = s.standing := by
  simp [State.subCreate]

/-! ### The fabric and video -/

@[simp] theorem State.setAudConf_standing (s : State) (c : Nat) (x : AudConf) : (s.setAudConf c x).standing = s.standing := by
  simp [State.setAudConf]

@[simp] theorem State.writeXpRow_standing (s : State) (c : Nat) (b : Bytes) : (s.writeXpRow c b).standing = s.standing := by
  simp [State.writeXpRow]

@[simp] theorem State.casForget_standing (s : State) (l : Nat) (peer : Option Nat) : (s.casForget l peer).standing = s.standing := by
  unfold State.casForget
  split <;> simp

theorem State.placeContext_standing {s t : State} {owner p : Nat} (e : s.placeContext owner p = some t) :
    t.standing = s.standing := by
  unfold State.placeContext at e
  dsimp only at e
  split at e <;> cases e
  simp

@[simp] theorem State.setDecCtx_standing (s : State) (st : Nat) (x : DecCtx) : (s.setDecCtx st x).standing = s.standing := by
  simp [State.setDecCtx]

theorem State.decCreate_standing {s t : State} {st : Nat} (e : s.decCreate st = .ok t) : t.standing = s.standing := by
  unfold State.decCreate at e
  dsimp only at e
  split at e
  · cases e
  · split at e <;> cases e
    rename_i h
    simpa using State.placeContext_standing h

@[simp] theorem State.setSurf_standing (s : State) (o : Nat) (x : Surface) : (s.setSurf o x).standing = s.standing := by
  simp [State.setSurf]

@[simp] theorem State.surfStart_standing (s : State) (o pipe : Nat) : (s.surfStart o pipe).standing = s.standing := by
  simp [State.surfStart]

@[simp] theorem State.setEncCtx_standing (s : State) (o : Nat) (x : EncCtx) : (s.setEncCtx o x).standing = s.standing := by
  simp [State.setEncCtx]

theorem State.surfCreate_standing (s : State) (o : Nat) : okAll (s.surfCreate o) fun t => t.standing = s.standing := by
  unfold State.surfCreate
  dsimp only
  simp only [okAll_ite]
  refine ⟨fun _ => okAll_error, fun _ => ⟨fun _ => ?_, fun _ => ?_⟩⟩
  · split <;> simp
  · split
    · rename_i h
      simpa using State.placeContext_standing h
    · simp

end Sys2Proof.Machine

/-!
PROOF. IMAGE_APPLY's application to blocks (R93 to R96).
-/

namespace Sys2Proof.Machine

/-! ### The targets to apply -/

/-- Application begun, the session that is answered at its end noted. -/
def State.applying (s : State) (k : Nat) (ts : List Nat) (all : Bool) : State :=
  { s.beginApply ts all with cur := { (s.beginApply ts all).cur with imageOp := some k } }

theorem State.applying_stage (s : State) (k : Nat) (ts : List Nat) (all : Bool) : (s.applying k ts all).stage = 4 :=
  State.stage_setStage { s with cur := { s.cur with applying := ts, applyNow := none, applyAll := all } } 4

theorem State.applying_regsKept (s : State) (k : Nat) (ts : List Nat) (all : Bool) :
    (s.applying k ts all).regsKept s [regAddr .curStage 0 0] :=
  State.regsKept_setStage { s with cur := { s.cur with applying := ts, applyNow := none, applyAll := all } } 4

/-- The checks of APPLY_BLOCK pass: the target's sections are all LIVE, its block is free and has its standby. -/
theorem State.jcpApplyBlock_of_ok {s : State} {d : Datagram} {k : Nat} {x : Session} {ep : Epoch} {i : ImageInfo} {bt : Bytes}
    (hallow : (cmdOf d k x ep [(0x42, [2]), (0x43, bt)]).allowsApply = .ok ()) (hmode : s.m.mode = .maintain)
    (hneed : s.needVerified = .ok i) (hsome : ∃ y ∈ i.sections, y.target = beNat bt)
    (hlive : ∀ y ∈ i.sections, y.target = beNat bt → y.live = true) (hbusy : s.targetBusy (beNat bt) = false)
    (hstand : s.noStandby (beNat bt) = false) :
    s.jcpApplyBlock (cmdOf d k x ep [(0x42, [2]), (0x43, bt)]) = .later (s.applying k [beNat bt] false) := by
  have hnum : (cmdOf d k x ep [(0x42, [2]), (0x43, bt)]).num 0x43 = beNat bt := rfl
  have hsecs : (i.sections.filter fun y => decide (y.target = beNat bt)) ≠ [] := by
    obtain ⟨y, hy, ht⟩ := hsome
    exact List.ne_nil_of_mem (List.mem_filter.2 ⟨hy, decide_eq_true ht⟩)
  have hall : ((i.sections.filter fun y => decide (y.target = beNat bt)).any fun y => !y.live) = false := by
    simpa using hlive
  rw [State.jcpApplyBlock, hallow, hmode, hneed]
  simp only [bind, Except.bind, hnum, hall, hbusy, hstand, decide_eq_false hsecs]
  rfl

/-- The checks of APPLY_ALL pass. -/
theorem State.jcpApplyAll_of_ok {s : State} {d : Datagram} {k : Nat} {x : Session} {ep : Epoch} {i r : ImageInfo}
    {l : List (Nat × Bytes)} (hallow : (cmdOf d k x ep l).allowsApply = .ok ()) (hmode : s.m.mode = .maintain)
    (hneed : s.needVerified = .ok i) (hlive : ∀ y ∈ i.sections, y.mayLive = true → y.live = true)
    (hr : s.cur.running = some r) (hfixed : sameFixed r i = true)
    (hfree : ∀ y ∈ applyTargets i, s.targetBusy y = false ∧ s.noStandby y = false) :
    s.jcpApplyAll (cmdOf d k x ep l) = .later (s.applying k (applyTargets i) true) := by
  have hall : (i.sections.any fun y => y.mayLive && !y.live) = false := by simpa using hlive
  have hbusy : (applyTargets i).any s.targetBusy = false := by simpa using fun y hy => (hfree y hy).1
  have hstand : (applyTargets i).any s.noStandby = false := by simpa using fun y hy => (hfree y hy).2
  rw [State.jcpApplyAll, hallow, hmode, hneed]
  simp only [bind, Except.bind, hall, hr, Option.elim, hfixed, hbusy, hstand]
  rfl

/-! ### The Curator's firmware has restarted (R95) -/

theorem State.restarting_assignWaiting (s : State) : s.assignWaiting.cur.restarting = s.cur.restarting :=
  congrArg Prod.fst s.assignWaiting_standing

/-- Settles O36: the checks of the two commands pass, and no event but the restart's own changes the stage. -/
theorem imageApplication : Obligations.ImageApplication := by
  intro s
  refine ⟨fun d k x ep i hperm hfeat hmode hs hi => ?_, _, rfl, rfl, State.restarting_assignWaiting _, fun hs => ?_⟩
  · have hneed : (s.begun d k x).needVerified = .ok i := State.needVerified_of_verified (s := s.begun d k x) hs hi
    refine ⟨fun bt h hlen hsome hlive hbusy hstand => ?block, fun h hlive ⟨r, hr, hfixed⟩ hfree => ?all⟩
    case block =>
      have hspec : tlvsOk applySpec [(0x42, [2]), (0x43, bt)] = true := by simp [tlvsOk, applySpec, hlen]
      have hacc := h.accepted (State.jcpApplyBlock_of_ok (s := s.begun d k x) (cmdOf_allowsApply hperm hfeat hspec) hmode hneed
        hsome hlive hbusy hstand) rfl
      exact ⟨_, congrArg (fun t : State => Host.Outcome.next t.applyOn) hacc, ⟨rfl, _, h.session_setSession rfl _, by simp⟩,
        State.applying_stage (s.begun d k x) k _ _, rfl, rfl, rfl, rfl, hi, State.applying_regsKept (s.begun d k x) k _ _⟩
    case all =>
      have hacc := h.accepted (State.jcpApplyAll_of_ok (s := s.begun d k x) (cmdOf_allowsApply hperm hfeat rfl) hmode hneed
        hlive hr hfixed hfree) rfl
      exact ⟨_, congrArg (fun t : State => Host.Outcome.next t.applyOn) hacc, ⟨rfl, _, h.session_setSession rfl _, by simp⟩,
        State.applying_stage (s.begun d k x) k _ _, rfl, rfl, rfl, rfl, hi, State.applying_regsKept (s.begun d k x) k _ _⟩
  · exact State.applyOn_of_stage ((ne_of_eq_of_ne (State.serviceKept_assignWaiting _).stage hs))

end Sys2Proof.Machine

/-!
PROOF. OBJ_CREATE, OBJ_MODIFY and OBJ_DELETE (R86 to R88): which objects exist afterwards.
-/

namespace Sys2Proof.Machine

/-! ### Refusals carry a status of their own -/

/-- A refusal never carries OK. -/
def Refuses {α : Type} (r : Res α) : Prop := r ≠ .error stOk

@[simp] theorem refuses_ok {α : Type} (a : α) : Refuses (.ok a) := fun h => nomatch h

@[simp] theorem refuses_pure {α : Type} (a : α) : Refuses (pure a : Res α) := refuses_ok a

@[simp] theorem refuses_error {α : Type} {e : Nat} : Refuses (.error e : Res α) ↔ e ≠ 0 := by
  simp [Refuses, stOk]

@[simp] theorem refuses_refuseIf {c : Bool} {e : Nat} : Refuses (refuseIf c e) ↔ (c = true → e ≠ 0) := by
  cases c <;> simp [refuseIf]

@[simp] theorem refuses_bind {α β : Type} {r : Res α} {f : α → Res β} :
    Refuses (r >>= f) ↔ Refuses r ∧ ∀ a, r = .ok a → Refuses (f a) := by
  cases r <;> simp [bind, Except.bind]

@[simp] theorem refuses_ite {α : Type} {c : Prop} [Decidable c] {a b : Res α} :
    Refuses (if c then a else b) ↔ (c → Refuses a) ∧ (¬ c → Refuses b) := by
  split <;> simp [*]

@[simp] theorem refuseIf_eq_ok {c : Bool} {e : Nat} {a : Unit} : refuseIf c e = .ok a ↔ c = false := by
  cases c <;> simp [refuseIf]

theorem bind_eq_ok {α β : Type} {r : Res α} {f : α → Res β} {b : β} : (r >>= f) = .ok b ↔ ∃ a, r = .ok a ∧ f a = .ok b := by
  cases r <;> simp [bind, Except.bind]

theorem refuses_judgeId (ty id : Nat) (fixedTypes : Bool) : Refuses (judgeId ty id fixedTypes) := by
  simp [judgeId, stBadValue, stNotPermitted]

theorem refuses_judgeAttrs (ty : Nat) (create : Bool) (l : List (Nat × Bytes)) : Refuses (judgeAttrs ty create l) := by
  simp [judgeAttrs, stBadTlv, stBadValue, stNotPermitted]

theorem State.refuses_judge (s n : State) (ty id : Nat) (given : List Nat) (create : Bool) :
    Refuses (s.judge n ty id given create) := by
  unfold State.judge
  split
  case h_1 => simp [State.judgeLeg, stBadTlv, stBadValue, stNoObject, stInUse]
  case h_2 => simp [State.judgeStream, stBadTlv, stBadValue, stNoObject, stInUse, stResource]
  case h_3 => simp [State.judgeConf, stBadValue, stInUse, stResource]
  case h_4 => simp [State.judgeSub, stBadTlv, stBadValue, stNoObject, stInUse]
  case h_5 => simp [State.judgeOutput, stBadTlv, stBadValue, stNoObject, stInUse, stResource]
  case h_6 => simp [State.judgeLayout, stBadValue]
  case h_7 => simp [State.judgeShaper, stBadValue, stNotPermitted, stInUse]
  case h_8 => simp

theorem State.refuses_decCreate (s : State) (st : Nat) : Refuses (s.decCreate st) := by
  unfold State.decCreate
  refine refuses_ite.2 ⟨fun _ => by simp [stResource], fun _ => ?_⟩
  split <;> simp [stResource]

theorem State.refuses_surfCreate (s : State) (o : Nat) : Refuses (s.surfCreate o) := by
  unfold State.surfCreate
  refine refuses_ite.2 ⟨fun _ => by simp [stResource], fun _ => refuses_ite.2 ⟨fun _ => ?_, fun _ => ?_⟩⟩
  · split <;> simp [stResource]
  · split <;> simp [stResource]

/-! ### Creation -/

/-- The checks of OBJ_CREATE. -/
def State.createJudged (s : State) (ty id : Nat) (l : List (Nat × Bytes)) : Res Unit := do
  judgeId ty id false
  refuseIf (s.objExists ty id || (decide (ty = tyStream) && (s.carrierOf id).isSome)) stExists
  judgeAttrs ty true l
  s.judge (s.putAttrs ty id l) ty id (givenOf ty l) true

/-- What OBJ_CREATE does once its checks have passed. -/
def State.created (s : State) (ty id : Nat) (l : List (Nat × Bytes)) : Nat × State :=
  let n := s.putAttrs ty id l
  match ty with
  | 1 => (stOk, n.legStart id)
  | 2 => s.streamStart n id
  | 3 => (stOk, n.writeXpRows id l)
  | 4 => (stOk, n.subCreate id)
  | 5 =>
    if n.attr tyOutput id 0x600 0 = 0 then (stOk, n)
    else match n.surfCreate id with
      | .ok n1 => (stOk, n1)
      | .error e => (e, s)
  | _ => (stOk, n)

theorem State.objCreate_eq (s : State) (ty id : Nat) (l : List (Nat × Bytes)) :
    s.objCreate ty id l = match s.createJudged ty id l with
      | .error e => (e, s)
      | .ok _ => s.created ty id l := rfl

theorem State.refuses_createJudged (s : State) (ty id : Nat) (l : List (Nat × Bytes)) : Refuses (s.createJudged ty id l) := by
  simp [State.createJudged, refuses_judgeId, refuses_judgeAttrs, State.refuses_judge, stExists]

/-- An object that the checks let through does not exist yet. -/
theorem State.not_exists_of_createJudged {s : State} {ty id : Nat} {l : List (Nat × Bytes)} (h : s.createJudged ty id l = .ok ()) :
    s.objExists ty id = false := by
  simp only [State.createJudged, bind_eq_ok, refuseIf_eq_ok, Bool.or_eq_false_iff] at h
  obtain ⟨-, -, -, ⟨hex, -⟩, -⟩ := h
  exact hex

/-- The outcome `r` of a creation in `s`, `n` holding the new object: the objects of `n` and OK, or a refusal and those of `s`. -/
def StartsObject (r : Nat × State) (s n : State) : Prop :=
  (r.1 = 0 ∧ r.2.standing = n.standing) ∨ (r.1 ≠ 0 ∧ r.2.objs = s.objs)

theorem State.legStart_standing (s : State) (l : Nat) : (s.legStart l).standing = s.standing := by
  simp [State.legStart]

theorem State.writeXpRows_standing (s : State) (c : Nat) (l : List (Nat × Bytes)) : (s.writeXpRows c l).standing = s.standing := by
  simp [State.writeXpRows]

theorem State.streamStart_starts (s n : State) (st : Nat) : StartsObject (s.streamStart n st) s n := by
  unfold State.streamStart
  dsimp only
  generalize hn1 : (if (n.attr? tyStream st 0x109).isNone then n.setAttr tyStream st 0x109 [byteOf (b2n (n.srtp st))] else n) = n1
  have h1 : State.standing { n1 with vlt := { n1.vlt with ctx := ndel n1.vlt.ctx st } } = n.standing := by simp [← hn1]
  generalize ({ n1 with vlt := { n1.vlt with ctx := ndel n1.vlt.ctx st } } : State) = n2 at h1 ⊢
  have hdec : okAll (if n2.wantsContext st then n2.decCreate st else .ok n2) fun t => t.standing = n.standing := by
    rw [okAll_ite]
    exact ⟨fun _ t ht => (State.decCreate_standing ht).trans h1, fun _ => okAll_ok.2 h1⟩
  have hres : Refuses (if n2.wantsContext st then n2.decCreate st else .ok n2) := by simp [State.refuses_decCreate]
  split
  · rename_i e he
    exact .inr ⟨refuses_error.1 (he ▸ hres), rfl⟩
  · rename_i n3 hn
    split
    · rename_i h
      exact .inl ⟨rfl, (State.catInsert_standing h).trans (hdec _ hn)⟩
    · exact .inr ⟨by simp [stResource], (congrArg State.objs (s.flag_spec .rgsCatStatus 0 0 30).1 :)⟩

theorem State.created_starts (s : State) (ty id : Nat) (l : List (Nat × Bytes)) :
    StartsObject (s.created ty id l) s (s.putAttrs ty id l) := by
  unfold State.created
  dsimp only
  split
  case h_1 => exact .inl ⟨rfl, State.legStart_standing _ _⟩
  case h_2 => exact State.streamStart_starts _ _ _
  case h_3 => exact .inl ⟨rfl, State.writeXpRows_standing _ _ _⟩
  case h_4 => exact .inl ⟨rfl, State.subCreate_standing _ _⟩
  case h_5 =>
    split
    · exact .inl ⟨rfl, rfl⟩
    · split
      · rename_i h
        exact .inl ⟨rfl, State.surfCreate_standing _ _ _ h⟩
      · rename_i e h
        exact .inr ⟨refuses_error.1 (h ▸ State.refuses_surfCreate _ _), rfl⟩
  case h_6 => exact .inl ⟨rfl, rfl⟩

theorem State.objCreate_exists {s u : State} {ty id st : Nat} {l : List (Nat × Bytes)} (h : s.objCreate ty id l = (st, u)) :
    if st = 0 then s.objExists ty id = false ∧ u.objExists ty id = true else u.objs = s.objs := by
  rw [State.objCreate_eq] at h
  split at h
  · rename_i e he
    cases h
    exact (if_neg (refuses_error.1 (he ▸ s.refuses_createJudged ty id l))).mpr rfl
  · rename_i hj
    have hstart := s.created_starts ty id l
    rw [h] at hstart
    rcases hstart with ⟨h0, hu⟩ | ⟨h0, hu⟩
    · refine (if_pos h0).mpr ⟨State.not_exists_of_createJudged hj, ?_⟩
      have hkey := congrFun (congrArg Prod.snd hu) (objKey ty id)
      exact hkey.trans (congrArg Option.isSome (nget_nput_self _ _ _))
    · exact (if_neg h0).mpr hu

theorem pure_eq_ok {α β : Type} {a u : α} {b n : β} : (pure (a, b) : Res (α × β)) = .ok (u, n) ↔ a = u ∧ b = n := by
  simp [pure, Except.pure]

/-! ### The three commands -/

/-- The object that a command's TLVs name. -/
def tyOf (l : List (Nat × Bytes)) : Nat := beNat ((tlvOf l 0x20).getD [])
def idOf (l : List (Nat × Bytes)) : Nat := beNat ((tlvOf l 0x21).getD [])

section
variable {s : State} {d : Datagram} {k : Nat} {x : Session} {ep : Epoch} {l : List (Nat × Bytes)}

theorem State.jcpCreate_eq (hperm : x.perm.getLsbD 2 = true) (hl : tlvsOk objSpec l = true) :
    s.jcpCreate (cmdOf d k x ep l) =
      .reply (s.objCreate (tyOf l) (idOf l) (attrsOf l)).1 [] (s.objCreate (tyOf l) (idOf l) (attrsOf l)).2 := by
  have hfrom : s.createFrom l = s.objCreate (tyOf l) (idOf l) (attrsOf l) := if_pos hl
  rw [State.jcpCreate, cmdOf_allows hperm, ← hfrom]
  rfl

theorem State.jcpModify_eq (hperm : x.perm.getLsbD 2 = true) (hl : tlvsOk objSpec l = true) :
    s.jcpModify (cmdOf d k x ep l) = match s.objModify (tyOf l) (idOf l) (attrsOf l) with
      | .ok u => .reply 0 [] u
      | .error e => .reply e [] s := by
  have hdo : s.jcpModify (cmdOf d k x ep l) = answered s (do
      (cmdOf d k x ep l).allows 2 none
      refuseIf (!tlvsOk objSpec l) stBadTlv
      let s1 ← s.objModify (tyOf l) (idOf l) (attrsOf l)
      return ([], s1)) := rfl
  rw [hdo, cmdOf_allows hperm, hl]
  cases s.objModify (tyOf l) (idOf l) (attrsOf l) <;> rfl

theorem State.jcpDelete_eq (hperm : x.perm.getLsbD 2 = true) (hl : tlvsOk (objSpec.take 2) l = true) :
    s.jcpDelete (cmdOf d k x ep l) = match s.objDelete (tyOf l) (idOf l) with
      | .ok (u, n) => .reply 0 (tlv 0x11 (beBytes 4 n)) u
      | .error e => .reply e [] s := by
  have hdo : s.jcpDelete (cmdOf d k x ep l) = answered s (do
      (cmdOf d k x ep l).allows 2 none
      refuseIf (!tlvsOk (objSpec.take 2) l) stBadTlv
      let r ← s.objDelete (tyOf l) (idOf l)
      return (tlv 0x11 (beBytes 4 r.2), r.1)) := rfl
  rw [hdo, cmdOf_allows hperm, hl]
  cases s.objDelete (tyOf l) (idOf l) <;> rfl

end

/-! ### Modification -/

/-- Only an object that exists is modified; pools and shapers always do. -/
theorem State.exists_of_objModify {s u : State} {ty id : Nat} {l : List (Nat × Bytes)} (h : s.objModify ty id l = .ok u)
    (hty : ty ≤ 6) : s.objExists ty id = true := by
  simp only [State.objModify, bind_eq_ok, refuseIf_eq_ok, Bool.not_eq_false', Bool.or_eq_true, decide_eq_true_eq] at h
  obtain ⟨-, -, -, hex, -⟩ := h
  exact hex.resolve_left (by rintro (h | h) <;> simp only [h, tyPool, tyShaper] at hty <;> omega)

/-! ### Deletion -/

theorem State.dropObj_objExists (s : State) (ty id : Nat) : (s.dropObj ty id).objExists ty id = false :=
  congrArg Option.isSome (nget_ndel_self _ _)

/-- A leg's entry goes first; what its blocks then do creates no object. -/
theorem State.deleteLeg_standing (s : State) (l : Nat) : (s.deleteLeg l).standing = (s.dropObj tyLeg l).standing := by
  simp [State.deleteLeg]

theorem State.objExists_of_standing {s t : State} (h : t.standing = s.standing) (ty id : Nat) : t.objExists ty id = s.objExists ty id :=
  congrFun (congrArg Prod.snd h) (objKey ty id)

theorem State.deleteLeg_objExists (s : State) (l : Nat) : (s.deleteLeg l).objExists tyLeg l = false :=
  (State.objExists_of_standing (s.deleteLeg_standing l) _ _).trans (s.dropObj_objExists _ _)

/-- A subscription's deletion concerns the Forwarder, its entry and its counters. -/
theorem State.deleteSub_spec (s : State) (i : Nat) : s.deleteSub i =
    { s with objs := ndel s.objs (objKey tySub i), stats := (s.deleteSub i).stats, fwd := (s.deleteSub i).fwd } := by
  unfold State.deleteSub State.subDelete
  split <;> rfl

/-- Subscriptions that go end no frame in composition. -/
theorem State.composing_foldl_deleteSub (s : State) (l : List Nat) (o : Nat) : (l.foldl State.deleteSub s).composing o = s.composing o :=
  List.foldlRecOn (motive := fun t : State => t.composing o = s.composing o) _ _ rfl fun t ht i _ => by
    rw [t.deleteSub_spec i]
    exact ht

theorem State.endOutput_objExists {s : State} {o : Nat} (h : s.composing o = false) : (s.endOutput o).objExists tyOutput o = false := by
  rw [State.endOutput, if_neg (by simp [h])]
  exact State.dropObj_objExists _ _ _

/-- An object that OBJ_DELETE takes existed, and does not exist any more; an output's frame in composition ends first. -/
theorem State.objDelete_objExists {s u : State} {ty id n : Nat} (h : s.objDelete ty id = .ok (u, n)) :
    s.objExists ty id = true ∧ (ty ≠ tyOutput ∨ s.composing id = false → u.objExists ty id = false) := by
  simp only [State.objDelete, bind_eq_ok, refuseIf_eq_ok, Bool.not_eq_false'] at h
  obtain ⟨_, hid, -, hex, h⟩ := h
  refine ⟨hex, fun hout => ?_⟩
  split at h
  case h_1 =>
    simp only [bind_eq_ok, pure_eq_ok] at h
    obtain ⟨-, -, rfl, -⟩ := h
    exact State.deleteLeg_objExists _ _
  case h_2 =>
    simp only [bind_eq_ok, pure_eq_ok] at h
    obtain ⟨-, -, rfl, -⟩ := h
    exact State.dropObj_objExists _ _ _
  case h_3 =>
    simp only [bind_eq_ok, pure_eq_ok] at h
    obtain ⟨-, -, -, -, rfl, -⟩ := h
    exact State.dropObj_objExists _ _ _
  case h_4 =>
    obtain ⟨rfl, -⟩ := pure_eq_ok.1 h
    exact State.dropObj_objExists _ _ _
  case h_5 =>
    obtain ⟨rfl, -⟩ := pure_eq_ok.1 h
    exact State.endOutput_objExists ((State.composing_foldl_deleteSub _ _ _).trans (hout.resolve_left (· rfl)))
  case h_6 h1 h2 h3 h4 h5 =>
    have h6 : ty = tyLayout := by
      simp only [judgeId, bind_eq_ok, refuseIf_eq_ok, Bool.not_false, Bool.true_and, decide_eq_false_iff_not] at hid
      obtain ⟨-, h08, -, h78, -⟩ := hid
      have hother : ty ≠ 1 ∧ ty ≠ 2 ∧ ty ≠ 3 ∧ ty ≠ 4 ∧ ty ≠ 5 := ⟨h1, h2, h3, h4, h5⟩
      unfold tyPool tyShaper at h78
      unfold tyLayout
      omega
    simp only [bind_eq_ok, pure_eq_ok] at h
    obtain ⟨-, -, rfl, -⟩ := h
    exact h6 ▸ State.dropObj_objExists _ _ _

end Sys2Proof.Machine

/-!
PROOF. OBJ_CREATE, OBJ_MODIFY and OBJ_DELETE answered: a conference without attributes, a port shaper's RATE, a subscription, and the
clauses on every object.
-/

namespace Sys2Proof.Machine

/-! ### A conference without attributes -/

theorem State.attr_of_empty {s : State} {ty id : Nat} (h : s.obj? ty id = some []) (a v : Nat) : s.attr ty id a v = v := by
  simp [State.attr, State.attr?, h, nget]

theorem State.putAttrs_nil {s : State} {ty id : Nat} (h : s.objExists ty id = false) :
    s.putAttrs ty id [] = { s with objs := nput s.objs (objKey ty id) [] } := by
  have hnone : s.obj? ty id = none := Option.not_isSome_iff_eq_none.1 (Bool.eq_false_iff.1 h)
  rw [State.putAttrs, hnone]
  rfl

theorem State.objCreate_conf {s : State} {c : Nat} (hc : c < 4096) (hfree : s.objExists tyConf c = false)
    (hfit : s.audioFits (s.putAttrs tyConf c []) = true) :
    s.objCreate tyConf c [] = (0, { s with objs := nput s.objs (objKey tyConf c) [] }) := by
  have hnew : (s.putAttrs tyConf c []).obj? tyConf c = some [] := by
    rw [State.putAttrs_nil hfree]
    exact nget_nput_self _ _ _
  have hid : judgeId tyConf c false = .ok () := by
    simp [judgeId, idOk, tyConf, tyPool, tyShaper, hc, refuseIf, bind, Except.bind]
  have hattrs : judgeAttrs tyConf true [] = .ok () := rfl
  have hjudge : s.judge (s.putAttrs tyConf c []) tyConf c (givenOf tyConf []) true = .ok () := by
    have hconf : s.judgeConf (s.putAttrs tyConf c []) c [] = .ok () := by
      simp [State.judgeConf, State.crosspoint, State.attr_of_empty hnew, hfit, refuseIf, bind, Except.bind]
    exact hconf
  have hjudged : s.createJudged tyConf c [] = .ok () := by
    rw [State.createJudged, hid, hattrs, hjudge, hfree]
    rfl
  rw [State.objCreate_eq, hjudged, ← State.putAttrs_nil hfree]
  rfl

/-! ### A port shaper's RATE -/

theorem State.putAttrs_single (s : State) {ty id a : Nat} (r : Bytes) (hkey : attrKey ty (a, r) = a) (hxp : ¬ (ty = tyConf ∧ a = 0x607)) :
    (s.putAttrs ty id [(a, r)]).obj? ty id = some (nput ((s.obj? ty id).getD []) a r) := by
  have hobjs : (s.putAttrs ty id [(a, r)]).objs = nput s.objs (objKey ty id) (nput ((s.obj? ty id).getD []) a r) := by
    simp only [State.putAttrs, List.foldl_cons, List.foldl_nil, if_neg hxp, hkey]
  rw [State.obj?, hobjs, nget_nput_self]

theorem State.attr_putAttrs_self (s : State) {ty id a : Nat} (r : Bytes) (hkey : attrKey ty (a, r) = a)
    (hxp : ¬ (ty = tyConf ∧ a = 0x607)) (v : Nat) : (s.putAttrs ty id [(a, r)]).attr ty id a v = beNat r := by
  simp [State.attr, State.attr?, s.putAttrs_single r hkey hxp]

theorem State.attr_putAttrs_ne (s : State) {ty id a b : Nat} (r : Bytes) (hkey : attrKey ty (a, r) = a)
    (hxp : ¬ (ty = tyConf ∧ a = 0x607)) (hb : b ≠ a) (v : Nat) :
    (s.putAttrs ty id [(a, r)]).attr ty id b v = s.attr ty id b v := by
  have hnone : (nget ([] : NMap Bytes) b) = none := rfl
  cases h : s.obj? ty id <;> simp [State.attr, State.attr?, s.putAttrs_single r hkey hxp, h, nget_nput_ne _ _ hb, hnone]

theorem State.shAttr_putAttrs_self (s : State) (p : Nat) (r : Bytes) :
    (s.putAttrs tyShaper p [(0x500, r)]).shAttr 0 p 0x500 = beNat r := by
  rw [State.shAttr, Nat.zero_mul, Nat.zero_add]
  exact s.attr_putAttrs_self (ty := tyShaper) r rfl (by decide) _

theorem State.shAttr_putAttrs_ne (s : State) (p : Nat) (r : Bytes) {b : Nat} (hb : b ≠ 0x500) :
    (s.putAttrs tyShaper p [(0x500, r)]).shAttr 0 p b = s.shAttr 0 p b := by
  unfold State.shAttr
  rw [Nat.zero_mul, Nat.zero_add]
  exact s.attr_putAttrs_ne (ty := tyShaper) r rfl (by decide) hb _

/-- A port shaper with a new RATE, which waits for the next refill. -/
def State.rateSet (s : State) (p : Nat) (r : Bytes) : State := (s.putAttrs tyShaper p [(0x500, r)]).shaperChange p

theorem State.shaper_setShaper (s : State) (level i : Nat) (x : Shaper) : (s.setShaper level i x).shaper level i = x := by
  simp [State.shaper, State.setShaper]

theorem State.shaper_rateSet (s : State) {p : Nat} (hp : p < 96) (r : Bytes) :
    (s.rateSet p r).shaper 0 p = { s.shaper 0 p with pending := true } := by
  have hlevel : p / 65536 = 0 ∧ p % 65536 = p := by omega
  rw [State.rateSet, State.shaperChange, hlevel.1, hlevel.2, State.shaper_setShaper]
  rfl

theorem State.objModify_rate {s : State} {p : Nat} {r : Bytes} (hp : p < 96) (hlen : r.length = 4) (hmax : beNat r ≤ 400000000)
    (hfit : beNat r * s.shAttr 0 p 0x502 ≤ 8000 * s.shAttr 0 p 0x501) :
    s.objModify tyShaper p [(0x500, r)] = .ok (s.rateSet p r) := by
  have hdo : s.objModify tyShaper p [(0x500, r)] = (do
      judgeId tyShaper p true
      judgeAttrs tyShaper false [(0x500, r)]
      s.judgeShaper (s.putAttrs tyShaper p [(0x500, r)]) p [0x500, 0x500]
      return s.rateSet p r) := rfl
  have hid : judgeId tyShaper p true = .ok () := by
    simp [judgeId, idOk, tyShaper, Nat.mod_eq_of_lt (show p < 65536 by omega), Nat.div_eq_of_lt (show p < 65536 by omega), hp,
      show p < 196608 by omega, refuseIf, bind, Except.bind]
  have hattrs : judgeAttrs tyShaper false [(0x500, r)] = .ok () := by
    have hrule : attrRule tyShaper 0x500 = some (aNum 0x500 4 0 400000000) := rfl
    simp [judgeAttrs, hrule, aNum, AttrRule.ok, hlen, hmax, refuseIf, bind, Except.bind]
  have hshaper : s.judgeShaper (s.putAttrs tyShaper p [(0x500, r)]) p [0x500, 0x500] = .ok () := by
    have hlevel : p / 65536 = 0 ∧ p % 65536 = p := by omega
    simp [State.judgeShaper, hlevel, s.shAttr_putAttrs_self p r, s.shAttr_putAttrs_ne p r (show 0x501 ≠ 0x500 by decide),
      s.shAttr_putAttrs_ne p r (show 0x502 ≠ 0x500 by decide), Nat.not_lt.2 hfit, refuseIf, bind, Except.bind]
  rw [hdo, hid, hattrs, hshaper]
  rfl

/-! ### A subscription's deletion -/

theorem State.objDelete_sub {s : State} {i : Nat} (hi : i < 1048576) (h : s.objExists tySub i = true) :
    s.objDelete tySub i = .ok (s.deleteSub i, 0) := by
  have hid : judgeId tySub i false = .ok () := by
    simp [judgeId, idOk, tySub, tyPool, tyShaper, hi, refuseIf, bind, Except.bind]
  have hdo : s.objDelete tySub i = (do
      judgeId tySub i false
      refuseIf (!s.objExists tySub i) stNoObject
      return (s.deleteSub i, 0)) := rfl
  rw [hdo, hid, h]
  rfl

/-! ### What the answer leaves alone -/

theorem State.mailOnly.objs {s t : State} (h : t.mailOnly s) : t.objs = s.objs := by
  obtain ⟨_, _, rfl⟩ := h
  rfl

theorem State.mailOnly.tmg {s t : State} (h : t.mailOnly s) : t.tmg = s.tmg := by
  obtain ⟨_, _, rfl⟩ := h
  rfl

theorem State.objExists_congr {s t : State} (h : t.objs = s.objs) (ty id : Nat) : t.objExists ty id = s.objExists ty id :=
  congrArg (fun m => (nget m (objKey ty id)).isSome) h

theorem State.shAttr_congr {s t : State} (h : t.objs = s.objs) (level i a : Nat) : t.shAttr level i a = s.shAttr level i a := by
  unfold State.shAttr State.attr State.attr? State.obj?
  rw [h]

theorem State.shaper_congr {s t : State} (h : t.tmg = s.tmg) (level i : Nat) : t.shaper level i = s.shaper level i := by
  rw [State.shaper, h]
  rfl

/-! ### The commands' TLVs -/

/-- The number of dependants deleted fits every session's messages. -/
theorem State.takesCmd.countFits {s : State} {d : Datagram} {row k : Nat} {x : Session} {ep : Epoch} {l : List (Nat × Bytes)}
    (h : s.takesCmd d row k x ep l) (n : Nat) : 32 + (tlv 0x11 (beBytes 4 n)).length ≤ ep.maxMsg := by
  have hlen := length_tlv_lt 0x11 (beBytes 4 n)
  have hmax := h.maxMsg
  rw [length_beBytes] at hlen
  omega

theorem tyOf_cons (b : Bytes) (l : List (Nat × Bytes)) : tyOf ((0x20, b) :: l) = beNat b := rfl

theorem idOf_cons (a b : Bytes) (l : List (Nat × Bytes)) : idOf ((0x20, a) :: (0x21, b) :: l) = beNat b := rfl

/-- The command gives RATE alone. -/
theorem attrsOf_rate (b r : Bytes) : attrsOf [(0x20, [8]), (0x21, b), (0x22, beBytes 2 0x500 ++ r)] = [(0x500, r)] := by
  have hbytes : beBytes 2 0x500 = [5, 0] := rfl
  simp [attrsOf, hbytes, beField, List.range, List.range.loop, byteN, byteAt]

/-- Settles O31: a creation, change or deletion is judged, carried out and answered; which objects exist afterwards is what its
entry says, for no block's part in it makes or ends one. -/
theorem jcpObjects : Obligations.JcpObjects := by
  rintro s d k x ep l _ _ hperm rfl rfl
  refine ⟨fun st u h hl hcre hses => ?create, fun b h hb hc hfree hfit => ?conf, fun h hl => ?modify,
    fun b r p h hb hp hlt hr hmax hfit => ?rate, fun h hl => ?delete, fun b h hb hlt hex => ?sub⟩
  case create =>
    have hrun := State.jcpCreate_eq (s := s.begun d k x) (d := d) (k := k) (ep := ep) hperm hl
    rw [show (s.begun d k x).objCreate (tyOf l) (idOf l) (attrsOf l) = (st, u) from hcre] at hrun
    have hans := h.answers_status hrun hses
    have hobjs := hans.mailOnly.objs
    have hex := State.objCreate_exists hcre
    refine ⟨_, rfl, hans, ?_⟩
    split
    · rename_i h0
      obtain ⟨hbefore, hafter⟩ := (if_pos h0).mp hex
      exact ⟨hbefore, (State.objExists_congr hobjs _ _).trans hafter⟩
    · rename_i h0
      exact hobjs.trans ((if_neg h0).mp hex)
  case conf =>
    have hrun := State.jcpCreate_eq (s := s.begun d k x) (d := d) (k := k) (ep := ep) (l := [(0x20, [3]), (0x21, b)]) hperm
      (by simp [tlvsOk, objSpec, hb])
    have hcre : (s.begun d k x).objCreate tyConf (beNat b) [] = _ := State.objCreate_conf hc hfree hfit
    rw [tyOf_cons, idOf_cons, show beNat [3] = tyConf from rfl, show attrsOf [(0x20, [3]), (0x21, b)] = [] from rfl, hcre] at hrun
    have hans := h.answers_status hrun (Option.isSome_iff_exists.2 ⟨_, h.begun_session⟩)
    have hobjs := hans.mailOnly.objs
    obtain ⟨hrep, ht, -⟩ := hans
    exact ⟨_, rfl, hrep, congrArg Option.isSome ((congrArg (nget · _) hobjs).trans (nget_nput_self _ _ _)), by rw [ht]; rfl⟩
  case modify =>
    have hrun := State.jcpModify_eq (s := s.begun d k x) (d := d) (k := k) (ep := ep) hperm hl
    change match (s.begun d k x).objModify (tyOf l) (idOf l) (attrsOf l) with
      | .ok u => _
      | .error e => _
    cases hm : (s.begun d k x).objModify (tyOf l) (idOf l) (attrsOf l) with
    | ok u =>
      rw [hm] at hrun
      have hex := State.exists_of_objModify hm
      exact fun hses => ⟨_, rfl, h.answers_status hrun hses, hex⟩
    | error e =>
      rw [hm] at hrun
      exact ⟨_, rfl, h.answers_status hrun (Option.isSome_iff_exists.2 ⟨_, h.begun_session⟩)⟩
  case rate =>
    have hrun := State.jcpModify_eq (s := s.begun d k x) (d := d) (k := k) (ep := ep)
      (l := [(0x20, [8]), (0x21, b), (0x22, beBytes 2 0x500 ++ r)]) hperm (by simp [tlvsOk, objSpec, hb])
    subst hp
    have hmod : (s.begun d k x).objModify tyShaper (beNat b) [(0x500, r)] = _ := State.objModify_rate hlt hr hmax hfit
    rw [tyOf_cons, idOf_cons, attrsOf_rate, show beNat [8] = tyShaper from rfl, hmod] at hrun
    have hans := h.answers_status hrun (Option.isSome_iff_exists.2 ⟨_, h.begun_session⟩)
    have hobjs := hans.mailOnly.objs
    have htmg := hans.mailOnly.tmg
    obtain ⟨hrep, ht, -⟩ := hans
    refine ⟨_, rfl, hrep, ?_, ?_, ?_⟩
    · exact (State.shAttr_congr hobjs _ _ _).trans (State.shAttr_putAttrs_self _ _ _)
    · exact (State.shaper_congr htmg _ _).trans (State.shaper_rateSet _ hlt _)
    · rw [ht]
      rfl
  case delete =>
    have hrun := State.jcpDelete_eq (s := s.begun d k x) (d := d) (k := k) (ep := ep) hperm hl
    change match (s.begun d k x).objDelete (tyOf l) (idOf l) with
      | .ok (u, n) => _
      | .error e => _
    cases hm : (s.begun d k x).objDelete (tyOf l) (idOf l) with
    | ok r =>
      obtain ⟨u, n⟩ := r
      rw [hm] at hrun
      intro hses
      have hans := h.answers hrun hses (h.countFits n)
      obtain ⟨hbefore, hafter⟩ := State.objDelete_objExists hm
      exact ⟨_, rfl, hans, hbefore, fun hout => (State.objExists_congr hans.mailOnly.objs _ _).trans (hafter hout)⟩
    | error e =>
      rw [hm] at hrun
      exact ⟨_, rfl, h.answers_status hrun (Option.isSome_iff_exists.2 ⟨_, h.begun_session⟩)⟩
  case sub =>
    have hrun := State.jcpDelete_eq (s := s.begun d k x) (d := d) (k := k) (ep := ep) (l := [(0x20, [4]), (0x21, b)]) hperm
      (by simp [tlvsOk, objSpec, hb])
    have hdel : (s.begun d k x).objDelete tySub (beNat b) = _ := State.objDelete_sub hlt hex
    rw [tyOf_cons, idOf_cons, show beNat [4] = tySub from rfl, hdel] at hrun
    have hspec := (s.begun d k x).deleteSub_spec (beNat b)
    have hcur := congrArg State.cur hspec
    have hans := h.answers hrun (by rw [hcur]; exact Option.isSome_iff_exists.2 ⟨_, h.begun_session⟩) (h.countFits 0)
    have hobjs := hans.mailOnly.objs
    obtain ⟨hrep, ht, -⟩ := hans
    refine ⟨_, rfl, hrep, (State.objExists_congr hobjs _ _).trans (State.dropObj_objExists _ _ _), ?_, ?_⟩
    · intro j hj
      rw [hobjs]
      exact (congrArg (nget · j) (congrArg State.objs hspec)).trans (nget_ndel_ne _ hj)
    · rw [ht, hspec]
      rfl

end Sys2Proof.Machine

/-!
PROOF. Counters that are cleared together (R120, R147, R176), and what the other clears set (R208, R286, R296, R351, R443).
-/

namespace Sys2Proof.Machine

/-! ### Counters cleared together -/

/-- One more counter is cleared after the others. -/
theorem State.cclear_succ (s : State) (r : Reg) (u i n : Nat) : s.cclear r u i (n + 1) =
    { s.cclear r u i n with
      ctrs := ndel (s.cclear r u i n).ctrs (regAddr r u (i + n)), latches := ndel (s.cclear r u i n).latches (regAddr r u (i + n)) } := by
  simp [State.cclear, List.range_succ]

theorem State.nget_ctrs_cclear (s : State) (r : Reg) (u i n a : Nat) :
    nget (s.cclear r u i n).ctrs a = if ∃ k < n, a = regAddr r u (i + k) then none else nget s.ctrs a := by
  induction n with
  | zero => simp [State.cclear]
  | succ n ih =>
    rw [State.cclear_succ, nget_ndel, ih]
    by_cases ha : a = regAddr r u (i + n) <;> simp only [Nat.exists_lt_succ_right, ha, or_true, or_false, if_true, if_false]

theorem State.nget_latches_cclear (s : State) (r : Reg) (u i n a : Nat) :
    nget (s.cclear r u i n).latches a = if ∃ k < n, a = regAddr r u (i + k) then none else nget s.latches a := by
  induction n with
  | zero => simp [State.cclear]
  | succ n ih =>
    rw [State.cclear_succ, nget_ndel, ih]
    by_cases ha : a = regAddr r u (i + n) <;> simp only [Nat.exists_lt_succ_right, ha, or_true, or_false, if_true, if_false]

/-- A cleared counter reads 0. -/
theorem State.cget_cclear (s : State) (r : Reg) (u i : Nat) {n k : Nat} (hk : k < n) : (s.cclear r u i n).cget r u (i + k) = 0 := by
  rw [State.cget, ngetD, State.nget_ctrs_cclear, if_pos ⟨k, hk, rfl⟩]
  rfl

theorem State.nget_ctrs_cclear_of_ne (s : State) {r : Reg} {u i n a : Nat} (ha : ∀ k < n, a ≠ regAddr r u (i + k)) :
    nget (s.cclear r u i n).ctrs a = nget s.ctrs a := by
  rw [State.nget_ctrs_cclear, if_neg fun ⟨k, hk, e⟩ => ha k hk e]

theorem State.cclear_cleared (s : State) (r : Reg) (u i n : Nat) :
    State.cleared { s.cclear r u i n with answer := ⟨0, []⟩ } s r u i n := by
  refine ⟨fun k hk => ⟨s.cget_cclear r u i hk, ?_⟩, fun a ha => ⟨s.nget_ctrs_cclear_of_ne ha, ?_⟩, ?_⟩
  · exact (s.nget_latches_cclear r u i n _).trans (if_pos ⟨k, hk, rfl⟩)
  · exact (s.nget_latches_cclear r u i n a).trans (if_neg fun ⟨k, hk, e⟩ => ha k hk e)
  · exact congrArg (fun x : State => { x with answer := ⟨0, []⟩ }) (s.cclear_spec r u i n)

/-- A command that asks for a clear within its register's items. -/
theorem State.writeAtrCntClr_of_le (s : State) {v : W32} (h : fld v 0 7 ≤ 95) :
    s.writeAtrCntClr v = .ok (s.cclear .atrCnt 0 (16 * fld v 0 7) 16) := by
  simp [State.writeAtrCntClr, refuseIf, Nat.not_lt.2 h, bind, Except.bind]

theorem fld_portGo (p : BitVec 7) :
    fld (BitVec.ofNat 32 (0x100 + p.toNat)) 8 1 = 1 ∧ fld (BitVec.ofNat 32 (0x100 + p.toNat)) 7 1 = 0 ∧
      fld (BitVec.ofNat 32 (0x100 + p.toNat)) 0 7 = p.toNat := by
  have hp := p.isLt
  simp only [fld, BitVec.toNat_ofNat]
  omega

theorem State.writeRgsCntClr_portGo (s : State) (p : BitVec 7) : s.writeRgsCntClr (BitVec.ofNat 32 (0x100 + p.toNat)) =
    if 95 < p.toNat then .error stBadValue else .ok (s.cclear .rgsPortCnt 0 (8 * p.toNat) 8) := by
  obtain ⟨hgo, hdrops, hport⟩ := fld_portGo p
  by_cases h : 95 < p.toNat <;> simp [State.writeRgsCntClr, refuseIf, hgo, hdrops, hport, h, bind, Except.bind]

/-- Each of the commands clears its counters, unless its block is out of service. -/
theorem exec_of_clearsOf {s : State} {c : Instr} {w b : Nat} {r : Reg} {u i n : Nat} (h : clearsOf c = some (w, b, r, u, i, n)) :
    exec c s = .next (s.answerWith (if s.blkUp w b then .ok (s.cclear r u i n) else .error stUnavailable)) := by
  cases c with
  | atrCntClr v =>
    by_cases hv : fld v 0 7 ≤ 95
    · cases (if_pos hv).symm.trans h
      rw [← s.writeAtrCntClr_of_le hv]
      rfl
    · cases (if_neg hv).symm.trans h
  | rgsCntClrPortGo p =>
    by_cases hp : p.toNat ≤ 95
    · cases (if_pos hp).symm.trans h
      rw [← (s.writeRgsCntClr_portGo p).trans (if_neg (by omega))]
      rfl
    · cases (if_neg hp).symm.trans h
  | rgsCntClrDrops | vltCntClrDrops | vltCntClrJobs | fwdCntClr | tmgCntClr | docCntClr | afbCntClr | vdeCntClr | vdePgCntClrCounters |
    venCntClr | cmpCntClr | mctCntClr | cloCntClrCounters | stkCntClr | curCasCntClr =>
    cases h
    rfl
  | _ => cases h

/-- Settles O23: each command is one `cclear` of its counters, which `answerWith` answers. -/
theorem counterClears : Obligations.CounterClears := by
  intro s c w b r u i n h
  refine ⟨_, exec_of_clearsOf h, ?_⟩
  cases s.blkUp w b with
  | true => exact s.cclear_cleared r u i n
  | false => rfl

/-! ### Low marks -/

theorem regAddr_cloPoolCfg (u i : Nat) : regAddr .cloPoolCfg u i = 4 * 0x10000000 + 2 * 0x100000 + u * 0 + 0 + 0x10 * i := rfl

/-- The free count of a pool depends on its buffers and its COUNT alone. -/
theorem State.poolFree_congr {s t : State} (hclo : t.clo = s.clo) {p : Nat} (hcfg : t.rget .cloPoolCfg 0 p = s.rget .cloPoolCfg 0 p) :
    t.poolFree p = s.poolFree p := by
  simp only [State.poolFree, State.pool, State.poolCount, State.rfld, hclo, hcfg]

/-- The low marks of some pools are set to their free counts (R208). -/
def State.freshLows (s : State) (ps : List Nat) : State := ps.foldl (fun t p => t.rsetFld .cloPoolLow 0 p 0 24 (t.poolFree p)) s

theorem State.freshLows_append (s : State) (ps : List Nat) (p : Nat) :
    s.freshLows (ps ++ [p]) = (s.freshLows ps).rsetFld .cloPoolLow 0 p 0 24 ((s.freshLows ps).poolFree p) := by
  simp [State.freshLows]

theorem State.freshLows_spec (s : State) (ps : List Nat) : s.freshLows ps = { s with regs := (s.freshLows ps).regs } ∧
    (s.freshLows ps).regsKept s (ps.map (regAddr .cloPoolLow 0)) := by
  induction ps using List.reverseRecOn with
  | nil => exact ⟨rfl, fun _ _ => rfl⟩
  | append_singleton ps p ih =>
    obtain ⟨hs, hk⟩ := ih
    rw [State.freshLows_append]
    generalize s.freshLows ps = u at hs hk ⊢
    generalize u.poolFree p = n
    refine ⟨congrArg (fun x : State => { x with regs := (u.rsetFld .cloPoolLow 0 p 0 24 n).regs }) hs, fun a ha => ?_⟩
    simp only [List.map_append, List.map_cons, List.map_nil, List.mem_append, not_or] at ha
    exact (State.regsKept_rsetFld _ _ _ _ _ _ _ a ha.2).trans (hk a ha.1)

theorem State.poolFree_freshLows (s : State) (ps : List Nat) (p : Nat) : (s.freshLows ps).poolFree p = s.poolFree p := by
  obtain ⟨hs, hk⟩ := s.freshLows_spec ps
  refine State.poolFree_congr (by rw [hs]) (State.rget_of_regsKept hk fun h => ?_)
  obtain ⟨q, -, hq⟩ := List.mem_map.1 h
  rw [regAddr_cloPoolCfg, regAddr_cloPoolLow] at hq
  omega

theorem State.rfld_freshLows (s : State) {ps : List Nat} {p : Nat} (hp : p ∈ ps) :
    (s.freshLows ps).rfld .cloPoolLow 0 p 0 24 = s.poolFree p % 2 ^ 24 := by
  induction ps using List.reverseRecOn with
  | nil => cases hp
  | append_singleton ps q ih =>
    rw [State.freshLows_append, State.poolFree_freshLows]
    by_cases hq : p = q
    · rw [hq, State.rfld_rsetFld_self _ _ _ _ _ (by omega)]
    · rw [State.rfld_rsetFld_ne _ _ _ _ _ _ (by rw [regAddr_cloPoolLow, regAddr_cloPoolLow]; omega)]
      exact ih (by simpa [hq] using hp)

/-! ### The end of a leg's isolation -/

theorem regAddr_chpLegIso (u i : Nat) : regAddr .chpLegIso u i = 0 * 0x10000000 + 2 * 0x100000 + u * 0 + 0x400 + 0x4 * i := rfl

/-- The bit of a leg in CHP_LEG_ISO goes, and no other leg's. -/
theorem State.isolated_rsetFld (s : State) (l m : Nat) :
    (s.rsetFld .chpLegIso 0 (l / 32) (l % 32) 1 0).isolated m = (s.isolated m && decide (m ≠ l)) := by
  unfold State.isolated
  by_cases hm : m = l
  · rw [hm, State.rfld_rsetFld_self _ _ _ _ _ (by omega)]
    simp
  · by_cases hw : m / 32 = l / 32
    · rw [hw, State.rfld_rsetFld_field _ _ _ _ _ (by omega)]
      simp [hm]
    · rw [State.rfld_rsetFld_ne _ _ _ _ _ _ (by rw [regAddr_chpLegIso, regAddr_chpLegIso]; omega)]
      simp [hm]

/-- The release of an isolated leg (R443). -/
theorem State.releaseLeg_spec {s : State} {l : Nat} (h : s.isolated l = true) : ∃ f, s.releaseLeg l =
    { s.rsetFld .chpLegIso 0 (l / 32) (l % 32) 1 0 with
      frec := f
      sup := { s.sup with hits := ndel s.sup.hits l, hitWings := s.sup.hitWings.filter fun e => decide (e.1 ≠ l) } } := by
  obtain ⟨f, hf⟩ := (s.rsetFld .chpLegIso 0 (l / 32) (l % 32) 1 0).logFault_spec 0x03 0 2 0 l
  rw [State.releaseLeg, if_pos h, hf]
  exact ⟨f, rfl⟩

/-! ### The other clears -/

/-- A port past the last one has no counters. -/
theorem exec_atrCntClr_of_no_port {s : State} {v : W32} (hb : s.blkUp 1 1 = true) (hv : 95 < fld v 0 7) :
    exec (.atrCntClr v) s = .next { s with answer := ⟨9, []⟩ } := by
  show Host.Outcome.next (s.answerWith (if s.blkUp 1 1 then s.writeAtrCntClr v else .error stUnavailable)) = _
  rw [if_pos hb, State.writeAtrCntClr, refuseIf, if_pos (by simpa using hv)]
  rfl

theorem exec_rgsCntClrPortGo_of_no_port {s : State} {p : BitVec 7} (hb : s.blkUp 1 2 = true) (hp : 95 < p.toNat) :
    exec (.rgsCntClrPortGo p) s = .next { s with answer := ⟨9, []⟩ } := by
  show Host.Outcome.next (s.answerWith (if s.blkUp 1 2 then s.writeRgsCntClr _ else .error stUnavailable)) = _
  rw [if_pos hb, State.writeRgsCntClr_portGo, if_pos hp]
  rfl

/-- A cluster's counters and its CORRECTED count (R286). -/
theorem exec_dspCntClr_of_up {s : State} {cl : Fin 17} (hb : s.blkUp 2 (16 + cl) = true) :
    ∃ t, exec (.dspCntClr cl) s = .next t ∧ (∀ k < 8, t.cget .dspCnt cl k = 0) ∧ t.rfld .dspEcc cl 0 0 16 = 0 ∧
      t.regsKept s [regAddr .dspEcc cl 0] ∧ (∀ a, (∀ k < 8, a ≠ regAddr .dspCnt cl k) → nget t.ctrs a = nget s.ctrs a) ∧
      t = { s with regs := t.regs, ctrs := t.ctrs, latches := t.latches, answer := ⟨0, []⟩ } := by
  have hc := s.cclear_spec .dspCnt cl 0 8
  have h0 (k : Nat) (hk : k < 8) : (s.cclear .dspCnt cl 0 8).cget .dspCnt cl k = 0 := by
    simpa using s.cget_cclear .dspCnt cl 0 hk
  have hne (a : Nat) (ha : ∀ k < 8, a ≠ regAddr .dspCnt cl k) : nget (s.cclear .dspCnt cl 0 8).ctrs a = nget s.ctrs a :=
    s.nget_ctrs_cclear_of_ne (by simpa using ha)
  refine ⟨{ (s.cclear .dspCnt cl 0 8).rsetFld .dspEcc cl 0 0 16 0 with answer := ⟨0, []⟩ },
    congrArg (fun x => Host.Outcome.next (s.answerWith x)) (if_pos hb), ?_⟩
  generalize s.cclear .dspCnt cl 0 8 = u at hc h0 hne
  refine ⟨h0, u.rfld_rsetFld_self .dspEcc cl 0 0 (by omega), ?_, hne, ?_⟩
  · intro a ha
    exact (u.regsKept_rsetFld .dspEcc cl 0 0 16 0 a ha).trans (by rw [hc])
  · exact congrArg (fun x : State => { x with regs := (u.rsetFld .dspEcc cl 0 0 16 0).regs, answer := ⟨0, []⟩ }) hc

/-- The low marks of the eight pools (R208). -/
theorem exec_cloCntClrLow_of_up {s : State} (hb : s.blkUp 4 2 = true) : ∃ u : State,
    exec .cloCntClrLow s = .next { u with answer := ⟨0, []⟩ } ∧ (∀ p < 8, u.rfld .cloPoolLow 0 p 0 24 = s.poolFree p % 2 ^ 24) ∧
      u.regsKept s ((List.range 8).map (regAddr .cloPoolLow 0)) ∧ u = { s with regs := u.regs } := by
  obtain ⟨hs, hk⟩ := s.freshLows_spec (List.range 8)
  exact ⟨s.freshLows (List.range 8), congrArg (fun x => Host.Outcome.next (s.answerWith x)) (if_pos hb),
    fun p hp => s.rfld_freshLows (List.mem_range.2 hp), hk, hs⟩

theorem exec_vdePgCntClrLow_of_up {s : State} (hb : s.blkUp 3 13 = true) :
    exec .vdePgCntClrLow s = .next { s.rsetFld .vdePgLow 0 0 0 20 s.pgFree with answer := ⟨0, []⟩ } :=
  congrArg (fun x => Host.Outcome.next (s.answerWith x)) (if_pos hb)

theorem exec_docFenceClr_of_up {s : State} (v : W32) (hb : s.blkUp 2 1 = true) :
    exec (.docFenceClr v) s = .next { s with
      doc := { s.doc with fenced := s.doc.fenced.filter (· ≠ fld v 0 17) }, answer := ⟨0, []⟩ } :=
  congrArg (fun x => Host.Outcome.next (s.answerWith x)) (if_pos hb)

theorem exec_chpLegIsoClr_of_isolated {s : State} {v : W32} (h : s.isolated (fld v 0 15) = true) : ∃ f,
    exec (.chpLegIsoClr v) s = .next { s.rsetFld .chpLegIso 0 (fld v 0 15 / 32) (fld v 0 15 % 32) 1 0 with
      frec := f
      sup := { s.sup with
        hits := ndel s.sup.hits (fld v 0 15), hitWings := s.sup.hitWings.filter fun e => decide (e.1 ≠ fld v 0 15) }
      answer := ⟨0, []⟩ } := by
  obtain ⟨f, hf⟩ := State.releaseLeg_spec h
  exact ⟨f, congrArg (fun x => Host.Outcome.next (s.answerWith (.ok x))) hf⟩

/-- Settles O24, clear by clear. -/
theorem otherClears : Obligations.OtherClears := by
  intro s
  refine ⟨fun v hb hv => exec_atrCntClr_of_no_port hb hv, fun p hb hp => exec_rgsCntClrPortGo_of_no_port hb hp,
    fun cl hb => exec_dspCntClr_of_up hb, fun hb => ?lows, fun hb => ?pager, fun v hv => ?leg, fun v hb => ?fence⟩
  case lows =>
    obtain ⟨u, he, hlow, hk, hu⟩ := exec_cloCntClrLow_of_up hb
    exact ⟨_, he, hlow, hk, congrArg (fun x : State => { x with answer := ⟨0, []⟩ }) hu⟩
  case pager =>
    exact ⟨_, exec_vdePgCntClrLow_of_up hb, s.rfld_rsetFld_self .vdePgLow 0 0 _ (by omega), s.regsKept_rsetFld .vdePgLow 0 0 0 20 _, rfl⟩
  case leg =>
    obtain ⟨f, hf⟩ := exec_chpLegIsoClr_of_isolated hv
    have hbit := s.isolated_rsetFld (fld v 0 15)
    refine ⟨_, hf, (hbit _).trans (by simp), fun l hl => ⟨(hbit l).trans (by simp [hl]), nget_ndel_ne _ hl⟩,
      nget_ndel_self _ _, s.regsKept_rsetFld .chpLegIso 0 _ _ _ _, rfl⟩
  case fence => exact ⟨_, exec_docFenceClr_of_up v hb, fun f => by simp, rfl⟩

end Sys2Proof.Machine

/-!
PROOF. What an operation of the traffic manager, the Stacks or the Cloakroom leaves alone of the Atrium: its registers, its counters,
its ports and lanes (`…_atrSide`, in the order of the model, as far as the drain of a port that goes down needs it).
-/

namespace Sys2Proof.Machine

/-- The part of a table that lies in the Atrium's block of the address map (R18). -/
def atrWindow {α : Type} (m : NMap α) : Fin 0x100000 → Option α := fun a => nget m (0x10100000 + a)

theorem atrWindow_congr {α : Type} {m n : NMap α} (h : ∀ a, 0x10100000 ≤ a → a < 0x10200000 → nget m a = nget n a) :
    atrWindow m = atrWindow n := by
  funext a
  exact h _ (by omega) (by omega)

/-- A write at another address does not show. -/
theorem atrWindow_nputD {α : Type} [DecidableEq α] (d : α) (m : NMap α) {a : Nat} (v : α) (h : a < 0x10100000 ∨ 0x10200000 ≤ a) :
    atrWindow (nputD d m a v) = atrWindow m :=
  atrWindow_congr fun _ h1 h2 => nget_nputD_ne _ _ _ (by omega)

/-- The Atrium's registers, its counters, its ports and lanes. -/
def State.atrSide (s : State) : (Fin 0x100000 → Option W32) × (Fin 0x100000 → Option W64) × Atrium :=
  (atrWindow s.regs, atrWindow s.ctrs, s.atr)

@[simp] theorem State.atrSide_eta (s : State) : (atrWindow s.regs, atrWindow s.ctrs, s.atr) = s.atrSide := by
  simp only [State.atrSide]

@[simp] theorem State.atrSide_mk (pending : List Instr) (draws : Nat) (regs : NMap W32) (ctrs : NMap W64) (latches :
    NMap W32) (answer : Answer) (m : ModeSt) (otp : Otp) (pins : Pins) (rails : Rails) (time : Timebase) (i2c : I2c)
    (tap : Tap) (frec : NMap Byte) (cur : Curator) (sup : Supervisor) (mgmt : NMap (List MgmtFrame)) (atr : Atrium)
    (rgs : Registrar) (vlt : Vault) (clo : Cloakroom) (stk : Stacks) (fwd : Forwarder) (tmg : Tmg) (cas : Cascade)
    (doc : Docent) (dsp : NMap Cluster) (afb : Audio) (pgr : Pager) (vde : VideoDec) (cmp : Compositor) (ven :
    VideoEnc) (mct : MemCtl) (objs : NMap (NMap Bytes)) (stats : NMap W64) (gddr : NMap Byte) (poisoned : List Nat)
    (wire : List TxFrame) (programmed : List (Nat × Bytes)) : State.atrSide ⟨pending, draws, regs, ctrs, latches,
    answer, m, otp, pins, rails, time, i2c, tap, frec, cur, sup, mgmt, atr, rgs, vlt, clo, stk, fwd, tmg, cas, doc,
    dsp, afb, pgr, vde, cmp, ven, mct, objs, stats, gddr, poisoned, wire, programmed⟩ =
    (atrWindow regs, atrWindow ctrs, atr) := by
  simp only [State.atrSide]

@[simp] theorem State.atrSide_ite (c : Prop) [Decidable c] (a b : State) :
    (if c then a else b).atrSide = if c then a.atrSide else b.atrSide := apply_ite ..

/-- A fold of operations that keep it keeps it. -/
theorem State.foldl_atrSide_mem {β : Type} {f : State → β → State} {l : List β} (hf : ∀ s, ∀ b ∈ l, (f s b).atrSide = s.atrSide)
    (s : State) : (l.foldl f s).atrSide = s.atrSide :=
  List.foldlRecOn (motive := fun t : State => t.atrSide = s.atrSide) _ _ rfl fun t ht b hb => (hf t b hb).trans ht

@[simp] theorem State.foldl_atrSide {β : Type} {f : State → β → State} (hf : ∀ s b, (f s b).atrSide = s.atrSide) (l : List β)
    (s : State) : (l.foldl f s).atrSide = s.atrSide := State.foldl_atrSide_mem (fun s b _ => hf s b) s

/-! ### What the Atrium's side tells -/

theorem State.atr_of_atrSide {s t : State} (h : t.atrSide = s.atrSide) : t.atr = s.atr := congrArg (fun x => x.2.2) h

theorem State.rget_of_atrSide {s t : State} (h : t.atrSide = s.atrSide) {r : Reg} {u i : Nat} (h1 : 0x10100000 ≤ regAddr r u i)
    (h2 : regAddr r u i < 0x10200000) : t.rget r u i = s.rget r u i := by
  have hw := congrFun (congrArg (fun x => x.1) h) ⟨regAddr r u i - 0x10100000, by omega⟩
  simp only [State.atrSide, atrWindow, Nat.add_sub_cancel' h1] at hw
  rw [State.rget, ngetD, hw]
  rfl

theorem State.cget_of_atrSide {s t : State} (h : t.atrSide = s.atrSide) {r : Reg} {u i : Nat} (h1 : 0x10100000 ≤ regAddr r u i)
    (h2 : regAddr r u i < 0x10200000) : t.cget r u i = s.cget r u i := by
  have hw := congrFun (congrArg (fun x => x.2.1) h) ⟨regAddr r u i - 0x10100000, by omega⟩
  simp only [State.atrSide, atrWindow, Nat.add_sub_cancel' h1] at hw
  rw [State.cget, ngetD, hw]
  rfl

/-! ### Registers, counters, events, error bits -/

/-- A register of a block that lies above the Atrium's in the address map. -/
def aboveAtrium (r : Reg) : Bool := decide (0x10200000 ≤ blkBase (regInfo r).blk 0)

theorem le_regAddr_of_aboveAtrium {r : Reg} (h : aboveAtrium r = true) (u i : Nat) : 0x10200000 ≤ regAddr r u i := by
  have hb : blkBase (regInfo r).blk 0 ≤ blkBase (regInfo r).blk u :=
    Nat.add_le_add_left (Nat.mul_le_mul_right _ (Nat.zero_le u)) _
  exact (of_decide_eq_true h).trans (hb.trans (Nat.le_add_right_of_le (Nat.le_add_right _ _)))

/-- The registers and counters that the drain of a port writes. -/
@[simp] theorem aboveAtrium_drain : aboveAtrium .rgsDropCnt = true ∧ aboveAtrium .tmgCnt = true ∧ aboveAtrium .tmgChkStatus = true ∧
    aboveAtrium .tmgChkLast = true ∧ aboveAtrium .cloCnt = true ∧ aboveAtrium .cloPoolLow = true ∧ aboveAtrium .cloExtStatus = true ∧
    aboveAtrium .cloRejStatus = true ∧ aboveAtrium .cloRejLog = true ∧ aboveAtrium .cloRejDetail = true ∧
    aboveAtrium .stkCnt = true := by decide

@[simp] theorem atrWindow_nputD_of_aboveAtrium {α : Type} [DecidableEq α] {r : Reg} (h : aboveAtrium r = true) (d : α) (m : NMap α)
    (u i : Nat) (v : α) : atrWindow (nputD d m (regAddr r u i) v) = atrWindow m :=
  atrWindow_nputD _ _ _ (.inr (le_regAddr_of_aboveAtrium h u i))

theorem State.rset_atrSide_of_ne (s : State) {r : Reg} {u i : Nat} (v : W32)
    (h : regAddr r u i < 0x10100000 ∨ 0x10200000 ≤ regAddr r u i) : (s.rset r u i v).atrSide = s.atrSide := by
  simp [State.rset, atrWindow_nputD _ _ _ h]

@[simp] theorem State.rset_atrSide {r : Reg} (h : aboveAtrium r = true) (s : State) (u i : Nat) (v : W32) :
    (s.rset r u i v).atrSide = s.atrSide := s.rset_atrSide_of_ne v (.inr (le_regAddr_of_aboveAtrium h u i))

@[simp] theorem State.rsetFld_atrSide {r : Reg} (h : aboveAtrium r = true) (s : State) (u i lo len n : Nat) :
    (s.rsetFld r u i lo len n).atrSide = s.atrSide := State.rset_atrSide h ..

@[simp] theorem State.cadd_atrSide {r : Reg} (h : aboveAtrium r = true) (s : State) (u i n : Nat) :
    (s.cadd r u i n).atrSide = s.atrSide := by
  simp [State.cadd, h]

@[simp] theorem State.atrWindow_ctrs_cinc {r : Reg} (h : aboveAtrium r = true) (s : State) (u i : Nat) :
    atrWindow (s.cinc r u i).ctrs = atrWindow s.ctrs := atrWindow_nputD_of_aboveAtrium h ..

@[simp] theorem State.cinc_atrSide {r : Reg} (h : aboveAtrium r = true) (s : State) (u i : Nat) :
    (s.cinc r u i).atrSide = s.atrSide := State.cadd_atrSide h ..

@[simp] theorem State.drop_atrSide (s : State) (code : Nat) : (s.drop code).atrSide = s.atrSide := by
  simp [State.drop]

theorem State.atrSide_of_eventsOnly {s t : State} (h : t.eventsOnly s) : t.atrSide = s.atrSide := by
  obtain ⟨x, m, g, rfl, hg⟩ := h
  rw [State.atrSide_mk, atrWindow_congr fun a h1 _ => hg a _, State.atrSide_eta]
  rw [regAddr_curEventLost]
  omega

@[simp] theorem State.raise_atrSide (s : State) (code subjectType subjectId : Nat) (detail : Bytes) :
    (s.raise code subjectType subjectId detail).atrSide = s.atrSide := State.atrSide_of_eventsOnly (State.raise_eventsOnly ..)

@[simp] theorem State.flag_atrSide {r : Reg} (h : aboveAtrium r = true) (s : State) (u i bit : Nat) :
    (s.flag r u i bit).atrSide = s.atrSide := by
  simp [State.flag, State.rbit, h]

theorem State.putErr_atrSide (s : State) {w b : Nat} (hb : b < 256) (v : W32) : (s.putErr w b v).atrSide = s.atrSide := by
  unfold State.putErr
  split
  · exact s.rset_atrSide_of_ne v (by rw [regAddr_chpChipErrStatus]; omega)
  · exact s.rset_atrSide_of_ne v (by rw [regAddr_chpErrStatus]; omega)

theorem State.setErr_atrSide (s : State) (w : Nat) {b : Nat} (hb : b < 256) (bit : Nat) : (s.setErr w b bit).atrSide = s.atrSide := by
  rcases s.setErr_cases w b bit with ⟨-, h⟩ | h
  · rw [h]
  · exact (State.atrSide_of_eventsOnly h).trans (s.putErr_atrSide hb _)

/-- The cell records of South's blocks lie above the Atrium's block. -/
theorem State.cellLog_atrSide (s : State) (b cell kind place : Nat) : (s.cellLog 4 b cell kind place).atrSide = s.atrSide := by
  have hlog (t : State) (i : Nat) (v : W32) : (t.rset .chpCellLog 3 i v).atrSide = t.atrSide :=
    t.rset_atrSide_of_ne v (by rw [regAddr_chpCellLog]; omega)
  have hwhere (t : State) (i : Nat) (v : W32) : (t.rset .chpCellWhere 3 i v).atrSide = t.atrSide :=
    t.rset_atrSide_of_ne v (by rw [regAddr_chpCellWhere]; omega)
  unfold State.cellLog
  dsimp only
  split
  · exact hlog ..
  · split
    · exact (hwhere ..).trans (hlog ..)
    · rfl

@[simp] theorem State.cellError_clo_atrSide (s : State) (cell kind place : Nat) : (s.cellError 4 2 cell kind place).atrSide = s.atrSide :=
  (State.setErr_atrSide _ _ (by omega) _).trans (s.cellLog_atrSide ..)

@[simp] theorem State.frWrite_atrSide (s : State) (off : Nat) (b : Bytes) : (s.frWrite off b).atrSide = s.atrSide := by
  simp [State.frWrite]

@[simp] theorem State.logFault_atrSide (s : State) (code wing blk detail subject : Nat) :
    (s.logFault code wing blk detail subject).atrSide = s.atrSide := by
  simp [State.logFault]

@[simp] theorem State.fenceStream_atrSide (s : State) (st : Nat) : (s.fenceStream st).atrSide = s.atrSide := by
  simp [State.fenceStream]

@[simp] theorem State.fenceSub_atrSide (s : State) (id : Nat) : (s.fenceSub id).atrSide = s.atrSide := by
  simp [State.fenceSub]

@[simp] theorem State.report_atrSide (s : State) (t : Trigger) : (s.report t).atrSide = s.atrSide := by
  simp [State.report]

@[simp] theorem State.sadd_atrSide (s : State) (ty id num n : Nat) : (s.sadd ty id num n).atrSide = s.atrSide := by
  simp [State.sadd]

@[simp] theorem State.sinc_atrSide (s : State) (ty id num : Nat) : (s.sinc ty id num).atrSide = s.atrSide := by
  simp [State.sinc]

@[simp] theorem State.draw_atrSide (s : State) (w : Nat) : (s.draw w).2.atrSide = s.atrSide := by
  simp [State.draw]

@[simp] theorem State.setCore_atrSide (s : State) (c : Nat) (x : DspCore) : (s.setCore c x).atrSide = s.atrSide := by
  simp [State.setCore]

/-! ### The Cloakroom -/

@[simp] theorem State.setPool_atrSide (s : State) (p : Nat) (x : Pool) : (s.setPool p x).atrSide = s.atrSide := by
  simp [State.setPool]

@[simp] theorem State.setRec_atrSide (s : State) (h : W32) (r : BufRec) : (s.setRec h r).atrSide = s.atrSide := by
  simp [State.setRec]

@[simp] theorem State.lowMark_atrSide (s : State) (p : Nat) : (s.lowMark p).atrSide = s.atrSide := by
  simp [State.lowMark]

@[simp] theorem State.answerClient_atrSide (s : State) (cl : Client) (code : Nat) (h : W32) :
    (s.answerClient cl code h).atrSide = s.atrSide := by
  unfold State.answerClient
  split <;> simp

@[simp] theorem State.reject_atrSide (s : State) (d req : Nat) (h : W32) (code : Nat) :
    (s.reject d req h code).atrSide = s.atrSide := by
  simp [State.reject]

@[simp] theorem State.takeBuffer_atrSide (s : State) (p d : Nat) : (s.takeBuffer p d).2.atrSide = s.atrSide := by
  unfold State.takeBuffer
  dsimp only
  split <;> simp

@[simp] theorem State.grant_atrSide (s : State) (d start p : Nat) : (s.grant d start p).2.atrSide = s.atrSide := by
  unfold State.grant
  dsimp only
  split <;> simp

@[simp] theorem State.grantOr_atrSide (s : State) (d start q : Nat) : (s.grantOr d start q).2.atrSide = s.atrSide := by
  have hg := s.grant_atrSide d start q
  rw [State.grantOr]
  generalize s.grant d start q = g at hg ⊢
  obtain ⟨b, t⟩ := g
  simp only
  split
  · exact hg
  · exact s.reject_atrSide ..

@[simp] theorem State.alloc_atrSide (s : State) (d size : Nat) (yellow : Bool) : (s.alloc d size yellow).2.atrSide = s.atrSide := by
  unfold State.alloc
  dsimp only
  repeat' split
  all_goals simp

@[simp] theorem State.holdAlloc_atrSide (s : State) (cl : Client) (size : Nat) (work : Option Nat) :
    (s.holdAlloc cl size work).atrSide = s.atrSide := by
  simp [State.holdAlloc]

@[simp] theorem State.allocNow_atrSide (s : State) (cl : Client) (size : Nat) (yellow wait : Bool) :
    (s.allocNow cl size yellow wait).atrSide = s.atrSide := by
  have h := s.alloc_atrSide cl.domain size yellow
  unfold State.allocNow
  split <;> rename_i e <;> rw [e] at h
  · simpa using h
  · split <;> simpa using h

@[simp] theorem State.overCredit_atrSide (s : State) (q : HeldReq) : (s.overCredit q).atrSide = s.atrSide := by
  simp [State.overCredit]

@[simp] theorem State.hwAllocEnd_atrSide (s : State) (d work : Nat) : (s.hwAllocEnd d work).atrSide = s.atrSide := by
  simp [State.hwAllocEnd]

@[simp] theorem State.endHeld_atrSide (s : State) (h : HeldAlloc) (code : Nat) (b : W32) : (s.endHeld h code b).atrSide = s.atrSide := by
  unfold State.endHeld
  split <;> simp

@[simp] theorem State.retryHeld_atrSide (s : State) (p : Nat) : (s.retryHeld p).atrSide = s.atrSide := by
  -- the grant is made opaque, so that the kernel does not evaluate it as a match's discriminant
  obtain ⟨grant, hgrant⟩ : ∃ g, g = s.grantOr := ⟨_, rfl⟩
  have hg (d start q) : (grant d start q).2.atrSide = s.atrSide := hgrant ▸ s.grantOr_atrSide d start q
  rw [State.retryHeld, ← hgrant]
  split
  · rfl
  · rename_i h _
    split
    · rfl
    · rename_i q _
      specialize hg h.client.domain h.start q
      split <;> rename_i he <;> rw [he] at hg
      · exact (State.endHeld_atrSide ..).trans hg
      · exact (State.endHeld_atrSide ..).trans hg

theorem State.setCount_atrSide {s t : State} {h : W32} {r : BufRec} {n : Nat} (e : s.setCount h r n = some t) :
    t.atrSide = s.atrSide := by
  unfold State.setCount at e
  dsimp only at e
  split at e
  · cases e
    split <;> simp
  · split at e
    · cases e
      simp
    · split at e
      · cases e
      · cases e
        simp

@[simp] theorem State.freeBuffer_atrSide (s : State) (h : W32) (r : BufRec) : (s.freeBuffer h r).atrSide = s.atrSide := by
  simp [State.freeBuffer]

theorem State.applyReq_atrSide {s t : State} {kind : Nat} {h : W32} {arg : Nat} (e : s.applyReq kind h arg = some t) :
    t.atrSide = s.atrSide := by
  unfold State.applyReq at e
  dsimp only at e
  split at e
  · exact State.setCount_atrSide e
  · split at e
    · cases e
      simp
    · exact State.setCount_atrSide e
  · cases e
    simp

theorem State.tryReq_atrSide {s t : State} {d kind : Nat} {h : W32} {arg code : Nat} (e : s.tryReq d kind h arg = some (code, t)) :
    t.atrSide = s.atrSide := by
  unfold State.tryReq at e
  split at e
  · cases e
    simp
  · split at e
    · cases e
      simp
    · obtain ⟨u, hu, he⟩ := Option.map_eq_some_iff.1 e
      cases he
      exact State.applyReq_atrSide hu

@[simp] theorem State.failHw_atrSide (s : State) (d : Nat) (flow : ItemFlow) : (s.failHw d flow).atrSide = s.atrSide := by
  have h := (s.drop 0x26).setErr_atrSide (domainBlock d).1 (State.domainBlock_lt d) 4
  unfold State.failHw
  split <;> simp [h]

@[simp] theorem State.answerReq_atrSide (s : State) (q : HeldReq) (code : Nat) : (s.answerReq q code).atrSide = s.atrSide := by
  unfold State.answerReq
  split <;> simp

theorem State.nextStalled_atrSide {s t : State} {seen l : List HeldReq} {q : HeldReq} {code : Nat}
    (e : s.nextStalled seen l = some (q, code, t)) : t.atrSide = s.atrSide := by
  induction l generalizing seen with
  | nil => cases e
  | cons a r ih =>
    unfold State.nextStalled at e
    split at e
    · rename_i x hx
      cases e
      split at hx
      · cases hx
      · exact State.tryReq_atrSide hx
    · exact ih e

@[simp] theorem State.countStalls_atrSide (s : State) (seen l : List HeldReq) : (s.countStalls seen l).atrSide = s.atrSide := by
  induction l generalizing s seen with
  | nil => simp [State.countStalls]
  | cons q r ih =>
    unfold State.countStalls
    split
    · exact ih ..
    · exact (ih ..).trans (by simp)

@[simp] theorem State.serveStalled_atrSide (n : Nat) (s : State) : (State.serveStalled n s).atrSide = s.atrSide := by
  induction n generalizing s with
  | zero => exact s.countStalls_atrSide ..
  | succ n ih =>
    unfold State.serveStalled
    split
    · simp
    · rename_i e
      exact (ih _).trans (by simpa using State.nextStalled_atrSide e)

@[simp] theorem State.settle_atrSide (s : State) : s.settle.atrSide = s.atrSide := by
  simp [State.settle]

@[simp] theorem State.enterReq_atrSide (s : State) (q : HeldReq) : (s.enterReq q).atrSide = s.atrSide := by
  unfold State.enterReq
  dsimp only
  generalize hu : (if q.kind = 0 then s.cinc .cloCnt 0 2 else if q.kind = 1 then s.cinc .cloCnt 0 3 else s) = u
  have hs : u.atrSide = s.atrSide := by
    rw [← hu]
    split
    · simp
    · split <;> simp
  split
  · simp
  · split
    · exact hs
    · split
      · rename_i e
        have h := (State.tryReq_atrSide e).trans hs
        simpa using h
      · simpa using hs

@[simp] theorem State.enterOver_atrSide (n : Nat) (s : State) : (State.enterOver n s).atrSide = s.atrSide := by
  induction n generalizing s with
  | zero => rfl
  | succ n ih =>
    unfold State.enterOver
    split
    · simp
    · exact (ih _).trans (by simp)

@[simp] theorem State.requestOf_atrSide (s : State) (q : HeldReq) : (s.requestOf q).atrSide = s.atrSide := by
  simp [State.requestOf]

@[simp] theorem State.decRef_atrSide (s : State) (d : Nat) (h : W32) (flow : ItemFlow := .untied) :
    (s.decRef d h flow).atrSide = s.atrSide := by
  simp [State.decRef]

@[simp] theorem State.hwAllocDrop_atrSide (s : State) (d work : Nat) : (s.hwAllocDrop d work).atrSide = s.atrSide := by
  unfold State.hwAllocDrop
  split <;> simp

/-! ### The Stacks -/

@[simp] theorem State.setQueue_atrSide (s : State) (q : Nat) (x : Queue) : (s.setQueue q x).atrSide = s.atrSide := by
  simp [State.setQueue]

@[simp] theorem State.slotFill_atrSide (s : State) (q : Nat) : (s.slotFill q).atrSide = s.atrSide := by
  unfold State.slotFill
  dsimp only
  repeat' split
  all_goals simp

@[simp] theorem State.emptyQueue_atrSide (s : State) (q : Nat) : (s.emptyQueue q).2.atrSide = s.atrSide := by
  simp [State.emptyQueue]

@[simp] theorem State.flushQueue_atrSide (s : State) (q d : Nat) : (s.flushQueue q d).atrSide = s.atrSide := by
  simp [State.flushQueue]

/-! ### The traffic manager -/

@[simp] theorem State.writeMember_atrSide (s : State) (l : Nat) : (s.writeMember l).atrSide = s.atrSide := by
  simp [State.writeMember]

@[simp] theorem State.flushCopies_atrSide (s : State) (p : CopyJob → Bool) : (s.flushCopies p).atrSide = s.atrSide := by
  simp [State.flushCopies]

@[simp] theorem State.flushLeg_atrSide (s : State) (l : Nat) : (s.flushLeg l).atrSide = s.atrSide := by
  simp [State.flushLeg]

/-- The word of CHP_LEG_ISO of a leg that an object's ID can name. -/
theorem State.isolate_atrSide (s : State) {l : Nat} (hl : l < 1048576) (code : Nat) : (s.isolate l code).atrSide = s.atrSide := by
  have h : (s.rsetFld .chpLegIso 0 (l / 32) (l % 32) 1 1).atrSide = s.atrSide :=
    s.rset_atrSide_of_ne _ (by rw [regAddr_chpLegIso]; omega)
  simp [State.isolate, h]

theorem State.checkerHit_atrSide (s : State) (code : Nat) {l : Nat} (hl : l < 1048576) : (s.checkerHit code l).atrSide = s.atrSide := by
  have hblk : (checkerBlock code).2 < 256 := by
    unfold checkerBlock
    split <;> decide
  simp [State.checkerHit, State.isolate_atrSide _ hl, State.setErr_atrSide _ _ hblk]

@[simp] theorem State.setTags_atrSide (s : State) (level i : Nat) (x : Tags) : (s.setTags level i x).atrSide = s.atrSide := by
  simp [State.setTags]

@[simp] theorem State.wakeOne_atrSide (s : State) (level i parent : Nat) (eligible : Bool) :
    (s.wakeOne level i parent eligible).atrSide = s.atrSide := by
  simp [State.wakeOne]

@[simp] theorem State.wakeLeg_atrSide (s : State) (l : Nat) : (s.wakeLeg l).atrSide = s.atrSide := by
  simp [State.wakeLeg]

@[simp] theorem State.dropCopy_atrSide (s : State) (l cnt legCnt : Nat) (d : Desc) : (s.dropCopy l cnt legCnt d).atrSide = s.atrSide := by
  simp [State.dropCopy]

theorem State.suppress_atrSide (s : State) {l : Nat} (hl : l < 1048576) (k : Nat) (d : Desc) : (s.suppress l k d).atrSide = s.atrSide := by
  simp [State.suppress, State.checkerHit_atrSide _ _ hl]

theorem State.drainLeg_atrSide (s : State) {l : Nat} (hl : l < 1048576) : (s.drainLeg l).atrSide = s.atrSide := by
  unfold State.drainLeg
  dsimp only
  refine (State.wakeLeg_atrSide _ _).trans ?_
  refine State.foldl_atrSide (fun t k => ?_) _ _
  have he := t.emptyQueue_atrSide (classQueue l k)
  generalize t.emptyQueue (classQueue l k) = e at he ⊢
  split
  · rfl
  · refine (State.foldl_atrSide (fun u d => ?_) e.1 _).trans (by simpa using he)
    split
    · exact u.suppress_atrSide hl ..
    · simp

theorem State.lt_of_mem_legsOfPort {s : State} {p l : Nat} (h : l ∈ s.legsOfPort p) : l < 1048576 := by
  obtain ⟨k, -, rfl⟩ := List.mem_map.1 (List.mem_filter.1 h).1
  exact Nat.mod_lt _ (by omega)

@[simp] theorem State.drainPort_atrSide (s : State) (p : Nat) : (s.drainPort p).atrSide = s.atrSide :=
  State.foldl_atrSide_mem (fun t _ hl => t.drainLeg_atrSide (State.lt_of_mem_legsOfPort hl)) s

end Sys2Proof.Machine

/-!
PROOF. The ports and lanes of the Atrium (chapter Ports, Lanes and Link Negotiation): which registers a port's operations write
(`…_linksOnly`), what they leave in ATR_PORT_STATUS and in the port's state, and what an up port's link going down does.
-/

namespace Sys2Proof.Machine

/-! ### Where the Atrium's registers lie (R18) -/

theorem regAddr_atrPortCfg (u i : Nat) : regAddr .atrPortCfg u i = 1 * 0x10000000 + 1 * 0x100000 + u * 0 + 0 + 8 * i := rfl
theorem regAddr_atrPortAdv (u i : Nat) : regAddr .atrPortAdv u i = 1 * 0x10000000 + 1 * 0x100000 + u * 0 + 4 + 8 * i := rfl
theorem regAddr_atrPortStatus (u i : Nat) : regAddr .atrPortStatus u i = 1 * 0x10000000 + 1 * 0x100000 + u * 0 + 0x400 + 4 * i := rfl
theorem regAddr_atrPortErr (u i : Nat) : regAddr .atrPortErr u i = 1 * 0x10000000 + 1 * 0x100000 + u * 0 + 0x600 + 4 * i := rfl
theorem regAddr_atrLaneCtl (u i : Nat) : regAddr .atrLaneCtl u i = 1 * 0x10000000 + 1 * 0x100000 + u * 0 + 0x1000 + 4 * i := rfl
theorem regAddr_atrLaneTxfir (u i : Nat) : regAddr .atrLaneTxfir u i = 1 * 0x10000000 + 1 * 0x100000 + u * 0 + 0x1200 + 4 * i := rfl
theorem regAddr_atrLaneRxstat (u i : Nat) : regAddr .atrLaneRxstat u i = 1 * 0x10000000 + 1 * 0x100000 + u * 0 + 0x1400 + 4 * i := rfl
theorem regAddr_atrCnt (u i : Nat) : regAddr .atrCnt u i = 1 * 0x10000000 + 1 * 0x100000 + u * 0 + 0x4000 + 8 * i := rfl
theorem regAddr_tmgPortState (u i : Nat) : regAddr .tmgPortState u i = 1 * 0x10000000 + 5 * 0x100000 + u * 0 + 0x400 + 4 * i := rfl

theorem regAddr_atrPortErr_ne_curEventLost (u i : Nat) : regAddr .atrPortErr u i ≠ regAddr .curEventLost 0 0 := by
  rw [regAddr_atrPortErr, regAddr_curEventLost]
  omega

/-! ### A port's lanes -/

/-- A port has at most 8 lanes from its base on (R99). -/
theorem State.mem_portLanes_bounds {s : State} {p l : Nat} (h : l ∈ s.portLanes p) :
    cfgBase (s.portCfg p) ≤ l ∧ l < cfgBase (s.portCfg p) + 8 ∧ l < 135 := by
  obtain ⟨k, hk, rfl⟩ := List.mem_map.1 h
  have hlanes : cfgLanes (s.portCfg p) ≤ 2 ^ 3 := Nat.pow_le_pow_right (by omega) (Nat.le_of_lt_succ (fld_lt _ 2 2))
  have hbase : cfgBase (s.portCfg p) < 2 ^ 7 := fld_lt _ 4 7
  have := List.mem_range.1 hk
  omega

theorem State.nodup_usedLanes (s : State) (p : Nat) : (s.usedLanes p).Nodup :=
  (List.nodup_range.map fun _ _ h => Nat.add_right_cancel h).sublist (List.take_sublist ..)

/-- A lane's owner is an enabled port that the lane lies in. -/
theorem State.laneOwner_spec {s : State} {l p : Nat} (h : s.laneOwner l = some p) :
    p < 96 ∧ s.portOn p = true ∧ l ∈ s.portLanes p := by
  have hp := List.find?_some h
  simp only [Bool.and_eq_true, List.contains_iff_mem] at hp
  exact ⟨List.mem_range.1 (List.mem_of_find?_eq_some h), hp⟩

/-- Who owns a lane stands in the ports' ATR_PORT_CFG alone. -/
theorem State.laneOwner_congr {s t : State} (h : ∀ p < 96, t.portCfg p = s.portCfg p) (l : Nat) : t.laneOwner l = s.laneOwner l := by
  unfold State.laneOwner
  have hq : ∀ q ∈ List.range 96, (t.portOn q && (t.portLanes q).contains l) = (s.portOn q && (s.portLanes q).contains l) :=
    fun q hq => by rw [State.portOn, State.portLanes, h q (List.mem_range.1 hq), State.portOn, State.portLanes]
  generalize List.range 96 = ps at hq ⊢
  induction ps with
  | nil => rfl
  | cons q r ih =>
    rw [List.find?_cons, List.find?_cons, hq q List.mem_cons_self, ih fun x hx => hq x (List.mem_cons_of_mem _ hx)]

/-! ### The port's own record -/

@[simp] theorem State.port_setPort_self (s : State) (p : Nat) (x : PortSt) : (s.setPort p x).port p = x := by
  exact ngetD_nputD_self {} s.atr.ports p x

theorem State.port_setPort_ne (s : State) {p q : Nat} (x : PortSt) (h : q ≠ p) : (s.setPort p x).port q = s.port q := by
  exact ngetD_nputD_ne {} s.atr.ports x h

theorem State.port_congr {s t : State} (h : t.atr = s.atr) (p : Nat) : t.port p = s.port p := by
  rw [State.port, h, State.port]

theorem State.foldl_atr {β : Type} {f : State → β → State} (hf : ∀ s b, (f s b).atr = s.atr) (l : List β) (s : State) :
    (l.foldl f s).atr = s.atr :=
  List.foldlRecOn (motive := fun t : State => t.atr = s.atr) _ _ rfl fun t ht b _ => (hf t b).trans ht

theorem State.rsetFld_atr (s : State) (r : Reg) (u i lo len n : Nat) : (s.rsetFld r u i lo len n).atr = s.atr := rfl

@[simp] theorem State.releaseAgc_atr (s : State) (ls : List Nat) : (s.releaseAgc ls).atr = s.atr := by
  unfold State.releaseAgc
  exact State.foldl_atr (fun _ _ => State.rsetFld_atr ..) ls s

@[simp] theorem State.unlock_atr (s : State) (p : Nat) (ls : List Nat) : (s.unlock p ls).atr = s.atr := by
  unfold State.unlock
  exact (State.foldl_atr (fun _ _ => State.rsetFld_atr ..) ls _).trans (State.foldl_atr (fun _ _ => State.rsetFld_atr ..) ls s)

/-! ### What a port's operations change: the ports' states, ATR_PORT_STATUS and ATR_LANE_RXSTAT -/

/-- An address among the words of ATR_PORT_STATUS and of ATR_LANE_RXSTAT. -/
def linkWord (a : Nat) : Prop := (0x10100400 ≤ a ∧ a < 0x10100600) ∨ (0x10101400 ≤ a ∧ a < 0x10104000)

/-- Ports, lanes and, of the registers, the status words of ports and lanes alone changed. -/
def State.linksOnly (t s : State) : Prop := t.portsOnly s ∧ ∀ a, ¬ linkWord a → nget t.regs a = nget s.regs a

theorem State.linksOnly_refl (s : State) : s.linksOnly s := ⟨⟨_, _, rfl⟩, fun _ _ => rfl⟩

theorem State.linksOnly.trans {s t u : State} (h : u.linksOnly t) (k : t.linksOnly s) : u.linksOnly s :=
  ⟨State.portsOnly_trans h.1 k.1, fun a ha => (h.2 a ha).trans (k.2 a ha)⟩

theorem State.linksOnly_foldl {β : Type} {f : State → β → State} {l : List β} (hf : ∀ s, ∀ b ∈ l, (f s b).linksOnly s) (s : State) :
    (l.foldl f s).linksOnly s :=
  List.foldlRecOn (motive := fun t : State => t.linksOnly s) _ _ s.linksOnly_refl fun t ht b hb => (hf t b hb).trans ht

theorem State.portsOnly.eq {s t : State} (h : t.portsOnly s) : t = { s with regs := t.regs, atr := t.atr } := by
  obtain ⟨r, a, rfl⟩ := h
  rfl

theorem State.linksOnly.eq {s t : State} (h : t.linksOnly s) : t = { s with regs := t.regs, atr := t.atr } := h.1.eq

theorem State.linksOnly.ctrs {s t : State} (h : t.linksOnly s) : t.ctrs = s.ctrs := by rw [h.eq]

theorem State.linksOnly.rget {s t : State} (h : t.linksOnly s) {r : Reg} {u i : Nat} (ha : ¬ linkWord (regAddr r u i)) :
    t.rget r u i = s.rget r u i := by
  simp only [State.rget, ngetD, h.2 _ ha]

theorem not_linkWord_atrPortCfg {p : Nat} (hp : p < 96) : ¬ linkWord (regAddr .atrPortCfg 0 p) := by
  rw [linkWord, regAddr_atrPortCfg]
  omega

theorem not_linkWord_atrPortAdv {p : Nat} (hp : p < 96) : ¬ linkWord (regAddr .atrPortAdv 0 p) := by
  rw [linkWord, regAddr_atrPortAdv]
  omega

theorem not_linkWord_atrPortErr {p : Nat} (hp : p < 96) : ¬ linkWord (regAddr .atrPortErr 0 p) := by
  rw [linkWord, regAddr_atrPortErr]
  omega

theorem not_linkWord_atrLaneCtl {l : Nat} (hl : l < 96) : ¬ linkWord (regAddr .atrLaneCtl 0 l) := by
  rw [linkWord, regAddr_atrLaneCtl]
  omega

theorem State.linksOnly.portCfg {s t : State} (h : t.linksOnly s) {p : Nat} (hp : p < 96) : t.portCfg p = s.portCfg p :=
  h.rget (not_linkWord_atrPortCfg hp)

theorem State.setPort_linksOnly (s : State) (p : Nat) (x : PortSt) : (s.setPort p x).linksOnly s := ⟨⟨_, _, rfl⟩, fun _ _ => rfl⟩

theorem State.setLaneEq_linksOnly (s : State) (l : Nat) (x : LaneEq) : (s.setLaneEq l x).linksOnly s := ⟨⟨_, _, rfl⟩, fun _ _ => rfl⟩

theorem State.rsetFld_linksOnly (s : State) {r : Reg} {u i : Nat} (lo len n : Nat) (h : linkWord (regAddr r u i)) :
    (s.rsetFld r u i lo len n).linksOnly s :=
  ⟨⟨_, _, rfl⟩, fun _ ha => nget_nputD_ne _ _ _ fun e => ha (e ▸ h)⟩

theorem linkWord_atrPortStatus {p : Nat} (hp : p < 96) : linkWord (regAddr .atrPortStatus 0 p) := by
  rw [linkWord, regAddr_atrPortStatus]
  omega

theorem linkWord_atrLaneRxstat {l : Nat} (hl : l < 135) : linkWord (regAddr .atrLaneRxstat 0 l) := by
  rw [linkWord, regAddr_atrLaneRxstat]
  omega

theorem State.setPortState_linksOnly (s : State) {p : Nat} (hp : p < 96) (n : Nat) : (s.setPortState p n).linksOnly s :=
  s.rsetFld_linksOnly 0 3 n (linkWord_atrPortStatus hp)

theorem State.setPortMode_linksOnly (s : State) {p : Nat} (hp : p < 96) (mode fec : Nat) : (s.setPortMode p mode fec).linksOnly s :=
  (State.rsetFld_linksOnly _ _ _ _ (linkWord_atrPortStatus hp)).trans (s.rsetFld_linksOnly _ _ _ (linkWord_atrPortStatus hp))

theorem State.releaseAgc_linksOnly (s : State) {ls : List Nat} (h : ∀ l ∈ ls, l < 135) : (s.releaseAgc ls).linksOnly s :=
  State.linksOnly_foldl (fun t l hl => t.rsetFld_linksOnly _ _ _ (linkWord_atrLaneRxstat (h l hl))) s

theorem State.unlock_linksOnly (s : State) {p : Nat} (hp : p < 96) {ls : List Nat} (h : ∀ l ∈ ls, l < 135) : (s.unlock p ls).linksOnly s :=
  (State.linksOnly_foldl (fun t _ _ => t.rsetFld_linksOnly _ _ _ (linkWord_atrPortStatus hp)) _).trans
    (State.linksOnly_foldl (fun t l hl => t.rsetFld_linksOnly _ _ _ (linkWord_atrLaneRxstat (h l hl))) s)

theorem State.freshEq_linksOnly (s : State) (ls : List Nat) : (s.freshEq ls).linksOnly s := by
  unfold State.freshEq
  exact State.linksOnly_foldl (fun t l _ => t.setLaneEq_linksOnly l _) s

theorem State.portLanes_lt {s : State} {p : Nat} : ∀ l ∈ s.portLanes p, l < 135 := fun _ h => (State.mem_portLanes_bounds h).2.2

theorem State.startPort_linksOnly (s : State) {p : Nat} (hp : p < 96) : (s.startPort p).linksOnly s := by
  have hlost (x : PortSt) : ((((s.setPort p x).releaseAgc (s.portLanes p)).freshEq (s.portLanes p)).unlock p (s.portLanes p)).linksOnly s :=
    (State.unlock_linksOnly _ hp State.portLanes_lt).trans ((State.freshEq_linksOnly _ _).trans
      ((State.releaseAgc_linksOnly _ State.portLanes_lt).trans (s.setPort_linksOnly p x)))
  unfold State.startPort
  dsimp only
  split
  · exact (State.setPortState_linksOnly _ hp _).trans (hlost _)
  · exact (State.setPortMode_linksOnly _ hp _ _).trans ((State.setPortState_linksOnly _ hp _).trans (hlost _))

/-- A port whose locks and AGCs go while its peaking stays. -/
theorem State.unlockRelease_linksOnly (s : State) {p : Nat} (hp : p < 96) (x : PortSt) :
    (((s.setPort p x).unlock p (s.portLanes p)).releaseAgc (s.portLanes p)).linksOnly s :=
  (State.releaseAgc_linksOnly _ State.portLanes_lt).trans ((State.unlock_linksOnly _ hp State.portLanes_lt).trans
    (s.setPort_linksOnly p x))

theorem State.restartAn_linksOnly (s : State) {p : Nat} (hp : p < 96) : (s.restartAn p).linksOnly s :=
  (State.setPortState_linksOnly _ hp _).trans (s.unlockRelease_linksOnly hp _)

/-! ### STATE, and the port's record, after an operation -/

theorem State.portState_setPortState (s : State) (p : Nat) {n : Nat} (h : n < 8) : (s.setPortState p n).portState p = n :=
  (s.rfld_rsetFld_self .atrPortStatus 0 p n (by omega)).trans (Nat.mod_eq_of_lt h)

theorem State.portState_setPortMode (s : State) (p mode fec : Nat) : (s.setPortMode p mode fec).portState p = s.portState p :=
  (State.rfld_rsetFld_field _ _ _ _ _ (.inl (by omega))).trans (State.rfld_rsetFld_field _ _ _ _ _ (.inl (by omega)))

theorem State.portState_startPort (s : State) (p : Nat) : (s.startPort p).portState p = if cfgAn (s.portCfg p) then 1 else 3 := by
  unfold State.startPort
  dsimp only
  split
  · exact State.portState_setPortState _ _ (by omega)
  · exact (State.portState_setPortMode ..).trans (State.portState_setPortState _ _ (by omega))

theorem State.portState_againAfterLoss (s : State) (p : Nat) :
    (s.againAfterLoss p).portState p = if cfgAn (s.portCfg p) then 1 else 3 := by
  unfold State.againAfterLoss
  split
  · rename_i h
    rw [s.portState_startPort, if_pos h]
  · exact State.portState_setPortState _ _ (by omega)

theorem State.portState_restartAn (s : State) (p : Nat) : (s.restartAn p).portState p = 1 :=
  State.portState_setPortState _ _ (by omega)

theorem State.port_restartAn (s : State) (p : Nat) : (s.restartAn p).port p = { s.port p with ready := false, holdFrom := none } := by
  have h : (s.restartAn p).atr = (s.setPort p { s.port p with ready := false, holdFrom := none }).atr :=
    (State.releaseAgc_atr _ _).trans (State.unlock_atr _ _ _)
  rw [State.port_congr h, State.port_setPort_self]

/-- The link status turns true, or nothing changes (R116). -/
theorem State.tryHold_cases (s : State) (p : Nat) :
    s.tryHold p = s ∨ s.tryHold p = (s.setPort p { s.port p with holdFrom := some s.t }).setPortState p 4 := by
  unfold State.tryHold
  split
  · exact .inr rfl
  · exact .inl rfl

theorem State.tryHold_portsOnly (s : State) (p : Nat) : (s.tryHold p).portsOnly s := by
  rcases s.tryHold_cases p with h | h <;> rw [h] <;> exact ⟨_, _, rfl⟩

theorem State.tryHold_regsKept (s : State) (p : Nat) : (s.tryHold p).regsKept s [regAddr .atrPortStatus 0 p] := by
  rcases s.tryHold_cases p with h | h <;> rw [h]
  · exact s.regsKept_refl _
  · exact State.regsKept_rsetFld _ _ _ _ _ _ _

theorem State.rfld_tryHold (s : State) (p : Nat) {lo len : Nat} (h3 : 3 ≤ lo) :
    (s.tryHold p).rfld .atrPortStatus 0 p lo len = s.rfld .atrPortStatus 0 p lo len := by
  rcases s.tryHold_cases p with h | h <;> rw [h]
  exact State.rfld_rsetFld_field _ _ _ _ _ (.inr h3)

theorem State.port_tryHold (s : State) (p : Nat) : ∃ h, (s.tryHold p).port p = { s.port p with holdFrom := h } := by
  rcases s.tryHold_cases p with h | h <;> rw [h]
  · exact ⟨(s.port p).holdFrom, rfl⟩
  · exact ⟨some s.t, s.port_setPort_self p _⟩

theorem State.endReconfig_eq (s : State) (p : Nat) : s.endReconfig p =
    { s with atr := { s.atr with reconfig := if s.atr.reconfig.map (·.1) = some p then none else s.atr.reconfig } } := by
  unfold State.endReconfig
  split
  · rename_i q x h
    split
    · rename_i hq
      rw [if_pos (by rw [h, hq]; rfl)]
    · rename_i hq
      rw [if_neg (by simp [h, hq])]
  · rename_i h
    rw [if_neg (by simp [h])]

theorem State.endReconfig_of_running {s : State} {p : Nat} {x : Option Nat} (h : s.atr.reconfig = some (p, x)) :
    s.endReconfig p = { s with atr := { s.atr with reconfig := none } } := by
  simp [s.endReconfig_eq, h]

/-! ### Sticky bits of a port and its counters -/

/-- The word of a sticky bit's register is what setting the bit makes it. -/
theorem State.rget_flag_self (s : State) {r : Reg} {u i : Nat} (bit : Nat) (hr : regAddr r u i ≠ regAddr .curEventLost 0 0) :
    (s.flag r u i bit).rget r u i = (s.rbit r u i bit).rget r u i := by
  unfold State.flag
  dsimp only
  split
  · rfl
  · exact State.rget_raise _ _ _ _ _ _ _ _ hr

/-- Setting one sticky bit leaves the others as they are. -/
theorem State.rfld_flag_ne (s : State) {r : Reg} {u i bit b : Nat} (hr : regAddr r u i ≠ regAddr .curEventLost 0 0) (h : b ≠ bit) :
    (s.flag r u i bit).rfld r u i b 1 = s.rfld r u i b 1 := by
  rw [State.rfld, s.rget_flag_self bit hr]
  exact State.rfld_rsetFld_field _ _ _ _ _ (by omega)

/-- Registers, counters, sessions and management queues alone changed. -/
def State.flagsOnly (t s : State) : Prop := ∃ r c x m, t = { s with regs := r, ctrs := c, cur := x, mgmt := m }

theorem State.flagsOnly_refl (s : State) : s.flagsOnly s := ⟨_, _, _, _, rfl⟩

theorem State.flagsOnly.trans {s t u : State} (h : u.flagsOnly t) (k : t.flagsOnly s) : u.flagsOnly s := by
  obtain ⟨r, c, x, m, rfl⟩ := h
  obtain ⟨r', c', x', m', rfl⟩ := k
  exact ⟨r, c, x, m, rfl⟩

theorem State.flagsOnly.eq {s t : State} (h : t.flagsOnly s) :
    t = { s with regs := t.regs, ctrs := t.ctrs, cur := t.cur, mgmt := t.mgmt } := by
  obtain ⟨r, c, x, m, rfl⟩ := h
  rfl

theorem State.flag_flagsOnly (s : State) (r : Reg) (u i bit : Nat) : (s.flag r u i bit).flagsOnly s :=
  ⟨_, s.ctrs, _, _, (s.flag_spec r u i bit).1⟩

theorem State.cinc_flagsOnly (s : State) (r : Reg) (u i : Nat) : (s.cinc r u i).flagsOnly s := ⟨s.regs, _, s.cur, s.mgmt, rfl⟩

theorem State.ctrs_flag (s : State) (r : Reg) (u i bit : Nat) : (s.flag r u i bit).ctrs = s.ctrs := by
  rw [(s.flag_spec r u i bit).1]

theorem State.atr_flag (s : State) (r : Reg) (u i bit : Nat) : (s.flag r u i bit).atr = s.atr := by
  rw [(s.flag_spec r u i bit).1]

theorem State.cget_of_ctrs {s t : State} (h : t.ctrs = s.ctrs) (r : Reg) (u i : Nat) : t.cget r u i = s.cget r u i := by
  rw [State.cget, h, State.cget]

theorem State.cget_flag (s : State) (r q : Reg) (u i bit w j : Nat) : (s.flag r u i bit).cget q w j = s.cget q w j :=
  State.cget_of_ctrs (s.ctrs_flag r u i bit) q w j

theorem State.cget_cinc_self (s : State) (r : Reg) (u i : Nat) : (s.cinc r u i).cget r u i = s.cget r u i + 1 :=
  s.cget_cadd_self r u i 1

/-! ### An up port's link goes down (R115) -/

/-- LINK_DOWN set and counted, the traffic manager told. -/
def State.linkFlagged (s : State) (p : Nat) : State :=
  ((s.flag .atrPortErr 0 p 0).cinc .atrCnt 0 (16 * p + 13)).rsetFld .tmgPortState 0 p 0 1 1

theorem State.linkFlagged_regsKept (s : State) (p : Nat) : (s.linkFlagged p).regsKept s
    [regAddr .tmgPortState 0 p, regAddr .atrPortErr 0 p, regAddr .curEventLost 0 0] :=
  ((State.regsKept_rsetFld _ _ _ _ _ _ _).mono (by simp)).trans
    (t := (s.flag .atrPortErr 0 p 0).cinc .atrCnt 0 (16 * p + 13)) ((s.regsKept_flag .atrPortErr 0 p 0).mono (by simp))

theorem State.linkFlagged_flagsOnly (s : State) (p : Nat) : (s.linkFlagged p).flagsOnly s := by
  obtain ⟨r, c, x, m, h⟩ := s.flag_flagsOnly .atrPortErr 0 p 0
  rw [State.linkFlagged, h]
  exact ⟨_, _, _, _, rfl⟩

theorem State.rget_linkFlagged_atrPortErr (s : State) {p : Nat} (_ : p < 96) :
    (s.linkFlagged p).rget .atrPortErr 0 p = (s.flag .atrPortErr 0 p 0).rget .atrPortErr 0 p :=
  State.rget_rset_ne _ _ (by rw [regAddr_atrPortErr, regAddr_tmgPortState]; omega)

theorem State.linkFlagged_flags (s : State) {p : Nat} (hp : p < 96) : (s.linkFlagged p).rfld .atrPortErr 0 p 0 1 = 1 := by
  rw [State.rfld, s.rget_linkFlagged_atrPortErr hp]
  exact s.flag_sets .atrPortErr 0 p (by omega) (regAddr_atrPortErr_ne_curEventLost 0 p)

theorem State.linkFlagged_counts (s : State) (p : Nat) :
    (s.linkFlagged p).cget .atrCnt 0 (16 * p + 13) = s.cget .atrCnt 0 (16 * p + 13) + 1 :=
  (State.cget_cinc_self _ _ _ _).trans (congrArg (· + 1) (State.cget_flag ..))

theorem State.linkFlagged_tells (s : State) (p : Nat) : (s.linkFlagged p).rfld .tmgPortState 0 p 0 1 = 1 :=
  State.rfld_rsetFld_self _ _ _ _ _ (by omega)

theorem State.dropLink_of_up {s : State} {p : Nat} (h : s.portState p = 5) :
    s.dropLink p = ((s.linkFlagged p).drainPort p).raise 5 0 0 [byteOf p] := if_pos h

theorem State.dropLink_of_not_up {s : State} {p : Nat} (h : s.portState p ≠ 5) : s.dropLink p = s := if_neg h

theorem State.dropLink_atrSide {s : State} {p : Nat} (h : s.portState p = 5) : (s.dropLink p).atrSide = (s.linkFlagged p).atrSide := by
  rw [State.dropLink_of_up h, State.raise_atrSide, State.drainPort_atrSide]

/-- The Atrium's registers but the port's ATR_PORT_ERR stay as they are. -/
theorem State.rget_dropLink (s : State) {p : Nat} {r : Reg} {i : Nat} (h1 : 0x10100000 ≤ regAddr r 0 i) (h2 : regAddr r 0 i < 0x10200000)
    (he : regAddr r 0 i ≠ regAddr .atrPortErr 0 p) : (s.dropLink p).rget r 0 i = s.rget r 0 i := by
  by_cases h : s.portState p = 5
  · rw [State.rget_of_atrSide (State.dropLink_atrSide h) h1 h2]
    refine State.rget_of_regsKept (s.linkFlagged_regsKept p) ?_
    rw [regAddr_atrPortErr] at he
    simp only [List.mem_cons, List.not_mem_nil, or_false, regAddr_tmgPortState, regAddr_atrPortErr, regAddr_curEventLost]
    omega
  · rw [State.dropLink_of_not_up h]

theorem State.portCfg_dropLink (s : State) (p : Nat) {q : Nat} (hq : q < 96) : (s.dropLink p).portCfg q = s.portCfg q :=
  s.rget_dropLink (by rw [regAddr_atrPortCfg]; omega) (by rw [regAddr_atrPortCfg]; omega)
    (by rw [regAddr_atrPortCfg, regAddr_atrPortErr]; omega)

theorem State.dropLink_flags {s : State} {p : Nat} (hp : p < 96) (h : s.portState p = 5) : (s.dropLink p).rfld .atrPortErr 0 p 0 1 = 1 := by
  rw [State.rfld, State.rget_of_atrSide (State.dropLink_atrSide h) (by rw [regAddr_atrPortErr]; omega) (by rw [regAddr_atrPortErr]; omega)]
  exact s.linkFlagged_flags hp

theorem State.dropLink_counts {s : State} {p : Nat} (hp : p < 96) (h : s.portState p = 5) :
    (s.dropLink p).cget .atrCnt 0 (16 * p + 13) = s.cget .atrCnt 0 (16 * p + 13) + 1 := by
  rw [State.cget_of_atrSide (State.dropLink_atrSide h) (by rw [regAddr_atrCnt]; omega) (by rw [regAddr_atrCnt]; omega)]
  exact s.linkFlagged_counts p

end Sys2Proof.Machine

/-!
PROOF. Receivers lock, lanes gain and lose block lock (R107 to R109, R117).
-/

namespace Sys2Proof.Machine

/-! ### ATR_LANE_RXSTAT of several lanes -/

theorem regAddr_atrLaneRxstat_inj {l k : Nat} (h : l ≠ k) : regAddr .atrLaneRxstat 0 l ≠ regAddr .atrLaneRxstat 0 k := by
  rw [regAddr_atrLaneRxstat, regAddr_atrLaneRxstat]
  omega

/-- A field stored in each of some lanes' words reads so in every one of them. -/
theorem State.rfld_foldl_rsetFld_atrLaneRxstat {lo len n : Nat} (hw : lo + len ≤ 32) (hn : n < 2 ^ len) (ls : List Nat) (s : State)
    {l : Nat} (h : l ∈ ls ∨ s.rfld .atrLaneRxstat 0 l lo len = n) :
    (ls.foldl (fun s l => s.rsetFld .atrLaneRxstat 0 l lo len n) s).rfld .atrLaneRxstat 0 l lo len = n := by
  induction ls generalizing s with
  | nil => exact h.resolve_left List.not_mem_nil
  | cons k r ih =>
    refine ih _ ?_
    by_cases hk : l = k
    · subst hk
      exact .inr ((State.rfld_rsetFld_self _ _ _ _ _ hw).trans (Nat.mod_eq_of_lt hn))
    · refine h.imp (fun hm => (List.mem_cons.1 hm).resolve_left hk) fun hs => ?_
      rw [State.rfld_rsetFld_ne _ _ _ _ _ _ (regAddr_atrLaneRxstat_inj hk), hs]

theorem State.setCtle_portsOnly (s : State) (ls ctle : List Nat) : (s.setCtle ls ctle).portsOnly s := by
  unfold State.setCtle
  exact State.portsOnly_foldl (fun _ _ => (State.setLaneEq_linksOnly ..).1) _ s

/-! ### The receivers of a fixed-mode port -/

/-- A port made ready keeps what its lanes' words read, whatever the link status then does. -/
theorem State.ready_spec (s : State) (p : Nat) (x : PortSt) (hx : x.ready = true) :
    (((s.setPort p x).tryHold p).port p).ready = true ∧ ((s.setPort p x).tryHold p).portsOnly s ∧
      ((s.setPort p x).tryHold p).regsKept s [regAddr .atrPortStatus 0 p] := by
  obtain ⟨h, hp⟩ := (s.setPort p x).port_tryHold p
  refine ⟨?_, State.portsOnly_trans (State.tryHold_portsOnly ..) (s.setPort_linksOnly p x).1, State.tryHold_regsKept _ p⟩
  rw [hp, State.port_setPort_self, hx]

theorem exec_receiverLock_of_adapting {s : State} {p : Fin 96} {ctle : List Nat}
    (h : s.portState p = 3 ∧ cfgAn (s.portCfg p) = false ∧ (s.portLanes p).all s.laneOk = true) : ∃ ls cs u,
    u = (s.usedLanes p).foldl (fun s l => s.rsetFld .atrLaneRxstat 0 l 0 2 3) (s.setCtle ls cs) ∧
    exec (.receiverLock ⟨p, ctle⟩) s = .next ((u.setPort p { u.port p with ready := true }).tryHold p) :=
  ⟨_, _, _, rfl, if_pos h⟩

theorem receiverLock_of_adapting {s : State} {p : Fin 96} {ctle : List Nat}
    (h : s.portState p = 3 ∧ cfgAn (s.portCfg p) = false ∧ (s.portLanes p).all s.laneOk = true) :
    ∃ t, exec (.receiverLock ⟨p, ctle⟩) s = .next t ∧ (t.port p).ready = true ∧
      (∀ l ∈ s.usedLanes p, t.rfld .atrLaneRxstat 0 l 0 2 = 3) ∧ t = { s with regs := t.regs, atr := t.atr } := by
  obtain ⟨ls, cs, u, hu, he⟩ := exec_receiverLock_of_adapting h
  obtain ⟨hready, honly, hregs⟩ := u.ready_spec p { u.port p with ready := true } rfl
  have hus : u.portsOnly s := by
    rw [hu]
    exact State.portsOnly_trans (State.portsOnly_foldl (fun _ _ => ⟨_, _, rfl⟩) _ _) (s.setCtle_portsOnly ls cs)
  refine ⟨_, he, hready, fun l hl => ?_, (State.portsOnly_trans honly hus).eq⟩
  have hne : regAddr .atrLaneRxstat 0 l ∉ [regAddr .atrPortStatus 0 p] := by
    rw [List.mem_singleton, regAddr_atrLaneRxstat, regAddr_atrPortStatus]
    omega
  rw [State.rfld, State.rget_of_regsKept hregs hne, hu]
  exact State.rfld_foldl_rsetFld_atrLaneRxstat (by omega) (by omega) _ _ (.inl hl)

/-! ### 200 ms without lock -/

theorem exec_reconfigLockTimeout_of_adapting {s : State} {p : Fin 96} {since : Nat} (hr : s.atr.reconfig = some (p.val, some since))
    (h3 : s.portState p = 3) (hready : (s.port p).ready = false) : exec (.reconfigLockTimeout p) s =
    .next (((s.reach (since + 200000000)).cinc .atrCnt 0 (16 * p + 14)).endReconfig p) := by
  have e : exec (.reconfigLockTimeout p) s = execReconfigLockTimeout p s := rfl
  rw [e, execReconfigLockTimeout, hr]
  exact if_pos ⟨rfl, h3, hready⟩

/-- A port's reconfiguration completes with a restart counted, no sooner than a deadline. -/
theorem State.reconfigMissed_spec {s : State} {p : Nat} (d : Nat) {x : Option Nat} (hr : s.atr.reconfig = some (p, x)) : ∃ tm,
    (d < 2 ^ 64 → d ≤ tm.t.toNat) ∧ ((s.reach d).cinc .atrCnt 0 (16 * p + 14)).endReconfig p =
      { s.cinc .atrCnt 0 (16 * p + 14) with time := tm, atr := { s.atr with reconfig := none } } := by
  obtain ⟨hreach, htime, -⟩ := s.reach_spec d
  refine ⟨(s.reach d).time, htime, ?_⟩
  generalize (s.reach d).time = tm at hreach
  rw [hreach]
  exact State.endReconfig_of_running (s := State.cinc { s with time := tm } .atrCnt 0 (16 * p + 14)) hr

/-! ### Block lock -/

/-- What a receiver has settled on stands in its lane's word (R108, R109). -/
theorem fld_rxstat {gain tap eye : Nat} (hg : gain < 256) (ht : tap < 256) (he : eye < 256) :
    fld (BitVec.ofNat 32 (15 + 16 * gain + 4096 * tap + 1048576 * eye)) 0 4 = 15 ∧
    fld (BitVec.ofNat 32 (15 + 16 * gain + 4096 * tap + 1048576 * eye)) 4 8 = gain ∧
    fld (BitVec.ofNat 32 (15 + 16 * gain + 4096 * tap + 1048576 * eye)) 12 8 = tap ∧
    fld (BitVec.ofNat 32 (15 + 16 * gain + 4096 * tap + 1048576 * eye)) 20 8 = eye := by
  simp only [fld, BitVec.toNat_ofNat]
  omega

theorem State.rget_settleLane (s : State) (l : Nat) (rx : LaneRx) : (s.settleLane l rx).rget .atrLaneRxstat 0 l =
    BitVec.ofNat 32 (15 + 16 * (if s.rfld .atrLaneRxstat 0 l 3 1 = 1 then s.rfld .atrLaneRxstat 0 l 4 8 else rx.gain.toNat) +
      4096 * (if s.rfld .atrLaneCtl 0 l 2 1 = 1 then s.rfld .atrLaneRxstat 0 l 12 8 else rx.tap1.toNat) +
      1048576 * rx.eye.toNat) := by
  refine (State.rget_rset_self ..).trans ?_
  by_cases hf : s.rfld .atrLaneCtl 0 l 2 1 = 1
  · rw [if_pos hf, if_pos (decide_eq_true hf)]
    rfl
  · rw [if_neg hf, if_neg (mt of_decide_eq_true hf)]
    rfl

theorem State.settleLane_portsOnly (s : State) (l : Nat) (rx : LaneRx) : (s.settleLane l rx).portsOnly s := ⟨_, _, rfl⟩

theorem State.settleLane_regsKept (s : State) (l : Nat) (rx : LaneRx) : (s.settleLane l rx).regsKept s [regAddr .atrLaneRxstat 0 l] :=
  s.regsKept_rset .atrLaneRxstat 0 l _

/-- A settled lane's LOCKED bit set, the link status looked at. -/
def State.laneLocked (s : State) (l : Nat) (rx : LaneRx) (p : Nat) : State :=
  ((s.settleLane l rx).rsetFld .atrPortStatus 0 p (16 + (l - cfgBase (s.portCfg p))) 1 1).tryHold p

theorem exec_blockLock_of_inUse {s : State} {l : Fin 96} {p : Nat} (rx : LaneRx) (ho : s.laneOwner l = some p)
    (h : (s.usedLanes p).contains l.val ∧ 3 ≤ s.portState p ∧ s.portState p ≤ 5 ∧ s.laneOk l = true ∧
      (cfgAn (s.portCfg p) = true → (s.port p).ready = true)) : exec (.blockLock l rx) s = .next (s.laneLocked l rx p) := by
  have e : exec (.blockLock l rx) s = execBlockLock l rx s := rfl
  rw [e, execBlockLock, ho]
  exact if_pos h

theorem State.laneLocked_portsOnly (s : State) (l : Nat) (rx : LaneRx) (p : Nat) : (s.laneLocked l rx p).portsOnly s :=
  State.portsOnly_trans (State.tryHold_portsOnly ..) (State.portsOnly_trans ⟨_, _, rfl⟩ (s.settleLane_portsOnly l rx))

/-- Its word is the settled one: only ATR_PORT_STATUS is written after it. -/
theorem State.rget_laneLocked (s : State) {l : Nat} (rx : LaneRx) {p : Nat} (_ : p < 96) :
    (s.laneLocked l rx p).rget .atrLaneRxstat 0 l = (s.settleLane l rx).rget .atrLaneRxstat 0 l := by
  have hne : regAddr .atrLaneRxstat 0 l ∉ [regAddr .atrPortStatus 0 p] := by
    rw [List.mem_singleton, regAddr_atrLaneRxstat, regAddr_atrPortStatus]
    omega
  exact (State.rget_of_regsKept (State.tryHold_regsKept _ p) hne).trans
    (State.rget_of_regsKept (State.regsKept_rsetFld _ _ _ _ _ _ _) hne)

theorem State.rfld_laneLocked (s : State) {l : Nat} (rx : LaneRx) {p : Nat} (h : l < cfgBase (s.portCfg p) + 8) :
    (s.laneLocked l rx p).rfld .atrPortStatus 0 p (16 + (l - cfgBase (s.portCfg p))) 1 = 1 :=
  (State.rfld_tryHold _ _ (by omega)).trans (State.rfld_rsetFld_self _ _ _ _ _ (by omega))

theorem State.laneLocked_regsKept (s : State) (l : Nat) (rx : LaneRx) (p : Nat) :
    (s.laneLocked l rx p).regsKept s [regAddr .atrLaneRxstat 0 l, regAddr .atrPortStatus 0 p] :=
  ((State.tryHold_regsKept _ p).mono (by simp)).trans (((State.regsKept_rsetFld _ _ _ _ _ _ _).mono (by simp)).trans
    ((s.settleLane_regsKept l rx).mono (by simp)))

theorem blockLock_of_inUse {s : State} {l : Fin 96} {p : Nat} (rx : LaneRx) (ho : s.laneOwner l = some p)
    (h : (s.usedLanes p).contains l.val ∧ 3 ≤ s.portState p ∧ s.portState p ≤ 5 ∧ s.laneOk l = true ∧
      (cfgAn (s.portCfg p) = true → (s.port p).ready = true)) :
    ∃ t, exec (.blockLock l rx) s = .next t ∧ t.rfld .atrLaneRxstat 0 l 0 4 = 15 ∧
      t.rfld .atrLaneRxstat 0 l 4 8 = (if s.rfld .atrLaneRxstat 0 l 3 1 = 1 then s.rfld .atrLaneRxstat 0 l 4 8 else rx.gain.toNat) ∧
      t.rfld .atrLaneRxstat 0 l 12 8 = (if s.rfld .atrLaneCtl 0 l 2 1 = 1 then s.rfld .atrLaneRxstat 0 l 12 8 else rx.tap1.toNat) ∧
      t.rfld .atrLaneRxstat 0 l 20 8 = rx.eye.toNat ∧
      t.rfld .atrPortStatus 0 p (16 + (l.val - cfgBase (s.portCfg p))) 1 = 1 ∧
      t.regsKept s [regAddr .atrLaneRxstat 0 l, regAddr .atrPortStatus 0 p] ∧ t = { s with regs := t.regs, atr := t.atr } := by
  obtain ⟨hp, -, hl⟩ := State.laneOwner_spec ho
  have hword := (s.rget_laneLocked (l := l) rx hp).trans (s.rget_settleLane l rx)
  have hgain : (if s.rfld .atrLaneRxstat 0 l 3 1 = 1 then s.rfld .atrLaneRxstat 0 l 4 8 else rx.gain.toNat) < 256 := by
    split
    · exact fld_lt _ 4 8
    · exact rx.gain.isLt
  have htap : (if s.rfld .atrLaneCtl 0 l 2 1 = 1 then s.rfld .atrLaneRxstat 0 l 12 8 else rx.tap1.toNat) < 256 := by
    split
    · exact fld_lt _ 12 8
    · exact rx.tap1.isLt
  obtain ⟨hlow, hg, ht, heye⟩ := fld_rxstat hgain htap rx.eye.isLt
  exact ⟨_, exec_blockLock_of_inUse rx ho h, (congrArg (fld · 0 4) hword).trans hlow, (congrArg (fld · 4 8) hword).trans hg,
    (congrArg (fld · 12 8) hword).trans ht, (congrArg (fld · 20 8) hword).trans heye,
    s.rfld_laneLocked rx (State.mem_portLanes_bounds hl).2.1, s.laneLocked_regsKept l rx p, (s.laneLocked_portsOnly l rx p).eq⟩

/-! ### Block lock lost -/

/-- A lane's lock goes, then its AGC. -/
theorem State.rfld_releaseAgc_one (s : State) (l : Nat) (h : s.rfld .atrLaneRxstat 0 l 2 1 = 0) :
    (s.releaseAgc [l]).rfld .atrLaneRxstat 0 l 2 1 = 0 ∧ (s.releaseAgc [l]).rfld .atrLaneRxstat 0 l 3 1 = 0 :=
  ⟨(State.rfld_rsetFld_field _ _ _ _ _ (.inl (by omega))).trans h, State.rfld_rsetFld_self _ _ _ _ _ (by omega)⟩

theorem State.rfld_unlock_one (s : State) {p : Nat} (_ : p < 96) (l : Nat) : (s.unlock p [l]).rfld .atrLaneRxstat 0 l 2 1 = 0 :=
  (State.rfld_rsetFld_ne _ _ _ _ _ _ (by rw [regAddr_atrLaneRxstat, regAddr_atrPortStatus]; omega)).trans
    (State.rfld_rsetFld_self _ _ _ _ _ (by omega))

/-- Neither changes the port's STATE. -/
theorem State.portState_unlockRelease_one (s : State) {p : Nat} (_ : p < 96) (l : Nat) :
    ((s.unlock p [l]).releaseAgc [l]).portState p = s.portState p := by
  have hne : regAddr .atrPortStatus 0 p ≠ regAddr .atrLaneRxstat 0 l := by
    rw [regAddr_atrLaneRxstat, regAddr_atrPortStatus]
    omega
  exact (State.rfld_rsetFld_ne _ _ _ _ _ _ hne).trans ((State.rfld_rsetFld_field _ _ _ _ _ (.inl (by omega))).trans
    (State.rfld_rsetFld_ne _ _ _ _ _ _ hne))

theorem blockLockLost_of_locked {s : State} {l : Fin 96} (h : s.rfld .atrLaneRxstat 0 l 2 1 = 1) :
    ∃ t, exec (.blockLockLost l) s = .next t ∧ t.rfld .atrLaneRxstat 0 l 2 1 = 0 ∧ t.rfld .atrLaneRxstat 0 l 3 1 = 0 ∧
      (∀ p, s.laneOwner l = some p → s.portState p = 4 → (t.port p).holdFrom = none) ∧ t = { s with regs := t.regs, atr := t.atr } := by
  have e : exec (.blockLockLost l) s = execBlockLockLost l s := rfl
  rw [e, execBlockLockLost, if_pos h]
  cases ho : s.laneOwner l with
  | none =>
    obtain ⟨hlock, hagc⟩ := (s.rsetFld .atrLaneRxstat 0 l 2 1 0).rfld_releaseAgc_one l (State.rfld_rsetFld_self _ _ _ _ _ (by omega))
    exact ⟨_, rfl, hlock, hagc, fun p hp => by simp at hp, rfl⟩
  | some p =>
    have hp := (State.laneOwner_spec ho).1
    obtain ⟨hlock, hagc⟩ := (s.unlock p [l]).rfld_releaseAgc_one l (s.rfld_unlock_one hp l)
    dsimp only
    rw [s.portState_unlockRelease_one hp]
    by_cases h4 : s.portState p = 4
    · rw [if_pos h4]
      refine ⟨_, rfl, hlock, hagc, fun q hq _ => ?_, rfl⟩
      cases hq
      rw [State.port_setPort_self]
    · rw [if_neg h4]
      exact ⟨_, rfl, hlock, hagc, fun q hq h => absurd (by cases hq; exact h) h4, rfl⟩

/-- Settles O41: each of the four rows by what it writes into the lanes' and the port's words. -/
theorem laneLock : Obligations.LaneLock := by
  intro s
  refine ⟨fun p ctle h3 han hok => receiverLock_of_adapting ⟨h3, han, hok⟩, fun p since hr h3 hready => ?_,
    fun l rx p ho hu h3 h5 hok hr => blockLock_of_inUse rx ho ⟨List.contains_iff_mem.2 hu, h3, h5, hok, hr⟩,
    fun l h => blockLockLost_of_locked h⟩
  obtain ⟨tm, htime, he⟩ := s.reconfigMissed_spec (since + 200000000) hr
  refine ⟨_, (exec_reconfigLockTimeout_of_adapting hr h3 hready).trans (congrArg Host.Outcome.next he), rfl, htime,
    State.cget_cinc_self .., fun a ha => nget_nputD_ne _ _ _ fun e => ha (e ▸ List.mem_singleton_self _), rfl⟩

end Sys2Proof.Machine

/-!
PROOF. A link comes up and goes down (R115, R116).
-/

namespace Sys2Proof.Machine

/-! ### A PCS that asserts hi_ber -/

theorem State.hiBer_of_ne (s : State) (p : Nat) {cause : LinkLoss} (h : cause ≠ .hiBer) : s.hiBer p cause = s := by
  cases cause with
  | hiBer => exact absurd rfl h
  | blockLock => rfl
  | alignment => rfl

theorem State.hiBer_flagsOnly (s : State) (p : Nat) (cause : LinkLoss) : (s.hiBer p cause).flagsOnly s := by
  by_cases h : cause = .hiBer
  · subst h
    exact (State.cinc_flagsOnly _ .atrCnt 0 (16 * p + 12)).trans (s.flag_flagsOnly .atrPortErr 0 p 3)
  · rw [s.hiBer_of_ne p h]
    exact s.flagsOnly_refl

theorem State.hiBer_regsKept (s : State) (p : Nat) (cause : LinkLoss) :
    (s.hiBer p cause).regsKept s [regAddr .atrPortErr 0 p, regAddr .curEventLost 0 0] := by
  by_cases h : cause = .hiBer
  · subst h
    exact s.regsKept_flag .atrPortErr 0 p 3
  · rw [s.hiBer_of_ne p h]
    exact s.regsKept_refl _

theorem State.hiBer_atr (s : State) (p : Nat) (cause : LinkLoss) : (s.hiBer p cause).atr = s.atr := by
  rw [(s.hiBer_flagsOnly p cause).eq]

theorem State.hiBer_flags (s : State) (p : Nat) : (s.hiBer p .hiBer).rfld .atrPortErr 0 p 3 1 = 1 :=
  s.flag_sets .atrPortErr 0 p (by omega) (regAddr_atrPortErr_ne_curEventLost 0 p)

theorem State.hiBer_counts (s : State) (p : Nat) :
    (s.hiBer p .hiBer).cget .atrCnt 0 (16 * p + 12) = s.cget .atrCnt 0 (16 * p + 12) + 1 :=
  (State.cget_cinc_self _ _ _ _).trans (congrArg (· + 1) (State.cget_flag ..))

/-- The count of links down is another counter. -/
theorem State.cget_hiBer_downs (s : State) (p : Nat) (cause : LinkLoss) :
    (s.hiBer p cause).cget .atrCnt 0 (16 * p + 13) = s.cget .atrCnt 0 (16 * p + 13) := by
  by_cases h : cause = .hiBer
  · subst h
    exact (State.cget_cadd_ne _ _ (by rw [regAddr_atrCnt, regAddr_atrCnt]; omega)).trans (State.cget_flag ..)
  · rw [s.hiBer_of_ne p h]

theorem State.portState_hiBer (s : State) (p : Nat) (cause : LinkLoss) : (s.hiBer p cause).portState p = s.portState p :=
  congrArg (fld · 0 3) (State.rget_of_regsKept (s.hiBer_regsKept p cause) (by
    simp only [List.mem_cons, List.not_mem_nil, or_false, regAddr_atrPortStatus, regAddr_atrPortErr, regAddr_curEventLost]
    omega))

theorem State.portCfg_hiBer (s : State) {p : Nat} (hp : p < 96) (cause : LinkLoss) : (s.hiBer p cause).portCfg p = s.portCfg p :=
  State.rget_of_regsKept (s.hiBer_regsKept p cause) (by
    simp only [List.mem_cons, List.not_mem_nil, or_false, regAddr_atrPortCfg, regAddr_atrPortErr, regAddr_curEventLost]
    omega)

/-- Flagging the link that goes down leaves the flag and the count of HI_BER. -/
theorem State.linkFlagged_keeps_hiBer (s : State) {p : Nat} (hp : p < 96) :
    (s.linkFlagged p).rfld .atrPortErr 0 p 3 1 = s.rfld .atrPortErr 0 p 3 1 ∧
      (s.linkFlagged p).cget .atrCnt 0 (16 * p + 12) = s.cget .atrCnt 0 (16 * p + 12) := by
  constructor
  · rw [State.rfld, s.rget_linkFlagged_atrPortErr hp]
    exact s.rfld_flag_ne (regAddr_atrPortErr_ne_curEventLost 0 p) (by omega)
  · exact (State.cget_cadd_ne _ _ (by rw [regAddr_atrCnt, regAddr_atrCnt]; omega)).trans (State.cget_flag ..)

/-! ### LINK_DOWN, LINK_FAIL_INHIBIT_EXPIRY, LINK_UP_HOLD_EXPIRY -/

theorem exec_linkDown_of_up {s : State} {p : Fin 96} (cause : LinkLoss) (h : s.portState p = 5) :
    exec (.linkDown p cause) s = .next (((s.hiBer p cause).dropLink p).againAfterLoss p) := by
  have h5 : (s.hiBer p cause).portState p = 5 := (s.portState_hiBer p cause).trans h
  exact (if_pos h).trans (congrArg Host.Outcome.next (if_pos h5))

theorem exec_linkDown_of_hold {s : State} {p : Fin 96} (cause : LinkLoss) (h : s.portState p = 4) :
    exec (.linkDown p cause) s =
      .next ((s.hiBer p cause).setPort p { (s.hiBer p cause).port p with holdFrom := none }) :=
  (if_neg (by omega)).trans (if_pos h)

theorem exec_linkFailInhibitExpiry_of_hold {s : State} {p : Fin 96}
    (h : s.portState p = 4 ∧ cfgAn (s.portCfg p) = true ∧ (s.port p).holdFrom = none) :
    exec (.linkFailInhibitExpiry p) s = .next (s.restartAn p) := if_pos h

/-- The link is up at a deadline: its STATE and the traffic manager's flag. -/
def State.linkUp (s : State) (p deadline : Nat) : State :=
  ((s.reach deadline).setPortState p 5).rsetFld .tmgPortState 0 p 0 1 0

theorem exec_linkUpHoldExpiry_of_hold {s : State} {p : Fin 96} {h : Nat} (h4 : s.portState p = 4) (hh : (s.port p).holdFrom = some h) :
    ∃ b, exec (.linkUpHoldExpiry p) s =
      .next ((((s.linkUp p (h + s.rfld .atrLinkCfg 0 0 0 10 * 1000000)).wakePort p).endReconfig p).raise 6 0 0 b) := by
  have e : exec (.linkUpHoldExpiry p) s = execLinkUpHoldExpiry p s := rfl
  rw [e, execLinkUpHoldExpiry, h4, hh]
  exact ⟨_, rfl⟩

theorem State.linkUp_spec (s : State) (p d : Nat) : ∃ x g, s.linkUp p d = { s with time := x, regs := g } := by
  rw [State.linkUp, (s.reach_spec d).1]
  exact ⟨_, _, rfl⟩

theorem State.portState_linkUp (s : State) {p : Nat} (_ : p < 96) (d : Nat) : (s.linkUp p d).portState p = 5 :=
  (State.rfld_rsetFld_ne _ _ _ _ _ _ (by rw [regAddr_atrPortStatus, regAddr_tmgPortState]; omega)).trans
    (State.portState_setPortState _ _ (by omega))

theorem State.linkUp_tells (s : State) (p d : Nat) : (s.linkUp p d).rfld .tmgPortState 0 p 0 1 = 0 :=
  State.rfld_rsetFld_self _ _ _ _ _ (by omega)

theorem State.le_t_linkUp (s : State) (p : Nat) {d : Nat} (hd : d < 2 ^ 64) : d ≤ (s.linkUp p d).t :=
  (s.reach_spec d).2.1 hd

/-- Waking a port's legs changes the traffic manager and its counters alone. -/
theorem State.wakePort_spec (s : State) (p : Nat) : ∃ x c, s.wakePort p = { s with tmg := x, ctrs := c } := by
  have hone (t : State) (level i parent : Nat) (e : Bool) : ∃ x c, t.wakeOne level i parent e = { t with tmg := x, ctrs := c } := by
    unfold State.wakeOne
    dsimp only
    split
    · exact ⟨t.tmg, t.ctrs, rfl⟩
    · split
      · exact ⟨_, _, rfl⟩
      · exact ⟨_, t.ctrs, rfl⟩
  refine List.foldlRecOn (motive := fun t : State => ∃ x c, t = { s with tmg := x, ctrs := c }) _ _ ⟨s.tmg, s.ctrs, rfl⟩ ?_
  rintro t ⟨x, c, rfl⟩ l -
  unfold State.wakeLeg
  dsimp only
  obtain ⟨x', c', h⟩ := hone { s with tmg := x, ctrs := c } 2 l (State.legGroup { s with tmg := x, ctrs := c } l)
    (State.legEligible { s with tmg := x, ctrs := c } l)
  rw [h]
  obtain ⟨x', c', h⟩ := hone { s with tmg := x', ctrs := c' } 1 (State.legGroup { s with tmg := x, ctrs := c } l)
    (State.legPort { s with tmg := x', ctrs := c' } l) (State.groupEligible { s with tmg := x', ctrs := c' }
      (State.legGroup { s with tmg := x, ctrs := c } l) (State.legPort { s with tmg := x', ctrs := c' } l))
  exact ⟨x', c', h⟩

/-- Beyond the Atrium's part in it, a link that comes up changes no register but the count of events lost. -/
theorem State.linkUp_finish {u t : State} {p code : Nat} {b : Bytes} (h : ((u.wakePort p).endReconfig p).raise code 0 0 b = t) :
    t.regsKept u [regAddr .curEventLost 0 0] ∧ t = { u with
      regs := t.regs, ctrs := t.ctrs, cur := t.cur, mgmt := t.mgmt, tmg := t.tmg, atr := (u.endReconfig p).atr } := by
  obtain ⟨x, c, hw⟩ := u.wakePort_spec p
  have he : (u.wakePort p).endReconfig p = { u with tmg := x, ctrs := c, atr := (u.endReconfig p).atr } := by
    rw [hw, State.endReconfig_eq, State.endReconfig_eq]
  rw [he] at h
  have hev : t.eventsOnly { u with tmg := x, ctrs := c, atr := (u.endReconfig p).atr } := h ▸ State.raise_eventsOnly ..
  refine ⟨fun a ha => State.regsKept_of_eventsOnly hev a ha, ?_⟩
  obtain ⟨y, m, g, rfl, -⟩ := hev
  rfl

theorem linkDown_of_up {s : State} {p : Fin 96} (cause : LinkLoss) (h : s.portState p = 5) :
    ∃ u t : State, u.rfld .atrPortErr 0 p 0 1 = 1 ∧ u.cget .atrCnt 0 (16 * p + 13) = s.cget .atrCnt 0 (16 * p + 13) + 1 ∧
      u.rfld .tmgPortState 0 p 0 1 = 1 ∧ (cause = .hiBer → u.rfld .atrPortErr 0 p 3 1 = 1 ∧
        u.cget .atrCnt 0 (16 * p + 12) = s.cget .atrCnt 0 (16 * p + 12) + 1) ∧
      u = { s with regs := u.regs, ctrs := u.ctrs, cur := u.cur, mgmt := u.mgmt } ∧
      t = ((u.drainPort p).raise 5 0 0 [byteOf p]).againAfterLoss p ∧ exec (.linkDown p cause) s = .next t ∧
      t.portState p = (if cfgAn (s.portCfg p) then 1 else 3) := by
  have hdrop : (s.hiBer p cause).dropLink p = (((s.hiBer p cause).linkFlagged p).drainPort p).raise 5 0 0 [byteOf p] :=
    State.dropLink_of_up ((s.portState_hiBer p cause).trans h)
  have hcfg : ((s.hiBer p cause).dropLink p).portCfg p = s.portCfg p :=
    (State.portCfg_dropLink _ _ p.isLt).trans (s.portCfg_hiBer p.isLt cause)
  refine ⟨(s.hiBer p cause).linkFlagged p, _, State.linkFlagged_flags _ p.isLt, ?_, State.linkFlagged_tells .., ?_,
    ((State.linkFlagged_flagsOnly ..).trans (s.hiBer_flagsOnly p cause)).eq, congrArg (State.againAfterLoss · p) hdrop,
    exec_linkDown_of_up cause h, ?_⟩
  · rw [State.linkFlagged_counts, s.cget_hiBer_downs]
  · rintro rfl
    obtain ⟨hflag, hcount⟩ := (s.hiBer p .hiBer).linkFlagged_keeps_hiBer p.isLt
    exact ⟨hflag.trans (s.hiBer_flags p), hcount.trans (s.hiBer_counts p)⟩
  · rw [State.portState_againAfterLoss, hcfg]

theorem linkDown_of_hold {s : State} {p : Fin 96} (cause : LinkLoss) (h : s.portState p = 4) :
    ∃ t, exec (.linkDown p cause) s = .next t ∧ t.atr = (s.setPort p { s.port p with holdFrom := none }).atr ∧
      (cause ≠ .hiBer → t = { s with atr := t.atr }) ∧
      (cause = .hiBer → t.rfld .atrPortErr 0 p 3 1 = 1 ∧ t.cget .atrCnt 0 (16 * p + 12) = s.cget .atrCnt 0 (16 * p + 12) + 1) := by
  refine ⟨_, exec_linkDown_of_hold cause h, ?_, fun hc => ?_, ?_⟩
  · rw [State.setPort, s.hiBer_atr, State.port_congr (s.hiBer_atr p cause), State.setPort]
  · rw [s.hiBer_of_ne p hc]
    rfl
  · rintro rfl
    exact ⟨s.hiBer_flags p, s.hiBer_counts p⟩

/-- What the end of a hold that lasted until a deadline leaves. -/
theorem State.linkUp_result {s t : State} {p d code : Nat} {b : Bytes} (hp : p < 96)
    (h : (((s.linkUp p d).wakePort p).endReconfig p).raise code 0 0 b = t) :
    t.portState p = 5 ∧ t.rfld .tmgPortState 0 p 0 1 = 0 ∧ (d < 2 ^ 64 → d ≤ t.t) ∧
      (∀ x, s.atr.reconfig = some (p, x) → t.atr.reconfig = none) ∧ t.otp = s.otp ∧ t.m = s.m ∧ t.objs = s.objs := by
  obtain ⟨hregs, heq⟩ := State.linkUp_finish h
  obtain ⟨t0, g0, hup⟩ := s.linkUp_spec p d
  have hget {r : Reg} {i : Nat} (ha : regAddr r 0 i ≠ regAddr .curEventLost 0 0) : t.rget r 0 i = (s.linkUp p d).rget r 0 i :=
    State.rget_of_regsKept hregs fun hm => ha (List.mem_singleton.1 hm)
  refine ⟨?_, ?_, fun hd => ?_, fun y hy => ?_, ?_⟩
  · rw [State.portState, State.rfld, hget (by rw [regAddr_atrPortStatus, regAddr_curEventLost]; omega)]
    exact s.portState_linkUp hp d
  · rw [State.rfld, hget (by rw [regAddr_tmgPortState, regAddr_curEventLost]; omega)]
    exact s.linkUp_tells p d
  · rw [heq]
    exact s.le_t_linkUp p hd
  · rw [heq, State.endReconfig_of_running (s := s.linkUp p d) (by rw [hup]; exact hy)]
  · rw [heq, hup]
    exact ⟨rfl, rfl, rfl⟩

theorem linkUpHoldExpiry_of_hold {s : State} {p : Fin 96} {h : Nat} (h4 : s.portState p = 4) (hh : (s.port p).holdFrom = some h) :
    ∃ t, exec (.linkUpHoldExpiry p) s = .next t ∧ t.portState p = 5 ∧ t.rfld .tmgPortState 0 p 0 1 = 0 ∧
      (h + 2 ^ 31 < 2 ^ 64 → h + s.rfld .atrLinkCfg 0 0 0 10 * 1000000 ≤ t.t) ∧
      (∀ x, s.atr.reconfig = some (p.val, x) → t.atr.reconfig = none) ∧ t.otp = s.otp ∧ t.m = s.m ∧ t.objs = s.objs := by
  obtain ⟨b, he⟩ := exec_linkUpHoldExpiry_of_hold h4 hh
  obtain ⟨hstate, htold, htime, hend⟩ := State.linkUp_result p.isLt (Eq.refl (((s.linkUp p
    (h + s.rfld .atrLinkCfg 0 0 0 10 * 1000000)).wakePort p).endReconfig p |>.raise 6 0 0 b))
  have hms : s.rfld .atrLinkCfg 0 0 0 10 < 2 ^ 10 := fld_lt _ 0 10
  exact ⟨_, he, hstate, htold, fun hb => htime (by omega), hend⟩

/-- Settles O42: an up port's link goes down by its flags and counters, the drain and the start anew; in hold-off the hold ends;
a hold that lasts brings the link up. -/
theorem linkUpAndDown : Obligations.LinkUpAndDown := by
  intro s p
  refine ⟨fun cause h => linkDown_of_up cause h, fun cause h => linkDown_of_hold cause h, fun h4 han hh => ?_,
    fun h h4 hh => linkUpHoldExpiry_of_hold h4 hh⟩
  refine ⟨_, exec_linkFailInhibitExpiry_of_hold ⟨h4, han, hh⟩, s.portState_restartAn p, ?_, (s.restartAn_linksOnly p.isLt).eq⟩
  rw [s.port_restartAn]

end Sys2Proof.Machine

/-!
PROOF. Break-link, auto-negotiation and training (R103 to R107, R112).
-/

namespace Sys2Proof.Machine

/-! ### Clause 73 starts (R103) -/

/-- The bits of an offer are the abilities it was made of. -/
theorem getLsbD_foldl_or_twoPow (l : List Nat) (a : BitVec 11) {i : Nat} (hi : i < 11) :
    (l.foldl (fun a i => a ||| BitVec.twoPow 11 i) a).getLsbD i = (a.getLsbD i || decide (i ∈ l)) := by
  induction l generalizing a with
  | nil => simp
  | cons k r ih =>
    rw [List.foldl_cons, ih, BitVec.getLsbD_or, BitVec.getLsbD_twoPow]
    by_cases hk : i = k
    · subst hk
      simp [hi]
    · simp [hi, hk, Ne.symm hk]

/-- AN begins: STATE 2, the surviving abilities offered with the FEC bits F2 alone. -/
theorem State.beginAn_spec (s : State) (p : Nat) : (s.beginAn p).portState p = 2 ∧ (s.beginAn p).regsKept s [regAddr .atrPortStatus 0 p] ∧
    (∃ offer : BitVec 11, ((s.beginAn p).port p).offered = some (offer, 4) ∧
      ∀ i < 11, (offer.getLsbD i = true ↔ i ∈ s.surviving (s.portCfg p) (s.portAdv p))) ∧
    (∀ q, q ≠ p → (s.beginAn p).port q = s.port q) ∧
    s.beginAn p = { s with regs := (s.beginAn p).regs, atr := { s.atr with ports := (s.beginAn p).atr.ports } } := by
  refine ⟨State.portState_setPortState _ _ (by omega), fun a ha => State.regsKept_rsetFld _ .atrPortStatus 0 p 0 3 2 a ha,
    ⟨_, congrArg PortSt.offered (s.port_setPort_self p _), fun i hi => ?_⟩, fun q hq => s.port_setPort_ne _ hq, rfl⟩
  rw [getLsbD_foldl_or_twoPow _ _ hi]
  simp

theorem exec_breakLinkTimerExpiry_of_break {s : State} {p : Fin 96} (h : s.portState p = 1) (hok : s.laneOk (cfgBase (s.portCfg p)) = true) :
    exec (.breakLinkTimerExpiry p) s = .next (s.beginAn p) := if_pos ⟨h, hok⟩

theorem exec_breakLinkTimerExpiry_of_noCommon {s : State} {p : Fin 96} (h : s.portState p = 6)
    (hok : s.laneOk (cfgBase (s.portCfg p)) = true) :
    exec (.breakLinkTimerExpiry p) s = .next ((s.cinc .atrCnt 0 (16 * p + 14)).beginAn p) :=
  (if_neg (by omega)).trans (if_pos ⟨h, hok⟩)

theorem breakLinkTimerExpiry_of_idle {s : State} {p : Fin 96} (h : s.portState p = 1 ∨ s.portState p = 6)
    (hok : s.laneOk (cfgBase (s.portCfg p)) = true) :
    ∃ t, exec (.breakLinkTimerExpiry p) s = .next t ∧ t.portState p = 2 ∧ t.regsKept s [regAddr .atrPortStatus 0 p] ∧
      (∃ offer : BitVec 11, (t.port p).offered = some (offer, 4) ∧
        ∀ i < 11, (offer.getLsbD i = true ↔ i ∈ s.surviving (s.portCfg p) (s.portAdv p))) ∧
      (∀ q, q ≠ p.val → t.port q = s.port q) ∧
      t = { s with regs := t.regs, ctrs := t.ctrs, atr := { s.atr with ports := t.atr.ports } } ∧
      t.ctrsKept s [regAddr .atrCnt 0 (16 * p + 14)] ∧
      t.cget .atrCnt 0 (16 * p + 14) = s.cget .atrCnt 0 (16 * p + 14) + (if s.portState p = 6 then 1 else 0) := by
  rcases h with h | h
  · obtain ⟨hst, hregs, hoffer, hports, heq⟩ := s.beginAn_spec p
    refine ⟨_, exec_breakLinkTimerExpiry_of_break h hok, hst, hregs, hoffer, hports, ?_, fun _ _ => rfl, ?_⟩
    · rw [heq]
    · rw [if_neg (by omega), heq]
      exact (BitVec.add_zero _).symm
  · obtain ⟨hst, hregs, hoffer, hports, heq⟩ := (s.cinc .atrCnt 0 (16 * p + 14)).beginAn_spec p
    refine ⟨_, exec_breakLinkTimerExpiry_of_noCommon h hok, hst, hregs, hoffer, hports, ?_,
      fun a ha => nget_nputD_ne _ _ _ fun e => ha (e ▸ List.mem_singleton_self _), ?_⟩
    · rw [heq]
      rfl
    · rw [if_pos h]
      exact s.cget_cinc_self .atrCnt 0 (16 * p + 14)

/-! ### Auto-negotiation ends (R103 to R106) -/

theorem abilityMode_lt (i : Nat) : abilityMode i < 11 := by
  rcases Nat.lt_or_ge i 11 with h | h
  · exact (by decide : ∀ i < 11, abilityMode i < 11) i h
  · rw [abilityMode, List.getD_eq_default _ _ h]
    omega

theorem resolvedFec_abilityMode_lt (i : Nat) : resolvedFec (abilityMode i) < 4 :=
  (by decide : ∀ m < 11, resolvedFec m < 4) _ (abilityMode_lt i)

/-- Training begins in the resolved mode, the port not ready. -/
def State.negotiated (s : State) (p mode : Nat) : State :=
  (((s.setPort p { s.port p with ready := false, holdFrom := none }).releaseAgc (s.portLanes p)).setPortMode p mode
    (resolvedFec mode)).setPortState p 3

theorem State.negotiated_linksOnly (s : State) {p : Nat} (hp : p < 96) (mode : Nat) : (s.negotiated p mode).linksOnly s :=
  (State.setPortState_linksOnly _ hp _).trans ((State.setPortMode_linksOnly _ hp _ _).trans
    ((State.releaseAgc_linksOnly _ State.portLanes_lt).trans (s.setPort_linksOnly p _)))

theorem State.ready_negotiated (s : State) (p mode : Nat) : ((s.negotiated p mode).port p).ready = false := by
  have h : (s.negotiated p mode).atr = (s.setPort p { s.port p with ready := false, holdFrom := none }).atr := State.releaseAgc_atr _ _
  rw [State.port_congr h, State.port_setPort_self]

theorem State.negotiated_fields (s : State) (p mode : Nat) : (s.negotiated p mode).portState p = 3 ∧
    (s.negotiated p mode).rfld .atrPortStatus 0 p 4 4 = mode % 16 ∧ (s.negotiated p mode).rfld .atrPortStatus 0 p 8 2 = resolvedFec mode % 4 :=
  ⟨State.portState_setPortState _ _ (by omega),
    (State.rfld_rsetFld_field _ _ _ _ _ (.inr (by omega))).trans ((State.rfld_rsetFld_field _ _ _ _ _ (.inl (by omega))).trans
      (State.rfld_rsetFld_self _ _ _ _ _ (by omega))),
    (State.rfld_rsetFld_field _ _ _ _ _ (.inr (by omega))).trans (State.rfld_rsetFld_self _ _ _ _ _ (by omega))⟩

/-- NO_COMMON set and STATE 6. -/
def State.noCommon (s : State) (p : Nat) : State := (s.flag .atrPortErr 0 p 1).setPortState p 6

theorem exec_anComplete_of_restart {s : State} {p : Fin 96} (h : s.portState p = 2) :
    exec (.anComplete p none) s = .next (s.setPortState p 1) := if_pos h

theorem exec_anComplete_of_noCommon {s : State} {p : Fin 96} {able : BitVec 11} (h : s.portState p = 2)
    (hb : bestAbility ((s.surviving (s.portCfg p) (s.portAdv p)).filter fun i => able.getLsbD i) = none) :
    exec (.anComplete p (some able)) s = .next ((s.noCommon p).endReconfig p) := by
  have e : exec (.anComplete p (some able)) s = execAnComplete p (some able) s := rfl
  rw [e, execAnComplete, if_pos h]
  dsimp only
  rw [hb]
  rfl

theorem exec_anComplete_of_common {s : State} {p : Fin 96} {able : BitVec 11} {i : Nat} (h : s.portState p = 2)
    (hb : bestAbility ((s.surviving (s.portCfg p) (s.portAdv p)).filter fun i => able.getLsbD i) = some i) :
    exec (.anComplete p (some able)) s = .next (s.negotiated p (abilityMode i)) := by
  have e : exec (.anComplete p (some able)) s = execAnComplete p (some able) s := rfl
  rw [e, execAnComplete, if_pos h]
  dsimp only
  rw [hb]
  rfl

theorem State.rget_endReconfig (s : State) (p : Nat) (r : Reg) (u i : Nat) : (s.endReconfig p).rget r u i = s.rget r u i := by
  rw [State.endReconfig_eq]
  rfl

theorem State.noCommon_flagsOnly (s : State) (p : Nat) : (s.noCommon p).flagsOnly s := by
  obtain ⟨r, c, x, m, h⟩ := s.flag_flagsOnly .atrPortErr 0 p 1
  rw [State.noCommon, h]
  exact ⟨_, _, _, _, rfl⟩

theorem State.noCommon_flags (s : State) {p : Nat} (_ : p < 96) : (s.noCommon p).rfld .atrPortErr 0 p 1 1 = 1 :=
  (State.rfld_rsetFld_ne _ _ _ _ _ _ (by rw [regAddr_atrPortStatus, regAddr_atrPortErr]; omega)).trans
    (s.flag_sets .atrPortErr 0 p (by omega) (regAddr_atrPortErr_ne_curEventLost 0 p))

theorem anComplete_of_noCommon {s : State} {p : Fin 96} {able : BitVec 11} (h : s.portState p = 2)
    (hb : bestAbility ((s.surviving (s.portCfg p) (s.portAdv p)).filter fun i => able.getLsbD i) = none) :
    ∃ t, exec (.anComplete p (some able)) s = .next t ∧ t.otp = s.otp ∧ t.m = s.m ∧
      t.portState p = 6 ∧ t.rfld .atrPortErr 0 p 1 1 = 1 := by
  have honly := (s.noCommon_flagsOnly p).eq
  refine ⟨_, exec_anComplete_of_noCommon h hb, ?_, ?_, ?_, ?_⟩
  · rw [State.endReconfig_eq, honly]
  · rw [State.endReconfig_eq, honly]
  · rw [State.portState, State.rfld, State.rget_endReconfig]
    exact State.portState_setPortState _ p (by omega)
  · rw [State.rfld, State.rget_endReconfig]
    exact s.noCommon_flags p.isLt

theorem anComplete_of_common {s : State} {p : Fin 96} {able : BitVec 11} {i : Nat} (h : s.portState p = 2)
    (hb : bestAbility ((s.surviving (s.portCfg p) (s.portAdv p)).filter fun i => able.getLsbD i) = some i) :
    ∃ t, exec (.anComplete p (some able)) s = .next t ∧ t.otp = s.otp ∧ t.m = s.m ∧ t.portState p = 3 ∧
      t.rfld .atrPortStatus 0 p 4 4 = abilityMode i ∧ t.rfld .atrPortStatus 0 p 8 2 = resolvedFec (abilityMode i) ∧
      (t.port p).ready = false ∧ t = { s with regs := t.regs, atr := t.atr } := by
  have hmode : abilityMode i % 16 = abilityMode i := Nat.mod_eq_of_lt (Nat.lt_trans (abilityMode_lt i) (by omega))
  have hfec : resolvedFec (abilityMode i) % 4 = resolvedFec (abilityMode i) := Nat.mod_eq_of_lt (resolvedFec_abilityMode_lt i)
  obtain ⟨hst, hm, hf⟩ := s.negotiated_fields p (abilityMode i)
  have heq := (s.negotiated_linksOnly p.isLt (abilityMode i)).eq
  exact ⟨_, exec_anComplete_of_common h hb, by rw [heq], by rw [heq], hst, hm.trans hmode,
    hf.trans hfec, s.ready_negotiated p _, heq⟩

/-! ### Training (R107, R112) -/

theorem regAddr_atrLaneTxfir_inj {l k : Nat} (h : l ≠ k) : regAddr .atrLaneTxfir 0 l ≠ regAddr .atrLaneTxfir 0 k := by
  rw [regAddr_atrLaneTxfir, regAddr_atrLaneTxfir]
  omega

/-- The trained coefficients put in use on lanes, one word for each. -/
def State.putFir (s : State) (nrz : Bool) (es : List (Nat × W32)) : State :=
  es.foldl (fun s e => s.rset .atrLaneTxfir 0 e.1 (trainedFir nrz (s.rget .atrLaneTxfir 0 e.1) e.2)) s

theorem State.putFir_portsOnly (s : State) (nrz : Bool) (es : List (Nat × W32)) : (s.putFir nrz es).portsOnly s := by
  unfold State.putFir
  exact State.portsOnly_foldl (fun _ _ => ⟨_, _, rfl⟩) _ s

/-- Every lane keeps its coefficients but those a word is given for, whose are judged against what they were. -/
theorem State.rget_putFir (nrz : Bool) (ls : List Nat) (hls : ls.Nodup) (fir : List W32) (s : State) :
    (∀ l ∉ ls, (s.putFir nrz (ls.zip fir)).rget .atrLaneTxfir 0 l = s.rget .atrLaneTxfir 0 l) ∧
    ∀ (i l : Nat) (w : W32), ls[i]? = some l → fir[i]? = some w →
      (s.putFir nrz (ls.zip fir)).rget .atrLaneTxfir 0 l = trainedFir nrz (s.rget .atrLaneTxfir 0 l) w := by
  induction ls generalizing fir s with
  | nil => exact ⟨fun _ _ => rfl, fun i l w h => by simp at h⟩
  | cons k r ih =>
    cases fir with
    | nil => exact ⟨fun _ _ => rfl, fun i l w _ h => by simp at h⟩
    | cons f fs =>
      obtain ⟨hk, hr⟩ := List.nodup_cons.1 hls
      obtain ⟨hother, hits⟩ := ih hr fs (s.rset .atrLaneTxfir 0 k (trainedFir nrz (s.rget .atrLaneTxfir 0 k) f))
      have hset {l : Nat} (h : l ≠ k) := s.rget_rset_ne (trainedFir nrz (s.rget .atrLaneTxfir 0 k) f) (regAddr_atrLaneTxfir_inj h)
      refine ⟨fun l hl => ?_, fun i l w hl hw => ?_⟩
      · obtain ⟨hlk, hlr⟩ := not_or.1 (mt List.mem_cons.2 hl)
        exact (hother l hlr).trans (hset hlk)
      · cases i with
        | zero =>
          cases hl
          cases hw
          exact (hother k hk).trans (State.rget_rset_self ..)
        | succ i =>
          have hne : l ≠ k := fun e => hk (e ▸ List.mem_of_getElem? hl)
          exact (hits i l w hl hw).trans (by rw [hset hne])

/-- In coefficients trained from 0, c(2) is 0, and in Clause 72 training c(−2) too (R112). -/
theorem trainedFir_zero (nrz : Bool) (w : W32) :
    fld (trainedFir nrz 0 w) 25 6 = 0 ∧ (nrz = true → fld (trainedFir nrz 0 w) 0 6 = 0) := by
  have hzero (lo len : Nat) : fld 0 lo len = 0 := by simp [fld]
  have htop : fld (setFld (w &&& (regInfo .atrLaneTxfir).rw) 25 6 0) 25 6 = 0 := fld_setFld_self _ _ (by omega)
  unfold trainedFir
  generalize setFld (w &&& (regInfo .atrLaneTxfir).rw) 25 6 0 = v at htop
  have hkept : fld (if nrz then setFld v 0 6 0 else v) 25 6 = 0 ∧ (nrz = true → fld (if nrz then setFld v 0 6 0 else v) 0 6 = 0) := by
    cases nrz with
    | false => exact ⟨htop, fun h => by simp at h⟩
    | true => exact ⟨(fld_setFld_ne v 0 (.inr (by omega))).trans htop, fun _ => fld_setFld_self v 0 (by omega)⟩
  dsimp only
  generalize (if nrz then setFld v 0 6 0 else v) = x at hkept
  split
  · exact hkept
  · exact ⟨hzero _ _, fun _ => hzero _ _⟩

theorem exec_trainingDone_of_training {s : State} {p : Fin 96} {fir : List W32} {precode : List Bool} {ctle : List Nat}
    (h : s.portState p = 3 ∧ cfgAn (s.portCfg p) = true ∧ (s.port p).ready = false ∧ (s.usedLanes p).all s.laneOk = true) : ∃ u,
    u = (s.setCtle (s.usedLanes p) ctle).putFir (decide (s.laneRate (cfgBase (s.portCfg p)) ≤ 2)) ((s.usedLanes p).zip fir) ∧
    exec (.trainingDone p fir ⟨precode, ctle⟩) s = .next ((u.setPort p { u.port p with ready := true, precode := precode }).tryHold p) :=
  ⟨_, rfl, if_pos h⟩

theorem State.rget_setCtle (s : State) (ls ctle : List Nat) (r : Reg) (u i : Nat) : (s.setCtle ls ctle).rget r u i = s.rget r u i := by
  have h : (s.setCtle ls ctle).regs = s.regs := by
    unfold State.setCtle
    exact List.foldlRecOn (motive := fun t : State => t.regs = s.regs) _ _ rfl fun t ht _ _ => ht
  rw [State.rget, h, State.rget]

theorem trainingDone_of_training {s : State} {p : Fin 96} (fir : List W32) (precode : List Bool) (ctle : List Nat)
    (h : s.portState p = 3 ∧ cfgAn (s.portCfg p) = true ∧ (s.port p).ready = false ∧ (s.usedLanes p).all s.laneOk = true) :
    ∃ t, exec (.trainingDone p fir ⟨precode, ctle⟩) s = .next t ∧ (t.port p).ready = true ∧ (t.port p).precode = precode ∧
      (∀ (i l : Nat) (w : W32), (s.usedLanes p)[i]? = some l → fir[i]? = some w →
        t.rget .atrLaneTxfir 0 l = trainedFir (decide (s.laneRate (cfgBase (s.portCfg p)) ≤ 2)) (s.rget .atrLaneTxfir 0 l) w ∧
          fld (trainedFir (decide (s.laneRate (cfgBase (s.portCfg p)) ≤ 2)) 0 w) 25 6 = 0 ∧
          (s.laneRate (cfgBase (s.portCfg p)) ≤ 2 →
            fld (trainedFir (decide (s.laneRate (cfgBase (s.portCfg p)) ≤ 2)) 0 w) 0 6 = 0)) ∧
      t = { s with regs := t.regs, atr := t.atr } := by
  obtain ⟨u, hu, he⟩ := exec_trainingDone_of_training (fir := fir) (precode := precode) (ctle := ctle) h
  obtain ⟨hready, honly, hregs⟩ := u.ready_spec p { u.port p with ready := true, precode := precode } rfl
  obtain ⟨hold, hport⟩ := (u.setPort p { u.port p with ready := true, precode := precode }).port_tryHold p
  have hus : u.portsOnly s := hu ▸ State.portsOnly_trans (State.putFir_portsOnly ..) (s.setCtle_portsOnly _ _)
  refine ⟨_, he, hready, ?_, fun i l w hl hw => ⟨?_, ?_⟩, (State.portsOnly_trans honly hus).eq⟩
  · rw [hport, State.port_setPort_self]
  · have hne : regAddr .atrLaneTxfir 0 l ∉ [regAddr .atrPortStatus 0 p] := by
      rw [List.mem_singleton, regAddr_atrLaneTxfir, regAddr_atrPortStatus]
      omega
    obtain ⟨-, hput⟩ := State.rget_putFir (decide (s.laneRate (cfgBase (s.portCfg p)) ≤ 2)) _ (s.nodup_usedLanes p) fir
      (s.setCtle (s.usedLanes p) ctle)
    rw [State.rget_of_regsKept hregs hne, hu, hput i l w hl hw, State.rget_setCtle]
  · obtain ⟨htop, hlow⟩ := trainedFir_zero (decide (s.laneRate (cfgBase (s.portCfg p)) ≤ 2)) w
    exact ⟨htop, fun hr => hlow (decide_eq_true hr)⟩

/-- Training that failed: TRAIN_FAIL set, a restart counted. -/
def State.trainFailed (s : State) (p : Nat) : State := (s.flag .atrPortErr 0 p 2).cinc .atrCnt 0 (16 * p + 14)

theorem State.trainFailed_flagsOnly (s : State) (p : Nat) : (s.trainFailed p).flagsOnly s :=
  (State.cinc_flagsOnly _ _ _ _).trans (s.flag_flagsOnly .atrPortErr 0 p 2)

theorem exec_maxWaitTimerExpiry_of_training {s : State} {p : Fin 96}
    (h : s.portState p = 3 ∧ cfgAn (s.portCfg p) = true ∧ (s.port p).ready = false) :
    exec (.maxWaitTimerExpiry p) s = .next ((s.trainFailed p).restartAn p) := if_pos h

theorem maxWaitTimerExpiry_of_training {s : State} {p : Fin 96}
    (h : s.portState p = 3 ∧ cfgAn (s.portCfg p) = true ∧ (s.port p).ready = false) :
    ∃ t, exec (.maxWaitTimerExpiry p) s = .next t ∧ t.portState p = 1 ∧ t.rfld .atrPortErr 0 p 2 1 = 1 ∧
      t.cget .atrCnt 0 (16 * p + 14) = s.cget .atrCnt 0 (16 * p + 14) + 1 ∧ (t.port p).ready = false ∧
      t = { s with regs := t.regs, ctrs := t.ctrs, atr := t.atr, cur := t.cur, mgmt := t.mgmt } := by
  have hlinks := (s.trainFailed p).restartAn_linksOnly p.isLt
  refine ⟨_, exec_maxWaitTimerExpiry_of_training h, State.portState_restartAn .., ?_, ?_, ?_, ?_⟩
  · rw [State.rfld, hlinks.rget (not_linkWord_atrPortErr p.isLt)]
    exact s.flag_sets .atrPortErr 0 p (by omega) (regAddr_atrPortErr_ne_curEventLost 0 p)
  · rw [State.cget_of_ctrs hlinks.ctrs]
    exact (State.cget_cinc_self ..).trans (congrArg (· + 1) (State.cget_flag ..))
  · rw [State.port_restartAn]
  · obtain ⟨g, c, x, m, hf⟩ := s.trainFailed_flagsOnly p
    obtain ⟨⟨g', a, ht⟩, -⟩ := hlinks
    rw [ht, hf]

/-- Settles O40: each row by the STATE it leaves and what it puts into the port's words. -/
theorem portNegotiation : Obligations.PortNegotiation := by
  intro s p
  refine ⟨fun h hok => breakLinkTimerExpiry_of_idle h hok, fun partner best h hbest => ?_,
    fun h3 han hready => ⟨fun fir precode ctle hok => trainingDone_of_training fir precode ctle ⟨h3, han, hready, hok⟩,
      maxWaitTimerExpiry_of_training ⟨h3, han, hready⟩⟩⟩
  cases partner with
  | none =>
    exact ⟨_, exec_anComplete_of_restart h, rfl, rfl, State.portState_setPortState _ _ (by omega),
      State.regsKept_rsetFld _ _ _ _ _ _ _, rfl⟩
  | some able =>
    cases best with
    | none => exact anComplete_of_noCommon h hbest.symm
    | some i => exact anComplete_of_common h hbest.symm

end Sys2Proof.Machine

/-!
PROOF. Writes that configure ports, quads and lanes (R100 to R102, R112, R117, R119).
-/

namespace Sys2Proof.Machine

/-- A check that does not refuse is passed. -/
theorem bind_refuseIf_of_false {α : Type} {c : Bool} {e : Nat} {f : Unit → Res α} (h : c = false) : (refuseIf c e >>= f) = f () := by
  subst h
  rfl

/-! ### A port's reconfiguration (R117) -/

/-- A reconfiguration takes the link down, writes the new words and starts the port, or leaves it disabled. -/
theorem State.reconfigure_spec (s : State) {p : Nat} (hp : p < 96) (c a : W32) : ∃ v u : State, v.linksOnly (s.dropLink p) ∧
    u.linksOnly ((v.rset .atrPortCfg 0 p c).rset .atrPortAdv 0 p a) ∧
    u.portState p = (if cfgEnable c then (if cfgAn c then 1 else 3) else 0) ∧
    s.reconfigure p c a = if cfgEnable c then
      { u with atr := { u.atr with reconfig := some (p, if cfgAn c then none else some u.t) } } else u := by
  let s1 := (s.dropLink p).releaseAgc (s.portLanes p)
  let v := (s1.unlock p (s.portLanes p)).setPort p { s1.port p with ready := false, holdFrom := none }
  let w := (v.rset .atrPortCfg 0 p c).rset .atrPortAdv 0 p a
  have hv : v.linksOnly (s.dropLink p) := (State.setPort_linksOnly _ _ _).trans
    ((State.unlock_linksOnly _ hp State.portLanes_lt).trans (State.releaseAgc_linksOnly _ State.portLanes_lt))
  have hmode : (w.setPortMode p 0 0).linksOnly w := w.setPortMode_linksOnly hp 0 0
  have hcfg : (w.setPortMode p 0 0).portCfg p = c := (hmode.portCfg hp).trans
    ((State.rget_rset_ne _ _ (by rw [regAddr_atrPortCfg, regAddr_atrPortAdv]; omega)).trans (State.rget_rset_self ..))
  by_cases hen : cfgEnable c = true
  · have hstart := (w.setPortMode p 0 0).startPort_linksOnly hp
    refine ⟨v, (w.setPortMode p 0 0).startPort p, hv, hstart.trans hmode, ?_, ?_⟩
    · rw [if_pos hen, State.portState_startPort, hcfg]
    · have ht : ((w.setPortMode p 0 0).startPort p).t = (w.setPortMode p 0 0).t := by rw [State.t, hstart.eq, State.t]
      rw [if_pos hen, ht]
      exact if_pos hen
  · refine ⟨v, (w.setPortMode p 0 0).setPortState p 0, hv, (State.setPortState_linksOnly _ hp 0).trans hmode, ?_, ?_⟩
    · rw [if_neg hen]
      exact State.portState_setPortState _ _ (by omega)
    · rw [if_neg hen]
      exact if_neg hen

/-- Of a register that neither the new words nor the status words are, a reconfiguration shows what the link's end left. -/
theorem State.rget_reconfigured {s u v : State} {p : Nat} {c a : W32} (hv : v.linksOnly s)
    (hu : u.linksOnly ((v.rset .atrPortCfg 0 p c).rset .atrPortAdv 0 p a)) {r : Reg} {i : Nat} (hr : ¬ linkWord (regAddr r 0 i))
    (hc : regAddr r 0 i ≠ regAddr .atrPortCfg 0 p) (ha : regAddr r 0 i ≠ regAddr .atrPortAdv 0 p) : u.rget r 0 i = s.rget r 0 i := by
  rw [hu.rget hr, State.rget_rset_ne _ _ ha, State.rget_rset_ne _ _ hc, hv.rget hr]

theorem exec_portReconfig_of_allowed {s : State} {p : Fin 96} {cfg adv : Option W32} {c a : W32} (hb : s.blkUp 1 1 = true)
    (hm : s.m.mode = .maintain) (hsome : cfg.isSome = true ∨ adv.isSome = true)
    (hc : c = cfg.getD (s.portCfg p) &&& (regInfo .atrPortCfg).rw) (ha : a = adv.getD (s.portAdv p) &&& (regInfo .atrPortAdv).rw)
    (hj : s.judgePort p c a = .ok ()) :
    exec (.portReconfig p cfg adv) s = .next { s.reconfigure p c a with answer := ⟨0, []⟩ } := by
  have hnone : (cfg.isNone && adv.isNone) = false := by
    cases cfg <;> cases adv <;> simp_all
  have hload : s.afterLoad = true := by simp [State.afterLoad, hm]
  have hw : s.writePort p cfg adv = .ok (s.reconfigure p c a) := by
    unfold State.writePort
    rw [← hc, ← ha]
    dsimp only
    rw [bind_refuseIf_of_false (by simp [hm]), hj]
    exact if_pos hload
  have e : exec (.portReconfig p cfg adv) s = execPortReconfig p cfg adv s := rfl
  rw [e, execPortReconfig, if_pos hb, hnone, if_neg Bool.false_ne_true, hw]
  rfl

theorem portReconfig_of_allowed {s : State} {p : Fin 96} {cfg adv : Option W32} {c a : W32} (hb : s.blkUp 1 1 = true)
    (hm : s.m.mode = .maintain) (hsome : cfg.isSome = true ∨ adv.isSome = true)
    (hc : c = cfg.getD (s.portCfg p) &&& (regInfo .atrPortCfg).rw) (ha : a = adv.getD (s.portAdv p) &&& (regInfo .atrPortAdv).rw)
    (hj : s.judgePort p c a = .ok ()) :
    ∃ t, exec (.portReconfig p cfg adv) s = .next t ∧ t.answer = ⟨0, []⟩ ∧ t.portCfg p = c ∧ t.portAdv p = a ∧
      t.portState p = (if cfgEnable c then (if cfgAn c then 1 else 3) else 0) ∧
      (cfgEnable c = true → t.atr.reconfig = some (p.val, if cfgAn c then none else some t.t)) ∧
      (s.portState p = 5 → t.rfld .atrPortErr 0 p 0 1 = 1 ∧ t.cget .atrCnt 0 (16 * p + 13) = s.cget .atrCnt 0 (16 * p + 13) + 1) ∧
      (s.portState p ≠ 5 → t = { s with regs := t.regs, atr := t.atr, answer := ⟨0, []⟩ }) := by
  obtain ⟨v, u, hv, hu, hst, heq⟩ := s.reconfigure_spec p.isLt c a
  obtain ⟨x, hx, hrec⟩ : ∃ x, s.reconfigure p c a = { u with atr := x } ∧
      (cfgEnable c = true → x.reconfig = some (p.val, if cfgAn c then none else some u.t)) := by
    rw [heq]
    split
    · exact ⟨_, rfl, fun _ => rfl⟩
    · rename_i hen
      exact ⟨u.atr, rfl, fun h => absurd h hen⟩
  have hcfg : u.portCfg p = c := (hu.portCfg p.isLt).trans
    ((State.rget_rset_ne _ _ (by rw [regAddr_atrPortCfg, regAddr_atrPortAdv]; omega)).trans (State.rget_rset_self ..))
  have hadv : u.portAdv p = a := (hu.rget (not_linkWord_atrPortAdv p.isLt)).trans (State.rget_rset_self ..)
  have herr : u.rget .atrPortErr 0 p = (s.dropLink p).rget .atrPortErr 0 p :=
    State.rget_reconfigured hv hu (not_linkWord_atrPortErr p.isLt) (by rw [regAddr_atrPortErr, regAddr_atrPortCfg]; omega)
      (by rw [regAddr_atrPortErr, regAddr_atrPortAdv]; omega)
  have hcnt : u.ctrs = (s.dropLink p).ctrs := hu.ctrs.trans hv.ctrs
  refine ⟨{ s.reconfigure p c a with answer := ⟨0, []⟩ }, exec_portReconfig_of_allowed hb hm hsome hc ha hj, rfl, ?_⟩
  rw [hx]
  refine ⟨hcfg, hadv, hst, hrec, fun h5 => ⟨?_, ?_⟩, fun h5 => ?_⟩
  · exact (congrArg (fld · 0 1) herr).trans (State.dropLink_flags p.isLt h5)
  · exact (State.cget_of_ctrs hcnt ..).trans (State.dropLink_counts p.isLt h5)
  · rw [State.dropLink_of_not_up h5] at hv
    obtain ⟨g, y, huv⟩ := State.portsOnly_trans hu.1 (State.portsOnly_trans (t := v) ⟨_, _, rfl⟩ hv.1)
    rw [huv]

/-! ### A quad's rate, a lane's coefficients -/

/-- A field that a mask holds whole is not changed by it. -/
theorem fld_and_of_mask {v m : W32} {lo len : Nat} (h : ∀ i < len, m.getLsbD (lo + i) = true) : fld (v &&& m) lo len = fld v lo len := by
  apply Nat.eq_of_testBit_eq
  intro i
  rw [testBit_fld, testBit_fld, BitVec.getLsbD_and]
  by_cases hi : i < len
  · rw [h i hi, Bool.and_true]
  · simp [hi]

/-- A quad's rate code that stands, or that takes the place of another. -/
theorem State.writeQuadRate_of_unused {s : State} {q : Nat} (v : W32) (hm : s.m.mode = .maintain)
    (hfree : ∀ i < 4, s.laneOwner (4 * q + i) = none) :
    s.writeQuadRate q v = .ok (if fld v 0 2 = s.rfld .atrQuadRate 0 q 0 2 then s else s.rset .atrQuadRate 0 q (v &&& 3)) := by
  have hany : ((List.range 4).any fun i => (s.laneOwner (4 * q + i)).isSome) = false := by
    simp only [List.any_eq_false, List.mem_range]
    intro i hi
    simp [hfree i hi]
  unfold State.writeQuadRate
  rw [bind_refuseIf_of_false (by simp [hm])]
  split
  · rfl
  · rw [bind_refuseIf_of_false hany]

theorem atrQuadRate_of_unused {s : State} {q : Fin 24} (v : W32) (hb : s.blkUp 1 1 = true) (hm : s.m.mode = .maintain)
    (hfree : ∀ i < 4, s.laneOwner (4 * q + i) = none) :
    ∃ t, exec (.atrQuadRate q v) s = .next t ∧ t.rfld .atrQuadRate 0 q 0 2 = fld v 0 2 ∧ t.regsKept s [regAddr .atrQuadRate 0 q] ∧
      t = { s with regs := t.regs, answer := ⟨0, []⟩ } := by
  have e : exec (.atrQuadRate q v) s = execAtrQuadRate q v s := rfl
  rw [e, execAtrQuadRate, if_pos hb, State.writeQuadRate_of_unused v hm hfree]
  by_cases hsame : fld v 0 2 = s.rfld .atrQuadRate 0 q 0 2
  · rw [if_pos hsame]
    exact ⟨_, rfl, hsame.symm, s.regsKept_refl _, rfl⟩
  · rw [if_neg hsame]
    refine ⟨_, rfl, ?_, fun a ha => s.regsKept_rset .atrQuadRate 0 q _ a ha, rfl⟩
    exact (congrArg (fld · 0 2) (State.rget_rset_self ..)).trans (fld_and_of_mask (by decide))

theorem State.writeTxfir_of_inBounds {s : State} {l : Nat} {v : W32} (hm : s.m.mode = .maintain ∨ s.m.mode = .diagnostic)
    (han : ∀ p, s.laneOwner l = some p → cfgAn (s.portCfg p) = false) (hsum : firSum v ≤ 64) (hmain : fld v 12 7 ≤ 64) :
    s.writeTxfir l v = .ok (s.rset .atrLaneTxfir 0 l (v &&& (regInfo .atrLaneTxfir).rw)) := by
  unfold State.writeTxfir
  refine (bind_refuseIf_of_false ?_).trans ?_
  · split
    · exact han _ ‹_›
    · rfl
  · rw [bind_refuseIf_of_false (by rcases hm with h | h <;> simp [h]), bind_refuseIf_of_false (by simp; omega)]

theorem atrLaneTxfir_of_inBounds {s : State} {l : Fin 96} {v : W32} (hb : s.blkUp 1 1 = true)
    (hw : s.writeTxfir l v = .ok (s.rset .atrLaneTxfir 0 l (v &&& (regInfo .atrLaneTxfir).rw))) :
    ∃ t, exec (.atrLaneTxfir l v) s = .next t ∧ t.rget .atrLaneTxfir 0 l = v &&& (regInfo .atrLaneTxfir).rw ∧
      t.regsKept s [regAddr .atrLaneTxfir 0 l] ∧ t = { s with regs := t.regs, answer := ⟨0, []⟩ } := by
  have e : exec (.atrLaneTxfir l v) s = execAtrLaneTxfir l v s := rfl
  rw [e, execAtrLaneTxfir, if_pos hb, hw]
  exact ⟨_, rfl, State.rget_rset_self .., fun a ha => s.regsKept_rset .atrLaneTxfir 0 l _ a ha, rfl⟩

/-! ### Lane tests and AGC_RELEASE (R119) -/

/-- The word of ATR_LANE_CTL stored, and the AGC released with AGC_RELEASE set. -/
def State.laneCtl (s : State) (l : Nat) (v : W32) : State :=
  if fld v 3 1 = 1 then (s.rset .atrLaneCtl 0 l (v &&& (regInfo .atrLaneCtl).rw)).releaseAgc [l]
  else s.rset .atrLaneCtl 0 l (v &&& (regInfo .atrLaneCtl).rw)

/-- What a lane's owner does once the word is stored: it goes under test, leaves the last test, or goes on. -/
def State.testPort (s : State) (p test : Nat) : State :=
  if test ≠ 0 then (s.dropLink p).setPortState p 7 else if s.portState p = 7 ∧ s.testsOff p then s.startPort p else s

theorem State.laneCtl_regsKept (s : State) (l : Nat) (v : W32) :
    (s.laneCtl l v).regsKept s [regAddr .atrLaneCtl 0 l, regAddr .atrLaneRxstat 0 l] := by
  have hset := s.regsKept_rset .atrLaneCtl 0 l (v &&& (regInfo .atrLaneCtl).rw)
  unfold State.laneCtl
  split
  · exact ((State.regsKept_rsetFld _ .atrLaneRxstat 0 l 3 1 0).mono (by simp)).trans (hset.mono (by simp))
  · exact hset.mono (by simp)

theorem State.laneCtl_spec (s : State) (l : Nat) (v : W32) : ∃ g, s.laneCtl l v = { s with regs := g } := by
  unfold State.laneCtl
  split <;> exact ⟨_, rfl⟩

theorem State.rget_laneCtl (s : State) (l : Nat) (v : W32) : (s.laneCtl l v).rget .atrLaneCtl 0 l = v &&& (regInfo .atrLaneCtl).rw := by
  have hne : regAddr .atrLaneCtl 0 l ≠ regAddr .atrLaneRxstat 0 l := by
    rw [regAddr_atrLaneCtl, regAddr_atrLaneRxstat]
    omega
  unfold State.laneCtl
  split
  · exact (State.rget_rset_ne _ _ hne).trans (State.rget_rset_self ..)
  · exact State.rget_rset_self ..

theorem State.laneOwner_laneCtl (s : State) {l : Nat} (hl : l < 96) (v : W32) (k : Nat) : (s.laneCtl l v).laneOwner k = s.laneOwner k :=
  State.laneOwner_congr (fun p hp => State.rget_of_regsKept (s.laneCtl_regsKept l v) (by
    simp only [List.mem_cons, List.not_mem_nil, or_false, regAddr_atrPortCfg, regAddr_atrLaneCtl, regAddr_atrLaneRxstat]
    omega)) k

theorem State.portState_laneCtl (s : State) {l : Nat} (hl : l < 96) (v : W32) {p : Nat} (hp : p < 96) :
    (s.laneCtl l v).portState p = s.portState p :=
  congrArg (fld · 0 3) (State.rget_of_regsKept (s.laneCtl_regsKept l v) (by
    simp only [List.mem_cons, List.not_mem_nil, or_false, regAddr_atrPortStatus, regAddr_atrLaneCtl, regAddr_atrLaneRxstat]
    omega))

/-- In DIAGNOSTIC, with the inversion as it stands, a lane's word is taken but for a test that its rate does not allow. -/
theorem State.writeLaneCtl_of_diagnostic {s : State} {l : Nat} (hl : l < 96) {v : W32} (hm : s.m.mode = .diagnostic)
    (hinv : fld v 0 2 = s.rfld .atrLaneCtl 0 l 0 2) (h7 : fld v 8 3 ≠ 7) (hrate : fld v 8 3 = 4 ∨ fld v 8 3 = 5 → s.laneRate l = 3) :
    s.writeLaneCtl l v = .ok ((s.laneOwner l).elim (s.laneCtl l v) fun p => (s.laneCtl l v).testPort p (fld v 8 3)) := by
  have hi : decide (fld (s.rget .atrLaneCtl 0 l) 0 2 ≠ fld v 0 2) = false := by
    rw [hinv]
    exact decide_eq_false (not_not.2 rfl)
  unfold State.writeLaneCtl
  dsimp only
  rw [hi, bind_refuseIf_of_false (by simp), bind_refuseIf_of_false (by simp [hm]), bind_refuseIf_of_false (Bool.false_and _),
    bind_refuseIf_of_false (by simpa [h7] using hrate)]
  rw [← s.laneOwner_laneCtl hl v l]
  change (match (s.laneCtl l v).laneOwner l with
    | none => Except.ok (s.laneCtl l v)
    | some p => if fld v 8 3 ≠ 0 then .ok (((s.laneCtl l v).dropLink p).setPortState p 7)
      else if (s.laneCtl l v).portState p = 7 ∧ (s.laneCtl l v).testsOff p then .ok ((s.laneCtl l v).startPort p)
      else .ok (s.laneCtl l v)) = _
  cases (s.laneCtl l v).laneOwner l with
  | none => rfl
  | some p =>
    unfold State.testPort
    dsimp only [Option.elim]
    split
    · rfl
    · split <;> rfl

theorem exec_laneTest_of_diagnostic {s t : State} {l : Fin 96} {v : W32} (hb : s.blkUp 1 1 = true) (hw : s.writeLaneCtl l v = .ok t) :
    exec (.laneTest l v) s = .next { t with answer := ⟨0, []⟩ } := by
  have e : exec (.laneTest l v) s = execLaneTest l v s := rfl
  rw [e, execLaneTest, if_pos hb, hw]
  rfl

theorem exec_agcRelease_of_diagnostic {s t : State} {l : Fin 96} {v : W32} (hb : s.blkUp 1 1 = true) (hw : s.writeLaneCtl l v = .ok t) :
    exec (.agcRelease l v) s = .next { t with answer := ⟨0, []⟩ } := by
  have e : exec (.agcRelease l v) s = execAgcRelease l v s := rfl
  rw [e, execAgcRelease, if_pos hb, hw]
  rfl

/-- A port is out of test once the last of its lanes is. -/
theorem State.testsOff_laneCtl {s : State} {l : Nat} {v : W32} {p : Nat} (htest : fld v 8 3 = 0)
    (hrest : ∀ i ∈ s.portLanes p, i ≠ l → s.rfld .atrLaneCtl 0 i 8 3 = 0) (hl : l < 96) (hp : p < 96) :
    (s.laneCtl l v).testsOff p = true := by
  have hcfg : (s.laneCtl l v).portCfg p = s.portCfg p := State.rget_of_regsKept (s.laneCtl_regsKept l v) (by
    simp only [List.mem_cons, List.not_mem_nil, or_false, regAddr_atrPortCfg, regAddr_atrLaneCtl, regAddr_atrLaneRxstat]
    omega)
  unfold State.testsOff
  rw [List.all_eq_true, State.portLanes, hcfg]
  intro i hi
  have hmem : i ∈ s.portLanes p := hi
  rw [decide_eq_true_eq]
  by_cases hil : i = l
  · rw [hil, State.rfld, s.rget_laneCtl l v, fld_and_of_mask (by decide), htest]
  · have hi135 := (State.mem_portLanes_bounds hmem).2.2
    have hkept : (s.laneCtl l v).rget .atrLaneCtl 0 i = s.rget .atrLaneCtl 0 i := State.rget_of_regsKept (s.laneCtl_regsKept l v) (by
      simp only [List.mem_cons, List.not_mem_nil, or_false, regAddr_atrLaneCtl, regAddr_atrLaneRxstat]
      omega)
    rw [State.rfld, hkept]
    exact hrest i hmem hil

/-- A port that goes under test, its link down. -/
theorem State.testPort_of_test {s : State} {p test : Nat} (hp : p < 96) (h : test ≠ 0) : (s.testPort p test).portState p = 7 ∧
    (s.testPort p test).linksOnly (s.dropLink p) := by
  rw [State.testPort, if_pos h]
  exact ⟨State.portState_setPortState _ _ (by omega), State.setPortState_linksOnly _ hp 7⟩

/-- With its link down already, a port's test changes status words alone. -/
theorem State.testPort_linksOnly {s : State} {p : Nat} (hp : p < 96) (test : Nat) (h : s.portState p ≠ 5) : (s.testPort p test).linksOnly s := by
  by_cases ht : test = 0
  · rw [State.testPort, if_neg (not_not.2 ht)]
    split
    · exact s.startPort_linksOnly hp
    · exact s.linksOnly_refl
  · have hlinks := (State.testPort_of_test (s := s) hp ht).2
    rwa [State.dropLink_of_not_up h] at hlinks

theorem State.portState_testPort_of_last {s : State} {p : Nat} (h7 : s.portState p = 7) (hoff : s.testsOff p = true) :
    (s.testPort p 0).portState p = if cfgAn (s.portCfg p) then 1 else 3 := by
  rw [State.testPort, if_neg (not_not.2 rfl), if_pos ⟨h7, hoff⟩, State.portState_startPort]

theorem laneTest_of_diagnostic {s : State} {l : Fin 96} {v : W32} {p : Nat} (hb : s.blkUp 1 1 = true) (hm : s.m.mode = .diagnostic)
    (ho : s.laneOwner l = some p) (hinv : fld v 0 2 = s.rfld .atrLaneCtl 0 l 0 2) (h7 : fld v 8 3 ≠ 7)
    (hrate : fld v 8 3 = 4 ∨ fld v 8 3 = 5 → s.laneRate l = 3) :
    ∃ t, exec (.laneTest l v) s = .next t ∧ t.answer = ⟨0, []⟩ ∧
      (fld v 8 3 ≠ 0 → t.portState p = 7 ∧ (s.portState p = 5 → t.rfld .atrPortErr 0 p 0 1 = 1 ∧
        t.cget .atrCnt 0 (16 * p + 13) = s.cget .atrCnt 0 (16 * p + 13) + 1)) ∧
      (s.portState p ≠ 5 → t.rget .atrLaneCtl 0 l = v &&& (regInfo .atrLaneCtl).rw ∧
        t = { s with regs := t.regs, atr := t.atr, answer := ⟨0, []⟩ }) ∧
      (fld v 8 3 = 0 → s.portState p = 7 → (∀ i ∈ s.portLanes p, i ≠ l.val → s.rfld .atrLaneCtl 0 i 8 3 = 0) →
        t.portState p = if cfgAn (s.portCfg p) then 1 else 3) := by
  have hp := (State.laneOwner_spec ho).1
  have hst := s.portState_laneCtl l.isLt v hp
  have hcfg : (s.laneCtl l v).portCfg p = s.portCfg p := State.rget_of_regsKept (s.laneCtl_regsKept l v) (by
    simp only [List.mem_cons, List.not_mem_nil, or_false, regAddr_atrPortCfg, regAddr_atrLaneCtl, regAddr_atrLaneRxstat]
    omega)
  obtain ⟨g, hg⟩ := s.laneCtl_spec l v
  have hw := State.writeLaneCtl_of_diagnostic l.isLt hm hinv h7 hrate
  rw [ho, Option.elim_some] at hw
  refine ⟨{ (s.laneCtl l v).testPort p (fld v 8 3) with answer := ⟨0, []⟩ }, exec_laneTest_of_diagnostic hb hw, rfl,
    fun ht => ?_, fun h5 => ?_, fun ht hs hrest => ?_⟩
  · obtain ⟨h7, hlinks⟩ := State.testPort_of_test (s := s.laneCtl l v) hp ht
    refine ⟨h7, fun h5 => ⟨?_, ?_⟩⟩
    · exact (congrArg (fld · 0 1) (hlinks.rget (not_linkWord_atrPortErr hp))).trans (State.dropLink_flags hp (hst.trans h5))
    · refine (State.cget_of_ctrs hlinks.ctrs ..).trans ((State.dropLink_counts hp (hst.trans h5)).trans ?_)
      rw [hg]
      rfl
  · have hlinks := State.testPort_linksOnly hp (fld v 8 3) (by rwa [hst])
    refine ⟨(hlinks.rget (not_linkWord_atrLaneCtl l.isLt)).trans (s.rget_laneCtl l v), ?_⟩
    obtain ⟨⟨g', a, ht⟩, -⟩ := hlinks
    rw [ht, hg]
  · rw [ht]
    exact (State.portState_testPort_of_last (hst.trans hs) (State.testsOff_laneCtl ht hrest l.isLt hp)).trans (by rw [hcfg])

theorem agcRelease_of_diagnostic {s : State} {l : Fin 96} {v : W32} (hb : s.blkUp 1 1 = true) (hm : s.m.mode = .diagnostic)
    (htest : ∀ p, s.laneOwner l = some p → s.portState p ≠ 7) (hinv : fld v 0 2 = s.rfld .atrLaneCtl 0 l 0 2) (h31 : fld v 3 1 = 1)
    (h83 : fld v 8 3 = 0) :
    ∃ t, exec (.agcRelease l v) s = .next t ∧ t.rfld .atrLaneRxstat 0 l 3 1 = 0 ∧
      t.rget .atrLaneCtl 0 l = v &&& (regInfo .atrLaneCtl).rw ∧
      t.regsKept s [regAddr .atrLaneCtl 0 l, regAddr .atrLaneRxstat 0 l] ∧ t = { s with regs := t.regs, answer := ⟨0, []⟩ } := by
  have hw := State.writeLaneCtl_of_diagnostic l.isLt hm hinv (by omega) (by omega)
  have hstay : ((s.laneOwner l).elim (s.laneCtl l v) fun p => (s.laneCtl l v).testPort p (fld v 8 3)) = s.laneCtl l v := by
    cases ho : s.laneOwner l with
    | none => rfl
    | some p =>
      have h7 : (s.laneCtl l v).portState p ≠ 7 := by
        rw [s.portState_laneCtl l.isLt v (State.laneOwner_spec ho).1]
        exact htest p ho
      rw [Option.elim_some, h83, State.testPort, if_neg (not_not.2 rfl), if_neg fun h => h7 h.1]
  rw [hstay] at hw
  have hagc : (s.laneCtl l v).rfld .atrLaneRxstat 0 l 3 1 = 0 := by
    rw [State.laneCtl, if_pos h31]
    exact State.rfld_rsetFld_self _ .atrLaneRxstat 0 l 0 (by omega)
  obtain ⟨g, hg⟩ := s.laneCtl_spec l v
  refine ⟨{ s.laneCtl l v with answer := ⟨0, []⟩ }, exec_agcRelease_of_diagnostic hb hw, hagc, s.rget_laneCtl l v,
    fun a ha => s.laneCtl_regsKept l v a ha, ?_⟩
  rw [hg]

/-- Settles O39: each write by the words it stores and what the port's status and link then do. -/
theorem portConfiguration : Obligations.PortConfiguration := by
  intro s hb
  refine ⟨fun p cfg adv c a hm hsome hc ha hj => portReconfig_of_allowed hb hm hsome hc ha hj,
    fun q v hm hfree => atrQuadRate_of_unused v hb hm hfree,
    fun l v hm han hsum hmain => atrLaneTxfir_of_inBounds hb (State.writeTxfir_of_inBounds hm han hsum hmain),
    fun l v p hm ho hinv _ h7 hrate => laneTest_of_diagnostic hb hm ho hinv h7 hrate,
    fun l v hm htest hinv h31 h83 => agcRelease_of_diagnostic hb hm htest hinv h31 h83⟩

end Sys2Proof.Machine

/-!
PROOF. The receive MAC, the parser and the Catalogue's rewrite (R113, R114, R121, R122, R137).
-/

namespace Sys2Proof.Machine

/-! ### Counters of the MAC, of the parser and of the drops -/

theorem regAddr_rgsPortCnt (u i : Nat) : regAddr .rgsPortCnt u i = 1 * 0x10000000 + 2 * 0x100000 + u * 0 + 0x8000 + 8 * i := rfl
theorem regAddr_rgsDropCnt (u i : Nat) : regAddr .rgsDropCnt u i = 1 * 0x10000000 + 2 * 0x100000 + u * 0 + 0xa000 + 8 * i := rfl

theorem State.cget_cadd_atrCnt_ne (s : State) {i j : Nat} (n : Nat) (h : j ≠ i) :
    (s.cadd .atrCnt 0 i n).cget .atrCnt 0 j = s.cget .atrCnt 0 j :=
  s.cget_cadd_ne n (by rw [regAddr_atrCnt, regAddr_atrCnt]; omega)

theorem State.cget_setPort (s : State) (p : Nat) (x : PortSt) (r : Reg) (u i : Nat) : (s.setPort p x).cget r u i = s.cget r u i := rfl

theorem State.cget_cinc_atrCnt_ne (s : State) {i j : Nat} (h : j ≠ i) : (s.cinc .atrCnt 0 i).cget .atrCnt 0 j = s.cget .atrCnt 0 j :=
  s.cget_cadd_atrCnt_ne 1 h

theorem State.cinc_ctrsOnly (s : State) (r : Reg) (u i : Nat) : ∃ x, s.cinc r u i = { s with ctrs := x } := ⟨_, rfl⟩

/-- A drop is counted apart from the ports' counters. -/
theorem State.cget_drop_atrCnt (s : State) (code : Nat) {i : Nat} (_ : i < 1536) : (s.drop code).cget .atrCnt 0 i = s.cget .atrCnt 0 i :=
  s.cget_cadd_ne 1 (by rw [regAddr_atrCnt, regAddr_rgsDropCnt]; omega)

theorem State.cget_rgsDropCnt_cadd_atrCnt (s : State) {i : Nat} (n code : Nat) (_ : i < 1536) :
    (s.cadd .atrCnt 0 i n).cget .rgsDropCnt 0 code = s.cget .rgsDropCnt 0 code :=
  s.cget_cadd_ne n (by rw [regAddr_atrCnt, regAddr_rgsDropCnt]; omega)

theorem State.cget_drop_self (s : State) (code : Nat) : (s.drop code).cget .rgsDropCnt 0 code = s.cget .rgsDropCnt 0 code + 1 :=
  s.cget_cinc_self .rgsDropCnt 0 code

/-! ### The receive MAC (R113, R114) -/

/-- The FEC codewords of a frame counted, an uncorrectable one flagged. -/
def State.fecSeen (s : State) (p : Nat) (fec : FecReport) : State :=
  let s0 := ((s.cadd .atrCnt 0 (16 * p + 9) fec.corrected).cadd .atrCnt 0 (16 * p + 10) fec.uncorrectable).cadd .atrCnt 0 (16 * p + 11)
    fec.symbols
  if fec.uncorrectable > 0 then s0.flag .atrPortErr 0 p 4 else s0

/-- What the MAC does with a frame, by its FCS, its length, the room in the FIFO and its type. -/
def State.macTake (s : State) (p : Nat) (frame : Bytes) (fcs : Bool) : State :=
  if fcs then (s.cinc .atrCnt 0 (16 * p + 4)).drop 0x01
  else if frame.length < 64 then (s.cinc .atrCnt 0 (16 * p + 5)).drop 0x02
  else if frame.length > s.rfld .atrLinkCfg 0 0 16 14 then (s.cinc .atrCnt 0 (16 * p + 6)).drop 0x03
  else if ((s.port p).fifo.map (·.bytes.length)).sum + frame.length > s.fifoShare p then
    ((s.cinc .atrCnt 0 (16 * p + 7)).drop 0x04).flag .atrPortErr 0 p 5
  else if beField frame 12 2 = 0x8808 then (s.cinc .atrCnt 0 (16 * p + 8)).drop 0x05
  else ((s.cinc .atrCnt 0 (16 * p)).cadd .atrCnt 0 (16 * p + 1) frame.length).setPort p
    { s.port p with fifo := (s.port p).fifo ++ [⟨frame, s.t⟩] }

/-- A wrong FCS, or a codeword that was not corrected. -/
def badFcs (frame : Bytes) (fec : FecReport) : Bool :=
  decide (fec.uncorrectable > 0) ||
    decide (frame.drop (frame.length - 4) ≠ leBytes 4 (crc32 (frame.take (frame.length - 4))).toNat)

theorem exec_macReceive_of_up {s : State} {p : Fin 96} {frame : Bytes} {fec : FecReport} (h : s.portState p = 5) (hb : s.blkUp 1 1 = true) :
    exec (.macReceive p frame fec) s = .next ((s.fecSeen p fec).macTake p frame (badFcs frame fec)) := by
  have e : exec (.macReceive p frame fec) s = execMacReceive p frame fec s := rfl
  rw [e, execMacReceive, if_pos ⟨h, hb⟩]
  unfold State.macTake
  simp only [apply_ite Host.Outcome.next]
  rfl

theorem State.fecSeen_atr (s : State) (p : Nat) (fec : FecReport) : (s.fecSeen p fec).atr = s.atr := by
  unfold State.fecSeen
  dsimp only
  split
  · exact State.atr_flag _ .atrPortErr 0 p 4
  · rfl

theorem State.ctrs_fecSeen (s : State) (p : Nat) (fec : FecReport) : (s.fecSeen p fec).ctrs =
    (((s.cadd .atrCnt 0 (16 * p + 9) fec.corrected).cadd .atrCnt 0 (16 * p + 10) fec.uncorrectable).cadd .atrCnt 0 (16 * p + 11)
      fec.symbols).ctrs := by
  unfold State.fecSeen
  dsimp only
  split
  · exact State.ctrs_flag _ .atrPortErr 0 p 4
  · rfl

/-- The codewords corrected and those not. -/
theorem State.fecSeen_counts (s : State) (p : Nat) (fec : FecReport) :
    (s.fecSeen p fec).cget .atrCnt 0 (16 * p + 9) = s.cget .atrCnt 0 (16 * p + 9) + BitVec.ofNat 64 fec.corrected ∧
    (s.fecSeen p fec).cget .atrCnt 0 (16 * p + 10) = s.cget .atrCnt 0 (16 * p + 10) + BitVec.ofNat 64 fec.uncorrectable := by
  rw [State.cget_of_ctrs (s.ctrs_fecSeen p fec), State.cget_of_ctrs (s.ctrs_fecSeen p fec)]
  constructor
  · rw [State.cget_cadd_atrCnt_ne _ _ (by omega), State.cget_cadd_atrCnt_ne _ _ (by omega), State.cget_cadd_self]
  · rw [State.cget_cadd_atrCnt_ne _ _ (by omega), State.cget_cadd_self, State.cget_cadd_atrCnt_ne _ _ (by omega)]

/-- A port's counters below the codewords' stay. -/
theorem State.cget_fecSeen_of_lt (s : State) (p : Nat) (fec : FecReport) {k : Nat} (_ : k < 9) :
    (s.fecSeen p fec).cget .atrCnt 0 (16 * p + k) = s.cget .atrCnt 0 (16 * p + k) := by
  rw [State.cget_of_ctrs (s.ctrs_fecSeen p fec), State.cget_cadd_atrCnt_ne _ _ (by omega), State.cget_cadd_atrCnt_ne _ _ (by omega),
    State.cget_cadd_atrCnt_ne _ _ (by omega)]

theorem State.cget_rgsDropCnt_fecSeen (s : State) {p : Nat} (_ : p < 96) (fec : FecReport) (code : Nat) :
    (s.fecSeen p fec).cget .rgsDropCnt 0 code = s.cget .rgsDropCnt 0 code := by
  rw [State.cget_of_ctrs (s.ctrs_fecSeen p fec), State.cget_rgsDropCnt_cadd_atrCnt _ _ _ (by omega),
    State.cget_rgsDropCnt_cadd_atrCnt _ _ _ (by omega), State.cget_rgsDropCnt_cadd_atrCnt _ _ _ (by omega)]

/-- With every codeword correct, or corrected, the counters alone change. -/
theorem State.fecSeen_of_correct (s : State) (p : Nat) {fec : FecReport} (h : fec.uncorrectable = 0) :
    ∃ c, s.fecSeen p fec = { s with ctrs := c } := by
  rw [State.fecSeen, if_neg (by omega)]
  exact ⟨_, rfl⟩

/-- A counted drop leaves the port's other counters. -/
theorem State.cget_counted_drop (s : State) {i j : Nat} (code : Nat) (h : j ≠ i) (hj : j < 1536) :
    ((s.cinc .atrCnt 0 i).drop code).cget .atrCnt 0 j = s.cget .atrCnt 0 j := by
  rw [State.cget_drop_atrCnt _ _ hj, State.cget_cinc_atrCnt_ne _ h]

/-- What a counted drop counts. -/
theorem State.counted_drop_counts (s : State) {i : Nat} (code : Nat) (hi : i < 1536) :
    ((s.cinc .atrCnt 0 i).drop code).cget .rgsDropCnt 0 code = s.cget .rgsDropCnt 0 code + 1 ∧
    ((s.cinc .atrCnt 0 i).drop code).cget .atrCnt 0 i = s.cget .atrCnt 0 i + 1 := by
  constructor
  · rw [State.cget_drop_self, State.cinc, State.cget_rgsDropCnt_cadd_atrCnt _ _ _ hi]
  · rw [State.cget_drop_atrCnt _ _ hi, State.cget_cinc_self]

/-- Whatever the MAC does with a frame, the codewords' counters stay. -/
theorem State.cget_macTake (s : State) {p : Nat} (hp : p < 96) (frame : Bytes) (fcs : Bool) {k : Nat} (h9 : 9 ≤ k) (hk : k < 16) :
    (s.macTake p frame fcs).cget .atrCnt 0 (16 * p + k) = s.cget .atrCnt 0 (16 * p + k) := by
  have hdrop (c code : Nat) (hc : c < 9) : ((s.cinc .atrCnt 0 (16 * p + c)).drop code).cget .atrCnt 0 (16 * p + k) =
      s.cget .atrCnt 0 (16 * p + k) := s.cget_counted_drop code (by omega) (by omega)
  unfold State.macTake
  split
  · exact hdrop 4 _ (by omega)
  · split
    · exact hdrop 5 _ (by omega)
    · split
      · exact hdrop 6 _ (by omega)
      · split
        · exact (State.cget_flag ..).trans (hdrop 7 _ (by omega))
        · split
          · exact hdrop 8 _ (by omega)
          · rw [State.cget_setPort, State.cget_cadd_atrCnt_ne _ _ (by omega), State.cget_cinc_atrCnt_ne _ (by omega)]

theorem State.macTake_of_badFcs (s : State) (p : Nat) (frame : Bytes) :
    s.macTake p frame true = (s.cinc .atrCnt 0 (16 * p + 4)).drop 0x01 := if_pos rfl

theorem State.macTake_of_good {s : State} {p : Nat} {frame : Bytes} (h64 : 64 ≤ frame.length)
    (hmax : frame.length ≤ s.rfld .atrLinkCfg 0 0 16 14) (hpause : beField frame 12 2 ≠ 0x8808)
    (hroom : ((s.port p).fifo.map (·.bytes.length)).sum + frame.length ≤ s.fifoShare p) :
    s.macTake p frame false = ((s.cinc .atrCnt 0 (16 * p)).cadd .atrCnt 0 (16 * p + 1) frame.length).setPort p
      { s.port p with fifo := (s.port p).fifo ++ [⟨frame, s.t⟩] } := by
  unfold State.macTake
  rw [if_neg Bool.false_ne_true, if_neg (by omega), if_neg (by omega), if_neg (by omega), if_neg hpause]

theorem macReceive_of_badFcs {s : State} {p : Fin 96} {frame : Bytes} {fec : FecReport} (h : badFcs frame fec = true) :
    ((s.fecSeen p fec).macTake p frame (badFcs frame fec)).cget .rgsDropCnt 0 1 = s.cget .rgsDropCnt 0 1 + 1 ∧
    ((s.fecSeen p fec).macTake p frame (badFcs frame fec)).cget .atrCnt 0 (16 * p + 4) = s.cget .atrCnt 0 (16 * p + 4) + 1 ∧
    ((s.fecSeen p fec).macTake p frame (badFcs frame fec)).atr = s.atr := by
  obtain ⟨hdrop, hcount⟩ := (s.fecSeen p fec).counted_drop_counts (i := 16 * p + 4) 1 (by omega)
  rw [h, State.macTake_of_badFcs, hdrop, hcount, s.cget_rgsDropCnt_fecSeen p.isLt, s.cget_fecSeen_of_lt p fec (by omega)]
  exact ⟨rfl, rfl, s.fecSeen_atr p fec⟩

theorem macReceive_of_good {s : State} {p : Fin 96} {frame : Bytes} {fec : FecReport} (h : badFcs frame fec = false)
    (hfec : fec.uncorrectable = 0) (h64 : 64 ≤ frame.length)
    (hmax : frame.length ≤ s.rfld .atrLinkCfg 0 0 16 14) (hpause : beField frame 12 2 ≠ 0x8808)
    (hroom : ((s.port p).fifo.map (·.bytes.length)).sum + frame.length ≤ s.fifoShare p) :
    ∃ t, (s.fecSeen p fec).macTake p frame (badFcs frame fec) = t ∧
      (t.port p).fifo = (s.port p).fifo ++ [⟨frame, s.t⟩] ∧ t.cget .atrCnt 0 (16 * p) = s.cget .atrCnt 0 (16 * p) + 1 ∧
      t.cget .atrCnt 0 (16 * p + 1) = s.cget .atrCnt 0 (16 * p + 1) + BitVec.ofNat 64 frame.length ∧
      t = { s with ctrs := t.ctrs, atr := t.atr } := by
  have h0 := s.cget_fecSeen_of_lt p fec (k := 0) (by omega)
  have h1 := s.cget_fecSeen_of_lt p fec (k := 1) (by omega)
  obtain ⟨c, hc⟩ := s.fecSeen_of_correct p hfec
  rw [hc] at h0 h1 ⊢
  refine ⟨_, (congrArg _ h).trans (State.macTake_of_good h64 hmax hpause hroom), ?_, ?_, ?_, rfl⟩
  · rw [State.port_setPort_self]
    rfl
  · rw [State.cget_setPort, State.cget_cadd_atrCnt_ne _ _ (by omega), State.cget_cinc_self]
    exact congrArg (· + 1) h0
  · rw [State.cget_setPort, State.cget_cadd_self, State.cget_cinc_atrCnt_ne _ (by omega), h1]

/-- While the Atrium is out of service (log 89). -/
theorem exec_macReceive_of_outOfService {s : State} {p : Fin 96} {frame : Bytes} {fec : FecReport} (h : s.portState p = 5)
    (hb : s.blkUp 1 1 = false) : exec (.macReceive p frame fec) s =
    .next (((s.cinc .atrCnt 0 (16 * p + 7)).drop 0x04).flag .atrPortErr 0 p 5) :=
  (if_neg (by simp [hb])).trans (if_pos h)

theorem macReceive_of_outOfService {s : State} {p : Fin 96} {frame : Bytes} {fec : FecReport} (h : s.portState p = 5)
    (hb : s.blkUp 1 1 = false) :
    ∃ t, exec (.macReceive p frame fec) s = .next t ∧ t.cget .rgsDropCnt 0 4 = s.cget .rgsDropCnt 0 4 + 1 ∧
      t.cget .atrCnt 0 (16 * p + 7) = s.cget .atrCnt 0 (16 * p + 7) + 1 ∧ t.rfld .atrPortErr 0 p 5 1 = 1 ∧ t.atr = s.atr := by
  obtain ⟨hdrop, hcount⟩ := s.counted_drop_counts (i := 16 * p + 7) 4 (by omega)
  exact ⟨_, exec_macReceive_of_outOfService h hb, (State.cget_flag ..).trans hdrop, (State.cget_flag ..).trans hcount,
    State.flag_sets _ .atrPortErr 0 p (by omega) (regAddr_atrPortErr_ne_curEventLost 0 p), State.atr_flag _ .atrPortErr 0 p 5⟩

/-! ### The parser (R121 to R127) -/

/-- A datagram is found only in a frame with a whole Ethernet header. -/
theorem le_length_of_parseFrame_udp {c : ParseCfg} {b : Bytes} {inner outer : Layer} {off len : Nat}
    (h : parseFrame c b = .udp inner outer off len) : 14 ≤ b.length := by
  by_contra hlt
  have hhead : parseHead c b .ether 0 { fin := b.length } = .error (.fail 0x10 none) := if_pos (by simp only; omega)
  rw [parseFrame, parseFrom, hhead] at h
  simp at h

/-- The source address stands in front of the FCS. -/
theorem slice_srcMac {b : Bytes} {n : Nat} (h : 14 ≤ (b.take n).length) : slice (b.take n) 6 6 = slice b 6 6 := by
  have hn : 14 ≤ n := h.trans (List.length_take_le _ _)
  rw [slice, slice, List.drop_take, List.take_take, Nat.min_eq_left (by omega)]

theorem Bucket.take_of_token {b : Bucket} (h : 1000000 ≤ b.level) : ∃ b', b.take = some b' := ⟨_, if_pos h⟩

/-- A JCP datagram with a token in the bucket joins the Curator's. -/
theorem State.jcpIn_of_token {s : State} (d : Datagram)
    (h : 1000000 ≤ (s.rgs.jcp.credit s.t (s.rfld .rgsJcpRate 0 0 0 16) (s.rfld .rgsJcpRate 0 0 16 12)).level) :
    ∃ b, s.jcpIn d = { s with rgs := { s.rgs with jcp := b }, cur := { s.cur with rx := s.cur.rx ++ [d] } } := by
  obtain ⟨b, hb⟩ := Bucket.take_of_token h
  refine ⟨b, ?_⟩
  -- unfolded as a function and with `take` opaque, so that the kernel does not evaluate the match's discriminant
  obtain ⟨f, hf⟩ : ∃ f, f = State.jcpIn := ⟨_, rfl⟩
  obtain ⟨take, ht⟩ : ∃ g, g = Bucket.take := ⟨_, rfl⟩
  rw [← hf]
  delta State.jcpIn at hf
  rw [← ht] at hf hb
  rw [hf]
  dsimp only
  rw [hb]

theorem State.frameIn_of_jcp {s : State} {p : Nat} {f : RxFrame} {inner outer : Layer} {off len : Nat}
    (hparse : parseFrame (s.parseCfg p) (f.bytes.take (f.bytes.length - 4)) = .udp inner outer off len)
    (haddr : s.jcpAddressed inner.v6 inner.dst inner.dstPort = true)
    (htoken : 1000000 ≤ (s.rgs.jcp.credit s.t (s.rfld .rgsJcpRate 0 0 0 16) (s.rfld .rgsJcpRate 0 0 16 12)).level) :
    ∃ b, s.frameIn p f = { s.cinc .rgsPortCnt 0 (8 * p) with
      rgs := { s.rgs with jcp := b }
      cur := { s.cur with rx := s.cur.rx ++ [⟨p, slice f.bytes 6 6, inner.v6, inner.src, inner.dst, inner.srcPort, inner.dstPort,
        slice (f.bytes.take (f.bytes.length - 4)) off len⟩] } } := by
  rw [← slice_srcMac (le_length_of_parseFrame_udp hparse)]
  obtain ⟨b, hb⟩ := State.jcpIn_of_token (s := s.cinc .rgsPortCnt 0 (8 * p)) ⟨p, slice (f.bytes.take (f.bytes.length - 4)) 6 6,
    inner.v6, inner.src, inner.dst, inner.srcPort, inner.dstPort, slice (f.bytes.take (f.bytes.length - 4)) off len⟩ htoken
  refine ⟨b, Eq.trans ?_ hb⟩
  unfold State.frameIn
  dsimp only
  rw [hparse]
  exact if_pos haddr

theorem State.frameIn_of_fail {s : State} {p : Nat} {f : RxFrame} {c : Nat}
    (hparse : parseFrame (s.parseCfg p) (f.bytes.take (f.bytes.length - 4)) = .fail c none) :
    s.frameIn p f = ((s.cinc .rgsPortCnt 0 (8 * p)).drop c).cinc .rgsPortCnt 0 (8 * p + 4) := by
  unfold State.frameIn
  dsimp only
  rw [hparse]

/-- What a failed parse counts. -/
theorem State.failed_parse_counts (s : State) {p c : Nat} (_ : p < 96) (_ : c < 64) :
    (((s.cinc .rgsPortCnt 0 (8 * p)).drop c).cinc .rgsPortCnt 0 (8 * p + 4)).cget .rgsDropCnt 0 c = s.cget .rgsDropCnt 0 c + 1 ∧
    (((s.cinc .rgsPortCnt 0 (8 * p)).drop c).cinc .rgsPortCnt 0 (8 * p + 4)).cget .rgsPortCnt 0 (8 * p + 4) =
      s.cget .rgsPortCnt 0 (8 * p + 4) + 1 := by
  have hne (i : Nat) (hi : i < 768) : regAddr .rgsDropCnt 0 c ≠ regAddr .rgsPortCnt 0 i := by
    rw [regAddr_rgsDropCnt, regAddr_rgsPortCnt]
    omega
  constructor
  · rw [State.cinc, State.cget_cadd_ne _ 1 (hne _ (by omega)), State.cget_drop_self, State.cinc, State.cget_cadd_ne _ 1 (hne _ (by omega))]
  · rw [State.cget_cinc_self, State.drop, State.cinc, State.cget_cadd_ne _ 1 (hne _ (by omega)).symm, State.cinc,
      State.cget_cadd_ne _ 1 (by rw [regAddr_rgsPortCnt, regAddr_rgsPortCnt]; omega)]

theorem State.failed_parse_eq (s : State) (p c : Nat) :
    ∃ x, ((s.cinc .rgsPortCnt 0 (8 * p)).drop c).cinc .rgsPortCnt 0 (8 * p + 4) = { s with ctrs := x } := by
  obtain ⟨x, hx⟩ := s.cinc_ctrsOnly .rgsPortCnt 0 (8 * p)
  obtain ⟨y, hy⟩ := State.cinc_ctrsOnly { s with ctrs := x } .rgsDropCnt 0 c
  rw [hx, State.drop, hy]
  exact State.cinc_ctrsOnly { s with ctrs := y } .rgsPortCnt 0 (8 * p + 4)

/-- The oldest frame leaves the port's FIFO; the Catalogue's entries that its lookups find in error are noted. -/
def State.fetchFrame (s : State) (p : Nat) (rest : List RxFrame) (ue : List Nat) : State :=
  let s1 := s.setPort p { s.port p with fifo := rest }
  { s1 with rgs := { s1.rgs with ue := s1.rgs.ue ++ (ue.filter fun st => s1.objExists tyStream st && !s1.rgs.ue.contains st) } }

theorem exec_registrarParse_of_room {s : State} {p : Fin 96} (ue : List Nat) {f : RxFrame} {rest : List RxFrame}
    (hf : (s.port p).fifo = f :: rest) (hb : s.blkUp 1 2 = true) (hroom : s.stagingCells + cdiv f.bytes.length 256 ≤ 32768) :
    exec (.registrarParse p ue) s = .next ((s.fetchFrame p rest ue).frameIn p f) := by
  have e : exec (.registrarParse p ue) s = execRegistrarParse p ue s := rfl
  rw [e, execRegistrarParse, hf]
  exact if_neg (not_or.2 ⟨by simp [hb], by omega⟩)

/-- Settles O43: the MAC by the FCS and the room for the frame, the parser by what it finds, the rewrite by its entry. -/
theorem framesReceived : Obligations.FramesReceived := by
  intro s p
  refine ⟨fun frame fec h5 hb => ?_, fun frame fec h5 hb => macReceive_of_outOfService h5 hb, fun ue f rest hf hb hroom => ?_,
    fun st => ⟨_, rfl, fun x => ?_, rfl⟩⟩
  · obtain ⟨hcorrected, huncorrectable⟩ := s.fecSeen_counts p fec
    refine ⟨_, exec_macReceive_of_up h5 hb, (State.cget_macTake _ p.isLt _ _ (by omega) (by omega)).trans hcorrected,
      (State.cget_macTake _ p.isLt _ _ (by omega) (by omega)).trans huncorrectable, fun hbad => ?_,
      fun hfec hfcs h64 hmax hpause hfifo => ?_⟩
    · exact macReceive_of_badFcs (by simpa [badFcs] using hbad)
    · obtain ⟨t, rfl, ht⟩ := macReceive_of_good (by simp [badFcs, hfec, hfcs]) hfec h64 hmax hpause hfifo
      exact ht
  · refine ⟨s.fetchFrame p rest ue, congrArg PortSt.fifo (s.port_setPort_self p _), rfl, exec_registrarParse_of_room ue hf hb hroom,
      fun inner outer off len hparse haddr htoken => ?_, fun c hparse hc => ?_⟩
    · obtain ⟨b, hin⟩ := State.frameIn_of_jcp (s := s.fetchFrame p rest ue) hparse haddr htoken
      rw [hin]
      exact ⟨rfl, rfl⟩
    · rw [State.frameIn_of_fail (s := s.fetchFrame p rest ue) hparse]
      obtain ⟨hdrop, hfail⟩ := (s.fetchFrame p rest ue).failed_parse_counts p.isLt hc
      obtain ⟨x, hx⟩ := (s.fetchFrame p rest ue).failed_parse_eq p c
      exact ⟨hdrop, hfail, by rw [hx]⟩
  · simp

end Sys2Proof.Machine

/-!
PROOF. SRTP and SRTCP through the Vault: what a slot allows, the steps of R164 and the replay window (R156, R164 to R166).
-/

namespace Sys2Proof.Machine

/-! ### The replay window (R165) -/

/-- A committed index does not pass again. -/
theorem replayOk_replayCommit (high : Option Nat) (win : BitVec 128) (i : Nat) :
    replayOk (some (replayCommit high win i).1) (replayCommit high win i).2 i = false := by
  cases high with
  | none => simp [replayCommit, replayOk]
  | some h =>
    rcases Nat.lt_or_ge h i with hnew | hseen
    · simp [replayCommit, replayOk, hnew]
    · by_cases hold : 128 ≤ h - i
      · simp [replayCommit, replayOk, Nat.not_lt.2 hseen, hold]
      · simp [replayCommit, replayOk, Nat.not_lt.2 hseen, hold, Nat.lt_of_not_le hold]

/-- The highest index of the window that a packet's kind uses, and the window. -/
def StreamCtx.high (c : StreamCtx) (rtcp : Bool) : Option Nat := if rtcp then c.rtcpHigh else c.rtpHigh
def StreamCtx.win (c : StreamCtx) (rtcp : Bool) : BitVec 128 := if rtcp then c.rtcpWin else c.rtpWin

/-- With REPLAY, a packet's index is taken in the window of its kind (R164 step 6). -/
def State.indexTaken (s : State) (x : Staged) (i : Nat) : State :=
  let w := replayCommit ((s.ctx x.stream).high x.rtcp) ((s.ctx x.stream).win x.rtcp) i
  if x.replay then
    s.setCtx x.stream (if x.rtcp then { s.ctx x.stream with rtcpHigh := some w.1, rtcpWin := w.2 }
      else { s.ctx x.stream with rtpHigh := some w.1, rtpWin := w.2 })
  else s

theorem State.ctx_setCtx_self (s : State) (st : Nat) (c : StreamCtx) : (s.setCtx st c).ctx st = c := ngetD_nputD_self _ _ _ _

theorem State.ctx_setCtx_ne (s : State) {st n : Nat} (c : StreamCtx) (h : n ≠ st) : (s.setCtx st c).ctx n = s.ctx n :=
  ngetD_nputD_ne _ _ _ h

theorem State.indexTaken_frame (s : State) (x : Staged) (i : Nat) :
    s.indexTaken x i = { s with vlt := (s.indexTaken x i).vlt } ∧ (s.indexTaken x i).vlt.slots = s.vlt.slots ∧
      ∀ st, st ≠ x.stream → (s.indexTaken x i).ctx st = s.ctx st := by
  unfold State.indexTaken
  split
  · exact ⟨rfl, rfl, fun _ h => s.ctx_setCtx_ne _ h⟩
  · exact ⟨rfl, rfl, fun _ _ => rfl⟩

/-- The index that was taken does not pass the window again. -/
theorem State.indexTaken_blocks (s : State) {x : Staged} (i : Nat) (h : x.replay = true) :
    if x.rtcp then replayOk ((s.indexTaken x i).ctx x.stream).rtcpHigh ((s.indexTaken x i).ctx x.stream).rtcpWin i = false
    else replayOk ((s.indexTaken x i).ctx x.stream).rtpHigh ((s.indexTaken x i).ctx x.stream).rtpWin i = false := by
  rw [State.indexTaken, if_pos h, State.ctx_setCtx_self]
  split
  · exact replayOk_replayCommit _ _ i
  · exact replayOk_replayCommit _ _ i

/-! ### The steps of R164 -/

/-- The packet with its trailer; the bytes of its header, as the length check takes them; its tag's and its trailer's length. -/
def Staged.packet (x : Staged) : Bytes := slice x.frame x.off x.len
def Staged.head (x : Staged) : Nat := if x.rtcp then 8 else if x.packet.length < 12 then 12 else rtpHeaderLen x.packet
def Profile.tag (p : Profile) (rtcp : Bool) : Nat := if rtcp then p.rtcpTag else p.rtpTag
def Staged.least (x : Staged) (p : Profile) : Nat := x.head + p.tag x.rtcp + if x.rtcp then 4 else 0

/-- The index of a packet (R162), or the one an SRTCP packet carries. -/
def State.indexOf (s : State) (x : Staged) (p : Profile) : Nat :=
  let n := x.packet.length
  let seq := beField x.packet 2 2
  if x.rtcp then beField x.packet (if p.aead then n - 4 else n - 4 - p.tag x.rtcp) 4 % 2147483648
  else (if 0x8000 ≤ seq then (s.ctx x.stream).rocHigh else (s.ctx x.stream).rocLow).toNat * 65536 + seq

/-- A packet gets past steps 2 and 3 of R164: it is long enough, and the replay window lets its index pass. -/
def State.admits (s : State) (x : Staged) (p : Profile) : Prop :=
  x.least p ≤ x.packet.length ∧
    (x.replay = true → replayOk ((s.ctx x.stream).high x.rtcp) ((s.ctx x.stream).win x.rtcp) (s.indexOf x p) = true)

/-- A plain packet passes steps 7 and 8 of R164: the padding count of RTP, the lengths of an RTCP compound. -/
def Staged.plainOk (x : Staged) (plain : Bytes) : Prop :=
  (x.rtcp = false → byteN plain 0 / 32 % 2 = 1 →
    1 ≤ byteN plain (plain.length - 1) ∧ byteN plain (plain.length - 1) ≤ plain.length - x.head) ∧
    (x.rtcp = true → compoundOk plain.length plain = true)

/-- The state that a decrypted packet leaves: its index taken, a ROC notice posted where one is due. -/
def State.decrypted (s : State) (x : Staged) (i : Nat) : State :=
  if x.rtcp then s.indexTaken x i else (s.indexTaken x i).rocNotice x.stream (beField x.packet 2 2)

/-- Steps 7 to 9 of R164. -/
def State.plainIn (s : State) (x : Staged) (plain : Bytes) : State :=
  let pad := byteN plain (plain.length - 1)
  if x.rtcp = false ∧ byteN plain 0 / 32 % 2 = 1 ∧ (pad = 0 ∨ plain.length - x.head < pad) then s.vaultDrop 0x44 x.leg (some x.stream)
  else if x.rtcp = true ∧ compoundOk plain.length plain = false then s.vaultDrop 0x45 x.leg (some x.stream)
  else ((s.cinc .vltJobCnt 0 0).sinc tyStream x.stream 0x200).store { x with frame := x.frame.take x.off ++ plain, len := plain.length }

section
variable {s : State} {x : Staged} {p : Profile} {slot : Bytes}

/-- What R164 makes of a packet that gets past steps 2 and 3: it waits for its pipelines, or goes by its tag. -/
theorem State.srtpIn_of_admits (h : s.admits x p) :
    s.srtpIn x slot p = if s.pipesFor p = false then none else
      some ((unprotect slot p x.rtcp x.packet (s.indexOf x p)).elim (s.vaultDrop 0x40 x.leg (some x.stream))
        ((s.decrypted x (s.indexOf x p)).plainIn x)) := by
  obtain ⟨hlen, hwin⟩ := h
  have hpre : ¬ (x.replay && !replayOk ((s.ctx x.stream).high x.rtcp) ((s.ctx x.stream).win x.rtcp) (s.indexOf x p)) = true := by
    cases hr : x.replay <;> simp [hwin, hr]
  have htag (o : Option Bytes) (d : State) (f : Bytes → State) : (match o with | none => d | some plain => f plain) = o.elim d f := by
    cases o <;> rfl
  refine (if_neg (Nat.not_lt.2 hlen)).trans ((if_neg hpre).trans ?_)
  exact congrArg (fun y => if s.pipesFor p = false then none else some y) (htag _ _ _)

theorem State.srtpIn_of_fenced (h : s.admits x p) (hp : s.pipesFor p = false) : s.srtpIn x slot p = none :=
  (State.srtpIn_of_admits h).trans (if_pos hp)

theorem State.srtpIn_of_tag {o : Option Bytes} (h : s.admits x p) (hp : s.pipesFor p = true)
    (ho : unprotect slot p x.rtcp x.packet (s.indexOf x p) = o) : s.srtpIn x slot p =
      some (o.elim (s.vaultDrop 0x40 x.leg (some x.stream)) ((s.decrypted x (s.indexOf x p)).plainIn x)) := by
  rw [State.srtpIn_of_admits h, if_neg (by simp [hp]), ho]

theorem State.plainIn_of_ok {plain : Bytes} (h : x.plainOk plain) : s.plainIn x plain =
    ((s.cinc .vltJobCnt 0 0).sinc tyStream x.stream 0x200).store { x with frame := x.frame.take x.off ++ plain, len := plain.length } := by
  obtain ⟨hpad, hcompound⟩ := h
  refine (if_neg fun ⟨hr, hp, hbad⟩ => ?_).trans (if_neg fun ⟨hr, hbad⟩ => ?_)
  · have := hpad hr hp
    omega
  · simp [hcompound hr] at hbad

end

/-! ### Drops of the Vault (R156, R164) -/

theorem State.vaultDrop_noKey (s : State) (leg st : Nat) :
    s.vaultDrop 0x43 leg (some st) = (s.cinc .vltDropCnt 0 3).sinc tyLeg leg 0x201 := rfl

theorem State.vaultDrop_badTag (s : State) (leg st : Nat) :
    s.vaultDrop 0x40 leg (some st) = (s.cinc .vltDropCnt 0 0).sinc tyStream st 0x201 := rfl

/-- A counter and an object's counter go up, and nothing else changes. -/
theorem State.sinc_cinc_counts (s : State) (r : Reg) (i ty id num : Nat) :
    ((s.cinc r 0 i).sinc ty id num).cget r 0 i = s.cget r 0 i + 1 ∧ (s.cinc r 0 i).sinc ty id num =
      { s with ctrs := ((s.cinc r 0 i).sinc ty id num).ctrs, stats := ((s.cinc r 0 i).sinc ty id num).stats } :=
  ⟨s.cget_cinc_self r 0 i, rfl⟩

/-! ### The oldest packet, the oldest copy -/

/-- The oldest packet leaves the staging memory. -/
def State.unstaged (s : State) (rest : List Staged) : State := { s with rgs := { s.rgs with staged := rest } }

theorem exec_srtpIngress_of_staged {s : State} {x : Staged} {rest : List Staged} (hs : s.rgs.staged = x :: rest)
    (hb : s.blkUp 1 3 = true) (hue : 2 * x.leg ∉ s.vlt.ue) :
    (∀ code, judgeSlot (s.slot (2 * x.leg)) x.leg = .error code →
      exec (.srtpIngress false) s = .next ((s.unstaged rest).vaultDrop code x.leg (some x.stream))) ∧
    ∀ p, judgeSlot (s.slot (2 * x.leg)) x.leg = .ok p →
      exec (.srtpIngress false) s = .next (((s.unstaged rest).srtpIn x (s.slot (2 * x.leg)) p).getD s) := by
  have hread : exec (.srtpIngress false) s = match judgeSlot (s.slot (2 * x.leg)) x.leg with
      | .error code => .next ((s.unstaged rest).vaultDrop code x.leg (some x.stream))
      | .ok p => .next (((s.unstaged rest).srtpIn x (s.slot (2 * x.leg)) p).getD s) := by
    have e : exec (.srtpIngress false) s = execSrtpIngress false s := rfl
    rw [e, execSrtpIngress, hs]
    exact (if_neg (by simp [hb])).trans (if_neg (by simpa [State.slotUe] using hue))
  exact ⟨fun _ h => by rw [hread, h], fun _ h => by rw [hread, h]⟩

/-- The oldest copy leaves the Vault, and copies that waited for credit enter. -/
def State.copyTaken (s : State) (rest : List CopyJob) : State := State.refillCopies { s with vlt := { s.vlt with copies := rest } }

/-- The index of a copy (R166): of SRTCP its producer's, else ROC‖SEQ. -/
def CopyJob.indexOf (c : CopyJob) : Nat := if c.rtcp then c.index else c.index * 65536 + beField c.desc.cells 2 2

theorem exec_srtpEgress_of_usable {s : State} {c : CopyJob} {rest : List CopyJob} {p : Profile} (hs : s.vlt.copies = c :: rest)
    (hb : s.blkUp 1 3 = true) (hue : 2 * c.leg + 1 ∉ s.vlt.ue) (hp : judgeSlot (s.slot (2 * c.leg + 1)) c.leg = .ok p) :
    exec (.srtpEgress false) s = if s.pipesFor p = false then .next s else
      .next (((s.copyTaken rest).cinc .vltJobCnt 0 1).admitCopy c.leg c.cls 3 { c.desc with
        cells := protect (s.slot (2 * c.leg + 1)) p c.rtcp c.desc.cells c.indexOf
        len := (protect (s.slot (2 * c.leg + 1)) p c.rtcp c.desc.cells c.indexOf).length, ctag := appliedTag c.leg }) := by
  have e : exec (.srtpEgress false) s = execSrtpEgress false s := rfl
  rw [e, execSrtpEgress, hs]
  refine (if_neg (by simp [hb])).trans ((if_neg (by simpa [State.slotUe, State.refillCopies] using hue)).trans ?_)
  change (match judgeSlot (s.slot (2 * c.leg + 1)) c.leg with | .error _ => _ | .ok _ => _) = _
  rw [hp]
  rfl

/-- Settles O45: a packet goes by its slot and the steps of R164, a copy by its slot. -/
theorem secureMedia : Obligations.SecureMedia := by
  intro s
  refine ⟨fun x rest b n roc seq index head tag high win hs hb hue hbytes hn => ⟨fun hkey => ?noKey,
    fun p hkey hseq hroc htag hhead hindex hhigh hwin hlen hreplay => ?usable⟩,
    fun c rest p index hs hb hue hkey hindex => ?egress, fun i => ⟨_, rfl, fun x => by simp, rfl⟩⟩
  case noKey =>
    refine ⟨_, (exec_srtpIngress_of_staged hs hb hue).1 _ hkey, ?_⟩
    rw [State.vaultDrop_noKey]
    exact (s.unstaged rest).sinc_cinc_counts .vltDropCnt 3 tyLeg x.leg 0x201
  case usable =>
    subst hbytes hn hseq hroc htag hhead hindex hhigh hwin
    have hexec := (exec_srtpIngress_of_staged hs hb hue).2 p hkey
    have hadmits : (s.unstaged rest).admits x p := ⟨hlen, hreplay⟩
    refine ⟨fun hp => ?_, fun hp htag => ?_, fun plain hp htag hpad hcompound => ?_⟩
    · rw [hexec, State.srtpIn_of_fenced hadmits hp]
      rfl
    · rw [State.srtpIn_of_tag hadmits hp htag] at hexec
      refine ⟨_, hexec, ?_⟩
      exact (s.unstaged rest).sinc_cinc_counts .vltDropCnt 0 tyStream x.stream 0x201
    · rw [State.srtpIn_of_tag hadmits hp htag] at hexec
      obtain ⟨hframe, hslots, hothers⟩ := (s.unstaged rest).indexTaken_frame x ((s.unstaged rest).indexOf x p)
      refine ⟨_, (s.unstaged rest).indexTaken x ((s.unstaged rest).indexOf x p), hframe, hslots, rfl, hexec.trans ?_, hothers,
        (s.unstaged rest).indexTaken_blocks _⟩
      exact congrArg _ (State.plainIn_of_ok ⟨hpad, hcompound⟩)
  case egress =>
    subst hindex
    have hexec := exec_srtpEgress_of_usable hs hb hue hkey
    refine ⟨fun hp => hexec.trans (if_pos hp), fun hp => ⟨(s.copyTaken rest).cinc .vltJobCnt 0 1, _, rfl, ?_, ?_, rfl,
      hexec.trans (if_neg (by simp [hp]))⟩⟩
    · exact State.cget_cinc_self _ _ _ _
    · exact fun a ha => nget_nputD_ne _ _ _ (List.ne_of_not_mem_cons ha)

end Sys2Proof.Machine

/-!
PROOF. The key sweep (R158) and the known-answer rounds (R174, R175).
-/

namespace Sys2Proof.Machine

/-! ### Rounds (R33) -/

/-- A round sets the timebase and keeps its own time. -/
theorem State.round_sets (s : State) (k period : Nat) :
    ∃ tm, s.round k period = { s with time := tm, sup := { s.sup with rounds := nput s.sup.rounds k (State.t { s with time := tm }) } } ∧
      ∀ x, nget s.sup.rounds k = some x → x + period < 2 ^ 64 → x + period ≤ (s.round k period).t :=
  ⟨_, s.round_spec k period⟩

/-! ### The key sweep -/

/-- A slot that the sweep judges: active, with an EXPIRY. -/
def slotExpires (slot : Bytes) : Prop := byteN slot 0 % 8 = 1 ∧ leField slot 4 4 ≠ 0

/-- A retired slot shows STATE 2, which the sweep passes over. -/
theorem not_slotExpires_retireSlot (slot : Bytes) : ¬ slotExpires (retireSlot slot) := by
  have hstate : byteN (retireSlot slot) 0 = 2 := rfl
  rintro ⟨h, -⟩
  rw [hstate] at h
  cases h

/-- A slot is retired (R158). -/
def State.slotRetired (s : State) (i : Nat) : State :=
  let s1 := s.setSlot i (retireSlot (s.slot i))
  { s1 with vlt := { s1.vlt with expires := ndel s1.vlt.expires i } }

theorem State.slot_slotRetired_self (s : State) (i : Nat) : (s.slotRetired i).slot i = retireSlot (s.slot i) := by
  simp [State.slot, State.slotRetired]

theorem State.slot_slotRetired_ne (s : State) {i k : Nat} (h : k ≠ i) : (s.slotRetired i).slot k = s.slot k := by
  simp [State.slot, State.slotRetired, h]

theorem State.mem_ue_slotRetired (s : State) (i k : Nat) : k ∈ (s.slotRetired i).vlt.ue ↔ k ∈ s.vlt.ue ∧ k ≠ i := by
  simp [State.slotRetired]

/-- The sweep's visit to a slot that has a second to retire at. -/
def State.sweepSlot (now : Nat) (s : State) (e : Nat × Nat) : State :=
  if byteN (s.slot e.1) 0 % 8 = 1 ∧ leField (s.slot e.1) 4 4 ≠ 0 ∧ e.2 ≤ now then
    (s.slotRetired e.1).raise 0x08 tyLeg (e.1 / 2) [byteOf (e.1 % 2)]
  else s

theorem exec_keySweep (s : State) : exec .keySweep s = .next (s.vlt.expires.foldl
    (State.sweepSlot ((s.round 3 2000000000).t / 1000000000)) (s.round 3 2000000000)) := by
  have hkept : (s.round 3 2000000000).vlt = s.vlt := by rw [(s.round_spec 3 2000000000).1]
  rw [← hkept]
  rfl

/-- What the sweep's visits may change: slots and what is known of them, and what an event changes. -/
def State.sweptOnly (t s : State) : Prop :=
  ∃ slots ue expires, t.eventsOnly { s with vlt := { s.vlt with slots := slots, ue := ue, expires := expires } }

theorem State.sweptOnly.trans {s t u : State} (h : u.sweptOnly t) (k : t.sweptOnly s) : u.sweptOnly s := by
  obtain ⟨sl, ue, ex, x, m, r, rfl, hr⟩ := h
  obtain ⟨sl', ue', ex', x', m', r', rfl, hr'⟩ := k
  exact ⟨sl, ue, ex, x, m, r, rfl, fun a ha => (hr a ha).trans (hr' a ha)⟩

theorem State.sweptOnly_refl (s : State) : s.sweptOnly s := ⟨_, _, _, s.eventsOnly_refl⟩

theorem State.sweepSlot_sweptOnly (now : Nat) (s : State) (e : Nat × Nat) : (s.sweepSlot now e).sweptOnly s := by
  unfold State.sweepSlot
  split
  · exact ⟨_, _, _, State.raise_eventsOnly _ _ _ _ _⟩
  · exact s.sweptOnly_refl

theorem State.sweep_sweptOnly (now : Nat) (l : List (Nat × Nat)) (s : State) : (l.foldl (State.sweepSlot now) s).sweptOnly s :=
  List.foldlRecOn (motive := fun t : State => t.sweptOnly s) _ _ s.sweptOnly_refl fun t ht e _ => (t.sweepSlot_sweptOnly now e).trans ht

/-- Slot `i` and its read error after the sweep judged it `due` or not. -/
def State.sweptAt (t s : State) (i : Nat) (due : Prop) : Prop :=
  (due → t.slot i = retireSlot (s.slot i) ∧ i ∉ t.vlt.ue) ∧ (¬ due → t.slot i = s.slot i ∧ (i ∈ t.vlt.ue ↔ i ∈ s.vlt.ue))

theorem State.vlt_raise (s : State) (code subjectType subjectId : Nat) (detail : Bytes) :
    (s.raise code subjectType subjectId detail).vlt = s.vlt := by
  obtain ⟨x, m, r, e, -⟩ := s.raise_eventsOnly code subjectType subjectId detail
  rw [e]

theorem State.slot_raise (s : State) (code subjectType subjectId : Nat) (detail : Bytes) (i : Nat) :
    (s.raise code subjectType subjectId detail).slot i = s.slot i := by
  rw [State.slot, State.vlt_raise, State.slot]

theorem State.sweepSlot_sweptAt (now : Nat) (s : State) (e : Nat × Nat) (i : Nat) :
    (s.sweepSlot now e).sweptAt s i (slotExpires (s.slot i) ∧ e.1 = i ∧ e.2 ≤ now) := by
  unfold State.sweepSlot State.sweptAt
  split
  · rename_i h
    obtain ⟨hactive, hexpiry, hdue⟩ := h
    rw [State.slot_raise, State.vlt_raise, State.mem_ue_slotRetired]
    refine ⟨?_, fun hi => ?_⟩
    · rintro ⟨-, rfl, -⟩
      exact ⟨s.slot_slotRetired_self e.1, fun h => h.2 rfl⟩
    · have hne : i ≠ e.1 := by
        rintro rfl
        exact hi ⟨⟨hactive, hexpiry⟩, rfl, hdue⟩
      exact ⟨s.slot_slotRetired_ne hne, and_iff_left hne⟩
  · rename_i h
    refine ⟨?_, fun _ => ⟨rfl, Iff.rfl⟩⟩
    rintro ⟨⟨hactive, hexpiry⟩, rfl, hdue⟩
    exact absurd ⟨hactive, hexpiry, hdue⟩ h

/-- A slot is retired by the first visit that finds it due, and no later visit finds it due again. -/
theorem State.sweep_sweptAt (now : Nat) (l : List (Nat × Nat)) (s : State) (i : Nat) :
    (l.foldl (State.sweepSlot now) s).sweptAt s i (slotExpires (s.slot i) ∧ ∃ e ∈ l, e.1 = i ∧ e.2 ≤ now) := by
  induction l generalizing s with
  | nil => exact ⟨fun ⟨_, e, he, _⟩ => (List.not_mem_nil he).elim, fun _ => ⟨rfl, Iff.rfl⟩⟩
  | cons e r ih =>
    obtain ⟨hdue, hnot⟩ := s.sweepSlot_sweptAt now e i
    obtain ⟨ihdue, ihnot⟩ := ih (s.sweepSlot now e)
    rw [List.foldl_cons]
    by_cases he : slotExpires (s.slot i) ∧ e.1 = i ∧ e.2 ≤ now
    · obtain ⟨hslot, hue⟩ := hdue he
      obtain ⟨hsame, huesame⟩ := ihnot fun h => not_slotExpires_retireSlot _ (hslot ▸ h.1)
      exact ⟨fun _ => ⟨hsame.trans hslot, fun h => hue (huesame.1 h)⟩, fun h => absurd ⟨he.1, e, List.mem_cons_self, he.2⟩ h⟩
    · obtain ⟨hslot, hue⟩ := hnot he
      refine ⟨fun ⟨hexp, f, hf, hfi⟩ => ?_, fun h => ?_⟩
      · rcases List.mem_cons.1 hf with rfl | hf
        · exact absurd ⟨hexp, hfi⟩ he
        · rw [← hslot] at hexp ⊢
          exact ihdue ⟨hexp, f, hf, hfi⟩
      · obtain ⟨hsame, huesame⟩ := ihnot fun ⟨hexp, f, hf, hfi⟩ => h ⟨hslot ▸ hexp, f, List.mem_cons_of_mem _ hf, hfi⟩
        exact ⟨hsame.trans hslot, huesame.trans hue⟩

/-- A sweep comes 2 s after the one before it, and judges every slot as it stands. -/
theorem State.keySweep_spec (s : State) : ∃ t, exec .keySweep s = .next t ∧ t.sweptOnly (s.round 3 2000000000) ∧
    ∀ i, t.sweptAt s i (slotExpires (s.slot i) ∧ ∃ e ∈ s.vlt.expires, e.1 = i ∧ e.2 ≤ (s.round 3 2000000000).t / 1000000000) := by
  refine ⟨_, exec_keySweep s, State.sweep_sweptOnly _ _ _, fun i => ?_⟩
  have hslot (t : State) (h : t.vlt = s.vlt) : t.slot i = s.slot i := by rw [State.slot, h, State.slot]
  have hkept : (s.round 3 2000000000).vlt = s.vlt := by rw [(s.round_spec 3 2000000000).1]
  have h := State.sweep_sweptAt ((s.round 3 2000000000).t / 1000000000) s.vlt.expires (s.round 3 2000000000) i
  rwa [State.sweptAt, hslot _ hkept, hkept] at h

/-! ### Limits of the parts in service (R59) -/

/-- The words of the LIMIT fields of audio and video. -/
def State.limitWords (s : State) : List Nat := s.videoLimits.map fun l => regAddr l.2.1 l.2.2.1 l.2.2.2.1

theorem State.raiseLimits_regsKept (n : Nat) (s : State) (l : List (Nat × Nat)) :
    (State.raiseLimits n s l).regsKept s [regAddr .curEventLost 0 0] := by
  induction n generalizing s l with
  | zero => exact s.regsKept_refl _
  | succ n ih =>
    unfold State.raiseLimits
    split
    · exact s.regsKept_refl _
    · exact (ih _ _).trans (State.regsKept_of_eventsOnly (s.raise_eventsOnly _ _ _ _))

theorem State.setVideoLimits_regsKept (s : State) : s.setVideoLimits.1.regsKept s s.limitWords := by
  unfold State.setVideoLimits
  refine List.foldlRecOn (motive := fun a : State × List (Nat × Nat) => a.1.regsKept s s.limitWords) _ _ (s.regsKept_refl _)
    fun a ha l hl => ?_
  dsimp only
  split
  · exact ha
  · refine ((State.regsKept_rsetFld _ _ _ _ _ _ _).mono ?_).trans ha
    exact fun _ h => List.mem_singleton.1 h ▸ List.mem_map_of_mem hl

/-- Reporting the limits writes the LIMIT fields and counts events lost, of the registers. -/
theorem State.withLimits_regsKept (s : State) (f : State → State) (more : List (Nat × Nat)) :
    (s.withLimits f more).regsKept (f s) (regAddr .curEventLost 0 0 :: (f s).limitWords) :=
  ((State.raiseLimits_regsKept _ _ _).mono (by simp)).trans ((f s).setVideoLimits_regsKept.mono (List.subset_cons_self _ _))

theorem regAddr_vltKatStatus (u i : Nat) : regAddr .vltKatStatus u i = 1 * 0x10000000 + 3 * 0x100000 + u * 0 + 0x8 + 0x4 * i := rfl

/-- No LIMIT field and no count of events lost lies in the Vault. -/
theorem State.vault_not_limitWords (s : State) {a : Nat} (hlo : 0x10300000 ≤ a) (hhi : a < 0x10400000) :
    a ∉ regAddr .curEventLost 0 0 :: s.limitWords := by
  intro h
  rcases List.mem_cons.1 h with h | h
  · rw [regAddr_curEventLost] at h
    omega
  · obtain ⟨l, hl, rfl⟩ := List.mem_map.1 h
    simp only [State.videoLimits, List.mem_append, List.mem_cons, List.not_mem_nil, or_false, List.mem_map, List.mem_range] at hl
    rcases hl with (((rfl | rfl) | ⟨n, hn, rfl⟩) | ⟨n, hn, rfl⟩) | ⟨n, hn, rfl⟩
    · rw [regAddr_afbDecRes] at hhi
      omega
    · rw [regAddr_afbEncRes] at hhi
      omega
    · rw [regAddr_vdeRes] at hhi
      omega
    · rw [regAddr_venRes] at hhi
      omega
    · rw [regAddr_cmpPipeRes] at hhi
      omega

/-- A word of the Vault reads as the change of the parts in service left it. -/
theorem State.rget_withLimits_vault (s : State) (f : State → State) (more : List (Nat × Nat)) {r : Reg} {u i : Nat}
    (hlo : 0x10300000 ≤ regAddr r u i) (hhi : regAddr r u i < 0x10400000) : (s.withLimits f more).rget r u i = (f s).rget r u i :=
  State.rget_of_regsKept (s.withLimits_regsKept f more) ((f s).vault_not_limitWords hlo hhi)

/-! ### Known answers -/

/-- The bit that says that a pipeline is fenced (R174). -/
def State.fenceBit (s : State) : Part → Nat
  | .aes n => s.rfld .vltAesStatus 0 0 n 1
  | .sha n => s.rfld .vltShaStatus 0 0 n 1
  | _ => 0

/-- Where the bit stands: the register, the bit, the pipeline. -/
inductive FencesAt : Reg → Nat → Part → Prop
  | aes {n : Nat} (h : n < 32) : FencesAt .vltAesStatus n (.aes n)
  | sha {n : Nat} (h : n < 32) : FencesAt .vltShaStatus n (.sha n)

/-- What the mismatches of the pipelines of a list do. -/
structure State.Failed (t s : State) (l : List Part) : Prop where
  frame : ∃ r c m l, t = { s with regs := r, cur := c, mgmt := m, sup := { s.sup with reported := l } }
  reports : s.sup.reported ⊆ t.sup.reported
  rounds : t.rfld .vltKatStatus 0 0 16 16 = s.rfld .vltKatStatus 0 0 16 16
  fenced : ∀ p ∈ l, t.fenceBit p = 1 ∧ (s.fenceBit p = 0 → Trigger.part p 0x05 ∈ t.sup.reported)
  others : ∀ p ∉ l, t.fenceBit p = s.fenceBit p

theorem State.failed_refl (s : State) : s.Failed s [] :=
  ⟨⟨_, _, _, _, rfl⟩, List.Subset.refl _, rfl, fun _ h => (List.not_mem_nil h).elim, fun _ _ => rfl⟩

theorem State.Failed.trans {s t u : State} {l m : List Part} (h : t.Failed s l) (k : u.Failed t m) : u.Failed s (l ++ m) := by
  refine ⟨?_, fun _ hx => k.reports (h.reports hx), k.rounds.trans h.rounds, fun p hp => ?_, fun p hp => ?_⟩
  · obtain ⟨r, c, m, l, ht⟩ := h.frame
    obtain ⟨r', c', m', l', hu⟩ := k.frame
    exact ⟨r', c', m', l', by rw [hu, ht]⟩
  · by_cases hm : p ∈ m
    · refine ⟨(k.fenced p hm).1, fun h0 => ?_⟩
      by_cases hl : p ∈ l
      · exact k.reports ((h.fenced p hl).2 h0)
      · exact (k.fenced p hm).2 ((h.others p hl).trans h0)
    · have hl : p ∈ l := (List.mem_append.1 hp).resolve_right hm
      exact ⟨(k.others p hm).trans (h.fenced p hl).1, fun h0 => k.reports ((h.fenced p hl).2 h0)⟩
  · obtain ⟨hl, hm⟩ := not_or.1 (mt List.mem_append.2 hp)
    exact (k.others p hm).trans (h.others p hl)

/-- The fail bit of a kind of pipeline set: no fence, no report. -/
theorem State.flag_failed_nil (s : State) {bit : Nat} (hbit : bit < 16) : (s.flag .vltKatStatus 0 0 bit).Failed s [] := by
  have hkept := s.regsKept_flag .vltKatStatus 0 0 bit
  have hframe := (s.flag_spec .vltKatStatus 0 0 bit).1
  have hsup : (s.flag .vltKatStatus 0 0 bit).sup = s.sup := by rw [hframe]
  refine ⟨?_, ?_, ?_, fun _ h => (List.not_mem_nil h).elim, fun p _ => ?_⟩
  · exact ⟨_, _, _, _, hframe⟩
  · rw [hsup]
    exact List.Subset.refl _
  · rw [State.rfld, s.rget_flag_self bit (by decide)]
    exact State.rfld_rsetFld_field _ _ _ _ _ (by omega)
  · cases p with
    | aes n => exact congrArg (fld · n 1) (State.rget_of_regsKept hkept (by decide))
    | sha n => exact congrArg (fld · n 1) (State.rget_of_regsKept hkept (by decide))
    | _ => rfl

/-- A pipeline in service is fenced, and reported. -/
def State.fence (s : State) (r : Reg) (i : Nat) (p : Part) : State := (s.withLimits (fun s => s.rbit r 0 0 i) []).report (.part p 0x05)

theorem State.katFail_eq (s : State) (r : Reg) (i bit : Nat) (p : Part) : s.katFail r i bit p =
    if (s.flag .vltKatStatus 0 0 bit).rfld r 0 0 i 1 = 1 then s.flag .vltKatStatus 0 0 bit
    else (s.flag .vltKatStatus 0 0 bit).fence r i p := rfl

theorem FencesAt.fenceBit {r : Reg} {i : Nat} {p : Part} (h : FencesAt r i p) (s : State) : s.fenceBit p = s.rfld r 0 0 i 1 := by
  cases h <;> rfl

theorem FencesAt.vault {r : Reg} {i : Nat} {p : Part} (h : FencesAt r i p) :
    0x10300000 ≤ regAddr r 0 0 ∧ regAddr r 0 0 < 0x10400000 ∧ regAddr .vltKatStatus 0 0 ≠ regAddr r 0 0 ∧ i < 32 := by
  cases h <;> exact ⟨by decide, by decide, by decide, by assumption⟩

/-- One pipeline's bit set, every other pipeline's reads as before. -/
theorem FencesAt.fenceBit_ne {r : Reg} {i : Nat} {p q : Part} (h : FencesAt r i p) (hq : q ≠ p) (s : State) :
    (s.rbit r 0 0 i).fenceBit q = s.fenceBit q := by
  cases h with
  | aes hn => cases q with
    | aes n =>
      have hne : n ≠ i := fun e => hq (e ▸ rfl)
      exact State.rfld_rsetFld_field _ _ _ _ _ (by omega)
    | sha n => exact State.rfld_rsetFld_ne _ _ _ _ _ _ (by decide)
    | _ => rfl
  | sha hn => cases q with
    | aes n => exact State.rfld_rsetFld_ne _ _ _ _ _ _ (by decide)
    | sha n =>
      have hne : n ≠ i := fun e => hq (e ▸ rfl)
      exact State.rfld_rsetFld_field _ _ _ _ _ (by omega)
    | _ => rfl

theorem State.fenceBit_withLimits (s : State) (f : State → State) (more : List (Nat × Nat)) (q : Part) :
    (s.withLimits f more).fenceBit q = (f s).fenceBit q := by
  cases q with
  | aes n => exact congrArg (fld · n 1) (s.rget_withLimits_vault f more (by decide) (by decide))
  | sha n => exact congrArg (fld · n 1) (s.rget_withLimits_vault f more (by decide) (by decide))
  | _ => rfl

theorem State.fenceBit_report (s : State) (tr : Trigger) (q : Part) : (s.report tr).fenceBit q = s.fenceBit q := rfl

theorem State.fence_failed (s : State) {r : Reg} {i : Nat} {p : Part} (h : FencesAt r i p) : (s.fence r i p).Failed s [p] := by
  obtain ⟨hlo, hhi, hkat, hi⟩ := h.vault
  obtain ⟨g, c, m, hlimits⟩ : ∃ g c m, s.withLimits (fun s => s.rbit r 0 0 i) [] = { s with regs := g, cur := c, mgmt := m } :=
    ⟨_, _, _, (State.limitsOnly_withLimits s (fun s => s.rbit r 0 0 i) []).2⟩
  have hreports : (s.fence r i p).sup.reported = s.sup.reported ++ [.part p 0x05] := by rw [State.fence, State.report_sup, hlimits]
  refine ⟨⟨g, c, m, _, by rw [State.fence, hlimits, State.report]⟩, ?_, ?_, fun q hq => ?_, fun q hq => ?_⟩
  · rw [hreports]
    exact List.subset_append_left _ _
  · have hword := s.rget_withLimits_vault (fun s => s.rbit r 0 0 i) [] (r := .vltKatStatus) (u := 0) (i := 0) (by decide) (by decide)
    rw [State.fence, State.rfld_report, State.rfld, hword]
    exact State.rfld_rsetFld_ne _ _ _ _ _ _ hkat
  · rw [List.mem_singleton.1 hq, hreports]
    refine ⟨?_, fun _ => List.mem_append_right _ (List.mem_singleton_self _)⟩
    rw [State.fence, State.fenceBit_report, State.fenceBit_withLimits, h.fenceBit]
    exact State.rfld_rsetFld_self _ _ _ _ _ (by omega)
  · rw [State.fence, State.fenceBit_report, State.fenceBit_withLimits]
    exact h.fenceBit_ne (fun e => hq (e ▸ List.mem_singleton_self _)) s

/-- A pipeline that was fenced before is fenced, and needs no report. -/
theorem State.Failed.of_fenced {s t : State} {p : Part} (h : t.Failed s []) (hp : t.fenceBit p = 1) : t.Failed s [p] := by
  have hsame := h.others p (List.not_mem_nil)
  refine ⟨h.frame, h.reports, h.rounds, fun q hq => ?_, fun q _ => h.others q List.not_mem_nil⟩
  rw [List.mem_singleton.1 hq, hp]
  exact ⟨rfl, fun h0 => absurd (hp.symm.trans (hsame.trans h0)) Nat.one_ne_zero⟩

theorem State.katFail_failed (s : State) {r : Reg} {i bit : Nat} {p : Part} (h : FencesAt r i p) (hbit : bit < 16) :
    (s.katFail r i bit p).Failed s [p] := by
  have hflag := s.flag_failed_nil hbit
  rw [State.katFail_eq]
  split
  · rename_i hfenced
    exact hflag.of_fenced ((h.fenceBit _).trans hfenced)
  · exact hflag.trans (State.fence_failed _ h)

theorem State.foldl_katFail_failed {n : Nat} {r : Reg} {bit : Nat} {part : Fin n → Part} (h : ∀ i : Fin n, FencesAt r i (part i))
    (hbit : bit < 16) (l : List (Fin n)) (s : State) :
    (l.foldl (fun s i => s.katFail r i.val bit (part i)) s).Failed s (l.map part) := by
  induction l generalizing s with
  | nil => exact s.failed_refl
  | cons i l ih => exact (s.katFail_failed (h i) hbit).trans (ih _)

/-- A round counted. -/
def State.katStart (s : State) : State :=
  (s.round 0 1000000).rsetFld .vltKatStatus 0 0 16 16 ((s.round 0 1000000).rfld .vltKatStatus 0 0 16 16 + 1)

theorem State.katStart_sets (s : State) : ∃ tm r,
    s.katStart = { s with regs := r, time := tm, sup := { s.sup with rounds := nput s.sup.rounds 0 (State.t { s with time := tm }) } } ∧
      (∀ x, nget s.sup.rounds 0 = some x → x + 1000000 < 2 ^ 64 → x + 1000000 ≤ s.katStart.t) ∧
      s.katStart.regsKept s [regAddr .vltKatStatus 0 0] ∧
      s.katStart.rfld .vltKatStatus 0 0 16 16 = (s.rfld .vltKatStatus 0 0 16 16 + 1) % 65536 := by
  obtain ⟨tm, hround, hafter⟩ := s.round_sets 0 1000000
  rw [hround] at hafter
  rw [State.katStart, hround]
  exact ⟨tm, _, rfl, hafter, State.regsKept_rsetFld s .vltKatStatus 0 0 16 16 _, State.rfld_rsetFld_self _ _ _ _ _ (by omega)⟩

theorem State.fenceBit_katStart (s : State) (p : Part) : s.katStart.fenceBit p = s.fenceBit p := by
  obtain ⟨_, _, -, -, hkept, -⟩ := s.katStart_sets
  cases p with
  | aes n => exact congrArg (fld · n 1) (State.rget_of_regsKept hkept (by decide))
  | sha n => exact congrArg (fld · n 1) (State.rget_of_regsKept hkept (by decide))
  | _ => rfl

/-- The mismatches of a round, in the order in which it reports them. -/
def State.katFails (s : State) (aes ghash : List (Fin 32)) (sha : List (Fin 8)) : State :=
  sha.foldl (fun s i => s.katFail .vltShaStatus i.val 2 (.sha i.val))
    (ghash.foldl (fun s i => s.katFail .vltAesStatus i.val 1 (.aes i.val))
      (aes.foldl (fun s i => s.katFail .vltAesStatus i.val 0 (.aes i.val)) s))

theorem exec_katRound_of_up {s : State} (hb : s.blkUp 1 3 = true) (aes ghash : List (Fin 32)) (sha : List (Fin 8)) :
    exec (.katRound aes ghash sha) s = .next (s.katStart.katFails aes ghash sha) := congrArg Host.Outcome.next (if_pos hb)

/-- A round fences the pipelines whose answers mismatch. -/
theorem State.katFails_failed (s : State) (aes ghash : List (Fin 32)) (sha : List (Fin 8)) :
    (s.katFails aes ghash sha).Failed s (aes.map (.aes ·) ++ (ghash.map (.aes ·) ++ sha.map (.sha ·))) := by
  have haes := State.foldl_katFail_failed (part := fun i : Fin 32 => .aes i) (fun i => .aes i.isLt) (bit := 0) (by omega) aes s
  have hghash := State.foldl_katFail_failed (part := fun i : Fin 32 => .aes i) (fun i => .aes i.isLt) (bit := 1) (by omega) ghash
  have hsha := State.foldl_katFail_failed (part := fun i : Fin 8 => .sha i) (fun i => .sha (by omega)) (bit := 2) (by omega) sha
  exact haes.trans ((hghash _).trans (hsha _))

/-- Settles O46: the sweep judges each slot once, and a round fences the pipelines that it finds wrong. -/
theorem keySweepAndKnownAnswers : Obligations.KeySweepAndKnownAnswers := by
  intro s
  refine ⟨?sweep, fun aes ghash sha hb => ?round⟩
  case sweep =>
    obtain ⟨t, hexec, hswept, hat⟩ := s.keySweep_spec
    obtain ⟨tm, hround, hafter⟩ := s.round_sets 3 2000000000
    rw [hround] at hswept hat hafter
    obtain ⟨slots, ue, ex, x, m, r, rfl, hr⟩ := hswept
    refine ⟨_, hexec, rfl, rfl, fun a ha => hr a (List.ne_of_not_mem_cons ha), hafter, nget_nput_self _ _ _, fun i => ?_⟩
    obtain ⟨hdue, hnot⟩ := hat i
    split
    · rename_i h
      obtain ⟨hactive, hexpiry, hpassed⟩ := h
      exact hdue ⟨⟨hactive, hexpiry⟩, hpassed⟩
    · rename_i h
      exact hnot fun ⟨⟨hactive, hexpiry⟩, hpassed⟩ => h ⟨hactive, hexpiry, hpassed⟩
  case round =>
    have hfailed := s.katStart.katFails_failed aes ghash sha
    have hnone (ha : aes = []) (hg : ghash = []) (hs : sha = []) : s.katStart.katFails aes ghash sha = s.katStart := by
      rw [ha, hg, hs]
      rfl
    have hexec := exec_katRound_of_up hb aes ghash sha
    generalize s.katStart.katFails aes ghash sha = t at hfailed hnone hexec
    obtain ⟨tm, r, hstart, hafter, hkept, hcount⟩ := s.katStart_sets
    obtain ⟨r', c, m, l, ht⟩ := hfailed.frame
    have htime : t.t = s.katStart.t := by
      rw [ht]
      rfl
    refine ⟨t, hexec, ?_, fun x hx hl => (hafter x hx hl).trans_eq htime.symm, hfailed.rounds.trans hcount,
      fun i hi => ?_, fun i hi => ?_, fun i ha hg => ?_, fun ha hg hs => ?_⟩
    · rw [hstart] at ht
      subst ht
      rfl
    · have hin : Part.aes i ∈ aes.map (fun i => Part.aes i.val) ++ (ghash.map (fun i => .aes i.val) ++ sha.map fun i => .sha i.val) := by
        simpa [Fin.val_inj] using hi
      obtain ⟨hbit, hreport⟩ := hfailed.fenced _ hin
      exact ⟨hbit, fun h0 => hreport ((s.fenceBit_katStart _).trans h0)⟩
    · have hin : Part.sha i ∈ aes.map (fun i => Part.aes i.val) ++ (ghash.map (fun i => .aes i.val) ++ sha.map fun i => .sha i.val) := by
        simpa [Fin.val_inj] using hi
      obtain ⟨hbit, hreport⟩ := hfailed.fenced _ hin
      exact ⟨hbit, fun h0 => hreport ((s.fenceBit_katStart _).trans h0)⟩
    · refine (hfailed.others (.aes i) ?_).trans (s.fenceBit_katStart _)
      simpa [Fin.val_inj] using ⟨ha, hg⟩
    · rw [hnone ha hg hs]
      refine ⟨?_, hkept⟩
      rw [hstart]

end Sys2Proof.Machine

/-!
PROOF. General AES jobs (R168 to R173, R281): submission, each operation, completion.
-/

namespace Sys2Proof.Machine

/-! ### A write read back whole -/

theorem takeWhile_dropWhile_self {α : Type} (p : α → Bool) (l : List α) : (l.dropWhile p).takeWhile p = [] := by
  induction l with
  | nil => rfl
  | cons a r ih =>
    rw [List.dropWhile_cons]
    split
    · exact ih
    · rename_i h
      exact List.takeWhile_cons_of_neg h

theorem dropWhile_dropWhile_of_imp {α : Type} {p q : α → Bool} (h : ∀ a, q a = true → p a = true) (l : List α) :
    (l.dropWhile p).dropWhile q = l.dropWhile p := by
  induction l with
  | nil => rfl
  | cons a r ih =>
    rw [List.dropWhile_cons]
    split
    · exact ih
    · rename_i hp
      exact List.dropWhile_cons_of_neg fun hq => hp (h a hq)

theorem le_of_mem_memCells {a : Nat} {b : Bytes} {e : Nat × Byte} (h : e ∈ memCells a b) : a ≤ e.1 ∧ e.1 < a + b.length := by
  unfold memCells at h
  obtain ⟨x, hx, hy⟩ := List.mem_filterMap.1 h
  have hlt := List.mem_range.1 (List.of_mem_zip hx).1
  split at hy
  · cases hy
  · cases hy
    exact ⟨by omega, by omega⟩

/-- What was written reads back whole from any table of bytes, also one whose addresses do not rise. -/
theorem memRead_memWrite_whole (m : NMap Byte) (a : Nat) (b : Bytes) : memRead (memWrite m a b) a b.length = b := by
  have hhere : (((memWrite m a b).dropWhile fun e => decide (e.1 < a)).takeWhile fun e => decide (e.1 < a + b.length)) = memCells a b := by
    have hbelow : ∀ e ∈ m.takeWhile (fun e => decide (e.1 < a)), decide (e.1 < a) = true := fun e he =>
      List.mem_takeWhile_imp (p := fun e : Nat × Byte => decide (e.1 < a)) he
    have hcells : ∀ e ∈ memCells a b, decide (e.1 < a + b.length) = true := fun e he => by simpa using (le_of_mem_memCells he).2
    have hfrom : (memCells a b ++ m.dropWhile fun e => decide (e.1 < a + b.length)).dropWhile (fun e => decide (e.1 < a)) =
        memCells a b ++ m.dropWhile fun e => decide (e.1 < a + b.length) := by
      cases hc : memCells a b with
      | nil => exact dropWhile_dropWhile_of_imp (fun e he => by simp at he ⊢; omega) m
      | cons e r =>
        have he : a ≤ e.1 := (le_of_mem_memCells (b := b) (hc ▸ List.mem_cons_self)).1
        exact List.dropWhile_cons_of_neg (by simpa using he)
    rw [memWrite, List.append_assoc, List.dropWhile_append_of_pos hbelow, hfrom, List.takeWhile_append_of_pos hcells,
      takeWhile_dropWhile_self, List.append_nil]
  rw [memRead, hhere]
  refine List.ext_getElem (by simp) fun i h1 h2 => ?_
  simp only [List.getElem_map, List.getElem_range, ngetD, nget_memCells, Nat.add_sub_cancel_left]
  have hbyte : byteAt b i = b[i] := by simp [byteAt, h2]
  by_cases h0 : byteAt b i = 0
  · rw [if_neg fun h => h.2.2 h0, ← hbyte, h0]
    rfl
  · rw [if_pos ⟨by omega, by omega, h0⟩]
    exact hbyte

/-! ### Cores and cluster memories -/

theorem State.cmem_setCmem (s : State) (cl k : Nat) (m : NMap Byte) : (s.setCmem cl m).cmem k = if k = cl then m else s.cmem k := by
  rw [State.cmem, State.setCmem_dsp, ngetD_nputD]
  split <;> rfl

theorem State.core_setCmem (s : State) (cl c : Nat) (m : NMap Byte) : (s.setCmem cl m).core c = s.core c := by
  rw [State.core, State.setCmem_dsp, ngetD_nputD]
  split
  · rename_i h
    rw [← h]
    rfl
  · rfl

theorem State.core_setCore_self (s : State) (c : Nat) (x : DspCore) : (s.setCore c x).core c = x := by
  rw [State.core, State.setCore, ngetD_nputD_self, ngetD_nputD_self]

theorem State.cmem_setCore (s : State) (c k : Nat) (x : DspCore) : (s.setCore c x).cmem k = s.cmem k := by
  rw [State.cmem, State.setCore, ngetD_nputD]
  split
  · rename_i h
    rw [← h]
    rfl
  · rfl

/-! ### Submission -/

/-- Going in flight leaves whose job it is. -/
theorem promote_map_core_addr (n : Nat) (l : List VaultJob) :
    (promote n l).map (fun j => (j.core, j.addr)) = l.map fun j => (j.core, j.addr) := by
  induction l generalizing n with
  | nil => rfl
  | cons j r ih =>
    rw [promote]
    split
    · split
      · exact congrArg (_ :: ·) (ih _)
      · rfl
    · exact congrArg (_ :: ·) (ih _)

/-- Jobs of a core that wait for credit. -/
def State.queuedJobs (s : State) (c : Nat) : Nat := countIf (fun j => decide (j.core = c) && decide (j.stage = 0)) s.vlt.jobs

/-- A job joins the queue, and queued jobs go in flight. -/
def State.jobQueued (s : State) (c a : Nat) : State :=
  ({ s with vlt := { s.vlt with jobs := s.vlt.jobs ++ [(⟨c, a, 0, 0⟩ : VaultJob)] } }).promoteJobs

theorem State.jobQueued_spec (s : State) (c a : Nat) :
    (s.jobQueued c a).vlt.jobs.map (fun j => (j.core, j.addr)) = s.vlt.jobs.map (fun j => (j.core, j.addr)) ++ [(c, a)] ∧
      s.jobQueued c a = { s with vlt := { s.vlt with jobs := (s.jobQueued c a).vlt.jobs } } := by
  refine ⟨(promote_map_core_addr _ _).trans ?_, rfl⟩
  rw [List.map_append]
  rfl

/-- The Curator's descriptor laid into the memory of its job port (log 20). -/
def State.descLaid (s : State) (a : W32) (desc : Bytes) : State :=
  s.setCmem 17 (memWrite (s.cmem 17) (a.toNat % 1048576) (fitTo 64 desc))

theorem length_fitTo (n : Nat) (b : Bytes) : (fitTo n b).length = n := by
  simp [fitTo, zeros]
  omega

theorem State.descLaid_spec (s : State) (a : W32) (desc : Bytes) :
    memRead ((s.descLaid a desc).cmem 17) (a.toNat % 1048576) 64 = fitTo 64 desc ∧
      (∀ k, k ≠ 17 → (s.descLaid a desc).cmem k = s.cmem k) ∧ ∀ k, (s.descLaid a desc).core k = s.core k := by
  refine ⟨?_, fun k hk => ?_, fun k => s.core_setCmem _ _ _⟩
  · rw [State.descLaid, State.cmem_setCmem, if_pos rfl]
    have h := memRead_memWrite_whole (s.cmem 17) (a.toNat % 1048576) (fitTo 64 desc)
    rwa [length_fitTo] at h
  · rw [State.descLaid, State.cmem_setCmem, if_neg hk]

theorem exec_jobSubmit_dsp {c : Fin 273} (hc : c.val < 272) (s : State) (a : W32) (desc : Bytes) :
    exec (.jobSubmit c ⟨a, desc⟩) s = .next (if 8 ≤ s.queuedJobs c then s.flag .dspCoreStatus (c / 16) (c % 16) 13
      else (s.cinc .dspCnt (c / 16) 6).jobQueued c a.toNat) := by
  have hne : c.val ≠ curatorCore := by
    unfold curatorCore
    omega
  have e : exec (.jobSubmit c ⟨a, desc⟩) s = execJobSubmit c ⟨a, desc⟩ s := rfl
  simp only [e, execJobSubmit, State.submitJob, if_neg hne]
  rfl

theorem exec_jobSubmit_curator {c : Fin 273} (hc : c.val = 272) (s : State) (a : W32) (desc : Bytes) :
    exec (.jobSubmit c ⟨a, desc⟩) s = .next (if 8 ≤ s.queuedJobs c then s.descLaid a desc else (s.descLaid a desc).jobQueued c a.toNat) := by
  have heq : c.val = curatorCore := hc
  have e : exec (.jobSubmit c ⟨a, desc⟩) s = execJobSubmit c ⟨a, desc⟩ s := rfl
  simp only [e, execJobSubmit, State.submitJob, if_pos heq]
  rfl

/-! ### Operations -/

/-- The first job that meets a test is replaced where it stands. -/
theorem updFirst_of_find? {t : VaultJob → Bool} {l : List VaultJob} {j : VaultJob} (f : VaultJob → VaultJob) (h : l.find? t = some j) :
    ∃ pre post, l = pre ++ j :: post ∧ updFirst t f l = pre ++ f j :: post := by
  induction l with
  | nil => cases h
  | cons a r ih =>
    rw [List.find?_cons] at h
    rw [updFirst]
    split at h
    · rename_i ha
      cases h
      exact ⟨[], r, rfl, if_pos ha⟩
    · rename_i ha
      obtain ⟨pre, post, hl, hu⟩ := ih h
      exact ⟨a :: pre, post, by rw [hl]; rfl, by rw [if_neg (by simp [ha]), hu]; rfl⟩

/-- The eight operations, each with its mode. -/
theorem exec_operation {c : Instr} {mode : Nat} (h : (c, mode) ∈ [(Instr.cbcEncrypt, 1), (.cbcDecrypt, 2), (.ctr, 3), (.cfbEncrypt, 4),
    (.cfbDecrypt, 5), (.gcmEncrypt, 6), (.gcmDecrypt, 7), (.ctxWrite, 15)]) (s : State) : exec c s = .next (s.runJob mode) := by
  simp only [List.mem_cons, Prod.mk.injEq, List.not_mem_nil, or_false] at h
  rcases h with ⟨rfl, rfl⟩ | ⟨rfl, rfl⟩ | ⟨rfl, rfl⟩ | ⟨rfl, rfl⟩ | ⟨rfl, rfl⟩ | ⟨rfl, rfl⟩ | ⟨rfl, rfl⟩ | ⟨rfl, rfl⟩ <;> rfl

/-- The job that an operation takes: the first in flight of its mode. -/
def State.isNextOf (s : State) (mode : Nat) (j : VaultJob) : Bool := decide (j.stage = 1) && decide (jfld (s.jobDesc j) 0 4 = mode)

/-- A job's status and the state it leaves: by its checks, by CTX_WRITE, by its cipher. -/
def State.jobResult (s : State) (mode : Nat) (j : VaultJob) : Nat × State :=
  if s.judgeJob j ≠ 0 then (s.judgeJob j, s) else if mode = 15 then (0, s.ctxWrite (s.jobDesc j)) else s.runCipher j

/-- The state with other jobs. -/
def State.withJobs (s : State) (l : List VaultJob) : State := { s with vlt := { s.vlt with jobs := l } }

theorem State.runJob_of_find? {s : State} {mode : Nat} {j : VaultJob} (h : s.vlt.jobs.find? (s.isNextOf mode) = some j) :
    s.runJob mode = if s.judgeJob j = 0 ∧ mode ≠ 15 ∧ s.aesUp = false then s else (s.jobResult mode j).2.withJobs
      (updFirst (s.isNextOf mode) (fun i => { i with stage := 2, status := (s.jobResult mode j).1 }) (s.jobResult mode j).2.vlt.jobs) := by
  have e : s.vlt.jobs.find? (fun j => decide (j.stage = 1) && decide (jfld (s.jobDesc j) 0 4 = mode)) = some j := h
  rw [State.runJob, e]
  rfl

/-! ### Cipher jobs (R169 to R172) -/

/-- Where the descriptor says that a job's source data, destination and key block lie, and what it reads of the first and third. -/
def State.jobSrc (s : State) (b : Bytes) : Nat := s.bufAddr (BitVec.ofNat 32 (jfld b 64 32)) + jfld b 96 22
def State.jobDst (s : State) (b : Bytes) : Nat := s.bufAddr (BitVec.ofNat 32 (jfld b 128 32)) + jfld b 160 22
def State.jobKey (s : State) (b : Bytes) : Nat := s.bufAddr (BitVec.ofNat 32 (jfld b 192 32)) + jfld b 224 22
def jobKeyLen (b : Bytes) : Nat := if jfld b 4 1 = 1 then 32 else 16
def State.jobData (s : State) (b : Bytes) : Bytes :=
  s.gread (s.jobSrc b) (jfld b 32 14 + jfld b 16 14 + if jfld b 0 4 = 7 then jfld b 8 5 else 0)

/-- The output of a job's cipher over what it reads. -/
def State.jobOut (s : State) (b : Bytes) : Option Bytes :=
  jobOutput (jfld b 0 4) (jfld b 8 5) (aesKeys (s.gread (s.jobKey b) (jobKeyLen b))) (slice b 32 16) ((s.jobData b).take (jfld b 32 14))
    (slice (s.jobData b) (jfld b 32 14) (jfld b 16 14)) ((s.jobData b).drop (jfld b 32 14 + jfld b 16 14))

/-- A failed job's destination is cleared. -/
def State.jobBlanked (t s : State) (b : Bytes) : State :=
  t.gwrite (s.jobDst b) (zeros (jfld b 16 14 + if jfld b 0 4 = 6 then jfld b 8 5 else 0))

theorem State.runCipher_eq (s : State) (j : VaultJob) : s.runCipher j =
    if s.gpoison (s.jobSrc (s.jobDesc j)) (s.jobData (s.jobDesc j)).length then (9, (s.metPoison 1 3).jobBlanked s (s.jobDesc j))
    else if s.gpoison (s.jobKey (s.jobDesc j)) (jobKeyLen (s.jobDesc j)) then
      ((s.draw 8).1, ((s.draw 8).2.metPoison 1 3).jobBlanked s (s.jobDesc j))
    else (s.jobOut (s.jobDesc j)).elim (8, s.jobBlanked s (s.jobDesc j)) fun out => (0, s.gwrite (s.jobDst (s.jobDesc j)) out) := by
  have hout (o : Option Bytes) (d : Nat × State) (f : Bytes → Nat × State) :
      (match o with | some out => f out | none => d) = o.elim d f := by
    cases o <;> rfl
  rw [← hout]
  rfl

theorem State.runCipher_of_poison {s : State} {j : VaultJob}
    (h : s.gpoison (s.jobSrc (s.jobDesc j)) (s.jobData (s.jobDesc j)).length = true) : (s.runCipher j).1 = 9 := by
  rw [State.runCipher_eq, if_pos h]

/-- With neither source nor key poisoned, a job ends by its output. -/
theorem State.runCipher_of_clean {s : State} {j : VaultJob}
    (hsrc : s.gpoison (s.jobSrc (s.jobDesc j)) (s.jobData (s.jobDesc j)).length = false)
    (hkey : s.gpoison (s.jobKey (s.jobDesc j)) (jobKeyLen (s.jobDesc j)) = false) :
    (s.jobOut (s.jobDesc j) = none → (s.runCipher j).1 = 8) ∧
      ∀ out, s.jobOut (s.jobDesc j) = some out → s.runCipher j = (0, s.gwrite (s.jobDst (s.jobDesc j)) out) := by
  rw [State.runCipher_eq, if_neg (Bool.not_eq_true _ ▸ hsrc), if_neg (Bool.not_eq_true _ ▸ hkey)]
  exact ⟨fun h => by rw [h]; rfl, fun out h => by rw [h]; rfl⟩

theorem State.gddrKept_gwrite {s : State} (h : nsorted s.gddr = true) (a : Nat) (b : Bytes) : (s.gwrite a b).gddrKept s a b.length :=
  fun x hx => (ngetD_memWrite h a b x).trans (if_neg (by omega))

theorem State.vlt_metPoison (s : State) (wing num : Nat) : (s.metPoison wing num).vlt = s.vlt := by rw [State.metPoison_spec]

/-- A cipher leaves the Vault's own state alone. -/
theorem State.vlt_runCipher (s : State) (j : VaultJob) : (s.runCipher j).2.vlt = s.vlt := by
  rw [State.runCipher_eq]
  split
  · exact s.vlt_metPoison 1 3
  · split
    · exact (s.draw 8).2.vlt_metPoison 1 3
    · cases s.jobOut (s.jobDesc j) <;> rfl

theorem State.jobs_jobResult (s : State) (mode : Nat) (j : VaultJob) : (s.jobResult mode j).2.vlt.jobs = s.vlt.jobs := by
  unfold State.jobResult
  split
  · rfl
  · split
    · rfl
    · exact congrArg Vault.jobs (s.vlt_runCipher j)

/-- An operation ends its job where it stands, and leaves the state of the job's result. -/
theorem State.runJob_ends {s : State} {mode : Nat} {j : VaultJob} (h : s.vlt.jobs.find? (s.isNextOf mode) = some j)
    (hup : s.judgeJob j = 0 → mode ≠ 15 → s.aesUp = true) : ∃ pre post, s.vlt.jobs = pre ++ j :: post ∧
      s.runJob mode = (s.jobResult mode j).2.withJobs (pre ++ { j with stage := 2, status := (s.jobResult mode j).1 } :: post) := by
  obtain ⟨pre, post, hl, hu⟩ := updFirst_of_find? (fun i => { i with stage := 2, status := (s.jobResult mode j).1 }) h
  refine ⟨pre, post, hl, (State.runJob_of_find? h).trans ((if_neg ?_).trans ?_)⟩
  · rintro ⟨h0, hm, hdown⟩
    simp [hup h0 hm] at hdown
  · rw [s.jobs_jobResult, hu]

/-! ### Completion (R281) -/

/-- A job leaves with its STATUS written into its descriptor and its core's JOB_DONE advanced. -/
def State.jobLeft (s : State) (j : VaultJob) (rest : List VaultJob) (status : Nat) : State :=
  let s1 := (s.withJobs rest).setCmem (j.core / 16) (memWrite (s.cmem (j.core / 16)) (j.addr % 1048576 + 56) [byteOf status])
  s1.setCore j.core { s1.core j.core with jobDone := (s1.core j.core).jobDone + 1 }

theorem State.jobLeft_status (s : State) (j : VaultJob) (rest : List VaultJob) (status : Nat) :
    memRead ((s.jobLeft j rest status).cmem (j.core / 16)) (j.addr % 1048576 + 56) 1 = [byteOf status] := by
  rw [State.jobLeft, State.cmem_setCore, State.cmem_setCmem, if_pos rfl]
  exact memRead_memWrite_whole _ _ [byteOf status]

theorem State.jobLeft_jobDone (s : State) (j : VaultJob) (rest : List VaultJob) (status : Nat) :
    ((s.jobLeft j rest status).core j.core).jobDone = (s.core j.core).jobDone + 1 := by
  rw [State.jobLeft, State.core_setCore_self, State.core_setCmem]
  rfl

theorem State.jobLeft_frame (s : State) (j : VaultJob) (rest : List VaultJob) (status : Nat) :
    ∃ d, s.jobLeft j rest status = { s.withJobs rest with dsp := d } := ⟨_, rfl⟩

/-- It is counted by its outcome, and queued jobs go in flight. -/
def State.jobCompleted (s : State) (j : VaultJob) (rest : List VaultJob) (status : Nat) : State :=
  ((s.jobLeft j rest status).cinc .vltJobCnt 0 (if status = 0 then 2 else 3)).promoteJobs

theorem exec_jobDone_of_ended {s : State} {j : VaultJob} {rest : List VaultJob} (h : takeFirst s.jobEnded s.vlt.jobs = some (j, rest)) :
    exec .jobDone s = .next (if jfld (s.jobDesc j) 5 1 = 1 then
      (s.jobCompleted j rest (if j.stage = 2 then j.status else 1)).hwPost 7 2 (some (jfld (s.jobDesc j) 384 17))
        (some (jfld (s.jobDesc j) 401 6)) (leBytes 4 j.addr ++ [byteOf (if j.stage = 2 then j.status else 1)])
      else s.jobCompleted j rest (if j.stage = 2 then j.status else 1)) := by
  have e : exec .jobDone s = execJobDone s := rfl
  rw [e, execJobDone, h]
  rfl

theorem State.jobCompleted_frame (s : State) (j : VaultJob) (rest : List VaultJob) (status : Nat) :
    ∃ l d c, s.jobCompleted j rest status = { s with vlt := { s.vlt with jobs := l }, dsp := d, ctrs := c } := by
  obtain ⟨d, h⟩ := s.jobLeft_frame j rest status
  rw [State.jobCompleted, h]
  exact ⟨_, _, _, rfl⟩

theorem State.dsp_jobCompleted (s : State) (j : VaultJob) (rest : List VaultJob) (status : Nat) :
    (s.jobCompleted j rest status).dsp = (s.jobLeft j rest status).dsp := rfl

theorem State.jobCompleted_status (s : State) (j : VaultJob) (rest : List VaultJob) (status : Nat) :
    memRead ((s.jobCompleted j rest status).cmem (j.core / 16)) (j.addr % 1048576 + 56) 1 = [byteOf status] := by
  rw [State.cmem, State.dsp_jobCompleted]
  exact s.jobLeft_status j rest status

theorem State.jobCompleted_jobDone (s : State) (j : VaultJob) (rest : List VaultJob) (status : Nat) :
    ((s.jobCompleted j rest status).core j.core).jobDone = (s.core j.core).jobDone + 1 := by
  rw [State.core, State.dsp_jobCompleted]
  exact s.jobLeft_jobDone j rest status

theorem State.jobCompleted_counts (s : State) (j : VaultJob) (rest : List VaultJob) (status : Nat) :
    (s.jobCompleted j rest status).cget .vltJobCnt 0 (if status = 0 then 2 else 3) =
      s.cget .vltJobCnt 0 (if status = 0 then 2 else 3) + 1 :=
  State.cget_cinc_self (s.jobLeft j rest status) _ _ _

theorem regAddr_dspCoreStatus (u i : Nat) :
    regAddr .dspCoreStatus u i = 2 * 0x10000000 + 0x10 * 0x100000 + u * 0x100000 + 0x100 + 0x4 * i := rfl

/-- Settles O47: a submission by the jobs queued, an operation by its job's result, a completion by `jobCompleted`. -/
theorem vaultJobs : Obligations.VaultJobs := by
  intro s
  refine ⟨fun c a desc => ⟨fun hroom => ?submit, fun hfull => ?refuse⟩,
    fun c mode j hc hj => ⟨fun h0 hm hdown => ?waits, fun hup => ?runs⟩, fun j rest hj _ => ?done⟩
  case submit =>
    by_cases hc : c.val = 272
    · obtain ⟨hjobs, -⟩ := (s.descLaid a desc).jobQueued_spec c a.toNat
      obtain ⟨hdesc, hmems, hcores⟩ := s.descLaid_spec a desc
      exact ⟨_, (exec_jobSubmit_curator hc s a desc).trans (congrArg _ (if_neg (Nat.not_le.2 hroom))), hjobs, fun h => by omega,
        fun _ => ⟨hdesc, hmems, hcores, rfl⟩⟩
    · obtain ⟨hjobs, -⟩ := (s.cinc .dspCnt (c / 16) 6).jobQueued_spec c a.toNat
      exact ⟨_, (exec_jobSubmit_dsp (by omega) s a desc).trans (congrArg _ (if_neg (Nat.not_le.2 hroom))), hjobs,
        fun _ => ⟨s.cget_cinc_self .dspCnt (c / 16) 6, rfl⟩, fun h => absurd h hc⟩
  case refuse =>
    by_cases hc : c.val = 272
    · exact ⟨_, (exec_jobSubmit_curator hc s a desc).trans (congrArg _ (if_pos hfull)), rfl, fun h => by omega, fun _ => rfl⟩
    · have hframe := (s.flag_spec .dspCoreStatus (c / 16) (c % 16) 13).1
      have haddr : regAddr .dspCoreStatus (c / 16) (c % 16) ≠ regAddr .curEventLost 0 0 := by
        rw [regAddr_dspCoreStatus, regAddr_curEventLost]
        omega
      refine ⟨_, (exec_jobSubmit_dsp (by omega) s a desc).trans (congrArg _ (if_pos hfull)), ?_,
        fun _ => ⟨State.flag_sets _ _ _ _ (by omega) haddr, hframe⟩, fun h => absurd h hc⟩
      rw [hframe]
  case waits => exact (exec_operation hc s).trans (congrArg _ ((State.runJob_of_find? hj).trans (if_pos ⟨h0, hm, hdown⟩)))
  case runs =>
    obtain ⟨pre, post, hl, hrun⟩ := State.runJob_ends hj hup
    refine ⟨s.runJob mode, s.jobDesc j, exec_operation hc s, rfl, pre, post, hl, (s.jobResult mode j).1, ?_, fun h => ?judged,
      fun h0 hm => ?context,
      fun h0 hm srcA dstA kbA keyLen len aad tag all out hlen haad htag hkeyLen hsrc hdst hkb hall hout => ?cipher⟩
    · rw [hrun]
      rfl
    case judged =>
      have hres : s.jobResult mode j = (s.judgeJob j, s) := if_pos h
      rw [hrun, hres]
      exact ⟨rfl, rfl⟩
    case context =>
      have hres : s.jobResult mode j = (0, s.ctxWrite (s.jobDesc j)) := (if_neg (not_not.2 h0)).trans (if_pos hm)
      rw [hrun, hres]
      have hself := s.ctx_setCtx_self (jfld (s.jobDesc j) 64 17) { s.ctx (jfld (s.jobDesc j) 64 17) with
        rocHigh := BitVec.ofNat 32 (jfld (s.jobDesc j) 96 32), rocLow := BitVec.ofNat 32 (jfld (s.jobDesc j) 128 32), notified := false }
      exact ⟨rfl, congrArg StreamCtx.rocHigh hself, congrArg StreamCtx.rocLow hself, congrArg StreamCtx.notified hself,
        fun x hx => s.ctx_setCtx_ne _ hx, rfl⟩
    case cipher =>
      have hres : s.jobResult mode j = s.runCipher j := (if_neg (not_not.2 h0)).trans (if_neg hm)
      have hmode : jfld (s.jobDesc j) 0 4 = mode := by
        have h := List.find?_some hj
        simp only [Bool.and_eq_true, decide_eq_true_eq] at h
        exact h.2
      subst hlen haad htag hkeyLen hsrc hdst hkb hall hout hmode
      rw [hrun, hres]
      refine ⟨fun hp => ?_, fun hp hk hnone => ?_, fun o hp hk hsorted ho => ?_⟩
      · exact State.runCipher_of_poison hp
      · exact (State.runCipher_of_clean hp hk).1 hnone
      · rw [(State.runCipher_of_clean hp hk).2 o ho]
        exact ⟨rfl, State.gread_gwrite hsorted _ _, State.gddrKept_gwrite hsorted _ _, rfl⟩
  case done =>
    obtain ⟨l, d, x, hframe⟩ := s.jobCompleted_frame j rest (if j.stage = 2 then j.status else 1)
    refine ⟨s.jobCompleted j rest (if j.stage = 2 then j.status else 1), _, rfl, s.jobCompleted_status j rest _,
      s.jobCompleted_jobDone j rest _, s.jobCompleted_counts j rest _, ?_, exec_jobDone_of_ended hj⟩
    rw [hframe]

end Sys2Proof.Machine

/-!
PROOF. Buffers of the Cloakroom (R179, R181, R184, R186, R190, R191): the buffer that a grant takes, and what a request that
passes its checks does to a record.
-/

namespace Sys2Proof.Machine

/-! ### Handles (R179) -/

theorem hPool_mkHandle {p g i : Nat} (hp : p < 8) (hg : g < 32) (hi : i < 2 ^ 24) : hPool (mkHandle p g i) = p := by
  simp only [hPool, mkHandle, fld, BitVec.toNat_ofNat]
  omega

theorem hIndex_mkHandle {p g i : Nat} (hi : i < 2 ^ 24) : hIndex (mkHandle p g i) = i := by
  simp only [hIndex, mkHandle, fld, BitVec.toNat_ofNat]
  omega

theorem State.poolCount_lt (s : State) (p : Nat) : s.poolCount p < 2 ^ 24 := fld_lt _ _ _

/-! ### Numbers that a rising list leaves out -/

theorem nthMissing_le (k : Nat) (l : List Nat) : nthMissing k l ≤ k + l.length := by
  induction l generalizing k with
  | nil => exact Nat.le_refl _
  | cons a r ih =>
    have h := ih (if a ≤ k then k + 1 else k)
    rw [List.length_cons]
    refine Nat.le_trans h ?_
    split <;> omega

theorem le_nthMissing (k : Nat) (l : List Nat) : k ≤ nthMissing k l := by
  induction l generalizing k with
  | nil => exact Nat.le_refl _
  | cons a r ih =>
    refine Nat.le_trans ?_ (ih (if a ≤ k then k + 1 else k))
    split <;> omega

/-- Where every key lies above `k`, `k` itself is left out first. -/
theorem nthMissing_of_above {α : Type} {k : Nat} {m : NMap α} {b : Nat} (hm : nsortedFrom b m = true) (hk : k < b) :
    nthMissing k (nkeys m) = k := by
  induction m generalizing b with
  | nil => rfl
  | cons e r ih =>
    obtain ⟨hb, hr⟩ := Bool.and_eq_true_iff.1 hm
    have hb : b ≤ e.1 := of_decide_eq_true hb
    have hstep : nthMissing k (nkeys (e :: r)) = nthMissing (if e.1 ≤ k then k + 1 else k) (nkeys r) := rfl
    rw [hstep, if_neg (by omega)]
    exact ih hr (by omega)

/-- What is counted out is no key of the table. -/
theorem nget_nthMissing {α : Type} {m : NMap α} {b : Nat} (hm : nsortedFrom b m = true) (k : Nat) :
    nget m (nthMissing k (nkeys m)) = none := by
  induction m generalizing b k with
  | nil => rfl
  | cons e r ih =>
    obtain ⟨-, hr⟩ := Bool.and_eq_true_iff.1 hm
    have hstep : nthMissing k (nkeys (e :: r)) = nthMissing (if e.1 ≤ k then k + 1 else k) (nkeys r) := rfl
    have hne : e.1 ≠ nthMissing (if e.1 ≤ k then k + 1 else k) (nkeys r) := by
      split
      · have h := le_nthMissing (k + 1) (nkeys r)
        omega
      · rw [nthMissing_of_above hr (by omega)]
        omega
    rw [hstep]
    exact (if_neg hne).trans (ih hr _)

/-! ### Pools and records -/

theorem State.pool_setPool_self (s : State) (p : Nat) (x : Pool) : (s.setPool p x).pool p = x := ngetD_nputD_self _ _ _ _

theorem State.pool_setPool_ne (s : State) {p r : Nat} (x : Pool) (h : r ≠ p) : (s.setPool p x).pool r = s.pool r :=
  ngetD_nputD_ne _ _ _ h

/-- A pool's records are what its buffers' records are read from. -/
theorem State.bufRec_of_recs {s t : State} {h : W32} (e : (t.pool (hPool h)).recs = (s.pool (hPool h)).recs) :
    t.bufRec h = s.bufRec h := by
  rw [State.bufRec, State.bufRec, e]

theorem State.bufRec_setRec_self (s : State) (h : W32) (r : BufRec) : (s.setRec h r).bufRec h = r := by
  rw [State.bufRec, State.setRec, State.pool_setPool_self, ngetD_nput, if_pos rfl]

theorem State.freed_setRec_self (s : State) (h : W32) (r : BufRec) :
    ((s.setRec h r).pool (hPool h)).freed = (s.pool (hPool h)).freed := by
  rw [State.setRec, State.pool_setPool_self]

/-! ### Answers -/

/-- An answer is kept as the last reply; a core also finds it in its result register. -/
theorem State.answerClient_spec (s : State) (cl : Client) (code : Nat) (h : W32) :
    s.answerClient cl code h = { s with clo := { s.clo with reply := some (cl, code, h) }, dsp := (s.answerClient cl code h).dsp } := by
  cases cl <;> rfl

/-- Nothing but the Cloakroom, counters and cores has changed once a change of the Cloakroom and of counters is answered. -/
theorem State.frame_answerClient {s t : State} {c : Cloakroom} {x : NMap W64} (h : t = { s with clo := c, ctrs := x }) (cl : Client)
    (code : Nat) (b : W32) : ∃ c' d, t.answerClient cl code b = { s with clo := c', ctrs := x, dsp := d } := by
  subst h
  cases cl <;> exact ⟨_, _, rfl⟩

theorem State.clo_answerClient (s : State) (cl : Client) (code : Nat) (h : W32) :
    (s.answerClient cl code h).clo = { s.clo with reply := some (cl, code, h) } := by
  rw [State.answerClient_spec]

/-! ### The buffer that a grant takes (R181, R186) -/

/-- The last freed buffer of a pool, else one never used. -/
def State.takeIndex (s : State) (p : Nat) : Nat :=
  match (s.pool p).freed with
  | i :: _ => i
  | [] => nthMissing ((s.draw 24).1 % (s.poolCount p - (s.pool p).recs.length)) (nkeys (s.pool p).recs)

/-- The record of a buffer as it is granted to a domain. -/
def State.freshRec (s : State) (p d i : Nat) : BufRec :=
  ⟨1, (ngetD {} (s.pool p).recs i).gen, BitVec.ofNat 5 d, false, true, s.rget .cloShareDef 0 d &&& 0x07FFFFFF⟩

/-- A pool that has granted its next buffer to a domain. -/
def State.poolTaken (s : State) (p d : Nat) : Pool :=
  { freed := (s.pool p).freed.tail
    recs := nput (s.pool p).recs (s.takeIndex p) (s.freshRec p d (s.takeIndex p)), ptr := (d + 1) % 32 }

theorem State.takeIndex_of_freed {s : State} {p a : Nat} {r : List Nat} (h : (s.pool p).freed = a :: r) : s.takeIndex p = a := by
  rw [State.takeIndex, h]

theorem State.takeIndex_of_none_freed {s : State} {p : Nat} (h : (s.pool p).freed = []) : s.takeIndex p =
    nthMissing ((s.draw 24).1 % (s.poolCount p - (s.pool p).recs.length)) (nkeys (s.pool p).recs) := by
  rw [State.takeIndex, h]

theorem State.takeBuffer_spec (s : State) (p d : Nat) :
    ∃ u : State, s.takeBuffer p d = (mkHandle p (s.freshRec p d (s.takeIndex p)).gen.toNat (s.takeIndex p), u) ∧
      u.clo = (s.setPool p (s.poolTaken p d)).clo ∧ u = { s with clo := u.clo, regs := u.regs, draws := u.draws } := by
  unfold State.takeBuffer
  dsimp only
  split
  · rename_i i rest h
    rw [State.poolTaken, State.takeIndex_of_freed h, h]
    exact ⟨_, rfl, rfl, rfl⟩
  · rename_i h
    rw [State.poolTaken, State.takeIndex_of_none_freed h, h]
    exact ⟨_, rfl, rfl, rfl⟩

/-- A pool with a free buffer grants one of its own. -/
theorem State.takeIndex_lt {s : State} {p : Nat} (hfree : s.poolFree p ≠ 0) (hfreed : ∀ i ∈ (s.pool p).freed, i < s.poolCount p) :
    s.takeIndex p < s.poolCount p := by
  cases h : (s.pool p).freed with
  | cons a r =>
    rw [State.takeIndex_of_freed h]
    exact hfreed a (by simp [h])
  | nil =>
    have hroom : 0 < s.poolCount p - (s.pool p).recs.length := by
      simp only [State.poolFree, h, List.length_nil] at hfree
      omega
    have hle := nthMissing_le ((s.draw 24).1 % (s.poolCount p - (s.pool p).recs.length)) (nkeys (s.pool p).recs)
    have hlt := Nat.mod_lt (s.draw 24).1 hroom
    rw [nkeys, List.length_map] at hle
    rw [State.takeIndex_of_none_freed h]
    exact Nat.lt_of_le_of_lt hle (by omega)

/-- A buffer that comes while none has been freed has not been used. -/
theorem State.nget_takeIndex {s : State} {p : Nat} (h : (s.pool p).freed = []) (hs : nsorted (s.pool p).recs = true) :
    nget (s.pool p).recs (s.takeIndex p) = none := by
  rw [State.takeIndex_of_none_freed h]
  exact nget_nthMissing hs _

/-! ### ALLOC -/

theorem regAddr_cloCnt (u i : Nat) : regAddr .cloCnt u i = 4 * 0x10000000 + 2 * 0x100000 + u * 0 + 0x1000 + 0x8 * i := rfl

theorem State.cget_cinc_cloCnt (s : State) {i j : Nat} (h : j ≠ i) : (s.cinc .cloCnt 0 i).cget .cloCnt 0 j = s.cget .cloCnt 0 j :=
  s.cget_cadd_ne 1 (by rw [regAddr_cloCnt, regAddr_cloCnt]; omega)

/-- A count of the Cloakroom that is also kept per pool. -/
def State.poolCounted (s : State) (i p k : Nat) : State := (s.cinc .cloCnt 0 i).sinc tyPool p k

theorem State.frame_poolCounted (s : State) (i p k : Nat) : ∃ x y, s.poolCounted i p k = { s with ctrs := x, stats := y } := ⟨_, _, rfl⟩

theorem State.cget_poolCounted (s : State) (i j p k : Nat) : (s.poolCounted i p k).cget .cloCnt 0 j = (s.cinc .cloCnt 0 i).cget .cloCnt 0 j :=
  rfl

/-- A grant is a buffer taken and counted, as an allocation and, from a later pool than its start, as a fallback. -/
theorem State.grant_spec (s : State) (d p q : Nat) : ∃ t : State, s.grant d p q =
      (mkHandle q (s.freshRec q d (s.takeIndex q)).gen.toNat (s.takeIndex q), t) ∧
    t.clo = (s.setPool q (s.poolTaken q d)).clo ∧ t.cget .cloCnt 0 0 = s.cget .cloCnt 0 0 + 1 ∧
    t = { s with clo := t.clo, ctrs := t.ctrs, stats := t.stats, regs := t.regs, draws := t.draws } := by
  obtain ⟨u, hb, hclo, hu⟩ := s.takeBuffer_spec q d
  have hucount : u.cget .cloCnt 0 0 = s.cget .cloCnt 0 0 := State.cget_of_ctrs (by rw [hu]) ..
  have e : s.grant d p q = (mkHandle q (s.freshRec q d (s.takeIndex q)).gen.toNat (s.takeIndex q),
      if q = p then u.poolCounted 0 q 0x100 else (u.poolCounted 0 q 0x100).poolCounted 4 q 0x101) := by
    rw [State.grant, hb]
    rfl
  obtain ⟨x, y, hv⟩ := u.frame_poolCounted 0 q 0x100
  have hcount : (u.poolCounted 0 q 0x100).cget .cloCnt 0 0 = s.cget .cloCnt 0 0 + 1 := by
    rw [State.cget_poolCounted, State.cget_cinc_self, hucount]
  generalize u.poolCounted 0 q 0x100 = v at e hv hcount
  refine ⟨_, e, ?_⟩
  split
  · rw [hv] at hcount ⊢
    exact ⟨hclo, hcount, by rw [hu]⟩
  · obtain ⟨x', y', hw⟩ := v.frame_poolCounted 4 q 0x101
    have hfall : (v.poolCounted 4 q 0x101).cget .cloCnt 0 0 = s.cget .cloCnt 0 0 + 1 := by
      rw [State.cget_poolCounted, State.cget_cinc_cloCnt _ (by decide), hcount]
    rw [hw, hv] at hfall ⊢
    exact ⟨hclo, hfall, by rw [hu]⟩

/-- An allocation of a legal size with a pool that has a free buffer, in its place. -/
theorem State.alloc_of_free {s : State} {d size p q : Nat} (h1 : 1 ≤ size) (h4 : size ≤ 4194304) (hp : s.startPool size = some p)
    (hq : s.firstFree p (s.poolCeil p) = some q) {b : W32} {t : State} (hg : s.grant d p q = (b, t)) (hb : s.addrOk b = true) :
    s.alloc d size false = (.ok b, t) := by
  have hsize : ¬(size = 0 ∨ 4194304 < size) := by omega
  have hor : s.grantOr d p q = (.ok b, t) := by simp [State.grantOr, hg, hb]
  simp [State.alloc, hsize, hp, hq, hor]

/-- ALLOC without YELLOW is the same allocation for every client; only whether it may wait differs. -/
theorem exec_alloc_green (s : State) (cl : Client) (size : Nat) (w : Bool) :
    ∃ w', exec (.alloc cl size false w) s = .next (s.allocFor cl size false w') := by
  have e : exec (.alloc cl size false w) s = execAlloc cl size false w s := rfl
  rw [e]
  unfold execAlloc
  split <;> exact ⟨_, rfl⟩

theorem exec_alloc_of_granted {s : State} {cl : Client} {size : Nat} {b : W32} {t : State} (w : Bool) (ho : s.outstanding cl.domain < 256)
    (h : s.alloc cl.domain size false = (.ok b, t)) : exec (.alloc cl size false w) s = .next (t.answerClient cl 0 b) := by
  obtain ⟨w', e⟩ := exec_alloc_green s cl size w
  rw [e, State.allocFor, if_neg (Nat.not_le.2 ho), State.allocNow, h]

/-! ### Checks of a handle (R184) -/

/-- A handle that passes its checks. -/
theorem State.handleFault_none {s : State} {d req : Nat} {h : W32} (hf : s.handleFault d req h = none) :
    ¬(s.poolCount (hPool h) = 0 ∨ s.poolCount (hPool h) ≤ hIndex h) ∧ s.addrOk h = true ∧ (s.bufRec h).gen.toNat = hGen h ∧
      (s.bufRec h).alloc = true ∧ s.refCount (s.bufRec h) ≠ 0 := by
  unfold State.handleFault at hf
  dsimp only at hf
  split at hf
  · cases hf
  · rename_i hplace
    split at hf
    · cases hf
    · rename_i haddr
      split at hf
      · cases hf
      · rename_i hgen
        split at hf
        · cases hf
        · rename_i hcount
          exact ⟨hplace, eq_true_of_ne_false haddr, not_not.1 hgen, eq_true_of_ne_false fun e => hcount (.inl e),
            fun e => hcount (.inr e)⟩

/-- A handle of an earlier generation fails check 4, whoever asks for what. -/
theorem State.handleFault_of_stale {s : State} {h : W32} (hplace : ¬(s.poolCount (hPool h) = 0 ∨ s.poolCount (hPool h) ≤ hIndex h))
    (haddr : s.addrOk h = true) (hgen : (s.bufRec h).gen.toNat ≠ hGen h) (d req : Nat) : s.handleFault d req h = some 5 := by
  unfold State.handleFault
  dsimp only
  rw [if_neg hplace, if_neg (by simp [haddr]), if_pos hgen]

/-! ### INC, DEC and SHARE (R182, R190, R191) -/

theorem State.refCount_of_record (s : State) {r : BufRec} (h : r.ext = false) : s.refCount r = r.count.toNat := by
  rw [State.refCount, if_neg (by simp [h])]

/-- A count that stands in the record and fits it is stored there. -/
theorem State.setCount_of_record (s : State) (h : W32) {r : BufRec} {n : Nat} (hr : r.ext = false) (hn : n ≤ 65535) :
    s.setCount h r n = some (s.setRec h { r with count := BitVec.ofNat 16 n }) := by
  obtain ⟨count, gen, owner, ext, alloc, share⟩ := r
  cases hr
  rw [State.setCount, if_pos hn]
  rfl

theorem State.retryHeld_of_none {s : State} (h : s.clo.held = []) (p : Nat) : s.retryHeld p = s := by
  have hnone : s.nextHeld p = none := by simp [State.nextHeld, h]
  rw [State.retryHeld, hnone]

/-- A record as its buffer is freed: no count, not allocated, the next generation. -/
def BufRec.released (r : BufRec) : BufRec := { r with count := 0, alloc := false, gen := r.gen + 1 }

/-- The buffer is the next of its pool to be allocated. -/
def State.bufferFreed (s : State) (h : W32) (r : BufRec) : State :=
  (s.setRec h r.released).setPool (hPool h)
    { (s.setRec h r.released).pool (hPool h) with freed := hIndex h :: ((s.setRec h r.released).pool (hPool h)).freed }

/-- A buffer goes back to its pool while no allocation waits for one. -/
theorem State.freeBuffer_of_idle {s : State} {h : W32} {r : BufRec} (hr : r.ext = false) (hh : s.clo.held = []) :
    s.freeBuffer h r = (s.bufferFreed h r).cinc .cloCnt 0 1 := by
  have hrel : { r with count := 0, ext := false, alloc := false, gen := r.gen + 1 } = r.released := by rw [BufRec.released, ← hr]
  have hnone : ((s.bufferFreed h r).cinc .cloCnt 0 1).clo.held = [] := hh
  have e : s.freeBuffer h r = ((s.bufferFreed h r).cinc .cloCnt 0 1).retryHeld (hPool h) := by
    rw [State.freeBuffer, if_neg (by simp [hr]), hrel, State.bufferFreed]
  rw [e, State.retryHeld_of_none hnone]

theorem State.bufRec_bufferFreed (s : State) (h : W32) (r : BufRec) : (s.bufferFreed h r).bufRec h = r.released := by
  refine (State.bufRec_of_recs ?_).trans (s.bufRec_setRec_self h r.released)
  rw [State.bufferFreed, State.pool_setPool_self]

theorem State.freed_bufferFreed (s : State) (h : W32) (r : BufRec) :
    ((s.bufferFreed h r).pool (hPool h)).freed = hIndex h :: (s.pool (hPool h)).freed := by
  rw [State.bufferFreed, State.pool_setPool_self, State.freed_setRec_self]

/-- A request that passes the checks is what it applies; an INC adds at least one, and no more than a record holds. -/
theorem State.tryReq_of_passes {s : State} {d kind : Nat} {h : W32} {arg : Nat} (hf : s.handleFault d kind h = none)
    (hn : kind = 0 → 1 ≤ arg ∧ s.refCount (s.bufRec h) + arg ≤ 65535) :
    s.tryReq d kind h arg = (s.applyReq kind h arg).map fun t => (0, t) := by
  have hfits : ¬(kind = 0 ∧ (arg = 0 ∨ 65535 < arg ∨ 4294967295 < s.refCount (s.bufRec h) + arg)) := by
    rintro ⟨h0, hbad⟩
    have := hn h0
    omega
  rw [State.tryReq, hf]
  exact if_neg hfits

theorem State.answerReq_ok (s : State) (q : HeldReq) : s.answerReq q 0 = s.answerClient q.client 0 0 := by
  unfold State.answerReq
  dsimp only
  split
  · exact if_pos (.inl rfl)
  · rfl

/-- A request as it is counted (R209). -/
def State.reqCounted (s : State) (kind : Nat) : State :=
  if kind = 0 then s.cinc .cloCnt 0 2 else if kind = 1 then s.cinc .cloCnt 0 3 else s

/-- With no request waiting, one that passes is applied and answered, and nothing else goes on. -/
theorem State.request_of_idle {s u t : State} {cl : Client} {kind : Nat} {h : W32} {arg : Nat} (ho : s.outstanding cl.domain < 256)
    (hkind : kind ≠ 3) (hu : s.reqCounted kind = u) (hstalled : u.clo.stalled = []) (ht : u.tryReq cl.domain kind h arg = some (0, t))
    (hts : t.clo.stalled = []) (htb : t.clo.beyond = []) : s.request cl kind h arg = t.answerClient cl 0 0 := by
  have henter : s.enterReq { client := cl, kind := kind, handle := h, arg := arg } = t.answerClient cl 0 0 := by
    unfold State.enterReq
    rw [if_neg hkind]
    dsimp only
    rw [← State.reqCounted, hu, hstalled, List.any_nil, if_neg (by decide), ht]
    dsimp only
    rw [State.answerReq_ok, State.settle, if_pos (by rw [State.clo_answerClient]; exact hts)]
  rw [State.request, State.requestOf, if_neg (Nat.not_le.2 ho), henter]
  exact if_pos (by rw [State.clo_answerClient]; exact htb)

end Sys2Proof.Machine

/-!
PROOF. ALLOC, INC, DEC and SHARE (R181 to R192).
-/

namespace Sys2Proof.Machine

/-! ### What the commands grant and apply -/

theorem State.pool_of_clo {s t : State} (h : t.clo = s.clo) (p : Nat) : t.pool p = s.pool p := by
  rw [State.pool, State.pool, h]

theorem State.pool_answerClient (s : State) (cl : Client) (code : Nat) (h : W32) (p : Nat) :
    (s.answerClient cl code h).pool p = s.pool p := by
  rw [State.pool, State.clo_answerClient]
  rfl

theorem State.bufRec_answerClient (s : State) (cl : Client) (code : Nat) (b h : W32) :
    (s.answerClient cl code b).bufRec h = s.bufRec h :=
  State.bufRec_of_recs (by rw [State.pool_answerClient])

theorem State.cget_answerClient (s : State) (cl : Client) (code : Nat) (h : W32) (r : Reg) (u i : Nat) :
    (s.answerClient cl code h).cget r u i = s.cget r u i := by
  rw [State.answerClient_spec]
  rfl

/-- The pool that the search finds is a pool, and has a free buffer. -/
theorem State.firstFree_some {s : State} {p top q : Nat} (h : s.firstFree p top = some q) : q < 8 ∧ s.poolFree q ≠ 0 := by
  have hq := List.mem_range.1 (List.mem_of_find?_eq_some h)
  have hfree := List.find?_some h
  simp only [Bool.and_eq_true, decide_eq_true_eq] at hfree
  exact ⟨hq, hfree.2⟩

theorem State.tryReq_inc {s : State} {d : Nat} {h : W32} {n : Nat} (hf : s.handleFault d 0 h = none) (hext : (s.bufRec h).ext = false)
    (h1 : 1 ≤ n) (hn : (s.bufRec h).count.toNat + n ≤ 65535) : s.tryReq d 0 h n =
      some (0, s.setRec h { s.bufRec h with count := (s.bufRec h).count + BitVec.ofNat 16 n }) := by
  have hcount := s.refCount_of_record hext
  have hsum : BitVec.ofNat 16 ((s.bufRec h).count.toNat + n) = (s.bufRec h).count + BitVec.ofNat 16 n := by
    rw [BitVec.ofNat_add, BitVec.ofNat_toNat, BitVec.setWidth_eq]
  have happly : s.applyReq 0 h n = s.setCount h (s.bufRec h) (s.refCount (s.bufRec h) + n) := rfl
  rw [State.tryReq_of_passes hf fun _ => ⟨h1, hcount ▸ hn⟩, happly, hcount, s.setCount_of_record h hext hn, hsum]
  rfl

/-- A DEC of a count above 1. -/
theorem State.tryReq_dec {s : State} {d : Nat} {h : W32} (hf : s.handleFault d 1 h = none) (hext : (s.bufRec h).ext = false)
    (hc : (s.bufRec h).count ≠ 1) : s.tryReq d 1 h 0 = some (0, s.setRec h { s.bufRec h with count := (s.bufRec h).count - 1 }) := by
  obtain ⟨-, -, -, -, hpos⟩ := State.handleFault_none hf
  have hcount := s.refCount_of_record hext
  rw [hcount] at hpos
  have hne : s.refCount (s.bufRec h) ≠ 1 := fun e => hc (BitVec.eq_of_toNat_eq (hcount ▸ e))
  have hdiff : BitVec.ofNat 16 ((s.bufRec h).count.toNat - 1) = (s.bufRec h).count - 1 := by bv_omega
  have happly : s.applyReq 1 h 0 = s.setCount h (s.bufRec h) (s.refCount (s.bufRec h) - 1) := if_neg hne
  rw [State.tryReq_of_passes hf nofun, happly, hcount, s.setCount_of_record h hext (by omega), hdiff]
  rfl

/-- A DEC of a count of 1 frees the buffer. -/
theorem State.tryReq_dec_last {s : State} {d : Nat} {h : W32} (hf : s.handleFault d 1 h = none) (hext : (s.bufRec h).ext = false)
    (hh : s.clo.held = []) (hc : (s.bufRec h).count = 1) :
    s.tryReq d 1 h 0 = some (0, (s.bufferFreed h (s.bufRec h)).cinc .cloCnt 0 1) := by
  have hone : s.refCount (s.bufRec h) = 1 := by rw [s.refCount_of_record hext, hc]; rfl
  have happly : s.applyReq 1 h 0 = some (s.freeBuffer h (s.bufRec h)) := if_pos hone
  rw [State.tryReq_of_passes hf nofun, happly, State.freeBuffer_of_idle hext hh]
  rfl

theorem State.tryReq_share {s : State} {d : Nat} {h mask : W32} (hf : s.handleFault d 2 h = none) :
    s.tryReq d 2 h mask.toNat = some (0, s.setRec h { s.bufRec h with share := (s.bufRec h).share ||| mask }) := by
  have happly : s.applyReq 2 h mask.toNat =
    some (s.setRec h { s.bufRec h with share := (s.bufRec h).share ||| BitVec.ofNat 32 mask.toNat }) := rfl
  rw [State.tryReq_of_passes hf nofun, happly, BitVec.ofNat_toNat, BitVec.setWidth_eq]
  rfl

theorem State.frame_bufferFreed (s : State) (h : W32) (b : BufRec) : ∃ c, s.bufferFreed h b = { s with clo := c } := ⟨_, rfl⟩

/-- Where buffers lie is what the registers of the regions say. -/
theorem State.addrOk_of_regs {s t : State} (hregs : t.regs = s.regs) (h : W32) : t.addrOk h = s.addrOk h := by
  have e : t.addrOk h = State.addrOk { s with regs := t.regs } h := rfl
  rw [e, hregs]

/-- A freed buffer's old handle is stale: the generation of its record is another. -/
theorem State.handleFault_of_released {s t : State} {d req : Nat} {h : W32} (hf : s.handleFault d req h = none)
    (hregs : t.regs = s.regs) (hrec : t.bufRec h = (s.bufRec h).released) (d' req' : Nat) : t.handleFault d' req' h = some 5 := by
  obtain ⟨hplace, haddr, hgen, -, -⟩ := State.handleFault_none hf
  refine State.handleFault_of_stale ?_ ?_ ?_ d' req'
  · rwa [State.poolCount, State.rfld, State.rget, hregs]
  · rw [State.addrOk_of_regs hregs, haddr]
  · rw [hrec, BufRec.released, ← hgen]
    bv_omega

/-! ### The commands -/

/-- ALLOC of a size that a pool can hold grants from the first pool up to the ceiling with a free buffer. -/
theorem alloc_of_free {s : State} {cl : Client} {size p q : Nat} (w : Bool) (ho : s.outstanding cl.domain < 256) (h1 : 1 ≤ size)
    (h4 : size ≤ 4194304) (hp : s.startPool size = some p) (hq : s.firstFree p (s.poolCeil p) = some q)
    (hfreed : ∀ i ∈ (s.pool q).freed, i < s.poolCount q) (haddr : ∀ h : W32, hPool h = q → hIndex h < s.poolCount q → s.addrOk h = true) :
    ∃ (t : State) (h : W32), exec (.alloc cl size false w) s = .next t ∧ t.clo.reply = some (cl, 0, h) ∧
      h = mkHandle q (s.freshRec q cl.domain (s.takeIndex q)).gen.toNat (s.takeIndex q) ∧
      t.bufRec h = s.freshRec q cl.domain (s.takeIndex q) ∧ t.pool q = s.poolTaken q cl.domain ∧ (∀ x, x ≠ q → t.pool x = s.pool x) ∧
      t.cget .cloCnt 0 0 = s.cget .cloCnt 0 0 + 1 ∧
      t = { s with clo := t.clo, ctrs := t.ctrs, stats := t.stats, regs := t.regs, dsp := t.dsp, draws := t.draws } := by
  obtain ⟨hq8, hfree⟩ := State.firstFree_some hq
  have hi := State.takeIndex_lt hfree hfreed
  have hi24 := Nat.lt_trans hi (s.poolCount_lt q)
  obtain ⟨t, hg, hclo, hcount, hframe⟩ := s.grant_spec cl.domain p q
  generalize hb : mkHandle q (s.freshRec q cl.domain (s.takeIndex q)).gen.toNat (s.takeIndex q) = b at hg
  have hpool : hPool b = q := hb ▸ hPool_mkHandle hq8 (BitVec.isLt _) hi24
  have hindex : hIndex b = s.takeIndex q := hb ▸ hIndex_mkHandle hi24
  have hself : t.pool q = s.poolTaken q cl.domain := (State.pool_of_clo hclo q).trans (s.pool_setPool_self q _)
  refine ⟨t.answerClient cl 0 b, b, exec_alloc_of_granted w ho (State.alloc_of_free h1 h4 hp hq hg (haddr b hpool (hindex ▸ hi))),
    by rw [State.clo_answerClient], rfl, ?_, (State.pool_answerClient ..).trans hself, fun x hx => ?_,
    (State.cget_answerClient ..).trans hcount, ?_⟩
  · rw [State.bufRec_answerClient, State.bufRec, hpool, hindex, hself, State.poolTaken, ngetD_nput, if_pos rfl]
  · rw [State.pool_answerClient, State.pool_of_clo hclo, State.pool_setPool_ne _ _ hx]
  · rw [State.answerClient_spec, hframe]

section
variable {s : State} {cl : Client} {h : W32} (ho : s.outstanding cl.domain < 256) (hstalled : s.clo.stalled = [])
  (hbeyond : s.clo.beyond = []) (hext : (s.bufRec h).ext = false)
include ho hstalled hbeyond hext

theorem inc_of_valid {n : Nat} (hf : s.handleFault cl.domain 0 h = none) (h1 : 1 ≤ n) (hn : (s.bufRec h).count.toNat + n ≤ 65535) :
    ∃ t, exec (.inc cl h n) s = .next t ∧ t.clo.reply = some (cl, 0, 0) ∧
      t.bufRec h = { s.bufRec h with count := (s.bufRec h).count + BitVec.ofNat 16 n } ∧
      t.cget .cloCnt 0 2 = s.cget .cloCnt 0 2 + 1 ∧ t = { s with clo := t.clo, ctrs := t.ctrs, dsp := t.dsp } := by
  have hexec : exec (.inc cl h n) s = .next (s.request cl 0 h n) := rfl
  have htry := State.tryReq_inc (s := s.cinc .cloCnt 0 2) hf hext h1 hn
  rw [State.request_of_idle (kind := 0) (u := s.cinc .cloCnt 0 2) ho (by decide) rfl hstalled htry hstalled hbeyond] at hexec
  refine ⟨_, hexec, by rw [State.clo_answerClient], ?_, ?_, ?_⟩
  · exact (State.bufRec_answerClient ..).trans (State.bufRec_setRec_self ..)
  · exact (State.cget_answerClient ..).trans (s.cget_cinc_self .cloCnt 0 2)
  · rw [State.answerClient_spec]
    rfl

/-- A DEC that leaves a reference. -/
theorem dec_of_shared (hf : s.handleFault cl.domain 1 h = none) (hc : (s.bufRec h).count ≠ 1) :
    ∃ t, exec (.dec cl h) s = .next t ∧ t.clo.reply = some (cl, 0, 0) ∧ t.cget .cloCnt 0 3 = s.cget .cloCnt 0 3 + 1 ∧
      t = { s with clo := t.clo, ctrs := t.ctrs, dsp := t.dsp } ∧
      t.bufRec h = { s.bufRec h with count := (s.bufRec h).count - 1 } := by
  have hexec : exec (.dec cl h) s = .next (s.request cl 1 h 0) := rfl
  have htry := State.tryReq_dec (s := s.cinc .cloCnt 0 3) hf hext hc
  rw [State.request_of_idle (kind := 1) (u := s.cinc .cloCnt 0 3) ho (by decide) rfl hstalled htry hstalled hbeyond] at hexec
  refine ⟨_, hexec, by rw [State.clo_answerClient], ?_, ?_, ?_⟩
  · exact (State.cget_answerClient ..).trans (s.cget_cinc_self .cloCnt 0 3)
  · rw [State.answerClient_spec]
    rfl
  · exact (State.bufRec_answerClient ..).trans (State.bufRec_setRec_self ..)

/-- A DEC of the last reference, while no allocation waits for a buffer. -/
theorem dec_of_last (hheld : s.clo.held = []) (hf : s.handleFault cl.domain 1 h = none) (hc : (s.bufRec h).count = 1) :
    ∃ t, exec (.dec cl h) s = .next t ∧ t.clo.reply = some (cl, 0, 0) ∧ t.cget .cloCnt 0 3 = s.cget .cloCnt 0 3 + 1 ∧
      t = { s with clo := t.clo, ctrs := t.ctrs, dsp := t.dsp } ∧ t.bufRec h = (s.bufRec h).released ∧
      (t.pool (hPool h)).freed = hIndex h :: (s.pool (hPool h)).freed := by
  have hexec : exec (.dec cl h) s = .next (s.request cl 1 h 0) := rfl
  have htry := State.tryReq_dec_last (s := s.cinc .cloCnt 0 3) hf hext hheld hc
  rw [State.request_of_idle (kind := 1) (u := s.cinc .cloCnt 0 3) ho (by decide) rfl hstalled htry hstalled hbeyond] at hexec
  obtain ⟨c, hframe⟩ := (s.cinc .cloCnt 0 3).frame_bufferFreed h (s.bufRec h)
  have hrec : ((s.cinc .cloCnt 0 3).bufferFreed h (s.bufRec h)).bufRec h = (s.bufRec h).released := State.bufRec_bufferFreed ..
  have hfreed := (s.cinc .cloCnt 0 3).freed_bufferFreed h (s.bufRec h)
  have hcount : (((s.cinc .cloCnt 0 3).bufferFreed h (s.bufRec h)).cinc .cloCnt 0 1).cget .cloCnt 0 3 = s.cget .cloCnt 0 3 + 1 := by
    rw [State.cget_cinc_cloCnt _ (by decide), ← s.cget_cinc_self .cloCnt 0 3]
    exact State.cget_of_ctrs (by rw [hframe]) ..
  change exec _ s = .next (State.answerClient (((s.cinc .cloCnt 0 3).bufferFreed h (s.bufRec h)).cinc .cloCnt 0 1) cl 0 0) at hexec
  generalize (s.cinc .cloCnt 0 3).bufferFreed h (s.bufRec h) = v at hexec hframe hrec hfreed hcount
  refine ⟨_, hexec, by rw [State.clo_answerClient], ?_, ?_, ?_, ?_⟩
  · exact (State.cget_answerClient ..).trans hcount
  · obtain ⟨x, hx⟩ : ∃ x, v.cinc .cloCnt 0 1 = { s with clo := c, ctrs := x } := ⟨_, by rw [hframe]; rfl⟩
    obtain ⟨c', d, e⟩ := State.frame_answerClient hx cl 0 0
    rw [e]
  · exact (State.bufRec_answerClient (v.cinc .cloCnt 0 1) cl 0 0 h).trans hrec
  · exact (congrArg Pool.freed (State.pool_answerClient (v.cinc .cloCnt 0 1) cl 0 0 (hPool h))).trans hfreed

end

theorem share_of_owner {s : State} {cl : Client} {h mask : W32} (ho : s.outstanding cl.domain < 256) (hstalled : s.clo.stalled = [])
    (hbeyond : s.clo.beyond = []) (hf : s.handleFault cl.domain 2 h = none) :
    ∃ t, exec (.share cl h mask) s = .next t ∧ t.clo.reply = some (cl, 0, 0) ∧
      t.bufRec h = { s.bufRec h with share := (s.bufRec h).share ||| mask } ∧ t = { s with clo := t.clo, dsp := t.dsp } := by
  have hexec : exec (.share cl h mask) s = .next (s.request cl 2 h mask.toNat) := rfl
  have htry := State.tryReq_share (mask := mask) hf
  rw [State.request_of_idle (kind := 2) (u := s) ho (by decide) rfl hstalled htry hstalled hbeyond] at hexec
  refine ⟨_, hexec, by rw [State.clo_answerClient], ?_, ?_⟩
  · exact (State.bufRec_answerClient ..).trans (State.bufRec_setRec_self ..)
  · rw [State.answerClient_spec]
    rfl

/-- Settles O48: each clause by the lemma of its command; after the last DEC the old handle is stale. -/
theorem buffers : Obligations.Buffers := by
  intro s cl ho _
  refine ⟨fun size p q w h1 h4 hp hq hfreed haddr => ?alloc, fun h n hstalled hheld hbeyond hext =>
    ⟨inc_of_valid ho hstalled hbeyond hext, fun hf => ?dec, fun mask => share_of_owner ho hstalled hbeyond⟩⟩
  case alloc =>
    obtain ⟨t, h, hexec, hreply, hh, hrec, hself, hothers, hcount, hframe⟩ := alloc_of_free w ho h1 h4 hp hq hfreed haddr
    refine ⟨t, h, _, s.takeIndex q, hexec, hreply, rfl, hh, hrec, fun a r hr => ⟨State.takeIndex_of_freed hr, ?_⟩,
      State.nget_takeIndex, hcount, hothers, hframe⟩
    rw [hself, State.poolTaken, hr, List.tail_cons]
  case dec =>
    by_cases hc : (s.bufRec h).count = 1
    · obtain ⟨t, hexec, hreply, hcount, hframe, hrec, hfreed⟩ := dec_of_last ho hstalled hbeyond hext hheld hf hc
      have hregs : t.regs = s.regs := by rw [hframe]
      refine ⟨t, hexec, hreply, hcount, hframe, ?_⟩
      rw [if_pos hc]
      exact ⟨hrec, hfreed, State.handleFault_of_released hf hregs hrec⟩
    · obtain ⟨t, hexec, hreply, hcount, hframe, hrec⟩ := dec_of_shared ho hstalled hbeyond hext hf hc
      refine ⟨t, hexec, hreply, hcount, hframe, ?_⟩
      rw [if_neg hc]
      exact hrec

end Sys2Proof.Machine

/-!
PROOF. The queues of the Stacks (R194 to R206): what an operation leaves of a queue's descriptors, and what it changes besides.
-/

namespace Sys2Proof.Machine

/-! ### One queue -/

theorem State.queue_setQueue_self (s : State) (q : Nat) (x : Queue) : (s.setQueue q x).queue q = x := ngetD_nputD_self _ _ _ _

theorem State.queue_setQueue_ne (s : State) {q r : Nat} (x : Queue) (h : r ≠ q) : (s.setQueue q x).queue r = s.queue r :=
  ngetD_nputD_ne _ _ _ h

theorem Queue.depth_eq (x : Queue) : x.depth = x.all.length := by
  simp only [Queue.depth, Queue.all, List.length_append]

theorem regAddr_stkCnt (u i : Nat) : regAddr .stkCnt u i = 4 * 0x10000000 + 3 * 0x100000 + u * 0 + 0x1000 + 0x8 * i := rfl

/-- `t` is `s` but for queue `q`, the slots, the enqueues that wait, and the counters of the Stacks listed in `l`. -/
def State.queueOnly (t s : State) (q : Nat) (l : List Nat) : Prop :=
  (∀ r, r ≠ q → t.queue r = s.queue r) ∧ (∀ i, i ∉ l → t.cget .stkCnt 0 i = s.cget .stkCnt 0 i) ∧
    ∃ k c, t = { s with stk := k, ctrs := c }

theorem State.queueOnly_refl (s : State) (q : Nat) : s.queueOnly s q [] := ⟨fun _ _ => rfl, fun _ _ => rfl, _, _, rfl⟩

theorem State.queueOnly.trans {s t u : State} {q : Nat} {l k : List Nat} (h : u.queueOnly t q l) (g : t.queueOnly s q k) :
    u.queueOnly s q (l ++ k) := by
  obtain ⟨hq, hc, a, b, rfl⟩ := h
  obtain ⟨gq, gc, c, d, rfl⟩ := g
  refine ⟨fun r hr => (hq r hr).trans (gq r hr), fun i hi => ?_, _, _, rfl⟩
  rw [List.mem_append, not_or] at hi
  exact (hc i hi.1).trans (gc i hi.2)

theorem State.queueOnly.mono {s t : State} {q : Nat} {l k : List Nat} (h : t.queueOnly s q l) (hk : ∀ i ∈ l, i ∈ k) :
    t.queueOnly s q k :=
  ⟨h.1, fun i hi => h.2.1 i fun e => hi (hk i e), h.2.2⟩

/-- In the form of the statements. -/
theorem State.queueOnly.frame {s t : State} {q : Nat} {l : List Nat} (h : t.queueOnly s q l) :
    t = { s with stk := t.stk, ctrs := t.ctrs } := by
  obtain ⟨-, -, k, c, rfl⟩ := h
  rfl

theorem State.queueOnly_setQueue (s : State) (q : Nat) (x : Queue) : (s.setQueue q x).queueOnly s q [] :=
  ⟨fun _ hr => s.queue_setQueue_ne x hr, fun _ _ => rfl, _, _, rfl⟩

theorem State.queueOnly_cinc (s : State) (q i : Nat) : (s.cinc .stkCnt 0 i).queueOnly s q [i] := by
  refine ⟨fun _ _ => rfl, fun j hj => s.cget_cadd_ne 1 ?_, _, _, rfl⟩
  rw [List.mem_singleton] at hj
  rw [regAddr_stkCnt, regAddr_stkCnt]
  omega

/-! ### Slots (R199) -/

/-- The state with other slots. -/
def State.withSlots (s : State) (l : List Nat) : State := { s with stk := { s.stk with slots := l } }

theorem State.queueOnly_withSlots (s : State) (q : Nat) (l : List Nat) : (s.withSlots l).queueOnly s q [] :=
  ⟨fun _ _ => rfl, fun _ _ => rfl, _, _, rfl⟩

/-- A queue's slot becomes the most recent; one is filled; or one is filled after an eviction. -/
theorem State.slotFill_cases (s : State) (q : Nat) : ∃ l, s.slotFill q = s.withSlots l ∨ s.slotFill q = (s.cinc .stkCnt 0 2).withSlots l ∨
    s.slotFill q = ((s.cinc .stkCnt 0 2).cinc .stkCnt 0 3).withSlots l := by
  unfold State.slotFill
  dsimp only
  split
  · exact ⟨_, .inl rfl⟩
  · split
    · exact ⟨_, .inr (.inl rfl)⟩
    · split
      · exact ⟨_, .inr (.inr rfl)⟩
      · exact ⟨s.stk.slots, .inr (.inl rfl)⟩

theorem State.slotFill_frame (s : State) (q : Nat) :
    ∃ l c, s.slotFill q = { s with stk := { s.stk with slots := l }, ctrs := c } := by
  have frame (t : State) (i : Nat) : ∃ c, t.cinc .stkCnt 0 i = { t with ctrs := c } := ⟨_, rfl⟩
  obtain ⟨c, hc⟩ := frame s 2
  obtain ⟨e, he⟩ := frame { s with ctrs := c } 3
  obtain ⟨l, h | h | h⟩ := s.slotFill_cases q
  · exact ⟨l, s.ctrs, h⟩
  · exact ⟨l, c, by rw [h, hc]; rfl⟩
  · exact ⟨l, e, by rw [h, hc, he]; rfl⟩

theorem State.queueOnly_slotFill (s : State) (q : Nat) : (s.slotFill q).queueOnly s q [2, 3] := by
  obtain ⟨l, h | h | h⟩ := s.slotFill_cases q <;> rw [h]
  · exact (s.queueOnly_withSlots q l).mono (by simp)
  · exact ((State.queueOnly_withSlots _ q l).trans (s.queueOnly_cinc q 2)).mono (by simp)
  · exact ((State.queueOnly_withSlots _ q l).trans ((State.queueOnly_cinc _ q 3).trans (s.queueOnly_cinc q 2))).mono (by simp)

theorem State.queue_slotFill (s : State) (q r : Nat) : (s.slotFill q).queue r = s.queue r := by
  obtain ⟨l, c, e⟩ := s.slotFill_frame q
  rw [e]
  rfl

theorem takeFirst_of_mem {α : Type} {p : α → Bool} {l : List α} {a : α} (ha : a ∈ l) (hp : p a = true) :
    ∃ b r, takeFirst p l = some (b, r) := by
  induction l with
  | nil => cases ha
  | cons c r ih =>
    rw [takeFirst]
    by_cases hc : p c = true
    · exact ⟨c, r, if_pos hc⟩
    · rcases List.mem_cons.1 ha with rfl | hr
      · exact absurd hp hc
      · obtain ⟨b, r', h⟩ := ih hr
        rw [if_neg hc, h]
        exact ⟨_, _, rfl⟩

theorem takeFirst_length {α : Type} {p : α → Bool} {l r : List α} {a : α} (h : takeFirst p l = some (a, r)) :
    r.length + 1 = l.length := by
  obtain ⟨-, -, x, y, rfl, rfl, -⟩ := takeFirst_some h
  simp only [List.length_append, List.length_cons]
  omega

/-- A queue without a slot, while one is free. -/
theorem State.slotFill_of_room {s : State} {q : Nat} (hq : s.stk.slots.contains q = false) (hroom : s.stk.slots.length < 32768) :
    s.slotFill q = (s.cinc .stkCnt 0 2).withSlots (s.stk.slots ++ [q]) := by
  rw [State.slotFill, hq, if_neg (by decide)]
  exact if_pos hroom

/-- A queue without a slot, while all are taken: another's is evicted. -/
theorem State.slotFill_of_full {s : State} {q v : Nat} (hq : s.stk.slots.contains q = false) (hfull : 32768 ≤ s.stk.slots.length)
    (hv : v ∈ s.stk.slots) (hi : (s.queue v).incomplete = false) : ∃ rest : List Nat, rest.length + 1 = s.stk.slots.length ∧
      s.slotFill q = ((s.cinc .stkCnt 0 2).cinc .stkCnt 0 3).withSlots (rest ++ [q]) := by
  obtain ⟨b, rest, hb⟩ := takeFirst_of_mem (p := fun v => !(s.queue v).incomplete) hv (by simp [hi])
  have hb' : takeFirst (fun v => !((s.cinc .stkCnt 0 2).queue v).incomplete) (s.cinc .stkCnt 0 2).stk.slots = some (b, rest) := hb
  have hfull' : ¬(s.cinc .stkCnt 0 2).stk.slots.length < 32768 := Nat.not_lt.2 hfull
  refine ⟨rest, takeFirst_length hb, ?_⟩
  rw [State.slotFill, hq, if_neg (by decide)]
  dsimp only
  rw [if_neg hfull', hb']
  rfl

/-! ### ENQUEUE (R196 to R200, R204) -/

/-- A queue whose full tail has moved, to the head or to the end of the middle. -/
def Queue.roomy (x : Queue) : Queue :=
  if x.tail.length = 4 then
    if x.head.isEmpty && x.ahead.isEmpty && x.mid.isEmpty then { x with head := x.tail, tail := [] }
    else { x with mid := x.mid ++ x.tail, tail := [] }
  else x

theorem Queue.all_roomy (x : Queue) : x.roomy.all = x.all := by
  unfold Queue.roomy
  split
  · split
    · rename_i hempty
      simp only [Bool.and_eq_true, List.isEmpty_iff] at hempty
      simp [Queue.all, hempty]
    · simp [Queue.all]
  · rfl

theorem State.pushDesc_spec (s : State) (q : Nat) (d : Desc) :
    ((s.pushDesc q d).queue q).all = (s.queue q).all ++ [d] ∧ (s.pushDesc q d).queueOnly s q [4] := by
  have e : s.pushDesc q d = (if (s.queue q).roomy.mid.length > (s.queue q).mid.length then s.cinc .stkCnt 0 4 else s).setQueue q
    { (s.queue q).roomy with
      tail := (s.queue q).roomy.tail ++ [d], timer := if (s.queue q).depth = 0 then s.t else (s.queue q).timer } := by
    unfold State.pushDesc Queue.roomy
    rfl
  rw [e]
  constructor
  · rw [State.queue_setQueue_self, ← (s.queue q).all_roomy]
    simp [Queue.all]
  · split
    · exact (State.queueOnly_setQueue _ q _).trans (s.queueOnly_cinc q 4)
    · exact (s.queueOnly_setQueue q _).mono (by simp)

theorem State.ring_spec (s : State) (q : Nat) : ((s.ring q).queue q).all = (s.queue q).all ∧ (s.ring q).queueOnly s q [] := by
  refine ⟨?_, s.queueOnly_setQueue q _⟩
  rw [State.ring, State.queue_setQueue_self]
  rfl

theorem State.countBell_spec (s : State) (q : Nat) (d : Desc) :
    ((s.countBell q d).queue q).all = (s.queue q).all ∧ (s.countBell q d).queueOnly s q [] := by
  have hall : ((s.setQueue q { s.queue q with since := (s.queue q).since + 1 }).queue q).all = (s.queue q).all := by
    rw [State.queue_setQueue_self]
    rfl
  have honly := s.queueOnly_setQueue q { s.queue q with since := (s.queue q).since + 1 }
  unfold State.countBell
  dsimp only
  split
  · obtain ⟨rall, ronly⟩ := State.ring_spec (s.setQueue q { s.queue q with since := (s.queue q).since + 1 }) q
    exact ⟨rall.trans hall, ronly.trans honly⟩
  · exact ⟨hall, honly⟩

/-- No check of an enqueue looks at the slots. -/
theorem State.enqueueFault_slotFill (s : State) (q r d : Nat) (x : Desc) : (s.slotFill q).enqueueFault r d x = s.enqueueFault r d x := by
  obtain ⟨l, c, e⟩ := s.slotFill_frame q
  rw [e]
  rfl

/-- A descriptor that no check refuses goes behind all others of its queue. -/
theorem State.enqueue_of_valid {s : State} {q d : Nat} {x : Desc} (h : s.enqueueFault q d x = none) : ∃ t : State,
    s.enqueue q d x = (0, t) ∧ (t.queue q).all = (s.queue q).all ++ [x] ∧ t.cget .stkCnt 0 0 = s.cget .stkCnt 0 0 + 1 ∧
      t.queueOnly s q [0, 4, 2, 3] := by
  have hfault := (s.enqueueFault_slotFill q q d x).trans h
  have honly := (State.pushDesc_spec _ q x).2.trans (s.queueOnly_slotFill q)
  have hall : (((s.slotFill q).pushDesc q x).queue q).all = (s.queue q).all ++ [x] := by
    rw [(State.pushDesc_spec _ q x).1, s.queue_slotFill]
  have he : s.enqueue q d x = (0, (((s.slotFill q).pushDesc q x).cinc .stkCnt 0 0).countBell q x) := by rw [State.enqueue, hfault]
  generalize (s.slotFill q).pushDesc q x = u at honly hall he
  obtain ⟨ball, bonly⟩ := (u.cinc .stkCnt 0 0).countBell_spec q x
  have hcount := bonly.2.1 0 (by decide)
  rw [State.cget_cinc_self, honly.2.1 0 (by decide)] at hcount
  exact ⟨_, he, ball.trans hall, hcount, bonly.trans ((u.queueOnly_cinc q 0).trans honly)⟩

/-! ### DEQUEUE (R197 to R201) -/

/-- A queue after one burst of its middle has been read ahead. -/
def Queue.burst (x : Queue) : Queue :=
  if x.mid = [] then x
  else { x with
    ahead := x.ahead ++ x.mid.take 4, mid := x.mid.drop 4
    midRead := if x.mid.drop 4 = [] then 0 else (x.midRead + min 4 x.mid.length) % 252 }

theorem Queue.all_burst (x : Queue) : x.burst.all = x.all := by
  unfold Queue.burst
  split
  · rfl
  · simp [Queue.all]

theorem Queue.head_burst (x : Queue) : x.burst.head = x.head := by
  unfold Queue.burst
  split <;> rfl

/-- A burst reads something, unless there is nothing to read. -/
theorem Queue.burst_reads (x : Queue) : x.burst.ahead ≠ [] ∨ x.burst.mid = [] := by
  unfold Queue.burst
  split
  · rename_i h
    exact .inr h
  · rename_i h
    exact .inl (by simp [h])

theorem State.readBurst_spec (s : State) (q : Nat) :
    (s.readBurst q).queue q = (s.queue q).burst ∧ (s.readBurst q).queueOnly s q [5] := by
  unfold State.readBurst Queue.burst
  dsimp only
  split
  · exact ⟨rfl, (s.queueOnly_refl q).mono (by simp)⟩
  · exact ⟨State.queue_setQueue_self .., (State.queueOnly_cinc _ q 5).trans (s.queueOnly_setQueue q _)⟩

/-- A queue with a burst ahead where its middle holds one. -/
def Queue.primed (x : Queue) : Queue := if x.ahead = [] then x.burst else x

theorem Queue.all_primed (x : Queue) : x.primed.all = x.all := by
  unfold Queue.primed
  split
  · exact x.all_burst
  · rfl

theorem Queue.head_primed (x : Queue) : x.primed.head = x.head := by
  unfold Queue.primed
  split
  · exact x.head_burst
  · rfl

theorem Queue.primed_reads (x : Queue) : x.primed.ahead ≠ [] ∨ x.primed.mid = [] := by
  unfold Queue.primed
  split
  · exact x.burst_reads
  · rename_i h
    exact .inl h

/-- A queue whose empty head has been refilled, by what is ahead or by the complete descriptors of its tail. -/
def Queue.refilled (x : Queue) : Queue :=
  if x.head ≠ [] then x
  else if x.primed.ahead ≠ [] then { x.primed with head := x.primed.ahead, ahead := [] }
  else { x.primed with head := x.primed.tail.takeWhile (·.complete), tail := x.primed.tail.dropWhile (·.complete) }

/-- With nothing in head, ahead and middle, all is the tail. -/
theorem Queue.tail_primed {x : Queue} (hhead : x.head = []) (h : ¬x.primed.ahead ≠ []) : x.primed.tail = x.all := by
  have hmid := x.primed_reads.resolve_left h
  rw [← x.all_primed, Queue.all, x.head_primed, hhead, not_not.1 h, hmid]
  rfl

theorem Queue.all_refilled (x : Queue) : x.refilled.all = x.all := by
  unfold Queue.refilled
  split
  · rfl
  · rename_i hhead
    have hhead := not_not.1 hhead
    split
    · rw [← x.all_primed, Queue.all, Queue.all, x.head_primed, hhead, List.append_nil]
      rfl
    · rename_i h
      have hmid := x.primed_reads.resolve_left h
      rw [← Queue.tail_primed hhead h, Queue.all, not_not.1 h, hmid, List.append_nil, List.append_nil]
      exact List.takeWhile_append_dropWhile

/-- A first descriptor that is complete comes to the head. -/
theorem Queue.head_refilled {x : Queue} {d : Desc} {l : List Desc} (h : x.all = d :: l) (hd : d.complete = true) :
    ∃ r, x.refilled.head = d :: r := by
  have hne : x.refilled.head ≠ [] := by
    unfold Queue.refilled
    split
    · assumption
    · rename_i hhead
      split
      · assumption
      · rename_i hahead
        rw [Queue.tail_primed (not_not.1 hhead) hahead, h, List.takeWhile_cons_of_pos hd]
        exact List.cons_ne_nil _ _
  obtain ⟨e, r, hr⟩ := List.exists_cons_of_ne_nil hne
  rw [← x.all_refilled, Queue.all, hr] at h
  obtain ⟨rfl, -⟩ := List.cons.inj h
  exact ⟨r, hr⟩

theorem State.refillHead_spec (s : State) (q : Nat) :
    (s.refillHead q).queue q = (s.queue q).refilled ∧ (s.refillHead q).queueOnly s q [5] := by
  have hprimed : (if (s.queue q).ahead = [] then s.readBurst q else s).queue q = (s.queue q).primed ∧
      (if (s.queue q).ahead = [] then s.readBurst q else s).queueOnly s q [5] := by
    unfold Queue.primed
    split
    · exact s.readBurst_spec q
    · exact ⟨rfl, (s.queueOnly_refl q).mono (by simp)⟩
  unfold State.refillHead Queue.refilled
  dsimp only
  generalize (if (s.queue q).ahead = [] then s.readBurst q else s) = t at hprimed ⊢
  obtain ⟨hq, honly⟩ := hprimed
  rw [hq]
  split
  · exact ⟨rfl, (s.queueOnly_refl q).mono (by simp)⟩
  · split
    · exact ⟨t.queue_setQueue_self q _, (t.queueOnly_setQueue q _).trans honly⟩
    · exact ⟨t.queue_setQueue_self q _, (t.queueOnly_setQueue q _).trans honly⟩

/-- A queue whose first descriptor has been taken from its head: the timer starts anew; emptied, it is as at rest. -/
def Queue.took (x : Queue) (r : List Desc) (now : Nat) : Queue :=
  if ({ x with head := r, timer := now, itemOut := false } : Queue).depth = 0 then
    { x with head := r, timer := 0, itemOut := false, bell := false, midRead := 0 }
  else { x with head := r, timer := now, itemOut := false }

theorem Queue.all_took (x : Queue) (r : List Desc) (now : Nat) : (x.took r now).all = r ++ x.ahead ++ x.mid ++ x.tail := by
  unfold Queue.took
  split <;> rfl

/-- A first descriptor that is complete is taken, and no other. -/
theorem State.dequeue_of_complete {s : State} {q : Nat} {d : Desc} {l : List Desc} (h : (s.queue q).all = d :: l)
    (hd : d.complete = true) : ∃ t : State, s.dequeue q = some (d, t) ∧ (t.queue q).all = l ∧
      t.cget .stkCnt 0 1 = s.cget .stkCnt 0 1 + 1 ∧ t.queueOnly s q [5, 1, 2, 3] := by
  have hdepth : ¬(s.queue q).depth = 0 := by rw [Queue.depth_eq, h]; simp
  obtain ⟨r, hr⟩ := Queue.head_refilled h hd
  obtain ⟨hq, honly⟩ := (s.slotFill q).refillHead_spec q
  have honly := honly.trans (s.queueOnly_slotFill q)
  rw [s.queue_slotFill] at hq
  have hrest : r ++ (s.queue q).refilled.ahead ++ (s.queue q).refilled.mid ++ (s.queue q).refilled.tail = l := by
    rw [← (s.queue q).all_refilled, Queue.all, hr] at h
    exact (List.cons.inj h).2
  unfold State.dequeue
  rw [if_neg hdepth]
  dsimp only
  generalize (s.slotFill q).refillHead q = u at hq honly
  rw [hq, hr]
  dsimp only
  generalize hv : (u.setQueue q ((s.queue q).refilled.took r s.t)).cinc .stkCnt 0 1 = v
  have hqueue : v.queue q = (s.queue q).refilled.took r s.t := by
    rw [← hv]
    exact u.queue_setQueue_self q _
  have hall : (v.queue q).all = l := by rw [hqueue, Queue.all_took, hrest]
  have hvonly : v.queueOnly s q [1, 5, 2, 3] := by
    rw [← hv]
    exact (State.queueOnly_cinc _ q 1).trans ((u.queueOnly_setQueue q _).trans honly)
  have hcount : v.cget .stkCnt 0 1 = s.cget .stkCnt 0 1 + 1 := by
    rw [← hv, State.cget_cinc_self]
    exact congrArg (· + 1) (honly.2.1 1 (by decide))
  obtain ⟨bqueue, bonly⟩ := v.readBurst_spec q
  refine ⟨if r.length = 1 ∧ (s.queue q).refilled.ahead = [] then v.readBurst q else v, by rw [← hv]; rfl, ?_⟩
  split
  · exact ⟨by rw [bqueue, Queue.all_burst, hall], by rw [bonly.2.1 1 (by decide), hcount], (bonly.trans hvonly).mono (by simp)⟩
  · exact ⟨hall, hcount, hvonly.mono (by simp)⟩

end Sys2Proof.Machine

/-!
PROOF. ENQUEUE, DEQUEUE, DESCRIPTOR_EXTEND, SLOT_FILL and QUEUE_TIMEOUT (R196 to R206, R251).
-/

namespace Sys2Proof.Machine

/-! ### ENQUEUE by a hardware producer (R196, R206, R251) -/

section
variable {d : Fin 32} (hd : d ≠ 0)
include hd

/-- A hardware producer is not told of an enqueue that was taken. -/
theorem State.tellProducer_hw_ok (s : State) (q : Nat) : s.tellProducer (.hw d) q 0 = s := by
  unfold State.tellProducer
  split
  · contradiction
  · rename_i h
    cases h
    contradiction
  · exact if_pos rfl

theorem State.enqueueNow_of_valid {s : State} {q : Nat} {x : Desc} (h : s.enqueueFault q d x = none) :
    s.enqueueNow (.hw d) q x = if q < 131072 then s.admitCopy (q / 4) (q % 4) d x else (s.enqueue q d x).2 := by
  have h' : s.enqueueFault q (Client.hw d).domain x = none := h
  rw [State.enqueueNow]
  dsimp only
  rw [h']
  exact State.tellProducer_hw_ok hd _ q

/-- The management queue of a port takes a frame of a buffer of domain 0. -/
theorem State.enqueueMgmt_of_valid {s : State} {p : Nat} {x : Desc} (hf : s.handleFault d 0 x.handle = none)
    (howner : (s.bufRec x.handle).owner = 0) (hfit : x.offset + x.len ≤ bufSize x.handle) : s.enqueueMgmt (.hw d) p x =
      { s with mgmt := nput s.mgmt p ((nget s.mgmt p).getD [] ++ [.built x.handle x.offset x.len (decide (x.info % 2 = 1))]) } := by
  have hf' : s.handleFault (Client.hw d).domain 0 x.handle = none := hf
  have hok : ¬((s.bufRec x.handle).owner ≠ 0 ∨ bufSize x.handle < x.offset + x.len) := by
    rintro (h | h)
    · exact h howner
    · omega
  rw [State.enqueueMgmt, hf']
  exact (if_neg hok).trans (State.tellProducer_hw_ok hd _ _)

end

theorem State.enqueueNow_of_blocked {s : State} {cl : Client} {q : Nat} {x : Desc} (h : s.enqueueFault q cl.domain x = some 0x11) :
    s.enqueueNow cl q x = s.waitEnqueue cl q x := by
  rw [State.enqueueNow]
  dsimp only
  rw [h]
  rfl

theorem exec_enqueue_queue {q : Fin 262144} {q' : Fin 262240} (hq : q'.val = q.val) (s : State) (cl : Client) (x : Desc) :
    exec (.enqueue cl q' x) s = .next (if s.waitingEnqs q ≠ [] then s.waitEnqueue cl q x else s.enqueueNow cl q x) := by
  have e : exec (.enqueue cl q' x) s = .next (s.enqueueFor cl q' x) := rfl
  have hlt : ¬mgmtQueue ≤ q.val := Nat.not_le.2 q.isLt
  rw [e, State.enqueueFor, hq, if_neg hlt]

theorem exec_enqueue_management {p : Nat} {m : Fin 262240} (hm : m.val = 262144 + p) (s : State) (cl : Client) (x : Desc) :
    exec (.enqueue cl m x) s = .next (s.enqueueMgmt cl p x) := by
  have e : exec (.enqueue cl m x) s = .next (s.enqueueFor cl m x) := rfl
  have hsub : mgmtQueue + p - mgmtQueue = p := Nat.add_sub_cancel_left ..
  rw [e, State.enqueueFor, hm, ← mgmtQueue, if_pos (Nat.le_add_right ..), hsub]

/-! ### DESCRIPTOR_EXTEND (R206) -/

/-- `t` is `s` but for queue `q`. -/
def State.otherQueues (t s : State) (q : Nat) : Prop :=
  (∀ r, r ≠ q → t.queue r = s.queue r) ∧ ∃ m, t = { s with stk := { s.stk with queues := m } }

theorem State.otherQueues_setQueue {s t : State} {q : Nat} (h : t.otherQueues s q) (x : Queue) : (t.setQueue q x).otherQueues s q := by
  obtain ⟨hq, m, rfl⟩ := h
  exact ⟨fun r hr => (State.queue_setQueue_ne _ x hr).trans (hq r hr), _, rfl⟩

/-- An incomplete descriptor with the length, the COMPLETE and the POISON of its extension. -/
def Desc.longer (x : Desc) (len : Nat) (complete poison : Bool) : Desc :=
  { x with len := len, complete := complete, poison := x.poison || (poison && complete) }

theorem Desc.extended_of_valid {x : Desc} {len : Nat} (complete poison : Bool) (hx : x.complete = false) (hlen : x.len ≤ len)
    (hfit : x.offset + len ≤ bufSize x.handle) : x.extended len complete poison = some (x.longer len complete poison) := by
  have hok : ¬(x.complete = true ∨ len < x.len ∨ bufSize x.handle < x.offset + len) := by
    rw [hx]
    rintro (h | h | h)
    · cases h
    · omega
    · omega
  exact if_neg hok

theorem State.extendDesc_of_incomplete {s : State} {q : Nat} {x : Desc} {len : Nat} (complete poison : Bool)
    (hx : (s.queue q).tail.find? (fun d => !d.complete) = some x) (hlen : x.len ≤ len) (hfit : x.offset + len ≤ bufSize x.handle) :
    ((s.extendDesc q len complete poison).queue q).all = (s.queue q).head ++ (s.queue q).ahead ++ (s.queue q).mid ++
        (s.queue q).tail.map (fun e => if e.complete then e else x.longer len complete poison) ∧
      (s.extendDesc q len complete poison).otherQueues s q := by
  have hinc : x.complete = false := by simpa using List.find?_some hx
  unfold State.extendDesc
  dsimp only
  rw [hx]
  dsimp only
  rw [Desc.extended_of_valid complete poison hinc hlen hfit]
  dsimp only
  generalize hu : s.setQueue q { s.queue q with
    tail := (s.queue q).tail.map fun e => if e.complete then e else x.longer len complete poison } = u
  have hall : (u.queue q).all = (s.queue q).head ++ (s.queue q).ahead ++ (s.queue q).mid ++
      (s.queue q).tail.map (fun e => if e.complete then e else x.longer len complete poison) := by
    rw [← hu, State.queue_setQueue_self]
    rfl
  have honly : u.otherQueues s q := hu ▸ State.otherQueues_setQueue ⟨fun _ _ => rfl, _, rfl⟩ _
  split
  · exact ⟨(u.ring_spec q).1.trans hall, State.otherQueues_setQueue honly _⟩
  · exact ⟨hall, honly⟩

/-! ### SLOT_FILL (R199) -/

theorem exec_slotFill_of_none {s : State} {q : Fin 262144} (hq : s.stk.slots.contains q.val = false) :
    exec (.slotFill q) s = .next (s.slotFill q) := by
  have e : exec (.slotFill q) s = execSlotFill q s := rfl
  rw [e, execSlotFill, hq]
  rfl

/-- A queue without a slot takes the last of them, in the place of another where none is free. -/
theorem State.slotFill_of_none {s : State} {q : Nat} (hq : s.stk.slots.contains q = false)
    (hv : s.stk.slots.length < 32768 ∨ ∃ v ∈ s.stk.slots, (s.queue v).incomplete = false) :
    ∃ t, s.slotFill q = t ∧ t.stk.slots.getLast? = some q ∧ t.cget .stkCnt 0 2 = s.cget .stkCnt 0 2 + 1 ∧
      (s.stk.slots.length < 32768 → t.stk.slots = s.stk.slots ++ [q]) ∧
      (32768 ≤ s.stk.slots.length → t.stk.slots.length = s.stk.slots.length ∧ t.cget .stkCnt 0 3 = s.cget .stkCnt 0 3 + 1) ∧
      t = { s with stk := { s.stk with slots := t.stk.slots }, ctrs := t.ctrs } := by
  have hframe : s.slotFill q = { s with stk := { s.stk with slots := (s.slotFill q).stk.slots }, ctrs := (s.slotFill q).ctrs } := by
    obtain ⟨l, c, e⟩ := s.slotFill_frame q
    rw [e]
  have hfill := s.cget_cinc_self .stkCnt 0 2
  refine ⟨_, rfl, ?_⟩
  by_cases hroom : s.stk.slots.length < 32768
  · have e := State.slotFill_of_room hq hroom
    have hslots : (s.slotFill q).stk.slots = s.stk.slots ++ [q] := by rw [e]; rfl
    have hcount : (s.slotFill q).cget .stkCnt 0 2 = s.cget .stkCnt 0 2 + 1 := by rw [e]; exact hfill
    exact ⟨by rw [hslots, List.getLast?_concat], hcount, fun _ => hslots, fun h => absurd hroom (Nat.not_lt.2 h), hframe⟩
  · obtain ⟨v, hvs, hvi⟩ := hv.resolve_left hroom
    obtain ⟨rest, hlen, e⟩ := State.slotFill_of_full hq (Nat.not_lt.1 hroom) hvs hvi
    have hslots : (s.slotFill q).stk.slots = rest ++ [q] := by rw [e]; rfl
    have hfirst : ((s.cinc .stkCnt 0 2).cinc .stkCnt 0 3).cget .stkCnt 0 2 = s.cget .stkCnt 0 2 + 1 :=
      ((State.queueOnly_cinc _ q 3).2.1 2 (by decide)).trans hfill
    have hsecond : ((s.cinc .stkCnt 0 2).cinc .stkCnt 0 3).cget .stkCnt 0 3 = s.cget .stkCnt 0 3 + 1 :=
      (State.cget_cinc_self ..).trans (congrArg (· + 1) ((s.queueOnly_cinc q 2).2.1 3 (by decide)))
    have hcounts (i : Nat) : (s.slotFill q).cget .stkCnt 0 i = ((s.cinc .stkCnt 0 2).cinc .stkCnt 0 3).cget .stkCnt 0 i :=
      State.cget_of_ctrs (congrArg State.ctrs e) ..
    exact ⟨by rw [hslots, List.getLast?_concat], (hcounts 2).trans hfirst, fun h => absurd h hroom,
      fun _ => ⟨by rw [hslots, List.length_append]; exact hlen, (hcounts 3).trans hsecond⟩, hframe⟩

/-! ### QUEUE_TIMEOUT (R205) -/

/-- A timer starts anew, and its item is outstanding. -/
def State.rearmed (s : State) (q : Nat) : State := (s.setQueue q { s.queue q with timer := s.t, itemOut := true }).cinc .stkCnt 0 6

theorem State.queue_rearmed (s : State) (q : Nat) : (s.rearmed q).queue q = { s.queue q with timer := s.t, itemOut := true } :=
  s.queue_setQueue_self q _

theorem State.queueOnly_rearmed (s : State) (q : Nat) : (s.rearmed q).queueOnly s q [6] :=
  (State.queueOnly_cinc _ q 6).trans (s.queueOnly_setQueue q _)

/-- A queue whose timer has fired. -/
def State.timedOut (s : State) (q : Nat) : State :=
  (((s.reach ((s.queue q).timer + 1000 * s.timeoutUs q)).slotFill q).ring q).rearmed q

theorem exec_queueTimeout_of_armed {s : State} {q : Fin 262144} (hdepth : (s.queue q).depth ≠ 0) (htimer : s.timeoutUs q ≠ 0) :
    exec (.queueTimeout q) s =
      let u := if q.val < 131072 then s.timedOut q else (s.timedOut q).sinc tyStream (q - 131072) 0x302
      .next (if (s.queue q).itemOut then u
        else u.hwPost 6 9 (if q.val < 131072 then none else some (q.val - 131072)) none (leBytes 4 q ++ leBytes 4 (s.queue q).depth)) := by
  have e : exec (.queueTimeout q) s = execQueueTimeout q s := rfl
  have hok : ¬((s.queue q).depth = 0 ∨ s.timeoutUs q = 0) := by
    rintro (h | h)
    · exact hdepth h
    · exact htimer h
  rw [e]
  exact if_neg hok

/-- The doorbell is rung, the timer starts anew, an item is outstanding. -/
theorem State.timedOut_spec (s : State) (q : Nat) : ((s.timedOut q).queue q).all = (s.queue q).all ∧ ((s.timedOut q).queue q).bell = true ∧
    ((s.timedOut q).queue q).itemOut = true ∧ ((s.timedOut q).queue q).timer = (s.timedOut q).t ∧
    ((s.queue q).timer + 1000 * s.timeoutUs q < 2 ^ 64 → (s.queue q).timer + 1000 * s.timeoutUs q ≤ (s.timedOut q).t) ∧
    (s.timedOut q).cget .stkCnt 0 6 = s.cget .stkCnt 0 6 + 1 ∧ (∀ r, r ≠ q → (s.timedOut q).queue r = s.queue r) ∧
    ∃ k c tm, s.timedOut q = { s with stk := k, ctrs := c, time := tm } := by
  obtain ⟨hreach, hdue, -⟩ := s.reach_spec ((s.queue q).timer + 1000 * s.timeoutUs q)
  unfold State.timedOut
  generalize s.reach ((s.queue q).timer + 1000 * s.timeoutUs q) = v at hreach hdue
  have hvq (r : Nat) : v.queue r = s.queue r := by rw [hreach]; rfl
  have hvc : v.cget .stkCnt 0 6 = s.cget .stkCnt 0 6 := by rw [hreach]; rfl
  obtain ⟨rall, ronly⟩ := (v.slotFill q).ring_spec q
  have rbell : (((v.slotFill q).ring q).queue q).bell = true := by rw [State.ring, State.queue_setQueue_self]
  have ronly := ronly.trans (v.queueOnly_slotFill q)
  rw [v.queue_slotFill, hvq] at rall
  generalize (v.slotFill q).ring q = w at rall rbell ronly
  have honly := (w.queueOnly_rearmed q).trans ronly
  have ht : (w.rearmed q).t = v.t := by rw [honly.frame]; rfl
  have hw : (w.rearmed q).t = w.t := by rw [(w.queueOnly_rearmed q).frame]; rfl
  have hcount : (w.rearmed q).cget .stkCnt 0 6 = w.cget .stkCnt 0 6 + 1 := State.cget_cinc_self ..
  rw [w.queue_rearmed]
  refine ⟨rall, rbell, rfl, hw.symm, fun h => ht ▸ hdue h, ?_, fun r hr => (honly.1 r hr).trans (hvq r), ?_⟩
  · rw [hcount, ronly.2.1 6 (by decide), hvc]
  · obtain ⟨-, -, k, c, e⟩ := honly
    exact ⟨k, c, v.time, by rw [e, hreach]⟩

/-! ### The commands -/

theorem enqueue_internal {s : State} {d : Fin 32} {q : Fin 262144} {q' : Fin 262240} {x : Desc} (hd : d ≠ 0) (hq' : q'.val = q.val)
    (hq : 131072 ≤ q.val) (hw : s.waitingEnqs q = []) (hf : s.enqueueFault q d x = none) :
    ∃ t, exec (.enqueue (.hw d) q' x) s = .next t ∧ (t.queue q).all = (s.queue q).all ++ [x] ∧
      (∀ r, r ≠ q.val → t.queue r = s.queue r) ∧ t.cget .stkCnt 0 0 = s.cget .stkCnt 0 0 + 1 ∧ t = { s with stk := t.stk, ctrs := t.ctrs } := by
  obtain ⟨t, he, hall, hcount, honly⟩ := State.enqueue_of_valid hf
  refine ⟨t, ?_, hall, honly.1, hcount, honly.frame⟩
  rw [exec_enqueue_queue hq', if_neg (not_not.2 hw), State.enqueueNow_of_valid hd hf, if_neg (Nat.not_lt.2 hq), he]

/-- Settles O49: each command by the lemma of its operation on one queue. -/
theorem queuesInOrder : Obligations.QueuesInOrder := by
  intro s q q' hq'
  refine ⟨fun d x hd => ⟨enqueue_internal hd hq', fun hq hw hf => ?cls, fun hf => ?blocked, fun p m _ hm hf howner hfit => ?mgmt⟩,
    fun x hx hc => ?take, fun h0 => ?empty, fun x len complete poison hx hlen hfit => ?extend, fun hq hv => ?fill, fun hdepth htimer => ?timeout⟩
  case cls => rw [exec_enqueue_queue hq', if_neg (not_not.2 hw), State.enqueueNow_of_valid hd hf, if_pos hq]
  case blocked =>
    have hwait : (if s.waitingEnqs q ≠ [] then s.waitEnqueue (.hw d) q x else s.enqueueNow (.hw d) q x) =
        s.waitEnqueue (.hw d) q x := by
      split
      · rfl
      · exact State.enqueueNow_of_blocked hf
    exact (exec_enqueue_queue hq' s (.hw d) x).trans (congrArg _ hwait)
  case mgmt =>
    exact ⟨_, (exec_enqueue_management hm s (.hw d) x).trans (congrArg _ (State.enqueueMgmt_of_valid hd hf howner hfit)), rfl,
      nget_nput_self .., fun r hr => nget_nput_ne _ _ hr⟩
  case take =>
    obtain ⟨l, hl⟩ := List.head?_eq_some_iff.1 hx
    obtain ⟨t, he, hall, hcount, honly⟩ := State.dequeue_of_complete hl hc
    have e : exec (.dequeue q) s = execDequeue q s := rfl
    exact ⟨t, by rw [e, execDequeue, he], by rw [hl, hall], honly.1, hcount, honly.frame⟩
  case empty =>
    have e : exec (.dequeue q) s = execDequeue q s := rfl
    rw [e, execDequeue, State.dequeue, if_pos h0]
  case extend =>
    obtain ⟨hall, hothers, m, hm⟩ := State.extendDesc_of_incomplete complete poison hx hlen hfit
    refine ⟨s.extendDesc q len complete poison, rfl, hall, hothers, by rw [hm], fun hw => ?_⟩
    have hnone : (s.extendDesc q len complete poison).stk.waiting = [] := by rw [hm]; exact hw
    rw [hnone]
    rfl
  case fill =>
    rw [exec_slotFill_of_none hq]
    obtain ⟨t, ht, h⟩ := State.slotFill_of_none hq hv
    exact ⟨t, congrArg _ ht, h⟩
  case timeout =>
    obtain ⟨hall, hbell, hitem, htm, hdue, hcount, hothers, k, c, tm, hframe⟩ := s.timedOut_spec q
    have e := exec_queueTimeout_of_armed hdepth htimer
    generalize s.timedOut q = u at hall hbell hitem htm hdue hcount hothers hframe e
    by_cases hq : q.val < 131072
    · simp only [if_pos hq] at e ⊢
      exact ⟨u, hall, hbell, hitem, htm, hdue, hcount, hothers, by rw [hframe], e⟩
    · simp only [if_neg hq] at e ⊢
      exact ⟨u.sinc tyStream (q - 131072) 0x302, hall, hbell, hitem, htm, hdue, hcount, hothers, by rw [hframe]; rfl, e⟩

end Sys2Proof.Machine
